-- ==== Sys2Proof/Word.lean ====
section
/-! DEFINITION. The machine's word types (R3, R25, R95): a register word, a byte, a virtual address. -/
namespace Sys2Proof

/-- A 32-bit register or memory word. -/
abbrev Word := BitVec 32

/-- One byte of memory. -/
abbrev Byte := BitVec 8

/-- A 64-bit value: a virtual address, a program counter or a register pair (R25, R65). -/
abbrev Addr := BitVec 64

end Sys2Proof
end

