-- ==== Sys2Proof/Config.lean ====
section
/-! DEFINITION. What one implementation fixes and the spec leaves open: constants without a body, so
that no proof can use a value of them (log 8 and the entries it names). -/
namespace Sys2Proof.Config

/-- A free word for the `n`-th value that the spec leaves open in a run (log 3, log 8). -/
opaque freeWord : Nat → Word

/-- The code that FEXP2.f32 gives an operand at a compatibility level, before the bound of R166 is
imposed on it. -/
opaque exp2Code : Nat → Nat → Nat

/-- The same for FLOG2.f32. -/
opaque log2Code : Nat → Nat → Nat

/-- The same for FSIN.f32. -/
opaque sinCode : Nat → Nat → Nat

/-- The same for FCOS.f32. -/
opaque cosCode : Nat → Nat → Nat

/-- The virtual address at which the active patch image's first byte stands in facet context (R362, log 11). -/
opaque facetBase : Nat

/-- Whether the signature of a patch image verifies under the patch-signing key (R367, R368, log 14). -/
opaque patchSigned : List Byte → Bool

/-- The virtual address at which the running Cuset image's first byte stands in firmware mode (R442, log 24). -/
opaque firmwareBase : Nat

/-- Whether the signature of a Cuset image verifies under the Lenoesh firmware key (R441, R442, log 25). -/
opaque firmwareSigned : List Byte → Bool

/-- The device-unique sealing key of 512 bits, of which the first 64 bytes count (R399, R439, log 25). -/
opaque sealKey : List Byte

/-- Whether the device cannot read a buffer of the host, given by its address and its length (R442, log 25). -/
opaque hostUnreadable : Nat → Nat → Bool

/-- The signature of a message under the identity key (R440, log 25). -/
opaque identitySignature : List Byte → List Byte

/-- The identity certificate (R439, log 25). -/
opaque certificate : List Byte

/-- The device serial (R440, log 25). -/
opaque deviceSerial : Nat

/-- The immutable ROM loader, which a report measures while RECOVERY is set (R440, log 25). -/
opaque romLoader : List Byte

/-- What the SMBus target reports to a command at a time: die temperatures, module power, the part number (R452, log 28). -/
opaque smbusReport : Nat → Nat → Nat

/-- The word that IDCODE shifts out (R449, log 25). -/
opaque idcode : Nat

end Sys2Proof.Config
end

