-- ==== Sys2Proof/Syntax.lean ====
section
/-! DEFINITION. The instructions of the machine: the 227 instruction rows and the 116 engine and
host steps of the opcode table, one constructor each (R60, R66-R73; 95_what_each_step_holds). -/
namespace Sys2Proof

/-- A register operand of a 7-bit field (R64): `v n` is Vn of the window, `k n` is Kn of the wave. -/
inductive Reg where
  | v (n : Nat)
  | k (n : Nat)
deriving DecidableEq, Repr

namespace Form

/-- Operands of no operand (formats W and A with every field reserved); `g` is the guard predicate. -/
structure N where
  g : Nat
deriving DecidableEq, Repr

/-- Operands of format B: a branch offset in words (R66); `g` is the guard predicate. -/
structure B where
  g : Nat
  off : Nat
deriving DecidableEq, Repr

/-- Operands of format A, source A alone; `g` is the guard predicate. -/
structure A1 where
  g : Nat
  a : Reg
deriving DecidableEq, Repr

/-- Operands of format M with no data register and an offset word (PGREQ, R68); `g` is the guard predicate. -/
structure A1Off where
  g : Nat
  a : Reg
  off : Nat
deriving DecidableEq, Repr

/-- Operands of format I with D reserved; `g` is the guard predicate. -/
structure I where
  g : Nat
  imm : Nat
deriving DecidableEq, Repr

/-- Operands of format I; `g` is the guard predicate. -/
structure DI where
  g : Nat
  d : Reg
  imm : Nat
deriving DecidableEq, Repr

/-- Operands of format A, sources A and B; `g` is the guard predicate. -/
structure AB where
  g : Nat
  a : Reg
  b : Reg
deriving DecidableEq, Repr

/-- Operands of format A, D and A; `g` is the guard predicate. -/
structure DA where
  g : Nat
  d : Reg
  a : Reg
deriving DecidableEq, Repr

/-- Operands of format A; `g` is the guard predicate. -/
structure DAB where
  g : Nat
  d : Reg
  a : Reg
  b : Reg
deriving DecidableEq, Repr

/-- Operands of format X with C and F7 reserved; `g` is the guard predicate. -/
structure DABx where
  g : Nat
  d : Reg
  a : Reg
  b : Reg
deriving DecidableEq, Repr

/-- Operands of format X with F7 reserved (R67); `g` is the guard predicate. -/
structure DABC where
  g : Nat
  d : Reg
  a : Reg
  b : Reg
  c : Reg
deriving DecidableEq, Repr

/-- Operands of format AI; `g` is the guard predicate. -/
structure DAI where
  g : Nat
  d : Reg
  a : Reg
  imm : Nat
deriving DecidableEq, Repr

/-- Operands of format C; `g` is the guard predicate. -/
structure C where
  g : Nat
  pd : Nat
  cc : Nat
  a : Reg
  b : Reg
deriving DecidableEq, Repr

/-- Operands of format C with an immediate; `g` is the guard predicate. -/
structure CI where
  g : Nat
  pd : Nat
  cc : Nat
  a : Reg
  imm : Nat
deriving DecidableEq, Repr

/-- Operands of format W: one mask MD (R70); `g` is the guard predicate. -/
structure M1 where
  g : Nat
  md : Nat
deriving DecidableEq, Repr

/-- Operands of format W of MLOG (R70); `g` is the guard predicate. -/
structure Mlog where
  g : Nat
  md : Nat
  ma : Nat
  mb : Nat
  op : Nat
deriving DecidableEq, Repr

/-- Operands of format W of MRD (R70); `g` is the guard predicate. -/
structure Mrd where
  g : Nat
  d : Reg
  ma : Nat
deriving DecidableEq, Repr

/-- Operands of format W of MWR (R70); `g` is the guard predicate. -/
structure Mwr where
  g : Nat
  md : Nat
  a : Reg
deriving DecidableEq, Repr

/-- Operands of format X of SHFL (R135); `g` is the guard predicate. -/
structure Shfl where
  g : Nat
  d : Reg
  a : Reg
  b : Reg
  ma : Nat
  pd : Nat
deriving DecidableEq, Repr

/-- Operands of format W of VOTE (R70); `g` is the guard predicate. -/
structure Vote where
  g : Nat
  pd : Nat
  op : Nat
  ma : Nat
  pa : Nat
deriving DecidableEq, Repr

/-- Operands of format W of BALLOT (R70); `g` is the guard predicate. -/
structure Ballot where
  g : Nat
  d : Reg
  ma : Nat
  pa : Nat
deriving DecidableEq, Repr

/-- Operands of format Y of BARA, with its token bit (R138); `g` is the guard predicate. -/
structure Bara where
  g : Nat
  scope : Nat
  id : Nat
  a : Reg
  token : Nat
deriving DecidableEq, Repr

/-- Operands of format Y with a register (R138); `g` is the guard predicate. -/
structure BarA where
  g : Nat
  scope : Nat
  id : Nat
  a : Reg
deriving DecidableEq, Repr

/-- Operands of format Y without a register (R138); `g` is the guard predicate. -/
structure Bar where
  g : Nat
  scope : Nat
  id : Nat
deriving DecidableEq, Repr

/-- Operands of format W of WAITC (R143); `g` is the guard predicate. -/
structure Waitc where
  g : Nat
  nl : Nat
  ns : Nat
  nc : Nat
  nt : Nat
deriving DecidableEq, Repr

/-- Operands of format W of PLOG (R157); `g` is the guard predicate. -/
structure Plog where
  g : Nat
  pd : Nat
  pa : Nat
  pb : Nat
  tt : Nat
deriving DecidableEq, Repr

/-- Operands of format X of SEL (R153); `g` is the guard predicate. -/
structure Sel where
  g : Nat
  d : Reg
  a : Reg
  b : Reg
  ps : Nat
deriving DecidableEq, Repr

/-- Operands of format L of MOVL (R154); `g` is the guard predicate. -/
structure Movl where
  g : Nat
  d : Reg
  ty : Nat
  imm : Nat
deriving DecidableEq, Repr

/-- Operands of format L of IADDL (R154); `g` is the guard predicate. -/
structure Iaddl where
  g : Nat
  d : Reg
  a : Reg
  imm : Nat
deriving DecidableEq, Repr

/-- Operands of format X of LEA (R155); `g` is the guard predicate. -/
structure Lea where
  g : Nat
  d : Reg
  a : Reg
  b : Reg
  sh : Nat
deriving DecidableEq, Repr

/-- Operands of format X, floating point, one source (R67, R160); `g` is the guard predicate. -/
structure Fp1 where
  g : Nat
  d : Reg
  a : Reg
  rnd : Nat
  sat : Nat
  na : Nat
deriving DecidableEq, Repr

/-- Operands of format X, floating point, two sources (R67, R160); `g` is the guard predicate. -/
structure Fp2 where
  g : Nat
  d : Reg
  a : Reg
  b : Reg
  rnd : Nat
  sat : Nat
  na : Nat
  nb : Nat
deriving DecidableEq, Repr

/-- Operands of format X, floating point, three sources (R67, R160); `g` is the guard predicate. -/
structure Fp3 where
  g : Nat
  d : Reg
  a : Reg
  b : Reg
  c : Reg
  rnd : Nat
  sat : Nat
  na : Nat
  nb : Nat
  nc : Nat
deriving DecidableEq, Repr

/-- Operands of format XC (R67, R171); `g` is the guard predicate. -/
structure Cvt where
  g : Nat
  d : Reg
  a : Reg
  df : Nat
  sf : Nat
  rnd : Nat
  sat : Nat
deriving DecidableEq, Repr

/-- Operands of format AI of RETAG (R178); `g` is the guard predicate. -/
structure Retag where
  g : Nat
  d : Reg
  a : Reg
  ty : Nat
deriving DecidableEq, Repr

/-- Operands of format M without an offset word (R68); `g` is the guard predicate. -/
structure Mem where
  g : Nat
  d : Reg
  a : Reg
  w : Nat
  ty : Nat
deriving DecidableEq, Repr

/-- Operands of format M with an offset word (R68); `g` is the guard predicate. -/
structure MemOff where
  g : Nat
  d : Reg
  a : Reg
  w : Nat
  ty : Nat
  off : Nat
deriving DecidableEq, Repr

/-- Operands of format G without a second word (R69); `g` is the guard predicate. -/
structure Cp where
  g : Nat
  tag : Nat
  a : Reg
  b : Reg
deriving DecidableEq, Repr

/-- Operands of format G with its copy extension (R69); `g` is the guard predicate. -/
structure CpExt where
  g : Nat
  tag : Nat
  a : Reg
  b : Reg
  queue : Nat
  bar : Nat
  scope : Nat
  id : Nat
deriving DecidableEq, Repr

/-- Operands of format W of CPFENCE (R70); `g` is the guard predicate. -/
structure Qm where
  g : Nat
  qm : Nat
deriving DecidableEq, Repr

/-- Operands of format W of MXCLR (R70); `g` is the guard predicate. -/
structure Tm where
  g : Nat
  tm : Nat
deriving DecidableEq, Repr

/-- Operands of format X of an atomic with one data source (R278); `g` is the guard predicate. -/
structure At where
  g : Nat
  d : Reg
  a : Reg
  b : Reg
  ord : Nat
deriving DecidableEq, Repr

/-- Operands of format X of a compare-and-swap (R278); `g` is the guard predicate. -/
structure At3 where
  g : Nat
  d : Reg
  a : Reg
  b : Reg
  c : Reg
  ord : Nat
deriving DecidableEq, Repr

/-- Operands of format X of a reduction (R278); `g` is the guard predicate. -/
structure Red where
  g : Nat
  a : Reg
  b : Reg
  ord : Nat
deriving DecidableEq, Repr

/-- Operands of format W of FENCE (R285); `g` is the guard predicate. -/
structure Fence where
  g : Nat
  kind : Nat
deriving DecidableEq, Repr

/-- Operands of format X of CLPOP (R313); `g` is the guard predicate. -/
structure Clpop where
  g : Nat
  d : Reg
  a : Reg
  pd : Nat
deriving DecidableEq, Repr

/-- Operands of format AI of SHFIN (R343); `g` is the guard predicate. -/
structure Shfin where
  g : Nat
  d : Reg
  a : Reg
  fail : Nat
  disp : Nat
deriving DecidableEq, Repr

end Form

/-- Which interface a register write of REGISTER_WRITE comes from (R425, R4): the host through the
BAR0 of a function, or the `k`-th pending write that a core made to a device register (R377, R296). -/
inductive WriteSrc where
  | host (fn off val : Nat)
  | core (k : Nat)
deriving DecidableEq, Repr

/-- An error that the array of a matrix pass made (R240): the exact adder of one group of products of one element, both counted from 0,
produced (-1)^neg × mant × 2^exp in place of the sum of the group's finite products. What errors occur is the outside world's doing,
hence an operand. -/
structure ArrayError where
  row : Nat
  col : Nat
  group : Nat
  neg : Bool
  mant : Nat
  exp : Int
deriving DecidableEq, Repr

/-- A page-table entry that Cuset writes when it maps private pages (R421): its physical address and value; a leaf of size class
0 to 2 maps a page that Cuset has filled with zeros, size 3 is an entry that names a table. Which frames Cuset takes is left open
(R416), hence an operand. -/
structure TableWrite where
  at_ : Nat
  entry : Nat
  size : Nat
deriving DecidableEq, Repr

/-- One constructor for each row of the opcode table: first the instructions in opcode order, then the
steps of the engines and of the outside world. An engine step's operands name the entry it acts on and
whatever the spec leaves to chance there (a victim, an ECC error). -/
inductive Instr where
  /-- NOP (R146): Does nothing for the issuing bundle. -/
  | nop (o : Form.N)
  /-- BRA (R126): Branches each guard-true fibre to PC plus four times the signed 21-bit word offset. -/
  | bra (o : Form.B)
  /-- BRX (R126): Branches each guard-true fibre to the canonical address held in register pair A. -/
  | brx (o : Form.A1)
  /-- CALL (R126): Saves PC plus 4 in %lnk and branches by the signed 21-bit word offset. -/
  | call (o : Form.B)
  /-- CALLX (R126): Saves PC plus 4 in %lnk and branches to the address in register pair A. -/
  | callx (o : Form.A1)
  /-- RET (R126): Continues each guard-true fibre at the address held in %lnk. -/
  | ret (o : Form.N)
  /-- TRAP (R146): Parks the wave with DEBUG_BREAK, recording the 14-bit code and the guard-true fibres. -/
  | trap (o : Form.I)
  /-- YIELD (R146): Makes the issuing fibres not ready until the next regroup boundary. -/
  | yield (o : Form.N)
  /-- STEP (R144): Marks a step boundary; in an elastic launch the wave arrives and its fibres wait for the step to complete. -/
  | stepMark (o : Form.N)
  /-- ISYNC (R145): Waits for the fibre's earlier stores, then invalidates every instruction-cache line of the module overlapping the range. -/
  | isync (o : Form.AB)
  /-- FSPAWN (R128): Starts a new fibre in the lowest free slot of the wave at the entry PC in pair A and returns its slot number. -/
  | fspawn (o : Form.DAB)
  /-- FEXIT (R129): Ends each guard-true fibre, clearing its mask bits and freeing its allocation above the initial reservation. -/
  | fexit (o : Form.N)
  /-- WAITC (R143): Holds each guard-true fibre until the wave's outstanding loads, stores, copies and tile operations fall to the given counts. -/
  | waitc (o : Form.Waitc)
  /-- GETS (R147): Reads the special register named by IMM14 into D for each guard-true fibre. -/
  | gets (o : Form.DI)
  /-- SETS (R147): Writes the register named in the D field into the special register named by IMM14 for each guard-true fibre. -/
  | sets (o : Form.DI)
  /-- MJOIN (R131): Sets each guard-true fibre's bit in mask Md. -/
  | mjoin (o : Form.M1)
  /-- MLEAVE (R131): Clears each guard-true fibre's bit in mask Md. -/
  | mleave (o : Form.M1)
  /-- MWAITM (R133): Holds each guard-true fibre until every live member of the mask waits at the same PC, then releases them together. -/
  | mwaitm (o : Form.M1)
  /-- MLOG (R131): Writes mask Md as the logical combination of masks Ma and Mb chosen by MOP. -/
  | mlog (o : Form.Mlog)
  /-- MRD (R131): Copies mask Ma into D of each guard-true fibre. -/
  | mrd (o : Form.Mrd)
  /-- MWR (R131): Writes mask Md from A of the highest-numbered guard-true fibre. -/
  | mwr (o : Form.Mwr)
  /-- SHFL (R135): Collective over a mask that delivers each fibre the A value of the lane named by B, or zero and a false predicate for an absent lane. -/
  | shfl (o : Form.Shfl)
  /-- VOTE (R136): Collective over a mask that writes Pd as the all, any or uniform vote of predicate Pa over present lanes. -/
  | vote (o : Form.Vote)
  /-- BALLOT (R136): Collective over a mask that writes D with one bit per present lane whose Pa is 1. -/
  | ballot (o : Form.Ballot)
  /-- BARA (R141): Arrives at a barrier of the named scope, optionally returning the phase token. -/
  | bara (o : Form.Bara)
  /-- BARW (R141): Waits while the barrier's phase equals the token's phase. -/
  | barw (o : Form.BarA)
  /-- BARS (R141): Arrives at a barrier and waits for the phase of its own arrival to complete. -/
  | bars (o : Form.Bar)
  /-- BARC (R140): Configures a barrier's expected count, mode and members from a register pair and arms it. -/
  | barc (o : Form.BarA)
  /-- WGROW (R34): Requests register units from the core's pool for the bundle, granting them at once or making the fibres wait. -/
  | wgrow (o : Form.I)
  /-- WSHRINK (R130): Shrinks each guard-true fibre's allocation by n units, losing the top registers. -/
  | wshrink (o : Form.I)
  /-- WMOVE (R130): Moves each guard-true fibre's window base by a signed number of units. -/
  | wmove (o : Form.I)
  /-- IADD (R149): Writes A plus B modulo 2^32. -/
  | iadd (o : Form.DAB)
  /-- ISUB (R149): Writes A minus B modulo 2^32. -/
  | isub (o : Form.DAB)
  /-- IMUL (R149): Writes the low 32 bits of A times B. -/
  | imul (o : Form.DAB)
  /-- IMULH_I32 (R149): Writes the high 32 bits of the signed product of A and B. -/
  | imulhI32 (o : Form.DAB)
  /-- IMULH_N32 (R149): Writes the high 32 bits of the unsigned product of A and B. -/
  | imulhN32 (o : Form.DAB)
  /-- IDIV_I32 (R150): Writes the signed quotient of A by B truncated toward zero, with the division-by-zero rules. -/
  | idivI32 (o : Form.DAB)
  /-- IDIV_N32 (R150): Writes the unsigned quotient of A by B, with the division-by-zero rules. -/
  | idivN32 (o : Form.DAB)
  /-- IREM_I32 (R150): Writes the signed remainder of A by B. -/
  | iremI32 (o : Form.DAB)
  /-- IREM_N32 (R150): Writes the unsigned remainder of A by B. -/
  | iremN32 (o : Form.DAB)
  /-- IMIN_I32 (R149): Writes the signed lesser of A and B. -/
  | iminI32 (o : Form.DAB)
  /-- IMIN_N32 (R149): Writes the unsigned lesser of A and B. -/
  | iminN32 (o : Form.DAB)
  /-- IMAX_I32 (R149): Writes the signed greater of A and B. -/
  | imaxI32 (o : Form.DAB)
  /-- IMAX_N32 (R149): Writes the unsigned greater of A and B. -/
  | imaxN32 (o : Form.DAB)
  /-- IABS (R149): Writes the absolute value of signed A modulo 2^32. -/
  | iabs (o : Form.DA)
  /-- INEG (R149): Writes 0 minus A. -/
  | ineg (o : Form.DA)
  /-- IMAD (R149): Writes the low 32 bits of A times B plus C. -/
  | imad (o : Form.DABC)
  /-- AND (R151): Writes A AND B. -/
  | andOp (o : Form.DAB)
  /-- OR (R151): Writes A OR B. -/
  | orOp (o : Form.DAB)
  /-- XOR (R151): Writes A XOR B. -/
  | xorOp (o : Form.DAB)
  /-- ANDN (R151): Writes A AND NOT B. -/
  | andn (o : Form.DAB)
  /-- NOT (R151): Writes the bitwise complement of A. -/
  | notOp (o : Form.DA)
  /-- SHL (R151): Writes A shifted left by B, or 0 for counts of 32 and above. -/
  | shl (o : Form.DAB)
  /-- SHR (R151): Writes A shifted right logically by B, or 0 for counts of 32 and above. -/
  | shr (o : Form.DAB)
  /-- SAR (R151): Writes A shifted right arithmetically by B. -/
  | sar (o : Form.DAB)
  /-- ROTL (R151): Writes A rotated left by B mod 32. -/
  | rotl (o : Form.DAB)
  /-- POPC (R151): Writes the number of 1 bits of A. -/
  | popc (o : Form.DA)
  /-- CLZ (R151): Writes the number of leading zero bits of A. -/
  | clz (o : Form.DA)
  /-- BREV (R151): Writes A with its bit order reversed. -/
  | brev (o : Form.DA)
  /-- BFX_I32 (R152): Extracts the bit field described by B from A and sign-extends it. -/
  | bfxI32 (o : Form.DAB)
  /-- BFX_N32 (R152): Extracts the bit field described by B from A and zero-extends it. -/
  | bfxN32 (o : Form.DAB)
  /-- BFI (R152): Inserts the low bits of B into A at the field described by C. -/
  | bfi (o : Form.DABC)
  /-- SEL (R153): Writes A when predicate Ps is 1 in the fibre and B otherwise, moving the tag with the value. -/
  | sel (o : Form.Sel)
  /-- IADDI (R154): Adds the sign-extended 14-bit immediate to D. -/
  | iaddi (o : Form.DI)
  /-- ANDI (R154): ANDs D with the zero-extended 14-bit immediate. -/
  | andi (o : Form.DI)
  /-- ORI (R154): ORs D with the zero-extended 14-bit immediate. -/
  | ori (o : Form.DI)
  /-- XORI (R154): XORs D with the zero-extended 14-bit immediate. -/
  | xori (o : Form.DI)
  /-- SHLI (R154): Writes A shifted left by the immediate count. -/
  | shli (o : Form.DAI)
  /-- SHRI (R154): Writes A shifted right logically by the immediate count. -/
  | shri (o : Form.DAI)
  /-- SARI (R154): Writes A shifted right arithmetically by the immediate count. -/
  | sari (o : Form.DAI)
  /-- MOVI (R154): Writes the sign-extended 14-bit immediate tagged i32. -/
  | movi (o : Form.DI)
  /-- MOVL (R154): Writes the 32-bit immediate of the second word, tagged with TY. -/
  | movl (o : Form.Movl)
  /-- MOV (R154): Copies A with its tag into D. -/
  | mov (o : Form.DA)
  /-- ICMP_I32 (R156): Writes Pd from the signed comparison of A and B under the condition code. -/
  | icmpI32 (o : Form.C)
  /-- ICMP_N32 (R156): Writes Pd from the unsigned comparison of A and B under the condition code. -/
  | icmpN32 (o : Form.C)
  /-- ICMPI_I32 (R156): Writes Pd from the signed comparison of A with the sign-extended 7-bit immediate. -/
  | icmpiI32 (o : Form.CI)
  /-- ICMPI_N32 (R156): Writes Pd from the unsigned comparison of A with the zero-extended 7-bit immediate. -/
  | icmpiN32 (o : Form.CI)
  /-- PLOG (R157): Writes Pd from the 4-bit truth table indexed by Pa and Pb. -/
  | plog (o : Form.Plog)
  /-- IADDL (R154): Writes A plus the 32-bit immediate of the second word. -/
  | iaddl (o : Form.Iaddl)
  /-- IADD_B64 (R158): Writes pair A plus pair B modulo 2^64. -/
  | iaddB64 (o : Form.DAB)
  /-- ISUB_B64 (R158): Writes pair A minus pair B modulo 2^64. -/
  | isubB64 (o : Form.DAB)
  /-- IMULW_I32 (R158): Writes the full 64-bit signed product of A and B into pair D. -/
  | imulwI32 (o : Form.DAB)
  /-- IMULW_N32 (R158): Writes the full 64-bit unsigned product of A and B into pair D. -/
  | imulwN32 (o : Form.DAB)
  /-- SHL_B64 (R158): Shifts pair A left by B over 64 bits. -/
  | shlB64 (o : Form.DAB)
  /-- SHR_B64 (R158): Shifts pair A right logically by B over 64 bits. -/
  | shrB64 (o : Form.DAB)
  /-- SAR_B64 (R158): Shifts pair A right arithmetically by B over 64 bits. -/
  | sarB64 (o : Form.DAB)
  /-- ICMP_I64 (R158): Writes Pd from the signed 64-bit comparison of pairs A and B. -/
  | icmpI64 (o : Form.C)
  /-- ICMP_N64 (R158): Writes Pd from the unsigned 64-bit comparison of pairs A and B. -/
  | icmpN64 (o : Form.C)
  /-- MOV_B64 (R154): Copies pair A with both tags into pair D. -/
  | movB64 (o : Form.DA)
  /-- LEA (R155): Writes pair A plus sign-extended B shifted left by sh, modulo 2^64. -/
  | lea (o : Form.Lea)
  /-- FADD_F32 (R161): Short form: writes a plus b correctly rounded to f32 with round-to-nearest-even. -/
  | faddF32 (o : Form.DAB)
  /-- FSUB_F32 (R161): Short form: writes a minus b correctly rounded to f32. -/
  | fsubF32 (o : Form.DAB)
  /-- FMUL_F32 (R161): Short form: writes a times b correctly rounded to f32. -/
  | fmulF32 (o : Form.DAB)
  /-- FFMA_F32 (R161): Short form: writes a times b plus D with one rounding to f32. -/
  | ffmaF32 (o : Form.DAB)
  /-- FMIN_F32 (R163): Returns the lesser f32 operand with -0 below +0 and NaN rules. -/
  | fminF32 (o : Form.DAB)
  /-- FMAX_F32 (R163): Returns the greater f32 operand with -0 below +0 and NaN rules. -/
  | fmaxF32 (o : Form.DAB)
  /-- FABS_F32 (R164): Clears bit 31 of A. -/
  | fabsF32 (o : Form.DA)
  /-- FNEG_F32 (R164): Flips bit 31 of A. -/
  | fnegF32 (o : Form.DA)
  /-- FCMP_F32 (R165): Writes Pd from the floating comparison of A and B under the condition code. -/
  | fcmpF32 (o : Form.C)
  /-- FRCP_F32 (R161): Short form: writes 1 divided by a, correctly rounded. -/
  | frcpF32 (o : Form.DA)
  /-- FRSQ_F32 (R161): Short form: writes 1 divided by the square root of a, correctly rounded. -/
  | frsqF32 (o : Form.DA)
  /-- FSQRT_F32 (R161): Short form: writes the square root of a, correctly rounded. -/
  | fsqrtF32 (o : Form.DA)
  /-- FEXP2_F32 (R166): Writes 2 to the power a within 1 ulp. -/
  | fexp2F32 (o : Form.DA)
  /-- FLOG2_F32 (R166): Writes the base-2 logarithm of a to the stated bound. -/
  | flog2F32 (o : Form.DA)
  /-- FSIN_F32 (R166): Writes the sine of a to the stated bound. -/
  | fsinF32 (o : Form.DA)
  /-- FCOS_F32 (R166): Writes the cosine of a to the stated bound. -/
  | fcosF32 (o : Form.DA)
  /-- FADD_F32_LONG (R161): Long form: writes a plus b with rounding, saturation and negation from F7. -/
  | faddF32Long (o : Form.Fp2)
  /-- FSUB_F32_LONG (R161): Long form: writes a minus b with rounding, saturation and negation from F7. -/
  | fsubF32Long (o : Form.Fp2)
  /-- FMUL_F32_LONG (R161): Long form: writes a times b with rounding, saturation and negation from F7. -/
  | fmulF32Long (o : Form.Fp2)
  /-- FFMA_F32_LONG (R161): Long form: writes a times b plus c with one rounding and F7 modifiers. -/
  | ffmaF32Long (o : Form.Fp3)
  /-- FDIV_F32 (R161): Writes a divided by b correctly rounded to f32. -/
  | fdivF32 (o : Form.Fp2)
  /-- FRCP_F32_LONG (R161): Long form of the correctly rounded reciprocal. -/
  | frcpF32Long (o : Form.Fp1)
  /-- FRSQ_F32_LONG (R161): Long form of the correctly rounded reciprocal square root. -/
  | frsqF32Long (o : Form.Fp1)
  /-- FSQRT_F32_LONG (R161): Long form of the correctly rounded square root. -/
  | fsqrtF32Long (o : Form.Fp1)
  /-- FADD_F64 (R167): Writes the f64 sum of pairs a and b, correctly rounded. -/
  | faddF64 (o : Form.Fp2)
  /-- FMUL_F64 (R167): Writes the f64 product of pairs a and b, correctly rounded. -/
  | fmulF64 (o : Form.Fp2)
  /-- FFMA_F64 (R167): Writes a times b plus c in f64 with one rounding. -/
  | ffmaF64 (o : Form.Fp3)
  /-- FDIV_F64 (R167): Writes a divided by b in f64, correctly rounded. -/
  | fdivF64 (o : Form.Fp2)
  /-- FSQRT_F64 (R167): Writes the f64 square root of a, correctly rounded. -/
  | fsqrtF64 (o : Form.Fp1)
  /-- FMIN_F64 (R167): Returns the lesser f64 operand under the rules of FMIN. -/
  | fminF64 (o : Form.DAB)
  /-- FMAX_F64 (R167): Returns the greater f64 operand under the rules of FMAX. -/
  | fmaxF64 (o : Form.DAB)
  /-- FCMP_F64 (R165): Writes Pd from the floating comparison of f64 pairs A and B. -/
  | fcmpF64 (o : Form.C)
  /-- FADD_F16X2 (R168): Adds the two f16 lanes of A and B independently. -/
  | faddF16x2 (o : Form.Fp2)
  /-- FMUL_F16X2 (R168): Multiplies the two f16 lanes of A and B independently. -/
  | fmulF16x2 (o : Form.Fp2)
  /-- FFMA_F16X2 (R168): Fused multiply-add on each f16 lane with one rounding. -/
  | ffmaF16x2 (o : Form.Fp3)
  /-- FADD_BF16X2 (R168): Adds the two bf16 lanes of A and B independently. -/
  | faddBf16x2 (o : Form.Fp2)
  /-- FMUL_BF16X2 (R168): Multiplies the two bf16 lanes of A and B independently. -/
  | fmulBf16x2 (o : Form.Fp2)
  /-- FFMA_BF16X2 (R168): Fused multiply-add on each bf16 lane with one rounding. -/
  | ffmaBf16x2 (o : Form.Fp3)
  /-- FDOT_F16X2 (R169): Writes the f16 two-lane dot product of A and B plus f32 C, rounded once into f32. -/
  | fdotF16x2 (o : Form.Fp3)
  /-- FDOT_BF16X2 (R169): Writes the bf16 two-lane dot product of A and B plus f32 C, rounded once into f32. -/
  | fdotBf16x2 (o : Form.Fp3)
  /-- CVT (R172): Converts the source format SF to the destination format DF with the given rounding and saturation. -/
  | cvt (o : Form.Cvt)
  /-- PACK_TF8 (R174): Converts A under the block scale in B to tf8 and shifts it into the top lane of D. -/
  | packTf8 (o : Form.DAB)
  /-- PACK_TF6 (R174): Converts A under the block scale in B to tf6 and shifts it into the top lane of D. -/
  | packTf6 (o : Form.DAB)
  /-- PACK_F16 (R173): Rounds f32 A and B into the two f16 lanes of D. -/
  | packF16 (o : Form.DAB)
  /-- PACK_BF16 (R173): Rounds f32 A and B into the two bf16 lanes of D. -/
  | packBf16 (o : Form.DAB)
  /-- UNPK_TF8 (R175): Converts the named tf8 lane of A exactly to f32. -/
  | unpkTf8 (o : Form.DAI)
  /-- UNPK_TF6 (R175): Converts the named tf6 lane of A exactly to f32. -/
  | unpkTf6 (o : Form.DAI)
  /-- UNPK_F16 (R175): Converts the named f16 lane of A exactly to f32. -/
  | unpkF16 (o : Form.DAI)
  /-- UNPK_BF16 (R175): Converts the named bf16 lane of A exactly to f32. -/
  | unpkBf16 (o : Form.DAI)
  /-- SCHIST (R177): Collective over M0 that chooses one E8 block scale for the wave's present lanes. -/
  | schist (o : Form.DAB)
  /-- SCALE (R176): Writes f32 A multiplied by the E8 scale in lane 0 of B, rounded. -/
  | scale (o : Form.DAB)
  /-- RETAG (R178): Copies A unchanged and gives it the tag in the immediate. -/
  | retag (o : Form.Retag)
  /-- LD (R179): Loads 1, 2 or 4 registers from a virtual address with no offset word. -/
  | ld (o : Form.Mem)
  /-- LD_OFF (R179): Loads from a virtual address plus the signed offset in the second word. -/
  | ldOff (o : Form.MemOff)
  /-- LD_INV (R187): Invariant load that may be served from any cached copy, with no offset word. -/
  | ldInv (o : Form.Mem)
  /-- LD_INV_OFF (R187): Invariant load with a byte offset word. -/
  | ldInvOff (o : Form.MemOff)
  /-- LD_NF (R188): No-fault load that returns zero and P6 = 0 for a non-resident page, with no offset word. -/
  | ldNf (o : Form.Mem)
  /-- LD_NF_OFF (R188): No-fault load with a byte offset word. -/
  | ldNfOff (o : Form.MemOff)
  /-- LD_INV_NF (R188): Invariant no-fault load with no offset word. -/
  | ldInvNf (o : Form.Mem)
  /-- LD_INV_NF_OFF (R188): Invariant no-fault load with a byte offset word. -/
  | ldInvNfOff (o : Form.MemOff)
  /-- ST (R179): Stores 1, 2 or 4 registers to a virtual address with no offset word. -/
  | st (o : Form.Mem)
  /-- ST_OFF (R179): Stores to a virtual address plus the signed offset word. -/
  | stOff (o : Form.MemOff)
  /-- LDB (R186): Narrow load of 8 or 16 bits, extended by type, with no offset word. -/
  | ldb (o : Form.Mem)
  /-- LDB_OFF (R186): Narrow load with a byte offset word. -/
  | ldbOff (o : Form.MemOff)
  /-- LDB_INV (R186): Invariant narrow load with no offset word. -/
  | ldbInv (o : Form.Mem)
  /-- LDB_INV_OFF (R186): Invariant narrow load with a byte offset word. -/
  | ldbInvOff (o : Form.MemOff)
  /-- LDB_NF (R186): No-fault narrow load with no offset word. -/
  | ldbNf (o : Form.Mem)
  /-- LDB_NF_OFF (R186): No-fault narrow load with a byte offset word. -/
  | ldbNfOff (o : Form.MemOff)
  /-- STB (R186): Narrow store of the low 8 or 16 bits with no offset word. -/
  | stb (o : Form.Mem)
  /-- STB_OFF (R186): Narrow store with a byte offset word. -/
  | stbOff (o : Form.MemOff)
  /-- PGREQ (R189): Asks the translation engine to make the addressed page resident, with no offset word. -/
  | pgreq (o : Form.A1)
  /-- PGREQ_OFF (R189): Residency request for the address plus an offset word. -/
  | pgreqOff (o : Form.A1Off)
  /-- LDS (R190): Loads from the group's own scratchpad with no offset word. -/
  | lds (o : Form.Mem)
  /-- LDS_OFF (R190): Loads from the own scratchpad with an offset word. -/
  | ldsOff (o : Form.MemOff)
  /-- STS (R190): Stores to the group's own scratchpad with no offset word. -/
  | sts (o : Form.Mem)
  /-- STS_OFF (R190): Stores to the own scratchpad with an offset word. -/
  | stsOff (o : Form.MemOff)
  /-- LDQ (R191): Loads through the quad scratchpad window with no offset word. -/
  | ldq (o : Form.Mem)
  /-- LDQ_OFF (R191): Loads through the quad window with an offset word. -/
  | ldqOff (o : Form.MemOff)
  /-- STQ (R191): Stores through the quad scratchpad window with no offset word. -/
  | stq (o : Form.Mem)
  /-- STQ_OFF (R191): Stores through the quad window with an offset word. -/
  | stqOff (o : Form.MemOff)
  /-- LDNW (R192): Loads through the neighbourhood window with no offset word. -/
  | ldnw (o : Form.Mem)
  /-- LDNW_OFF (R192): Loads through the neighbourhood window with an offset word. -/
  | ldnwOff (o : Form.MemOff)
  /-- STNW (R192): Stores through the neighbourhood window with no offset word. -/
  | stnw (o : Form.Mem)
  /-- STNW_OFF (R192): Stores through the neighbourhood window with an offset word. -/
  | stnwOff (o : Form.MemOff)
  /-- CPG2S (R207): Starts a copy from global memory into the own scratchpad on queue 0 with no barrier. -/
  | cpg2s (o : Form.Cp)
  /-- CPG2S_EXT (R207): Starts a global-to-scratchpad copy with a queue and barrier extension word. -/
  | cpg2sExt (o : Form.CpExt)
  /-- CPS2G (R207): Starts a copy from the own scratchpad to global memory on queue 0 with no barrier. -/
  | cps2g (o : Form.Cp)
  /-- CPS2G_EXT (R207): Starts a scratchpad-to-global copy with an extension word. -/
  | cps2gExt (o : Form.CpExt)
  /-- CPX (R207): Starts a global-to-global copy, local or remote, on queue 0 with no barrier. -/
  | cpx (o : Form.Cp)
  /-- CPX_EXT (R207): Starts a global-to-global copy with an extension word. -/
  | cpxExt (o : Form.CpExt)
  /-- CPFENCE (R211): Places a fence entry behind the last copy of each selected queue. -/
  | cpfence (o : Form.Qm)
  /-- TWANY (R212): Waits until some masked held tag is done and returns the lowest. -/
  | twany (o : Form.DA)
  /-- TWALL (R212): Waits until every masked tag is done. -/
  | twall (o : Form.A1)
  /-- TFIRST (R212): Claims and clears the lowest done masked tag without waiting. -/
  | tfirst (o : Form.DA)
  /-- MXGO (R222): Reserves one matrix pass per guard-true fibre from its parameter block. -/
  | mxgo (o : Form.A1)
  /-- MXCLR (R246): Clears each selected tile to +0 tagged f32. -/
  | mxclr (o : Form.Tm)
  /-- MXRD (R247): Reads four tile elements into a register group. -/
  | mxrd (o : Form.DA)
  /-- MXWR (R247): Writes four registers into tile elements and tags the tile f32. -/
  | mxwr (o : Form.AB)
  /-- MXSC (R248): Invalidates the quad's scale-cache lines overlapping a range. -/
  | mxsc (o : Form.AB)
  /-- MXHIST (R249): Sends a block-scale histogram request to the quad's histogram unit. -/
  | mxhist (o : Form.DAB)
  /-- MXWAIT (R250): Waits for every earlier tile operation of the group to complete. -/
  | mxwait (o : Form.N)
  /-- ATADD (R278): Atomically adds B to a 32-bit word and returns the old value. -/
  | atadd (o : Form.At)
  /-- ATMIN_I32 (R278): Atomic signed minimum returning the old value. -/
  | atminI32 (o : Form.At)
  /-- ATMIN_N32 (R278): Atomic unsigned minimum returning the old value. -/
  | atminN32 (o : Form.At)
  /-- ATMAX_I32 (R278): Atomic signed maximum returning the old value. -/
  | atmaxI32 (o : Form.At)
  /-- ATMAX_N32 (R278): Atomic unsigned maximum returning the old value. -/
  | atmaxN32 (o : Form.At)
  /-- ATAND (R278): Atomic AND returning the old value. -/
  | atand (o : Form.At)
  /-- ATOR (R278): Atomic OR returning the old value. -/
  | ator (o : Form.At)
  /-- ATXOR (R278): Atomic XOR returning the old value. -/
  | atxor (o : Form.At)
  /-- ATXCHG (R278): Atomic exchange returning the old value. -/
  | atxchg (o : Form.At)
  /-- ATCAS (R278): Atomic 32-bit compare-and-swap returning the old value. -/
  | atcas (o : Form.At3)
  /-- ATADD_B64 (R278): Atomic 64-bit add returning the old pair. -/
  | ataddB64 (o : Form.At)
  /-- ATCAS_B64 (R278): Atomic 64-bit compare-and-swap returning the old pair. -/
  | atcasB64 (o : Form.At3)
  /-- REDADD_F32 (R281): Sends an f32 reduction add applied and rounded at the home slice. -/
  | redaddF32 (o : Form.Red)
  /-- REDADD_BF16X2 (R281): Sends a two-lane bf16 reduction add applied at the home slice. -/
  | redaddBf16x2 (o : Form.Red)
  /-- LD_ACQ (R284): Acquire load at the home slice with no offset word. -/
  | ldAcq (o : Form.Mem)
  /-- LD_ACQ_OFF (R284): Acquire load with a byte offset word. -/
  | ldAcqOff (o : Form.MemOff)
  /-- ST_REL (R284): Release store with no offset word. -/
  | stRel (o : Form.Mem)
  /-- ST_REL_OFF (R284): Release store with a byte offset word. -/
  | stRelOff (o : Form.MemOff)
  /-- FENCE (R285): Waits for the fibre's earlier accesses and performs acquire, release or both. -/
  | fence (o : Form.Fence)
  /-- MWAIT (R286): Reads a word and, if it equals B, arms a slice monitor and waits for a write or timeout. -/
  | mwait (o : Form.DABC)
  /-- OBJREG (R314): Registers a queue object over a memory region and returns its handle. -/
  | objreg (o : Form.DABx)
  /-- OBJDROP (R316): Drops a queue object, writing its contents back to its region. -/
  | objdrop (o : Form.A1)
  /-- CLPUSH (R315): Sends a push of B on a queue object and returns its status. -/
  | clpush (o : Form.DAB)
  /-- CLPOP (R315): Sends a pop on a queue object, returning a value and a status predicate. -/
  | clpop (o : Form.Clpop)
  /-- SHRD (R345): Reads a word of a shadow record or entry space. -/
  | shrd (o : Form.DAB)
  /-- SHWR (R345): Writes a writable word of a shadow record or entry space. -/
  | shwr (o : Form.DAB)
  /-- SHRG (R345): Reads a register of the parked subject with its tag. -/
  | shrg (o : Form.DAB)
  /-- SHWG (R345): Writes a register of the parked subject. -/
  | shwg (o : Form.DAB)
  /-- SHFIN (R346): Settles a record with RESUME, RETRY, REDIRECT or KILL. -/
  | shfin (o : Form.Shfin)
  /-- FCTRET (R363): Ends a facet routine, writing back per the return word or raising its cause. -/
  | fctret (o : Form.N)
  /-- FCTSTG (R369): Copies a patch image into the staging buffer and starts its verification. -/
  | fctstg (o : Form.DAB)
  /-- FCTACT (R370): Activates the staged patch image whose serial equals A. -/
  | fctact (o : Form.DA)
  /-- FCTRD (R371): Reads a word of the active or staged slot table. -/
  | fctrd (o : Form.DA)
  /-- QMAP (R396): Maps a user queue descriptor onto a free hardware slot. -/
  | qmap (o : Form.DAB)
  /-- QUNMAP (R396): Unmaps a slot, saving the queue's running launches. -/
  | qunmap (o : Form.DA)
  /-- PREEMPT (R396): Holds a mapped slot with save, or resumes it. -/
  | preempt (o : Form.DAB)
  /-- NON_INSTRUCTION_WORD (R75): Decoding a first word that is not an instruction raises ZERO_WORD or ILLEGAL_OPCODE for the wave. -/
  | nonInstructionWord (w : Nat)
  /-- FACET_TRAP (R358): A word matched by a TRAP slot parks the whole wave with the slot's cause. -/
  | facetTrap (slot : Nat)
  /-- FACET_REWRITE (R359): A word matched by a REWRITE slot executes the slot's replacement words as one sequence. -/
  | facetRewrite (slot : Nat)
  /-- FACET_EMULATE_ENTRY (R360): Guard-true fibres of a bundle matching an EMULATE slot enter the facet frame once it is free. -/
  | facetEmulateEntry (slot : Nat)
  /-- EMULATION_LIMIT (R364): A fibre still in facet context ELIM core cycles after entry parks the wave with FACET_TRAP. -/
  | emulationLimit (grp wave : Nat)
  /-- REGROUP_BOUNDARY (R37): Every fourth core cycle the issue unit merges ready fibres of a wave at one PC and window base. -/
  | regroupBoundary (core : Nat)
  /-- WGROW_GRANT (R34): A pending WGROW request is granted once the pool holds its units, releasing its fibres. -/
  | wgrowGrant (core : Nat)
  /-- REG_POOL_DEADLOCK (R35): When every participating wave waits in WGROW and nothing fits, one wave is parked and its units returned. -/
  | regPoolDeadlock (core : Nat)
  /-- LOAD_COMPLETE (R182): Load data arrives and writes the destination registers, clearing their hazard. -/
  | loadComplete (k : Nat) (victim : Nat)
  /-- STORE_COMPLETE (R182): A store or reduction ACK reaches the core and completes the access, marking the word owned if the ACK says so. -/
  | storeComplete (k : Nat)
  /-- ISYNC_COMPLETE (R145): The last instruction-cache invalidation of an ISYNC is acknowledged and its fibres continue. -/
  | isyncComplete (grp wave slot : Nat)
  /-- CHANNEL_ENTRY (R16): A receiver takes an entry of a channel and answers it with ACK or NACK. -/
  | channelEntry (ch : Nat)
  /-- CHANNEL_ACK (R17): An ACK reaches the sender and frees the entry's place in the replay window. -/
  | channelAck (ch : Nat)
  /-- CHANNEL_NACK (R17): A NACK reaches the sender and starts a back-off unless the entry is already due for resend. -/
  | channelNack (ch : Nat)
  /-- BACKOFF_EXPIRY (R18): A back-off ends and the sender resends the NACKed entry and every later unacknowledged entry in order. -/
  | backoffExpiry (ch : Nat)
  /-- CONGESTION_WINDOW_END (R297): At the end of each 4,096-mesh-cycle window the scheduler recomputes each die's allowance and chooses held groups. -/
  | congestionWindowEnd (hold0 hold1 : List Nat)
  /-- COPY_BEGIN (R202): A queued copy whose queue predecessors and fences are done begins its segments. -/
  | copyBegin (core queue : Nat)
  /-- SEGMENT_COMPLETE (R201): A copy segment finishes writing its destination words. -/
  | segmentComplete (core copy seg : Nat) (ecc : Nat)
  /-- COPY_COMPLETION (R203): In the cycle after a copy's last segment, its tag bit, barrier arrival and release take effect. -/
  | copyCompletion (core copy : Nat)
  /-- PASS_GRANT (R224): When the fetch stage is free the arbiter grants the highest-ranked eligible pass. -/
  | passGrant (quad : Nat) (ecc : Option (Nat × Nat))
  /-- PASS_COMMIT_DONE (R243): A pass's commit ends, releasing its tile-operation count when its instruction's passes are done. -/
  | passCommitDone (quad : Nat)
  /-- MXHIST_SERVE (R249): The histogram unit serves a request, reads the block and writes the chosen scale. -/
  | mxhistServe (quad : Nat)
  /-- LATE_ITEM_ARRIVAL (R242): A late memory operand or metadata word, or a tile read through the slice path, reaches the matrix engine and ends the whole-engine stall. -/
  | lateItemArrival (quad : Nat)
  /-- SCALE_LINE_FILL (R235): A scale-cache line arrives from its home slice and ends the engine's stall. -/
  | scaleLineFill (quad : Nat) (victim : Nat) (ecc : Bool)
  /-- PASS_RESIDUE_CHECK (R241): After the array stage the residue check compares both sides and commits or drops the staged tile. -/
  | passResidueCheck (quad : Nat) (err : List ArrayError)
  /-- SLICE_REQUEST (R262): A home slice takes a load, store, atomic or reduction and applies it, misses or NACKs it. -/
  | sliceRequest (ch : Nat) (ecc : Bool)
  /-- SLICE_FILL (R261): A miss fill arrives at the slice, evicting a victim into the acceptance buffer and serving merged requests. -/
  | sliceFill (slice miss : Nat) (victim : Nat) (ecc : Bool)
  /-- L1_REVOKE (R265): A revoke reaches a core's L1, invalidating the owned word and acknowledging. -/
  | l1Revoke (k : Nat)
  /-- REVOKE_ACK (R264): The revoke acknowledgement reaches the slice, which sends the held ACK and serves waiting requests. -/
  | revokeAck (k : Nat)
  /-- MWAIT_TIMEOUT (R286): An MWAIT's timeout expires and it completes with the word read at the slice. -/
  | mwaitTimeout (slice k : Nat)
  /-- CLASP_ARRIVAL (R305): An eligible clasp operation reaches a router and is compared with dwelling partners or dwells. -/
  | claspArrival (k : Nat)
  /-- DWELL_EXPIRY (R304): A dwelling operation's window ends and it departs toward its home slice. -/
  | dwellExpiry (router k : Nat)
  /-- FALL_THROUGH (R307): The home slice applies an unclasped operation to its object or raises OBJECT_STALE. -/
  | fallThrough (k : Nat) (ecc : Bool)
  /-- GEN_TABLE_WRITE (R303): A registration or drop reaches a router and changes its generation-table entry. -/
  | genTableWrite (k : Nat)
  /-- GEN_TABLE_ACK (R310): The last router acknowledgement completes OBJREG or lets OBJDROP write back its region. -/
  | genTableAck (k : Nat)
  /-- SUBJECT_PARK (R331): The fault engine takes a detected subject, fills a record, looks up its route and queues the fault task. -/
  | subjectPark (die : Nat)
  /-- HELD_SUBJECT_RECORD (R330): A held subject obtains a freed record in order of detection. -/
  | heldSubjectRecord (die : Nat)
  /-- FAULTTASK (R328): A fault task is taken from its class slot and starts one handler group. -/
  | faulttask (die cls core : Nat) (maps : List TableWrite)
  /-- TASK_DEADLINE (R331): A record's deadline is reached, setting DLMISS or parking the running handler. -/
  | taskDeadline (rid : Nat)
  /-- BUDGET_EXPIRED (R332): A handler group's budget runs out and the group parks as a nested subject. -/
  | budgetExpired (rid : Nat)
  /-- PREEMPT_REQUEST (R338): A pre-emption request stops the group's waves at their next issue slots and starts the drain. -/
  | preemptRequest (grp : Nat)
  /-- GROUP_SAVE (R338): Once drained, copies are deferred, passes withdrawn, monitors rebound and the context written. -/
  | groupSave (grp : Nat)
  /-- GROUP_RESTORE (R340): A saved group is restored to an admitting core, replaying deferred work and settling entries. -/
  | groupRestore (grp core : Nat)
  /-- GROUP_ADMIT (R29): A waiting group is admitted to its dealt core when its resources fit. -/
  | groupAdmit (launch : Nat)
  /-- TLB_LOOKUP (R412): A slice miss or engine access looks up its TLB and walks the tables on a miss. -/
  | tlbLookup (slice miss : Nat)
  /-- WALK_COMPLETE (R415): A page walk ends translated or with a fault reported to the access's unit. -/
  | walkComplete (slice miss : Nat) (victim : Nat) (ecc : Bool)
  /-- PGREQ_RESIDENT (R420): A fresh walk finds the requested page resident and the PGREQ completes. -/
  | pgreqResident (k : Nat)
  /-- DOORBELL (R426): A doorbell write announces a queue's packets, or is dropped and logged. -/
  | doorbell (fn off val : Nat)
  /-- NOP_PACKET (R386): A NOP packet begins and completes. -/
  | nopPacket (die slot : Nat)
  /-- LAUNCH (R392): A LAUNCH packet begins: the header is checked, code invalidated, barriers allotted and groups dealt. -/
  | launchPacket (die slot : Nat) (maps : List TableWrite)
  /-- BARRIER (R389): A BARRIER packet begins and reads its signals, failing at once if one has failed. -/
  | barrierPacket (die slot : Nat)
  /-- BARRIER_RESOLVE (R389): A holding BARRIER completes when all its signals are satisfied, or fails the queue when one fails. -/
  | barrierResolve (die slot : Nat)
  /-- SIGNAL (R387): A SIGNAL packet sets or subtracts from its target signal and completes. -/
  | signalPacket (die slot : Nat)
  /-- COPY (R388): A COPY packet starts a copy on the firmware core's copy engine under the queue's ASID. -/
  | copyPacket (die slot : Nat)
  /-- QFENCE (R390): A QFENCE packet begins and waits for the named queues' DONE counts. -/
  | qfencePacket (die slot : Nat)
  /-- QFENCE_SATISFIED (R390): Every named queue reaches its count and the QFENCE completes. -/
  | qfenceSatisfied (die slot : Nat)
  /-- STEPMARK (R394): A STEPMARK sets the target die count of an elastic launch. -/
  | stepmarkPacket (die slot : Nat)
  /-- QUEUE_TIMESLICE (R385): A queue mapped for 2 ms is unmapped when its class has waiting queues. -/
  | queueTimeslice (die slot : Nat)
  /-- MSIX_DEADLINE (R397): The earliest held completion deadline on a vector is reached and one MSI-X message is sent. -/
  | msixDeadline (fn vec : Nat)
  /-- DIE_LOST (R395): A die stops answering, its launches are saved and parked as DIE_LOST subjects. -/
  | dieLost (die : Nat)
  /-- SPARES_WRITE (R377): A write to SPARES sets the spare compute dies, or is ignored if more than two bits are set. -/
  | sparesWrite (k : Nat)
  /-- SLOTMIN_WRITE (R377): A write to SLOTMIN sets a class's minimum user slots, or is ignored if the total would exceed 56. -/
  | slotminWrite (k : Nat)
  /-- TLBINV (R417): A write to TLBINV drops the range's TLB entries and, with FLUSH, flushes the caches. -/
  | tlbinv (k : Nat)
  /-- PRIVHW_WRITE (R421): A write to PRIVHW changes a context's private high-water mark in every core. -/
  | privhwWrite (k : Nat)
  /-- SWAP_GO (R423): A SWCTL write with GO starts a frame swap or is refused with a code. -/
  | swapGo (k : Nat)
  /-- FWREADY_WRITE (R442): A firmware core writes FWREADY to signal that the new image is ready. -/
  | fwreadyWrite (k : Nat)
  /-- REGISTER_WRITE (R4): A write to a device register that has no behaviour of its own updates its writable fields. -/
  | registerWrite (src : WriteSrc)
  /-- TLBINV_DONE (R417): The invalidation and any flush finish and BUSY clears. -/
  | tlbinvDone
  /-- SWAP_DONE (R423): After the last line pair the engine rewrites the two leaves, drops them from the TLBs and ends redirection. -/
  | swapDone (engine : Nat)
  /-- BAR2_ACCESS (R425): A host access through the PF BAR2 window reaches device physical memory, or is dropped outside the tiers. -/
  | bar2Access (off : Nat) (data : Option (List (BitVec 8)))
  /-- CTX_CREATE (R429): Mailbox command that creates a context with its ASID, partition, permissions and routes. -/
  | ctxCreate (fn : Nat)
  /-- CTX_DESTROY (R428): Mailbox command that destroys a context and removes its bindings. -/
  | ctxDestroy (fn : Nat)
  /-- REG_READ (R428): Mailbox command that reads a device register into a host buffer. -/
  | regRead (fn : Nat)
  /-- SEAL (R399): Mailbox command that writes the HMAC sealing a translated-image cache entry. -/
  | sealEntry (fn : Nat)
  /-- CHECK (R399): Mailbox command that checks a sealed cache entry and returns a verdict. -/
  | checkEntry (fn : Nat)
  /-- ATTEST (R443): Mailbox command that snapshots state at one instant and returns a signed attestation report. -/
  | attest (fn : Nat)
  /-- CERT (R439): Mailbox command that returns the identity certificate. -/
  | cert (fn : Nat)
  /-- FW_STAGE (R441): Mailbox command that copies and verifies a Cuset image and sets HOIP. -/
  | fwStage (fn : Nat)
  /-- FW_COMMIT (R441): Mailbox command that stops the firmware cores at their step and starts the staged image. -/
  | fwCommit (fn : Nat)
  /-- PART_PEERS (R453): Mailbox command that replaces a partition's list of mappable peers. -/
  | partPeers (fn : Nat)
  /-- CTX_BIND (R429): Mailbox command that binds or unbinds a remote source context to a local context. -/
  | ctxBind (fn : Nat)
  /-- UNKNOWN_COMMAND (R428): A mailbox command code with no assignment completes with STATUS 2. -/
  | unknownCommand (fn : Nat)
  /-- MAILBOX_COMPLETE (R427): A mailbox command finishes, clearing BUSY and sending the function's vector 0. -/
  | mailboxComplete (fn : Nat)
  /-- FW_READY_TIMEOUT (R441): The new image fails to signal ready within 50 ms and the ROM recovery loader takes over. -/
  | fwReadyTimeout
  /-- DATA_FLIT (R433): A DATA flit is received, CRC-checked, sequenced, acknowledged and its transfer records taken. -/
  | dataFlit (port : Nat) (bytes : List (BitVec 8))
  /-- IDLE (R433): An IDLE flit is received and its ACK field processed. -/
  | idleFlit (port : Nat) (bytes : List (BitVec 8))
  /-- LINKCTL (R433): A LINKCTL flit is received during retrain, restarting sequencing once both ends have one. -/
  | linkctlFlit (port : Nat) (bytes : List (BitVec 8))
  /-- READ (R434): A remote READ record is performed at the peer within an input window or refused. -/
  | readRec (k : Nat) (ecc : Bool)
  /-- WRITE (R434): A remote WRITE record is performed at the peer within a writable window or refused. -/
  | writeRec (k : Nat)
  /-- RDRESP (R435): A read response arrives and completes the remote load or copy read. -/
  | rdresp (k : Nat)
  /-- WRACK (R435): A write acknowledgement arrives and completes the remote store or message. -/
  | wrack (k : Nat)
  /-- PODREG (R436): A module registers with the root of a pod barrier. -/
  | podreg (k : Nat)
  /-- PODARR (R436): Forwarded pod-barrier arrivals are summed at the root, completing the phase at EXP. -/
  | podarr (k : Nat)
  /-- PODDONE (R436): The root's phase completion releases a registered module's waiters. -/
  | poddone (k : Nat)
  /-- FTASK (R437): A remote fault task arrives and is bound to a local context or refused. -/
  | ftask (k : Nat)
  /-- PROXY (R437): A proxied state-access instruction is performed by the origin's fault engine. -/
  | proxy (k : Nat)
  /-- PROXYRESP (R437): The response of a proxied state access arrives at the remote handler. -/
  | proxyresp (k : Nat)
  /-- LINK_TIMEOUT (R432): A transfer unacknowledged for LKTO ticks is detached with LINK_TIMEOUT, or a pod forward is resent. -/
  | linkTimeout (k : Nat)
  /-- DIE_STATE (R445): Power command that changes a die's clock state. -/
  | dieState
  /-- MATRIX_GATE (R446): Power command that gates or ungates a quad's matrix engine. -/
  | matrixGate
  /-- ROUTER_GATE (R447): Power command that gates or ungates a router group, deferred if it holds entries. -/
  | routerGate
  /-- POWER_COMMAND_DONE (R444): A power command completes, clearing BUSY and sending PF vector 12. -/
  | powerCommandDone
  /-- ROUTER_WAKE (R447): The first entry sent toward a gated router wakes its group. -/
  | routerWake (grp : Nat)
  /-- ROUTER_GROUP_ON (R447): 64 mesh cycles after a wake the router group is ON and held entries flow. -/
  | routerGroupOn (grp : Nat)
  /-- FREEZE (R448): Asserting FREEZE stops every clock at one device-time tick edge. -/
  | freeze
  /-- FREEZE_RELEASE (R448): The board signal FREEZE is deasserted, and the module stays stopped until a cold reset. -/
  | freezeRelease
  /-- IDCODE (R449): TAP instruction that reads the device identification. -/
  | tapIdcode
  /-- BYPASS (R449): TAP instruction that selects the bypass register. -/
  | tapBypass
  /-- COLD_RESET (R451): Cold reset starts the ROM loader with RECOVERY set and every die in state 0. -/
  | coldReset
  /-- SCANOUT (R450): TAP instruction that shifts out the whole frozen state as blocks and records. -/
  | tapScanout (n : Nat)
  /-- SMBALERT (R452): A temperature limit crossing asserts SMBALERT and logs an event. -/
  | smbalert (sensor : Nat)
  /-- TILE_OPERATION_COMPLETE (R245): An MXCLR, MXRD, MXWR or MXSC completes some cycles after issue, writing its tiles or registers and releasing its tile-operation entry. -/
  | tileOperationComplete (grp wave slot : Nat)
  /-- PATCH_VERIFICATION_DONE (R369): Verification of a staged patch image finishes and FCTSTG's D receives its status. -/
  | patchVerificationDone
  /-- HOST_ABORT (R384): The host aborts a launch, raising HOST_ABORT for its groups and putting its queue into STATE 2. -/
  | hostAbort (launch : Nat)
  /-- VF_PARTITION_BINDING (R427): PF system software binds virtual function n to one die partition, which fixes its doorbells, mailbox reach and MSI-X vector range. -/
  | vfPartitionBinding (vf part : Nat)
  /-- DEVNUM_WRITE (R431): A write to DEVNUM sets the module's device number, and a value of 0 disables every peer-link port. -/
  | devnumWrite (val : Nat)
deriving DecidableEq, Repr

end Sys2Proof
end

