-- ==== Sys2Proof/Machine/Opcodes.lean ====
section
/-! DEFINITION. The opcode byte of every instruction (R73); 0, which is no opcode, for a step of the table that no
word stands for. -/
namespace Sys2Proof.Machine

/-- The opcode of an instruction. -/
def opcodeOf : Instr → Nat
  | .nop _ => 0x01
  | .bra _ => 0x02
  | .brx _ => 0x03
  | .call _ => 0x04
  | .callx _ => 0x05
  | .ret _ => 0x06
  | .trap _ => 0x07
  | .yield _ => 0x08
  | .stepMark _ => 0x09
  | .isync _ => 0x0A
  | .fspawn _ => 0x0B
  | .fexit _ => 0x0C
  | .waitc _ => 0x0D
  | .gets _ => 0x0E
  | .sets _ => 0x0F
  | .mjoin _ => 0x10
  | .mleave _ => 0x11
  | .mwaitm _ => 0x12
  | .mlog _ => 0x13
  | .mrd _ => 0x14
  | .mwr _ => 0x15
  | .shfl _ => 0x16
  | .vote _ => 0x17
  | .ballot _ => 0x18
  | .bara _ => 0x19
  | .barw _ => 0x1A
  | .bars _ => 0x1B
  | .barc _ => 0x1C
  | .wgrow _ => 0x1D
  | .wshrink _ => 0x1E
  | .wmove _ => 0x1F
  | .iadd _ => 0x20
  | .isub _ => 0x21
  | .imul _ => 0x22
  | .imulhI32 _ => 0x23
  | .imulhN32 _ => 0x24
  | .idivI32 _ => 0x25
  | .idivN32 _ => 0x26
  | .iremI32 _ => 0x27
  | .iremN32 _ => 0x28
  | .iminI32 _ => 0x29
  | .iminN32 _ => 0x2A
  | .imaxI32 _ => 0x2B
  | .imaxN32 _ => 0x2C
  | .iabs _ => 0x2D
  | .ineg _ => 0x2E
  | .imad _ => 0x2F
  | .andOp _ => 0x30
  | .orOp _ => 0x31
  | .xorOp _ => 0x32
  | .andn _ => 0x33
  | .notOp _ => 0x34
  | .shl _ => 0x35
  | .shr _ => 0x36
  | .sar _ => 0x37
  | .rotl _ => 0x38
  | .popc _ => 0x39
  | .clz _ => 0x3A
  | .brev _ => 0x3B
  | .bfxI32 _ => 0x3C
  | .bfxN32 _ => 0x3D
  | .bfi _ => 0x3E
  | .sel _ => 0x3F
  | .iaddi _ => 0x40
  | .andi _ => 0x41
  | .ori _ => 0x42
  | .xori _ => 0x43
  | .shli _ => 0x44
  | .shri _ => 0x45
  | .sari _ => 0x46
  | .movi _ => 0x47
  | .movl _ => 0x48
  | .mov _ => 0x49
  | .icmpI32 _ => 0x4A
  | .icmpN32 _ => 0x4B
  | .icmpiI32 _ => 0x4C
  | .icmpiN32 _ => 0x4D
  | .plog _ => 0x4E
  | .iaddl _ => 0x4F
  | .iaddB64 _ => 0x50
  | .isubB64 _ => 0x51
  | .imulwI32 _ => 0x52
  | .imulwN32 _ => 0x53
  | .shlB64 _ => 0x54
  | .shrB64 _ => 0x55
  | .sarB64 _ => 0x56
  | .icmpI64 _ => 0x57
  | .icmpN64 _ => 0x58
  | .movB64 _ => 0x59
  | .lea _ => 0x5A
  | .faddF32 _ => 0x60
  | .fsubF32 _ => 0x61
  | .fmulF32 _ => 0x62
  | .ffmaF32 _ => 0x63
  | .fminF32 _ => 0x64
  | .fmaxF32 _ => 0x65
  | .fabsF32 _ => 0x66
  | .fnegF32 _ => 0x67
  | .fcmpF32 _ => 0x68
  | .frcpF32 _ => 0x69
  | .frsqF32 _ => 0x6A
  | .fsqrtF32 _ => 0x6B
  | .fexp2F32 _ => 0x6C
  | .flog2F32 _ => 0x6D
  | .fsinF32 _ => 0x6E
  | .fcosF32 _ => 0x6F
  | .faddF32Long _ => 0x70
  | .fsubF32Long _ => 0x71
  | .fmulF32Long _ => 0x72
  | .ffmaF32Long _ => 0x73
  | .fdivF32 _ => 0x74
  | .frcpF32Long _ => 0x75
  | .frsqF32Long _ => 0x76
  | .fsqrtF32Long _ => 0x77
  | .faddF64 _ => 0x80
  | .fmulF64 _ => 0x81
  | .ffmaF64 _ => 0x82
  | .fdivF64 _ => 0x83
  | .fsqrtF64 _ => 0x84
  | .fminF64 _ => 0x85
  | .fmaxF64 _ => 0x86
  | .fcmpF64 _ => 0x87
  | .faddF16x2 _ => 0x88
  | .fmulF16x2 _ => 0x89
  | .ffmaF16x2 _ => 0x8A
  | .faddBf16x2 _ => 0x8B
  | .fmulBf16x2 _ => 0x8C
  | .ffmaBf16x2 _ => 0x8D
  | .fdotF16x2 _ => 0x8E
  | .fdotBf16x2 _ => 0x8F
  | .cvt _ => 0x90
  | .packTf8 _ => 0x91
  | .packTf6 _ => 0x92
  | .packF16 _ => 0x93
  | .packBf16 _ => 0x94
  | .unpkTf8 _ => 0x95
  | .unpkTf6 _ => 0x96
  | .unpkF16 _ => 0x97
  | .unpkBf16 _ => 0x98
  | .schist _ => 0x99
  | .scale _ => 0x9A
  | .retag _ => 0x9B
  | .ld _ => 0xA0
  | .ldOff _ => 0xA0
  | .ldInv _ => 0xA1
  | .ldInvOff _ => 0xA1
  | .ldNf _ => 0xA2
  | .ldNfOff _ => 0xA2
  | .ldInvNf _ => 0xA3
  | .ldInvNfOff _ => 0xA3
  | .st _ => 0xA4
  | .stOff _ => 0xA4
  | .ldb _ => 0xA5
  | .ldbOff _ => 0xA5
  | .ldbInv _ => 0xA6
  | .ldbInvOff _ => 0xA6
  | .ldbNf _ => 0xA7
  | .ldbNfOff _ => 0xA7
  | .stb _ => 0xA8
  | .stbOff _ => 0xA8
  | .pgreq _ => 0xA9
  | .pgreqOff _ => 0xA9
  | .lds _ => 0xAA
  | .ldsOff _ => 0xAA
  | .sts _ => 0xAB
  | .stsOff _ => 0xAB
  | .ldq _ => 0xAC
  | .ldqOff _ => 0xAC
  | .stq _ => 0xAD
  | .stqOff _ => 0xAD
  | .ldnw _ => 0xAE
  | .ldnwOff _ => 0xAE
  | .stnw _ => 0xAF
  | .stnwOff _ => 0xAF
  | .cpg2s _ => 0xB0
  | .cpg2sExt _ => 0xB0
  | .cps2g _ => 0xB1
  | .cps2gExt _ => 0xB1
  | .cpx _ => 0xB2
  | .cpxExt _ => 0xB2
  | .cpfence _ => 0xB3
  | .twany _ => 0xB4
  | .twall _ => 0xB5
  | .tfirst _ => 0xB6
  | .mxgo _ => 0xB8
  | .mxclr _ => 0xB9
  | .mxrd _ => 0xBA
  | .mxwr _ => 0xBB
  | .mxsc _ => 0xBC
  | .mxhist _ => 0xBD
  | .mxwait _ => 0xBE
  | .atadd _ => 0xC0
  | .atminI32 _ => 0xC1
  | .atminN32 _ => 0xC2
  | .atmaxI32 _ => 0xC3
  | .atmaxN32 _ => 0xC4
  | .atand _ => 0xC5
  | .ator _ => 0xC6
  | .atxor _ => 0xC7
  | .atxchg _ => 0xC8
  | .atcas _ => 0xC9
  | .ataddB64 _ => 0xCA
  | .atcasB64 _ => 0xCB
  | .redaddF32 _ => 0xCC
  | .redaddBf16x2 _ => 0xCD
  | .ldAcq _ => 0xCE
  | .ldAcqOff _ => 0xCE
  | .stRel _ => 0xCF
  | .stRelOff _ => 0xCF
  | .fence _ => 0xD0
  | .mwait _ => 0xD1
  | .objreg _ => 0xD2
  | .objdrop _ => 0xD3
  | .clpush _ => 0xD4
  | .clpop _ => 0xD5
  | .shrd _ => 0xD6
  | .shwr _ => 0xD7
  | .shrg _ => 0xD8
  | .shwg _ => 0xD9
  | .shfin _ => 0xDA
  | .fctret _ => 0xE0
  | .fctstg _ => 0xE1
  | .fctact _ => 0xE2
  | .fctrd _ => 0xE3
  | .qmap _ => 0xE4
  | .qunmap _ => 0xE5
  | .preempt _ => 0xE6
  | .nonInstructionWord _ => 0
  | .facetTrap _ => 0
  | .facetRewrite _ => 0
  | .facetEmulateEntry _ => 0
  | .emulationLimit _ _ => 0
  | .regroupBoundary _ => 0
  | .wgrowGrant _ => 0
  | .regPoolDeadlock _ => 0
  | .loadComplete _ _ => 0
  | .storeComplete _ => 0
  | .isyncComplete _ _ _ => 0
  | .channelEntry _ => 0
  | .channelAck _ => 0
  | .channelNack _ => 0
  | .backoffExpiry _ => 0
  | .congestionWindowEnd _ _ => 0
  | .copyBegin _ _ => 0
  | .segmentComplete _ _ _ _ => 0
  | .copyCompletion _ _ => 0
  | .passGrant _ _ => 0
  | .passCommitDone _ => 0
  | .mxhistServe _ => 0
  | .lateItemArrival _ => 0
  | .scaleLineFill _ _ _ => 0
  | .passResidueCheck _ _ => 0
  | .sliceRequest _ _ => 0
  | .sliceFill _ _ _ _ => 0
  | .l1Revoke _ => 0
  | .revokeAck _ => 0
  | .mwaitTimeout _ _ => 0
  | .claspArrival _ => 0
  | .dwellExpiry _ _ => 0
  | .fallThrough _ _ => 0
  | .genTableWrite _ => 0
  | .genTableAck _ => 0
  | .subjectPark _ => 0
  | .heldSubjectRecord _ => 0
  | .faulttask _ _ _ _ => 0
  | .taskDeadline _ => 0
  | .budgetExpired _ => 0
  | .preemptRequest _ => 0
  | .groupSave _ => 0
  | .groupRestore _ _ => 0
  | .groupAdmit _ => 0
  | .tlbLookup _ _ => 0
  | .walkComplete _ _ _ _ => 0
  | .pgreqResident _ => 0
  | .doorbell _ _ _ => 0
  | .nopPacket _ _ => 0
  | .launchPacket _ _ _ => 0
  | .barrierPacket _ _ => 0
  | .barrierResolve _ _ => 0
  | .signalPacket _ _ => 0
  | .copyPacket _ _ => 0
  | .qfencePacket _ _ => 0
  | .qfenceSatisfied _ _ => 0
  | .stepmarkPacket _ _ => 0
  | .queueTimeslice _ _ => 0
  | .msixDeadline _ _ => 0
  | .dieLost _ => 0
  | .sparesWrite _ => 0
  | .slotminWrite _ => 0
  | .tlbinv _ => 0
  | .privhwWrite _ => 0
  | .swapGo _ => 0
  | .fwreadyWrite _ => 0
  | .registerWrite _ => 0
  | .tlbinvDone => 0
  | .swapDone _ => 0
  | .bar2Access _ _ => 0
  | .ctxCreate _ => 0
  | .ctxDestroy _ => 0
  | .regRead _ => 0
  | .sealEntry _ => 0
  | .checkEntry _ => 0
  | .attest _ => 0
  | .cert _ => 0
  | .fwStage _ => 0
  | .fwCommit _ => 0
  | .partPeers _ => 0
  | .ctxBind _ => 0
  | .unknownCommand _ => 0
  | .mailboxComplete _ => 0
  | .fwReadyTimeout => 0
  | .dataFlit _ _ => 0
  | .idleFlit _ _ => 0
  | .linkctlFlit _ _ => 0
  | .readRec _ _ => 0
  | .writeRec _ => 0
  | .rdresp _ => 0
  | .wrack _ => 0
  | .podreg _ => 0
  | .podarr _ => 0
  | .poddone _ => 0
  | .ftask _ => 0
  | .proxy _ => 0
  | .proxyresp _ => 0
  | .linkTimeout _ => 0
  | .dieState => 0
  | .matrixGate => 0
  | .routerGate => 0
  | .powerCommandDone => 0
  | .routerWake _ => 0
  | .routerGroupOn _ => 0
  | .freeze => 0
  | .freezeRelease => 0
  | .tapIdcode => 0
  | .tapBypass => 0
  | .coldReset => 0
  | .tapScanout _ => 0
  | .smbalert _ => 0
  | .tileOperationComplete _ _ _ => 0
  | .patchVerificationDone => 0
  | .hostAbort _ => 0
  | .vfPartitionBinding _ _ => 0
  | .devnumWrite _ => 0

end Sys2Proof.Machine
end

