-- ==== Sys2Proof/Decode.lean ====
section
/-! DEFINITION. Decoding (R60-R76): the words of an instruction to its constructor, total, with a name
for each refusal, and the encoder written from the same format tables. Reserved FIELDS are refused here;
reserved VALUES and bad register groups are judged from the decoded instruction, in `Machine.Operands`,
so that each raises the cause R76 gives it in R76's order. -/
namespace Sys2Proof

/-- Bits [lo+n-1 : lo] of a word. -/
def field (w lo n : Nat) : Nat := w / 2 ^ lo % 2 ^ n

/-- The register that a 7-bit field names (R64). -/
def regOf (code : Nat) : Reg := if code < 96 then .v code else .k (code - 96)

/-- The 7-bit code of a register (R64). -/
def regCode : Reg → Nat
  | .v n => n
  | .k n => 96 + n

/-- Every listed run of bits, given as lowest bit and width, is zero (R63). -/
def runsZero (w : Nat) (runs : List (Nat × Nat)) : Bool := runs.all fun r => field w r.1 r.2 == 0

/-- Why words do not decode (R75, R63). -/
inductive DecodeError where
  /-- the first word is 0x0000_0000 (ZERO_WORD) -/
  | zeroWord
  /-- the first word is 0xFFFF_FFFF or has an unassigned opcode (ILLEGAL_OPCODE) -/
  | illegalOpcode
  /-- a reserved field is not zero (RESERVED_FIELD) -/
  | reservedField
  /-- the bytes end before the instruction does -/
  | truncated
deriving DecidableEq, Repr

/-- Reads no operand (formats W and A with every field reserved). -/
def decN (w0 _ : Nat) : Option Form.N :=
  if runsZero w0 [(0, 21)] then
    some { g := field w0 21 3 }
  else none
/-- Writes no operand (formats W and A with every field reserved). -/
def encN (op : Nat) (o : Form.N) : Nat × Option Nat :=
  (op * 2 ^ 24 + o.g * 2 ^ 21, none)

/-- Reads format B: a branch offset in words (R66). -/
def decB (w0 _ : Nat) : Option Form.B :=
  some { g := field w0 21 3, off := field w0 0 21 }
/-- Writes format B: a branch offset in words (R66). -/
def encB (op : Nat) (o : Form.B) : Nat × Option Nat :=
  (op * 2 ^ 24 + o.g * 2 ^ 21 + o.off, none)

/-- Reads format A, source A alone. -/
def decA1 (w0 _ : Nat) : Option Form.A1 :=
  if runsZero w0 [(0, 7), (14, 7)] then
    some { g := field w0 21 3, a := regOf (field w0 7 7) }
  else none
/-- Writes format A, source A alone. -/
def encA1 (op : Nat) (o : Form.A1) : Nat × Option Nat :=
  (op * 2 ^ 24 + o.g * 2 ^ 21 + regCode o.a * 2 ^ 7, none)

/-- Reads format M with no data register and an offset word (PGREQ, R68). -/
def decA1Off (w0 w1 : Nat) : Option Form.A1Off :=
  if runsZero w0 [(1, 6), (14, 7)] then
    some { g := field w0 21 3, a := regOf (field w0 7 7), off := field w1 0 32 }
  else none
/-- Writes format M with no data register and an offset word (PGREQ, R68). -/
def encA1Off (op : Nat) (o : Form.A1Off) : Nat × Option Nat :=
  (op * 2 ^ 24 + o.g * 2 ^ 21 + regCode o.a * 2 ^ 7 + 1, some (o.off))

/-- Reads format I with D reserved. -/
def decI (w0 _ : Nat) : Option Form.I :=
  if runsZero w0 [(14, 7)] then
    some { g := field w0 21 3, imm := field w0 0 14 }
  else none
/-- Writes format I with D reserved. -/
def encI (op : Nat) (o : Form.I) : Nat × Option Nat :=
  (op * 2 ^ 24 + o.g * 2 ^ 21 + o.imm, none)

/-- Reads format I. -/
def decDI (w0 _ : Nat) : Option Form.DI :=
  some { g := field w0 21 3, d := regOf (field w0 14 7), imm := field w0 0 14 }
/-- Writes format I. -/
def encDI (op : Nat) (o : Form.DI) : Nat × Option Nat :=
  (op * 2 ^ 24 + o.g * 2 ^ 21 + regCode o.d * 2 ^ 14 + o.imm, none)

/-- Reads format A, sources A and B. -/
def decAB (w0 _ : Nat) : Option Form.AB :=
  if runsZero w0 [(14, 7)] then
    some { g := field w0 21 3, a := regOf (field w0 7 7), b := regOf (field w0 0 7) }
  else none
/-- Writes format A, sources A and B. -/
def encAB (op : Nat) (o : Form.AB) : Nat × Option Nat :=
  (op * 2 ^ 24 + o.g * 2 ^ 21 + regCode o.a * 2 ^ 7 + regCode o.b, none)

/-- Reads format A, D and A. -/
def decDA (w0 _ : Nat) : Option Form.DA :=
  if runsZero w0 [(0, 7)] then
    some { g := field w0 21 3, d := regOf (field w0 14 7), a := regOf (field w0 7 7) }
  else none
/-- Writes format A, D and A. -/
def encDA (op : Nat) (o : Form.DA) : Nat × Option Nat :=
  (op * 2 ^ 24 + o.g * 2 ^ 21 + regCode o.d * 2 ^ 14 + regCode o.a * 2 ^ 7, none)

/-- Reads format A. -/
def decDAB (w0 _ : Nat) : Option Form.DAB :=
  some { g := field w0 21 3, d := regOf (field w0 14 7), a := regOf (field w0 7 7), b := regOf (field w0 0 7) }
/-- Writes format A. -/
def encDAB (op : Nat) (o : Form.DAB) : Nat × Option Nat :=
  (op * 2 ^ 24 + o.g * 2 ^ 21 + regCode o.d * 2 ^ 14 + regCode o.a * 2 ^ 7 + regCode o.b, none)

/-- Reads format X with C and F7 reserved. -/
def decDABx (w0 w1 : Nat) : Option Form.DABx :=
  if runsZero w1 [(0, 32)] then
    some { g := field w0 21 3, d := regOf (field w0 14 7), a := regOf (field w0 7 7), b := regOf (field w0 0 7) }
  else none
/-- Writes format X with C and F7 reserved. -/
def encDABx (op : Nat) (o : Form.DABx) : Nat × Option Nat :=
  (op * 2 ^ 24 + o.g * 2 ^ 21 + regCode o.d * 2 ^ 14 + regCode o.a * 2 ^ 7 + regCode o.b, some (0))

/-- Reads format X with F7 reserved (R67). -/
def decDABC (w0 w1 : Nat) : Option Form.DABC :=
  if runsZero w1 [(0, 25)] then
    some { g := field w0 21 3, d := regOf (field w0 14 7), a := regOf (field w0 7 7), b := regOf (field w0 0 7), c := regOf (field w1 25 7) }
  else none
/-- Writes format X with F7 reserved (R67). -/
def encDABC (op : Nat) (o : Form.DABC) : Nat × Option Nat :=
  (op * 2 ^ 24 + o.g * 2 ^ 21 + regCode o.d * 2 ^ 14 + regCode o.a * 2 ^ 7 + regCode o.b, some (regCode o.c * 2 ^ 25))

/-- Reads format AI. -/
def decDAI (w0 _ : Nat) : Option Form.DAI :=
  some { g := field w0 21 3, d := regOf (field w0 14 7), a := regOf (field w0 7 7), imm := field w0 0 7 }
/-- Writes format AI. -/
def encDAI (op : Nat) (o : Form.DAI) : Nat × Option Nat :=
  (op * 2 ^ 24 + o.g * 2 ^ 21 + regCode o.d * 2 ^ 14 + regCode o.a * 2 ^ 7 + o.imm, none)

/-- Reads format C. -/
def decC (w0 _ : Nat) : Option Form.C :=
  some { g := field w0 21 3, pd := field w0 18 3, cc := field w0 14 4, a := regOf (field w0 7 7), b := regOf (field w0 0 7) }
/-- Writes format C. -/
def encC (op : Nat) (o : Form.C) : Nat × Option Nat :=
  (op * 2 ^ 24 + o.g * 2 ^ 21 + o.pd * 2 ^ 18 + o.cc * 2 ^ 14 + regCode o.a * 2 ^ 7 + regCode o.b, none)

/-- Reads format C with an immediate. -/
def decCI (w0 _ : Nat) : Option Form.CI :=
  some { g := field w0 21 3, pd := field w0 18 3, cc := field w0 14 4, a := regOf (field w0 7 7), imm := field w0 0 7 }
/-- Writes format C with an immediate. -/
def encCI (op : Nat) (o : Form.CI) : Nat × Option Nat :=
  (op * 2 ^ 24 + o.g * 2 ^ 21 + o.pd * 2 ^ 18 + o.cc * 2 ^ 14 + regCode o.a * 2 ^ 7 + o.imm, none)

/-- Reads format W: one mask MD (R70). -/
def decM1 (w0 _ : Nat) : Option Form.M1 :=
  if runsZero w0 [(0, 17)] then
    some { g := field w0 21 3, md := field w0 17 4 }
  else none
/-- Writes format W: one mask MD (R70). -/
def encM1 (op : Nat) (o : Form.M1) : Nat × Option Nat :=
  (op * 2 ^ 24 + o.g * 2 ^ 21 + o.md * 2 ^ 17, none)

/-- Reads format W of MLOG (R70). -/
def decMlog (w0 _ : Nat) : Option Form.Mlog :=
  if runsZero w0 [(0, 6)] then
    some { g := field w0 21 3, md := field w0 17 4, ma := field w0 13 4, mb := field w0 9 4, op := field w0 6 3 }
  else none
/-- Writes format W of MLOG (R70). -/
def encMlog (op : Nat) (o : Form.Mlog) : Nat × Option Nat :=
  (op * 2 ^ 24 + o.g * 2 ^ 21 + o.md * 2 ^ 17 + o.ma * 2 ^ 13 + o.mb * 2 ^ 9 + o.op * 2 ^ 6, none)

/-- Reads format W of MRD (R70). -/
def decMrd (w0 _ : Nat) : Option Form.Mrd :=
  if runsZero w0 [(0, 10)] then
    some { g := field w0 21 3, d := regOf (field w0 14 7), ma := field w0 10 4 }
  else none
/-- Writes format W of MRD (R70). -/
def encMrd (op : Nat) (o : Form.Mrd) : Nat × Option Nat :=
  (op * 2 ^ 24 + o.g * 2 ^ 21 + regCode o.d * 2 ^ 14 + o.ma * 2 ^ 10, none)

/-- Reads format W of MWR (R70). -/
def decMwr (w0 _ : Nat) : Option Form.Mwr :=
  if runsZero w0 [(0, 7), (14, 3)] then
    some { g := field w0 21 3, md := field w0 17 4, a := regOf (field w0 7 7) }
  else none
/-- Writes format W of MWR (R70). -/
def encMwr (op : Nat) (o : Form.Mwr) : Nat × Option Nat :=
  (op * 2 ^ 24 + o.g * 2 ^ 21 + o.md * 2 ^ 17 + regCode o.a * 2 ^ 7, none)

/-- Reads format X of SHFL (R135). -/
def decShfl (w0 w1 : Nat) : Option Form.Shfl :=
  if runsZero w1 [(0, 18), (25, 7)] then
    some { g := field w0 21 3, d := regOf (field w0 14 7), a := regOf (field w0 7 7), b := regOf (field w0 0 7), ma := field w1 21 4, pd := field w1 18 3 }
  else none
/-- Writes format X of SHFL (R135). -/
def encShfl (op : Nat) (o : Form.Shfl) : Nat × Option Nat :=
  (op * 2 ^ 24 + o.g * 2 ^ 21 + regCode o.d * 2 ^ 14 + regCode o.a * 2 ^ 7 + regCode o.b, some (o.ma * 2 ^ 21 + o.pd * 2 ^ 18))

/-- Reads format W of VOTE (R70). -/
def decVote (w0 _ : Nat) : Option Form.Vote :=
  if runsZero w0 [(0, 9)] then
    some { g := field w0 21 3, pd := field w0 18 3, op := field w0 16 2, ma := field w0 12 4, pa := field w0 9 3 }
  else none
/-- Writes format W of VOTE (R70). -/
def encVote (op : Nat) (o : Form.Vote) : Nat × Option Nat :=
  (op * 2 ^ 24 + o.g * 2 ^ 21 + o.pd * 2 ^ 18 + o.op * 2 ^ 16 + o.ma * 2 ^ 12 + o.pa * 2 ^ 9, none)

/-- Reads format W of BALLOT (R70). -/
def decBallot (w0 _ : Nat) : Option Form.Ballot :=
  if runsZero w0 [(0, 7)] then
    some { g := field w0 21 3, d := regOf (field w0 14 7), ma := field w0 10 4, pa := field w0 7 3 }
  else none
/-- Writes format W of BALLOT (R70). -/
def encBallot (op : Nat) (o : Form.Ballot) : Nat × Option Nat :=
  (op * 2 ^ 24 + o.g * 2 ^ 21 + regCode o.d * 2 ^ 14 + o.ma * 2 ^ 10 + o.pa * 2 ^ 7, none)

/-- Reads format Y of BARA, with its token bit (R138). -/
def decBara (w0 _ : Nat) : Option Form.Bara :=
  if runsZero w0 [(1, 2)] then
    some { g := field w0 21 3, scope := field w0 18 3, id := field w0 10 8, a := regOf (field w0 3 7), token := field w0 0 1 }
  else none
/-- Writes format Y of BARA, with its token bit (R138). -/
def encBara (op : Nat) (o : Form.Bara) : Nat × Option Nat :=
  (op * 2 ^ 24 + o.g * 2 ^ 21 + o.scope * 2 ^ 18 + o.id * 2 ^ 10 + regCode o.a * 2 ^ 3 + o.token, none)

/-- Reads format Y with a register (R138). -/
def decBarA (w0 _ : Nat) : Option Form.BarA :=
  if runsZero w0 [(0, 3)] then
    some { g := field w0 21 3, scope := field w0 18 3, id := field w0 10 8, a := regOf (field w0 3 7) }
  else none
/-- Writes format Y with a register (R138). -/
def encBarA (op : Nat) (o : Form.BarA) : Nat × Option Nat :=
  (op * 2 ^ 24 + o.g * 2 ^ 21 + o.scope * 2 ^ 18 + o.id * 2 ^ 10 + regCode o.a * 2 ^ 3, none)

/-- Reads format Y without a register (R138). -/
def decBar (w0 _ : Nat) : Option Form.Bar :=
  if runsZero w0 [(0, 10)] then
    some { g := field w0 21 3, scope := field w0 18 3, id := field w0 10 8 }
  else none
/-- Writes format Y without a register (R138). -/
def encBar (op : Nat) (o : Form.Bar) : Nat × Option Nat :=
  (op * 2 ^ 24 + o.g * 2 ^ 21 + o.scope * 2 ^ 18 + o.id * 2 ^ 10, none)

/-- Reads format W of WAITC (R143). -/
def decWaitc (w0 _ : Nat) : Option Form.Waitc :=
  if runsZero w0 [(16, 5)] then
    some { g := field w0 21 3, nl := field w0 12 4, ns := field w0 8 4, nc := field w0 4 4, nt := field w0 0 4 }
  else none
/-- Writes format W of WAITC (R143). -/
def encWaitc (op : Nat) (o : Form.Waitc) : Nat × Option Nat :=
  (op * 2 ^ 24 + o.g * 2 ^ 21 + o.nl * 2 ^ 12 + o.ns * 2 ^ 8 + o.nc * 2 ^ 4 + o.nt, none)

/-- Reads format W of PLOG (R157). -/
def decPlog (w0 _ : Nat) : Option Form.Plog :=
  if runsZero w0 [(0, 8)] then
    some { g := field w0 21 3, pd := field w0 18 3, pa := field w0 15 3, pb := field w0 12 3, tt := field w0 8 4 }
  else none
/-- Writes format W of PLOG (R157). -/
def encPlog (op : Nat) (o : Form.Plog) : Nat × Option Nat :=
  (op * 2 ^ 24 + o.g * 2 ^ 21 + o.pd * 2 ^ 18 + o.pa * 2 ^ 15 + o.pb * 2 ^ 12 + o.tt * 2 ^ 8, none)

/-- Reads format X of SEL (R153). -/
def decSel (w0 w1 : Nat) : Option Form.Sel :=
  if runsZero w1 [(0, 22), (25, 7)] then
    some { g := field w0 21 3, d := regOf (field w0 14 7), a := regOf (field w0 7 7), b := regOf (field w0 0 7), ps := field w1 22 3 }
  else none
/-- Writes format X of SEL (R153). -/
def encSel (op : Nat) (o : Form.Sel) : Nat × Option Nat :=
  (op * 2 ^ 24 + o.g * 2 ^ 21 + regCode o.d * 2 ^ 14 + regCode o.a * 2 ^ 7 + regCode o.b, some (o.ps * 2 ^ 22))

/-- Reads format L of MOVL (R154). -/
def decMovl (w0 w1 : Nat) : Option Form.Movl :=
  if runsZero w0 [(4, 10)] then
    some { g := field w0 21 3, d := regOf (field w0 14 7), ty := field w0 0 4, imm := field w1 0 32 }
  else none
/-- Writes format L of MOVL (R154). -/
def encMovl (op : Nat) (o : Form.Movl) : Nat × Option Nat :=
  (op * 2 ^ 24 + o.g * 2 ^ 21 + regCode o.d * 2 ^ 14 + o.ty, some (o.imm))

/-- Reads format L of IADDL (R154). -/
def decIaddl (w0 w1 : Nat) : Option Form.Iaddl :=
  if runsZero w0 [(0, 7)] then
    some { g := field w0 21 3, d := regOf (field w0 14 7), a := regOf (field w0 7 7), imm := field w1 0 32 }
  else none
/-- Writes format L of IADDL (R154). -/
def encIaddl (op : Nat) (o : Form.Iaddl) : Nat × Option Nat :=
  (op * 2 ^ 24 + o.g * 2 ^ 21 + regCode o.d * 2 ^ 14 + regCode o.a * 2 ^ 7, some (o.imm))

/-- Reads format X of LEA (R155). -/
def decLea (w0 w1 : Nat) : Option Form.Lea :=
  if runsZero w1 [(0, 22), (25, 7)] then
    some { g := field w0 21 3, d := regOf (field w0 14 7), a := regOf (field w0 7 7), b := regOf (field w0 0 7), sh := field w1 22 3 }
  else none
/-- Writes format X of LEA (R155). -/
def encLea (op : Nat) (o : Form.Lea) : Nat × Option Nat :=
  (op * 2 ^ 24 + o.g * 2 ^ 21 + regCode o.d * 2 ^ 14 + regCode o.a * 2 ^ 7 + regCode o.b, some (o.sh * 2 ^ 22))

/-- Reads format X, floating point, one source (R67, R160). -/
def decFp1 (w0 w1 : Nat) : Option Form.Fp1 :=
  if runsZero w0 [(0, 7)] && runsZero w1 [(0, 20), (25, 7)] then
    some { g := field w0 21 3, d := regOf (field w0 14 7), a := regOf (field w0 7 7), rnd := field w1 22 3, sat := field w1 21 1, na := field w1 20 1 }
  else none
/-- Writes format X, floating point, one source (R67, R160). -/
def encFp1 (op : Nat) (o : Form.Fp1) : Nat × Option Nat :=
  (op * 2 ^ 24 + o.g * 2 ^ 21 + regCode o.d * 2 ^ 14 + regCode o.a * 2 ^ 7, some (o.rnd * 2 ^ 22 + o.sat * 2 ^ 21 + o.na * 2 ^ 20))

/-- Reads format X, floating point, two sources (R67, R160). -/
def decFp2 (w0 w1 : Nat) : Option Form.Fp2 :=
  if runsZero w1 [(0, 19), (25, 7)] then
    some { g := field w0 21 3, d := regOf (field w0 14 7), a := regOf (field w0 7 7), b := regOf (field w0 0 7), rnd := field w1 22 3, sat := field w1 21 1, na := field w1 20 1, nb := field w1 19 1 }
  else none
/-- Writes format X, floating point, two sources (R67, R160). -/
def encFp2 (op : Nat) (o : Form.Fp2) : Nat × Option Nat :=
  (op * 2 ^ 24 + o.g * 2 ^ 21 + regCode o.d * 2 ^ 14 + regCode o.a * 2 ^ 7 + regCode o.b, some (o.rnd * 2 ^ 22 + o.sat * 2 ^ 21 + o.na * 2 ^ 20 + o.nb * 2 ^ 19))

/-- Reads format X, floating point, three sources (R67, R160). -/
def decFp3 (w0 w1 : Nat) : Option Form.Fp3 :=
  if runsZero w1 [(0, 18)] then
    some { g := field w0 21 3, d := regOf (field w0 14 7), a := regOf (field w0 7 7), b := regOf (field w0 0 7), c := regOf (field w1 25 7), rnd := field w1 22 3, sat := field w1 21 1, na := field w1 20 1, nb := field w1 19 1, nc := field w1 18 1 }
  else none
/-- Writes format X, floating point, three sources (R67, R160). -/
def encFp3 (op : Nat) (o : Form.Fp3) : Nat × Option Nat :=
  (op * 2 ^ 24 + o.g * 2 ^ 21 + regCode o.d * 2 ^ 14 + regCode o.a * 2 ^ 7 + regCode o.b, some (regCode o.c * 2 ^ 25 + o.rnd * 2 ^ 22 + o.sat * 2 ^ 21 + o.na * 2 ^ 20 + o.nb * 2 ^ 19 + o.nc * 2 ^ 18))

/-- Reads format XC (R67, R171). -/
def decCvt (w0 w1 : Nat) : Option Form.Cvt :=
  if runsZero w0 [(0, 7)] && runsZero w1 [(0, 20)] then
    some { g := field w0 21 3, d := regOf (field w0 14 7), a := regOf (field w0 7 7), df := field w1 28 4, sf := field w1 24 4, rnd := field w1 21 3, sat := field w1 20 1 }
  else none
/-- Writes format XC (R67, R171). -/
def encCvt (op : Nat) (o : Form.Cvt) : Nat × Option Nat :=
  (op * 2 ^ 24 + o.g * 2 ^ 21 + regCode o.d * 2 ^ 14 + regCode o.a * 2 ^ 7, some (o.df * 2 ^ 28 + o.sf * 2 ^ 24 + o.rnd * 2 ^ 21 + o.sat * 2 ^ 20))

/-- Reads format AI of RETAG (R178). -/
def decRetag (w0 _ : Nat) : Option Form.Retag :=
  if runsZero w0 [(4, 3)] then
    some { g := field w0 21 3, d := regOf (field w0 14 7), a := regOf (field w0 7 7), ty := field w0 0 4 }
  else none
/-- Writes format AI of RETAG (R178). -/
def encRetag (op : Nat) (o : Form.Retag) : Nat × Option Nat :=
  (op * 2 ^ 24 + o.g * 2 ^ 21 + regCode o.d * 2 ^ 14 + regCode o.a * 2 ^ 7 + o.ty, none)

/-- Reads format M without an offset word (R68). -/
def decMem (w0 _ : Nat) : Option Form.Mem :=
  if runsZero w0 [(0, 1)] then
    some { g := field w0 21 3, d := regOf (field w0 14 7), a := regOf (field w0 7 7), w := field w0 5 2, ty := field w0 1 4 }
  else none
/-- Writes format M without an offset word (R68). -/
def encMem (op : Nat) (o : Form.Mem) : Nat × Option Nat :=
  (op * 2 ^ 24 + o.g * 2 ^ 21 + regCode o.d * 2 ^ 14 + regCode o.a * 2 ^ 7 + o.w * 2 ^ 5 + o.ty * 2 ^ 1, none)

/-- Reads format M with an offset word (R68). -/
def decMemOff (w0 w1 : Nat) : Option Form.MemOff :=
  some { g := field w0 21 3, d := regOf (field w0 14 7), a := regOf (field w0 7 7), w := field w0 5 2, ty := field w0 1 4, off := field w1 0 32 }
/-- Writes format M with an offset word (R68). -/
def encMemOff (op : Nat) (o : Form.MemOff) : Nat × Option Nat :=
  (op * 2 ^ 24 + o.g * 2 ^ 21 + regCode o.d * 2 ^ 14 + regCode o.a * 2 ^ 7 + o.w * 2 ^ 5 + o.ty * 2 ^ 1 + 1, some (o.off))

/-- Reads format G without a second word (R69). -/
def decCp (w0 _ : Nat) : Option Form.Cp :=
  if runsZero w0 [(0, 1)] then
    some { g := field w0 21 3, tag := field w0 15 6, a := regOf (field w0 8 7), b := regOf (field w0 1 7) }
  else none
/-- Writes format G without a second word (R69). -/
def encCp (op : Nat) (o : Form.Cp) : Nat × Option Nat :=
  (op * 2 ^ 24 + o.g * 2 ^ 21 + o.tag * 2 ^ 15 + regCode o.a * 2 ^ 8 + regCode o.b * 2 ^ 1, none)

/-- Reads format G with its copy extension (R69). -/
def decCpExt (w0 w1 : Nat) : Option Form.CpExt :=
  if runsZero w1 [(14, 18)] then
    some { g := field w0 21 3, tag := field w0 15 6, a := regOf (field w0 8 7), b := regOf (field w0 1 7), queue := field w1 0 2, bar := field w1 2 1, scope := field w1 3 3, id := field w1 6 8 }
  else none
/-- Writes format G with its copy extension (R69). -/
def encCpExt (op : Nat) (o : Form.CpExt) : Nat × Option Nat :=
  (op * 2 ^ 24 + o.g * 2 ^ 21 + o.tag * 2 ^ 15 + regCode o.a * 2 ^ 8 + regCode o.b * 2 ^ 1 + 1, some (o.queue + o.bar * 2 ^ 2 + o.scope * 2 ^ 3 + o.id * 2 ^ 6))

/-- Reads format W of CPFENCE (R70). -/
def decQm (w0 _ : Nat) : Option Form.Qm :=
  if runsZero w0 [(4, 17)] then
    some { g := field w0 21 3, qm := field w0 0 4 }
  else none
/-- Writes format W of CPFENCE (R70). -/
def encQm (op : Nat) (o : Form.Qm) : Nat × Option Nat :=
  (op * 2 ^ 24 + o.g * 2 ^ 21 + o.qm, none)

/-- Reads format W of MXCLR (R70). -/
def decTm (w0 _ : Nat) : Option Form.Tm :=
  if runsZero w0 [(16, 5)] then
    some { g := field w0 21 3, tm := field w0 0 16 }
  else none
/-- Writes format W of MXCLR (R70). -/
def encTm (op : Nat) (o : Form.Tm) : Nat × Option Nat :=
  (op * 2 ^ 24 + o.g * 2 ^ 21 + o.tm, none)

/-- Reads format X of an atomic with one data source (R278). -/
def decAt (w0 w1 : Nat) : Option Form.At :=
  if runsZero w1 [(0, 23), (25, 7)] then
    some { g := field w0 21 3, d := regOf (field w0 14 7), a := regOf (field w0 7 7), b := regOf (field w0 0 7), ord := field w1 23 2 }
  else none
/-- Writes format X of an atomic with one data source (R278). -/
def encAt (op : Nat) (o : Form.At) : Nat × Option Nat :=
  (op * 2 ^ 24 + o.g * 2 ^ 21 + regCode o.d * 2 ^ 14 + regCode o.a * 2 ^ 7 + regCode o.b, some (o.ord * 2 ^ 23))

/-- Reads format X of a compare-and-swap (R278). -/
def decAt3 (w0 w1 : Nat) : Option Form.At3 :=
  if runsZero w1 [(0, 23)] then
    some { g := field w0 21 3, d := regOf (field w0 14 7), a := regOf (field w0 7 7), b := regOf (field w0 0 7), c := regOf (field w1 25 7), ord := field w1 23 2 }
  else none
/-- Writes format X of a compare-and-swap (R278). -/
def encAt3 (op : Nat) (o : Form.At3) : Nat × Option Nat :=
  (op * 2 ^ 24 + o.g * 2 ^ 21 + regCode o.d * 2 ^ 14 + regCode o.a * 2 ^ 7 + regCode o.b, some (regCode o.c * 2 ^ 25 + o.ord * 2 ^ 23))

/-- Reads format X of a reduction (R278). -/
def decRed (w0 w1 : Nat) : Option Form.Red :=
  if runsZero w0 [(14, 7)] && runsZero w1 [(0, 23), (25, 7)] then
    some { g := field w0 21 3, a := regOf (field w0 7 7), b := regOf (field w0 0 7), ord := field w1 23 2 }
  else none
/-- Writes format X of a reduction (R278). -/
def encRed (op : Nat) (o : Form.Red) : Nat × Option Nat :=
  (op * 2 ^ 24 + o.g * 2 ^ 21 + regCode o.a * 2 ^ 7 + regCode o.b, some (o.ord * 2 ^ 23))

/-- Reads format W of FENCE (R285). -/
def decFence (w0 _ : Nat) : Option Form.Fence :=
  if runsZero w0 [(0, 18)] then
    some { g := field w0 21 3, kind := field w0 18 3 }
  else none
/-- Writes format W of FENCE (R285). -/
def encFence (op : Nat) (o : Form.Fence) : Nat × Option Nat :=
  (op * 2 ^ 24 + o.g * 2 ^ 21 + o.kind * 2 ^ 18, none)

/-- Reads format X of CLPOP (R313). -/
def decClpop (w0 w1 : Nat) : Option Form.Clpop :=
  if runsZero w0 [(0, 7)] && runsZero w1 [(0, 22), (25, 7)] then
    some { g := field w0 21 3, d := regOf (field w0 14 7), a := regOf (field w0 7 7), pd := field w1 22 3 }
  else none
/-- Writes format X of CLPOP (R313). -/
def encClpop (op : Nat) (o : Form.Clpop) : Nat × Option Nat :=
  (op * 2 ^ 24 + o.g * 2 ^ 21 + regCode o.d * 2 ^ 14 + regCode o.a * 2 ^ 7, some (o.pd * 2 ^ 22))

/-- Reads format AI of SHFIN (R343). -/
def decShfin (w0 _ : Nat) : Option Form.Shfin :=
  if runsZero w0 [(3, 4)] then
    some { g := field w0 21 3, d := regOf (field w0 14 7), a := regOf (field w0 7 7), fail := field w0 2 1, disp := field w0 0 2 }
  else none
/-- Writes format AI of SHFIN (R343). -/
def encShfin (op : Nat) (o : Form.Shfin) : Nat × Option Nat :=
  (op * 2 ^ 24 + o.g * 2 ^ 21 + regCode o.d * 2 ^ 14 + regCode o.a * 2 ^ 7 + o.fail * 2 ^ 2 + o.disp, none)

/-- An instruction, or RESERVED_FIELD where its format refused the words. -/
def ok {α : Type} (c : α → Instr) (o : Option α) : Except DecodeError Instr :=
  match o with
  | some x => .ok (c x)
  | none => .error .reservedField

/-- Row 0_ of the opcode map (R72), by the low digit of the opcode. -/
def decodeRow0 (lo w0 w1 : Nat) : Except DecodeError Instr :=
  match lo with
  | 1 => ok Instr.nop (decN w0 w1)
  | 2 => ok Instr.bra (decB w0 w1)
  | 3 => ok Instr.brx (decA1 w0 w1)
  | 4 => ok Instr.call (decB w0 w1)
  | 5 => ok Instr.callx (decA1 w0 w1)
  | 6 => ok Instr.ret (decN w0 w1)
  | 7 => ok Instr.trap (decI w0 w1)
  | 8 => ok Instr.yield (decN w0 w1)
  | 9 => ok Instr.stepMark (decN w0 w1)
  | 10 => ok Instr.isync (decAB w0 w1)
  | 11 => ok Instr.fspawn (decDAB w0 w1)
  | 12 => ok Instr.fexit (decN w0 w1)
  | 13 => ok Instr.waitc (decWaitc w0 w1)
  | 14 => ok Instr.gets (decDI w0 w1)
  | 15 => ok Instr.sets (decDI w0 w1)
  | _ => .error .illegalOpcode

/-- Row 1_ of the opcode map (R72), by the low digit of the opcode. -/
def decodeRow1 (lo w0 w1 : Nat) : Except DecodeError Instr :=
  match lo with
  | 0 => ok Instr.mjoin (decM1 w0 w1)
  | 1 => ok Instr.mleave (decM1 w0 w1)
  | 2 => ok Instr.mwaitm (decM1 w0 w1)
  | 3 => ok Instr.mlog (decMlog w0 w1)
  | 4 => ok Instr.mrd (decMrd w0 w1)
  | 5 => ok Instr.mwr (decMwr w0 w1)
  | 6 => ok Instr.shfl (decShfl w0 w1)
  | 7 => ok Instr.vote (decVote w0 w1)
  | 8 => ok Instr.ballot (decBallot w0 w1)
  | 9 => ok Instr.bara (decBara w0 w1)
  | 10 => ok Instr.barw (decBarA w0 w1)
  | 11 => ok Instr.bars (decBar w0 w1)
  | 12 => ok Instr.barc (decBarA w0 w1)
  | 13 => ok Instr.wgrow (decI w0 w1)
  | 14 => ok Instr.wshrink (decI w0 w1)
  | 15 => ok Instr.wmove (decI w0 w1)
  | _ => .error .illegalOpcode

/-- Row 2_ of the opcode map (R72), by the low digit of the opcode. -/
def decodeRow2 (lo w0 w1 : Nat) : Except DecodeError Instr :=
  match lo with
  | 0 => ok Instr.iadd (decDAB w0 w1)
  | 1 => ok Instr.isub (decDAB w0 w1)
  | 2 => ok Instr.imul (decDAB w0 w1)
  | 3 => ok Instr.imulhI32 (decDAB w0 w1)
  | 4 => ok Instr.imulhN32 (decDAB w0 w1)
  | 5 => ok Instr.idivI32 (decDAB w0 w1)
  | 6 => ok Instr.idivN32 (decDAB w0 w1)
  | 7 => ok Instr.iremI32 (decDAB w0 w1)
  | 8 => ok Instr.iremN32 (decDAB w0 w1)
  | 9 => ok Instr.iminI32 (decDAB w0 w1)
  | 10 => ok Instr.iminN32 (decDAB w0 w1)
  | 11 => ok Instr.imaxI32 (decDAB w0 w1)
  | 12 => ok Instr.imaxN32 (decDAB w0 w1)
  | 13 => ok Instr.iabs (decDA w0 w1)
  | 14 => ok Instr.ineg (decDA w0 w1)
  | 15 => ok Instr.imad (decDABC w0 w1)
  | _ => .error .illegalOpcode

/-- Row 3_ of the opcode map (R72), by the low digit of the opcode. -/
def decodeRow3 (lo w0 w1 : Nat) : Except DecodeError Instr :=
  match lo with
  | 0 => ok Instr.andOp (decDAB w0 w1)
  | 1 => ok Instr.orOp (decDAB w0 w1)
  | 2 => ok Instr.xorOp (decDAB w0 w1)
  | 3 => ok Instr.andn (decDAB w0 w1)
  | 4 => ok Instr.notOp (decDA w0 w1)
  | 5 => ok Instr.shl (decDAB w0 w1)
  | 6 => ok Instr.shr (decDAB w0 w1)
  | 7 => ok Instr.sar (decDAB w0 w1)
  | 8 => ok Instr.rotl (decDAB w0 w1)
  | 9 => ok Instr.popc (decDA w0 w1)
  | 10 => ok Instr.clz (decDA w0 w1)
  | 11 => ok Instr.brev (decDA w0 w1)
  | 12 => ok Instr.bfxI32 (decDAB w0 w1)
  | 13 => ok Instr.bfxN32 (decDAB w0 w1)
  | 14 => ok Instr.bfi (decDABC w0 w1)
  | 15 => ok Instr.sel (decSel w0 w1)
  | _ => .error .illegalOpcode

/-- Row 4_ of the opcode map (R72), by the low digit of the opcode. -/
def decodeRow4 (lo w0 w1 : Nat) : Except DecodeError Instr :=
  match lo with
  | 0 => ok Instr.iaddi (decDI w0 w1)
  | 1 => ok Instr.andi (decDI w0 w1)
  | 2 => ok Instr.ori (decDI w0 w1)
  | 3 => ok Instr.xori (decDI w0 w1)
  | 4 => ok Instr.shli (decDAI w0 w1)
  | 5 => ok Instr.shri (decDAI w0 w1)
  | 6 => ok Instr.sari (decDAI w0 w1)
  | 7 => ok Instr.movi (decDI w0 w1)
  | 8 => ok Instr.movl (decMovl w0 w1)
  | 9 => ok Instr.mov (decDA w0 w1)
  | 10 => ok Instr.icmpI32 (decC w0 w1)
  | 11 => ok Instr.icmpN32 (decC w0 w1)
  | 12 => ok Instr.icmpiI32 (decCI w0 w1)
  | 13 => ok Instr.icmpiN32 (decCI w0 w1)
  | 14 => ok Instr.plog (decPlog w0 w1)
  | 15 => ok Instr.iaddl (decIaddl w0 w1)
  | _ => .error .illegalOpcode

/-- Row 5_ of the opcode map (R72), by the low digit of the opcode. -/
def decodeRow5 (lo w0 w1 : Nat) : Except DecodeError Instr :=
  match lo with
  | 0 => ok Instr.iaddB64 (decDAB w0 w1)
  | 1 => ok Instr.isubB64 (decDAB w0 w1)
  | 2 => ok Instr.imulwI32 (decDAB w0 w1)
  | 3 => ok Instr.imulwN32 (decDAB w0 w1)
  | 4 => ok Instr.shlB64 (decDAB w0 w1)
  | 5 => ok Instr.shrB64 (decDAB w0 w1)
  | 6 => ok Instr.sarB64 (decDAB w0 w1)
  | 7 => ok Instr.icmpI64 (decC w0 w1)
  | 8 => ok Instr.icmpN64 (decC w0 w1)
  | 9 => ok Instr.movB64 (decDA w0 w1)
  | 10 => ok Instr.lea (decLea w0 w1)
  | _ => .error .illegalOpcode

/-- Row 6_ of the opcode map (R72), by the low digit of the opcode. -/
def decodeRow6 (lo w0 w1 : Nat) : Except DecodeError Instr :=
  match lo with
  | 0 => ok Instr.faddF32 (decDAB w0 w1)
  | 1 => ok Instr.fsubF32 (decDAB w0 w1)
  | 2 => ok Instr.fmulF32 (decDAB w0 w1)
  | 3 => ok Instr.ffmaF32 (decDAB w0 w1)
  | 4 => ok Instr.fminF32 (decDAB w0 w1)
  | 5 => ok Instr.fmaxF32 (decDAB w0 w1)
  | 6 => ok Instr.fabsF32 (decDA w0 w1)
  | 7 => ok Instr.fnegF32 (decDA w0 w1)
  | 8 => ok Instr.fcmpF32 (decC w0 w1)
  | 9 => ok Instr.frcpF32 (decDA w0 w1)
  | 10 => ok Instr.frsqF32 (decDA w0 w1)
  | 11 => ok Instr.fsqrtF32 (decDA w0 w1)
  | 12 => ok Instr.fexp2F32 (decDA w0 w1)
  | 13 => ok Instr.flog2F32 (decDA w0 w1)
  | 14 => ok Instr.fsinF32 (decDA w0 w1)
  | 15 => ok Instr.fcosF32 (decDA w0 w1)
  | _ => .error .illegalOpcode

/-- Row 7_ of the opcode map (R72), by the low digit of the opcode. -/
def decodeRow7 (lo w0 w1 : Nat) : Except DecodeError Instr :=
  match lo with
  | 0 => ok Instr.faddF32Long (decFp2 w0 w1)
  | 1 => ok Instr.fsubF32Long (decFp2 w0 w1)
  | 2 => ok Instr.fmulF32Long (decFp2 w0 w1)
  | 3 => ok Instr.ffmaF32Long (decFp3 w0 w1)
  | 4 => ok Instr.fdivF32 (decFp2 w0 w1)
  | 5 => ok Instr.frcpF32Long (decFp1 w0 w1)
  | 6 => ok Instr.frsqF32Long (decFp1 w0 w1)
  | 7 => ok Instr.fsqrtF32Long (decFp1 w0 w1)
  | _ => .error .illegalOpcode

/-- Row 8_ of the opcode map (R72), by the low digit of the opcode. -/
def decodeRow8 (lo w0 w1 : Nat) : Except DecodeError Instr :=
  match lo with
  | 0 => ok Instr.faddF64 (decFp2 w0 w1)
  | 1 => ok Instr.fmulF64 (decFp2 w0 w1)
  | 2 => ok Instr.ffmaF64 (decFp3 w0 w1)
  | 3 => ok Instr.fdivF64 (decFp2 w0 w1)
  | 4 => ok Instr.fsqrtF64 (decFp1 w0 w1)
  | 5 => ok Instr.fminF64 (decDAB w0 w1)
  | 6 => ok Instr.fmaxF64 (decDAB w0 w1)
  | 7 => ok Instr.fcmpF64 (decC w0 w1)
  | 8 => ok Instr.faddF16x2 (decFp2 w0 w1)
  | 9 => ok Instr.fmulF16x2 (decFp2 w0 w1)
  | 10 => ok Instr.ffmaF16x2 (decFp3 w0 w1)
  | 11 => ok Instr.faddBf16x2 (decFp2 w0 w1)
  | 12 => ok Instr.fmulBf16x2 (decFp2 w0 w1)
  | 13 => ok Instr.ffmaBf16x2 (decFp3 w0 w1)
  | 14 => ok Instr.fdotF16x2 (decFp3 w0 w1)
  | 15 => ok Instr.fdotBf16x2 (decFp3 w0 w1)
  | _ => .error .illegalOpcode

/-- Row 9_ of the opcode map (R72), by the low digit of the opcode. -/
def decodeRow9 (lo w0 w1 : Nat) : Except DecodeError Instr :=
  match lo with
  | 0 => ok Instr.cvt (decCvt w0 w1)
  | 1 => ok Instr.packTf8 (decDAB w0 w1)
  | 2 => ok Instr.packTf6 (decDAB w0 w1)
  | 3 => ok Instr.packF16 (decDAB w0 w1)
  | 4 => ok Instr.packBf16 (decDAB w0 w1)
  | 5 => ok Instr.unpkTf8 (decDAI w0 w1)
  | 6 => ok Instr.unpkTf6 (decDAI w0 w1)
  | 7 => ok Instr.unpkF16 (decDAI w0 w1)
  | 8 => ok Instr.unpkBf16 (decDAI w0 w1)
  | 9 => ok Instr.schist (decDAB w0 w1)
  | 10 => ok Instr.scale (decDAB w0 w1)
  | 11 => ok Instr.retag (decRetag w0 w1)
  | _ => .error .illegalOpcode

/-- Row A_ of the opcode map (R72), by the low digit of the opcode. -/
def decodeRowA (lo w0 w1 : Nat) : Except DecodeError Instr :=
  match lo with
  | 0 => if field w0 0 1 = 0 then ok Instr.ld (decMem w0 w1)
      else ok Instr.ldOff (decMemOff w0 w1)
  | 1 => if field w0 0 1 = 0 then ok Instr.ldInv (decMem w0 w1)
      else ok Instr.ldInvOff (decMemOff w0 w1)
  | 2 => if field w0 0 1 = 0 then ok Instr.ldNf (decMem w0 w1)
      else ok Instr.ldNfOff (decMemOff w0 w1)
  | 3 => if field w0 0 1 = 0 then ok Instr.ldInvNf (decMem w0 w1)
      else ok Instr.ldInvNfOff (decMemOff w0 w1)
  | 4 => if field w0 0 1 = 0 then ok Instr.st (decMem w0 w1)
      else ok Instr.stOff (decMemOff w0 w1)
  | 5 => if field w0 0 1 = 0 then ok Instr.ldb (decMem w0 w1)
      else ok Instr.ldbOff (decMemOff w0 w1)
  | 6 => if field w0 0 1 = 0 then ok Instr.ldbInv (decMem w0 w1)
      else ok Instr.ldbInvOff (decMemOff w0 w1)
  | 7 => if field w0 0 1 = 0 then ok Instr.ldbNf (decMem w0 w1)
      else ok Instr.ldbNfOff (decMemOff w0 w1)
  | 8 => if field w0 0 1 = 0 then ok Instr.stb (decMem w0 w1)
      else ok Instr.stbOff (decMemOff w0 w1)
  | 9 => if field w0 0 1 = 0 then ok Instr.pgreq (decA1 w0 w1)
      else ok Instr.pgreqOff (decA1Off w0 w1)
  | 10 => if field w0 0 1 = 0 then ok Instr.lds (decMem w0 w1)
      else ok Instr.ldsOff (decMemOff w0 w1)
  | 11 => if field w0 0 1 = 0 then ok Instr.sts (decMem w0 w1)
      else ok Instr.stsOff (decMemOff w0 w1)
  | 12 => if field w0 0 1 = 0 then ok Instr.ldq (decMem w0 w1)
      else ok Instr.ldqOff (decMemOff w0 w1)
  | 13 => if field w0 0 1 = 0 then ok Instr.stq (decMem w0 w1)
      else ok Instr.stqOff (decMemOff w0 w1)
  | 14 => if field w0 0 1 = 0 then ok Instr.ldnw (decMem w0 w1)
      else ok Instr.ldnwOff (decMemOff w0 w1)
  | 15 => if field w0 0 1 = 0 then ok Instr.stnw (decMem w0 w1)
      else ok Instr.stnwOff (decMemOff w0 w1)
  | _ => .error .illegalOpcode

/-- Row B_ of the opcode map (R72), by the low digit of the opcode. -/
def decodeRowB (lo w0 w1 : Nat) : Except DecodeError Instr :=
  match lo with
  | 0 => if field w0 0 1 = 0 then ok Instr.cpg2s (decCp w0 w1)
      else ok Instr.cpg2sExt (decCpExt w0 w1)
  | 1 => if field w0 0 1 = 0 then ok Instr.cps2g (decCp w0 w1)
      else ok Instr.cps2gExt (decCpExt w0 w1)
  | 2 => if field w0 0 1 = 0 then ok Instr.cpx (decCp w0 w1)
      else ok Instr.cpxExt (decCpExt w0 w1)
  | 3 => ok Instr.cpfence (decQm w0 w1)
  | 4 => ok Instr.twany (decDA w0 w1)
  | 5 => ok Instr.twall (decA1 w0 w1)
  | 6 => ok Instr.tfirst (decDA w0 w1)
  | 8 => ok Instr.mxgo (decA1 w0 w1)
  | 9 => ok Instr.mxclr (decTm w0 w1)
  | 10 => ok Instr.mxrd (decDA w0 w1)
  | 11 => ok Instr.mxwr (decAB w0 w1)
  | 12 => ok Instr.mxsc (decAB w0 w1)
  | 13 => ok Instr.mxhist (decDAB w0 w1)
  | 14 => ok Instr.mxwait (decN w0 w1)
  | _ => .error .illegalOpcode

/-- Row C_ of the opcode map (R72), by the low digit of the opcode. -/
def decodeRowC (lo w0 w1 : Nat) : Except DecodeError Instr :=
  match lo with
  | 0 => ok Instr.atadd (decAt w0 w1)
  | 1 => ok Instr.atminI32 (decAt w0 w1)
  | 2 => ok Instr.atminN32 (decAt w0 w1)
  | 3 => ok Instr.atmaxI32 (decAt w0 w1)
  | 4 => ok Instr.atmaxN32 (decAt w0 w1)
  | 5 => ok Instr.atand (decAt w0 w1)
  | 6 => ok Instr.ator (decAt w0 w1)
  | 7 => ok Instr.atxor (decAt w0 w1)
  | 8 => ok Instr.atxchg (decAt w0 w1)
  | 9 => ok Instr.atcas (decAt3 w0 w1)
  | 10 => ok Instr.ataddB64 (decAt w0 w1)
  | 11 => ok Instr.atcasB64 (decAt3 w0 w1)
  | 12 => ok Instr.redaddF32 (decRed w0 w1)
  | 13 => ok Instr.redaddBf16x2 (decRed w0 w1)
  | 14 => if field w0 0 1 = 0 then ok Instr.ldAcq (decMem w0 w1)
      else ok Instr.ldAcqOff (decMemOff w0 w1)
  | 15 => if field w0 0 1 = 0 then ok Instr.stRel (decMem w0 w1)
      else ok Instr.stRelOff (decMemOff w0 w1)
  | _ => .error .illegalOpcode

/-- Row D_ of the opcode map (R72), by the low digit of the opcode. -/
def decodeRowD (lo w0 w1 : Nat) : Except DecodeError Instr :=
  match lo with
  | 0 => ok Instr.fence (decFence w0 w1)
  | 1 => ok Instr.mwait (decDABC w0 w1)
  | 2 => ok Instr.objreg (decDABx w0 w1)
  | 3 => ok Instr.objdrop (decA1 w0 w1)
  | 4 => ok Instr.clpush (decDAB w0 w1)
  | 5 => ok Instr.clpop (decClpop w0 w1)
  | 6 => ok Instr.shrd (decDAB w0 w1)
  | 7 => ok Instr.shwr (decDAB w0 w1)
  | 8 => ok Instr.shrg (decDAB w0 w1)
  | 9 => ok Instr.shwg (decDAB w0 w1)
  | 10 => ok Instr.shfin (decShfin w0 w1)
  | _ => .error .illegalOpcode

/-- Row E_ of the opcode map (R72), by the low digit of the opcode. -/
def decodeRowE (lo w0 w1 : Nat) : Except DecodeError Instr :=
  match lo with
  | 0 => ok Instr.fctret (decN w0 w1)
  | 1 => ok Instr.fctstg (decDAB w0 w1)
  | 2 => ok Instr.fctact (decDA w0 w1)
  | 3 => ok Instr.fctrd (decDA w0 w1)
  | 4 => ok Instr.qmap (decDAB w0 w1)
  | 5 => ok Instr.qunmap (decDA w0 w1)
  | 6 => ok Instr.preempt (decDAB w0 w1)
  | _ => .error .illegalOpcode

/-- The 206 assigned opcodes (R72). -/
def assigned (op : Nat) : Bool :=
  (1 ≤ op && op ≤ 0x5A) || (0x60 ≤ op && op ≤ 0x77) || (0x80 ≤ op && op ≤ 0x9B) || (0xA0 ≤ op && op ≤ 0xB6) ||
  (0xB8 ≤ op && op ≤ 0xBE) || (0xC0 ≤ op && op ≤ 0xDA) || (0xE0 ≤ op && op ≤ 0xE6)

/-- The opcodes of formats L, X and XC, which always have two words (R62, R73). -/
def twoWordOpcode (op : Nat) : Bool :=
  op == 0x16 || op == 0x2F || (0x3E ≤ op && op ≤ 0x3F) || op == 0x48 || op == 0x4F || op == 0x5A || (0x70 ≤ op && op ≤ 0x77) || (0x80 ≤ op && op ≤ 0x84) || (0x88 ≤ op && op ≤ 0x90) || (0xC0 ≤ op && op ≤ 0xCD) || (0xD1 ≤ op && op ≤ 0xD2) || op == 0xD5

/-- The opcodes of formats M and G, whose X bit says whether a second word follows (R62, R73). -/
def xBitOpcode (op : Nat) : Bool :=
  (0xA0 ≤ op && op ≤ 0xB2) || (0xCE ≤ op && op ≤ 0xCF)

/-- Whether the instruction of first word `w0` has a second word (R62). -/
def hasTwoWords (w0 : Nat) : Bool :=
  twoWordOpcode (field w0 24 8) || (xBitOpcode (field w0 24 8) && field w0 0 1 == 1)

/-- Where a privileged opcode is allowed (R74). -/
inductive Privilege where
  | none
  | faultHandler
  | facetContext
  | firmware
deriving DecidableEq, Repr

/-- The privilege of an opcode (R74). -/
def privilegeOf (op : Nat) : Privilege :=
  if 0xD6 ≤ op ∧ op ≤ 0xDA then .faultHandler
  else if op = 0xE0 then .facetContext
  else if 0xE1 ≤ op ∧ op ≤ 0xE6 then .firmware
  else .none

/-- The instruction of first word `w0` and, where it has one, second word `w1` (R72, R75). -/
def decodeWords (w0 w1 : Nat) : Except DecodeError Instr :=
  if w0 = 0 then .error .zeroWord
  else if w0 = 0xFFFFFFFF then .error .illegalOpcode
  else match field w0 28 4 with
  | 0 => decodeRow0 (field w0 24 4) w0 w1
  | 1 => decodeRow1 (field w0 24 4) w0 w1
  | 2 => decodeRow2 (field w0 24 4) w0 w1
  | 3 => decodeRow3 (field w0 24 4) w0 w1
  | 4 => decodeRow4 (field w0 24 4) w0 w1
  | 5 => decodeRow5 (field w0 24 4) w0 w1
  | 6 => decodeRow6 (field w0 24 4) w0 w1
  | 7 => decodeRow7 (field w0 24 4) w0 w1
  | 8 => decodeRow8 (field w0 24 4) w0 w1
  | 9 => decodeRow9 (field w0 24 4) w0 w1
  | 10 => decodeRowA (field w0 24 4) w0 w1
  | 11 => decodeRowB (field w0 24 4) w0 w1
  | 12 => decodeRowC (field w0 24 4) w0 w1
  | 13 => decodeRowD (field w0 24 4) w0 w1
  | 14 => decodeRowE (field w0 24 4) w0 w1
  | _ => .error .illegalOpcode

/-- The little-endian word of four bytes (R3). -/
def word4 (b0 b1 b2 b3 : Byte) : Nat :=
  b0.toNat + b1.toNat * 2 ^ 8 + b2.toNat * 2 ^ 16 + b3.toNat * 2 ^ 24

/-- Decodes the instruction at the head of a list of bytes and gives the bytes after it (R60, R62). -/
def decodeBytes (bs : List Byte) : Except DecodeError (Instr × List Byte) :=
  match bs with
  | b0 :: b1 :: b2 :: b3 :: rest =>
    let w0 := word4 b0 b1 b2 b3
    if hasTwoWords w0 then
      match rest with
      | c0 :: c1 :: c2 :: c3 :: rest' => (decodeWords w0 (word4 c0 c1 c2 c3)).map fun i => (i, rest')
      | _ => .error .truncated
    else (decodeWords w0 0).map fun i => (i, rest)
  | _ => .error .truncated

/-- The `n` lowest bytes of a number, the lowest first (R3). -/
def leBytes (n w : Nat) : List Byte :=
  match n with
  | 0 => []
  | n + 1 => BitVec.ofNat 8 w :: leBytes n (w / 256)

/-- The words of an instruction: the first and, where it has one, the second. Engine and host steps
have no words. -/
def encode : Instr → Option (Nat × Option Nat)
  | .nop o => some (encN 0x01 o)
  | .bra o => some (encB 0x02 o)
  | .brx o => some (encA1 0x03 o)
  | .call o => some (encB 0x04 o)
  | .callx o => some (encA1 0x05 o)
  | .ret o => some (encN 0x06 o)
  | .trap o => some (encI 0x07 o)
  | .yield o => some (encN 0x08 o)
  | .stepMark o => some (encN 0x09 o)
  | .isync o => some (encAB 0x0A o)
  | .fspawn o => some (encDAB 0x0B o)
  | .fexit o => some (encN 0x0C o)
  | .waitc o => some (encWaitc 0x0D o)
  | .gets o => some (encDI 0x0E o)
  | .sets o => some (encDI 0x0F o)
  | .mjoin o => some (encM1 0x10 o)
  | .mleave o => some (encM1 0x11 o)
  | .mwaitm o => some (encM1 0x12 o)
  | .mlog o => some (encMlog 0x13 o)
  | .mrd o => some (encMrd 0x14 o)
  | .mwr o => some (encMwr 0x15 o)
  | .shfl o => some (encShfl 0x16 o)
  | .vote o => some (encVote 0x17 o)
  | .ballot o => some (encBallot 0x18 o)
  | .bara o => some (encBara 0x19 o)
  | .barw o => some (encBarA 0x1A o)
  | .bars o => some (encBar 0x1B o)
  | .barc o => some (encBarA 0x1C o)
  | .wgrow o => some (encI 0x1D o)
  | .wshrink o => some (encI 0x1E o)
  | .wmove o => some (encI 0x1F o)
  | .iadd o => some (encDAB 0x20 o)
  | .isub o => some (encDAB 0x21 o)
  | .imul o => some (encDAB 0x22 o)
  | .imulhI32 o => some (encDAB 0x23 o)
  | .imulhN32 o => some (encDAB 0x24 o)
  | .idivI32 o => some (encDAB 0x25 o)
  | .idivN32 o => some (encDAB 0x26 o)
  | .iremI32 o => some (encDAB 0x27 o)
  | .iremN32 o => some (encDAB 0x28 o)
  | .iminI32 o => some (encDAB 0x29 o)
  | .iminN32 o => some (encDAB 0x2A o)
  | .imaxI32 o => some (encDAB 0x2B o)
  | .imaxN32 o => some (encDAB 0x2C o)
  | .iabs o => some (encDA 0x2D o)
  | .ineg o => some (encDA 0x2E o)
  | .imad o => some (encDABC 0x2F o)
  | .andOp o => some (encDAB 0x30 o)
  | .orOp o => some (encDAB 0x31 o)
  | .xorOp o => some (encDAB 0x32 o)
  | .andn o => some (encDAB 0x33 o)
  | .notOp o => some (encDA 0x34 o)
  | .shl o => some (encDAB 0x35 o)
  | .shr o => some (encDAB 0x36 o)
  | .sar o => some (encDAB 0x37 o)
  | .rotl o => some (encDAB 0x38 o)
  | .popc o => some (encDA 0x39 o)
  | .clz o => some (encDA 0x3A o)
  | .brev o => some (encDA 0x3B o)
  | .bfxI32 o => some (encDAB 0x3C o)
  | .bfxN32 o => some (encDAB 0x3D o)
  | .bfi o => some (encDABC 0x3E o)
  | .sel o => some (encSel 0x3F o)
  | .iaddi o => some (encDI 0x40 o)
  | .andi o => some (encDI 0x41 o)
  | .ori o => some (encDI 0x42 o)
  | .xori o => some (encDI 0x43 o)
  | .shli o => some (encDAI 0x44 o)
  | .shri o => some (encDAI 0x45 o)
  | .sari o => some (encDAI 0x46 o)
  | .movi o => some (encDI 0x47 o)
  | .movl o => some (encMovl 0x48 o)
  | .mov o => some (encDA 0x49 o)
  | .icmpI32 o => some (encC 0x4A o)
  | .icmpN32 o => some (encC 0x4B o)
  | .icmpiI32 o => some (encCI 0x4C o)
  | .icmpiN32 o => some (encCI 0x4D o)
  | .plog o => some (encPlog 0x4E o)
  | .iaddl o => some (encIaddl 0x4F o)
  | .iaddB64 o => some (encDAB 0x50 o)
  | .isubB64 o => some (encDAB 0x51 o)
  | .imulwI32 o => some (encDAB 0x52 o)
  | .imulwN32 o => some (encDAB 0x53 o)
  | .shlB64 o => some (encDAB 0x54 o)
  | .shrB64 o => some (encDAB 0x55 o)
  | .sarB64 o => some (encDAB 0x56 o)
  | .icmpI64 o => some (encC 0x57 o)
  | .icmpN64 o => some (encC 0x58 o)
  | .movB64 o => some (encDA 0x59 o)
  | .lea o => some (encLea 0x5A o)
  | .faddF32 o => some (encDAB 0x60 o)
  | .fsubF32 o => some (encDAB 0x61 o)
  | .fmulF32 o => some (encDAB 0x62 o)
  | .ffmaF32 o => some (encDAB 0x63 o)
  | .fminF32 o => some (encDAB 0x64 o)
  | .fmaxF32 o => some (encDAB 0x65 o)
  | .fabsF32 o => some (encDA 0x66 o)
  | .fnegF32 o => some (encDA 0x67 o)
  | .fcmpF32 o => some (encC 0x68 o)
  | .frcpF32 o => some (encDA 0x69 o)
  | .frsqF32 o => some (encDA 0x6A o)
  | .fsqrtF32 o => some (encDA 0x6B o)
  | .fexp2F32 o => some (encDA 0x6C o)
  | .flog2F32 o => some (encDA 0x6D o)
  | .fsinF32 o => some (encDA 0x6E o)
  | .fcosF32 o => some (encDA 0x6F o)
  | .faddF32Long o => some (encFp2 0x70 o)
  | .fsubF32Long o => some (encFp2 0x71 o)
  | .fmulF32Long o => some (encFp2 0x72 o)
  | .ffmaF32Long o => some (encFp3 0x73 o)
  | .fdivF32 o => some (encFp2 0x74 o)
  | .frcpF32Long o => some (encFp1 0x75 o)
  | .frsqF32Long o => some (encFp1 0x76 o)
  | .fsqrtF32Long o => some (encFp1 0x77 o)
  | .faddF64 o => some (encFp2 0x80 o)
  | .fmulF64 o => some (encFp2 0x81 o)
  | .ffmaF64 o => some (encFp3 0x82 o)
  | .fdivF64 o => some (encFp2 0x83 o)
  | .fsqrtF64 o => some (encFp1 0x84 o)
  | .fminF64 o => some (encDAB 0x85 o)
  | .fmaxF64 o => some (encDAB 0x86 o)
  | .fcmpF64 o => some (encC 0x87 o)
  | .faddF16x2 o => some (encFp2 0x88 o)
  | .fmulF16x2 o => some (encFp2 0x89 o)
  | .ffmaF16x2 o => some (encFp3 0x8A o)
  | .faddBf16x2 o => some (encFp2 0x8B o)
  | .fmulBf16x2 o => some (encFp2 0x8C o)
  | .ffmaBf16x2 o => some (encFp3 0x8D o)
  | .fdotF16x2 o => some (encFp3 0x8E o)
  | .fdotBf16x2 o => some (encFp3 0x8F o)
  | .cvt o => some (encCvt 0x90 o)
  | .packTf8 o => some (encDAB 0x91 o)
  | .packTf6 o => some (encDAB 0x92 o)
  | .packF16 o => some (encDAB 0x93 o)
  | .packBf16 o => some (encDAB 0x94 o)
  | .unpkTf8 o => some (encDAI 0x95 o)
  | .unpkTf6 o => some (encDAI 0x96 o)
  | .unpkF16 o => some (encDAI 0x97 o)
  | .unpkBf16 o => some (encDAI 0x98 o)
  | .schist o => some (encDAB 0x99 o)
  | .scale o => some (encDAB 0x9A o)
  | .retag o => some (encRetag 0x9B o)
  | .ld o => some (encMem 0xA0 o)
  | .ldOff o => some (encMemOff 0xA0 o)
  | .ldInv o => some (encMem 0xA1 o)
  | .ldInvOff o => some (encMemOff 0xA1 o)
  | .ldNf o => some (encMem 0xA2 o)
  | .ldNfOff o => some (encMemOff 0xA2 o)
  | .ldInvNf o => some (encMem 0xA3 o)
  | .ldInvNfOff o => some (encMemOff 0xA3 o)
  | .st o => some (encMem 0xA4 o)
  | .stOff o => some (encMemOff 0xA4 o)
  | .ldb o => some (encMem 0xA5 o)
  | .ldbOff o => some (encMemOff 0xA5 o)
  | .ldbInv o => some (encMem 0xA6 o)
  | .ldbInvOff o => some (encMemOff 0xA6 o)
  | .ldbNf o => some (encMem 0xA7 o)
  | .ldbNfOff o => some (encMemOff 0xA7 o)
  | .stb o => some (encMem 0xA8 o)
  | .stbOff o => some (encMemOff 0xA8 o)
  | .pgreq o => some (encA1 0xA9 o)
  | .pgreqOff o => some (encA1Off 0xA9 o)
  | .lds o => some (encMem 0xAA o)
  | .ldsOff o => some (encMemOff 0xAA o)
  | .sts o => some (encMem 0xAB o)
  | .stsOff o => some (encMemOff 0xAB o)
  | .ldq o => some (encMem 0xAC o)
  | .ldqOff o => some (encMemOff 0xAC o)
  | .stq o => some (encMem 0xAD o)
  | .stqOff o => some (encMemOff 0xAD o)
  | .ldnw o => some (encMem 0xAE o)
  | .ldnwOff o => some (encMemOff 0xAE o)
  | .stnw o => some (encMem 0xAF o)
  | .stnwOff o => some (encMemOff 0xAF o)
  | .cpg2s o => some (encCp 0xB0 o)
  | .cpg2sExt o => some (encCpExt 0xB0 o)
  | .cps2g o => some (encCp 0xB1 o)
  | .cps2gExt o => some (encCpExt 0xB1 o)
  | .cpx o => some (encCp 0xB2 o)
  | .cpxExt o => some (encCpExt 0xB2 o)
  | .cpfence o => some (encQm 0xB3 o)
  | .twany o => some (encDA 0xB4 o)
  | .twall o => some (encA1 0xB5 o)
  | .tfirst o => some (encDA 0xB6 o)
  | .mxgo o => some (encA1 0xB8 o)
  | .mxclr o => some (encTm 0xB9 o)
  | .mxrd o => some (encDA 0xBA o)
  | .mxwr o => some (encAB 0xBB o)
  | .mxsc o => some (encAB 0xBC o)
  | .mxhist o => some (encDAB 0xBD o)
  | .mxwait o => some (encN 0xBE o)
  | .atadd o => some (encAt 0xC0 o)
  | .atminI32 o => some (encAt 0xC1 o)
  | .atminN32 o => some (encAt 0xC2 o)
  | .atmaxI32 o => some (encAt 0xC3 o)
  | .atmaxN32 o => some (encAt 0xC4 o)
  | .atand o => some (encAt 0xC5 o)
  | .ator o => some (encAt 0xC6 o)
  | .atxor o => some (encAt 0xC7 o)
  | .atxchg o => some (encAt 0xC8 o)
  | .atcas o => some (encAt3 0xC9 o)
  | .ataddB64 o => some (encAt 0xCA o)
  | .atcasB64 o => some (encAt3 0xCB o)
  | .redaddF32 o => some (encRed 0xCC o)
  | .redaddBf16x2 o => some (encRed 0xCD o)
  | .ldAcq o => some (encMem 0xCE o)
  | .ldAcqOff o => some (encMemOff 0xCE o)
  | .stRel o => some (encMem 0xCF o)
  | .stRelOff o => some (encMemOff 0xCF o)
  | .fence o => some (encFence 0xD0 o)
  | .mwait o => some (encDABC 0xD1 o)
  | .objreg o => some (encDABx 0xD2 o)
  | .objdrop o => some (encA1 0xD3 o)
  | .clpush o => some (encDAB 0xD4 o)
  | .clpop o => some (encClpop 0xD5 o)
  | .shrd o => some (encDAB 0xD6 o)
  | .shwr o => some (encDAB 0xD7 o)
  | .shrg o => some (encDAB 0xD8 o)
  | .shwg o => some (encDAB 0xD9 o)
  | .shfin o => some (encShfin 0xDA o)
  | .fctret o => some (encN 0xE0 o)
  | .fctstg o => some (encDAB 0xE1 o)
  | .fctact o => some (encDA 0xE2 o)
  | .fctrd o => some (encDA 0xE3 o)
  | .qmap o => some (encDAB 0xE4 o)
  | .qunmap o => some (encDA 0xE5 o)
  | .preempt o => some (encDAB 0xE6 o)
  | .nonInstructionWord _ => none
  | .facetTrap _ => none
  | .facetRewrite _ => none
  | .facetEmulateEntry _ => none
  | .emulationLimit _ _ => none
  | .regroupBoundary _ => none
  | .wgrowGrant _ => none
  | .regPoolDeadlock _ => none
  | .loadComplete _ _ => none
  | .storeComplete _ => none
  | .isyncComplete _ _ _ => none
  | .channelEntry _ => none
  | .channelAck _ => none
  | .channelNack _ => none
  | .backoffExpiry _ => none
  | .congestionWindowEnd _ _ => none
  | .copyBegin _ _ => none
  | .segmentComplete _ _ _ _ => none
  | .copyCompletion _ _ => none
  | .passGrant _ _ => none
  | .passCommitDone _ => none
  | .mxhistServe _ => none
  | .lateItemArrival _ => none
  | .scaleLineFill _ _ _ => none
  | .passResidueCheck _ _ => none
  | .sliceRequest _ _ => none
  | .sliceFill _ _ _ _ => none
  | .l1Revoke _ => none
  | .revokeAck _ => none
  | .mwaitTimeout _ _ => none
  | .claspArrival _ => none
  | .dwellExpiry _ _ => none
  | .fallThrough _ _ => none
  | .genTableWrite _ => none
  | .genTableAck _ => none
  | .subjectPark _ => none
  | .heldSubjectRecord _ => none
  | .faulttask _ _ _ _ => none
  | .taskDeadline _ => none
  | .budgetExpired _ => none
  | .preemptRequest _ => none
  | .groupSave _ => none
  | .groupRestore _ _ => none
  | .groupAdmit _ => none
  | .tlbLookup _ _ => none
  | .walkComplete _ _ _ _ => none
  | .pgreqResident _ => none
  | .doorbell _ _ _ => none
  | .nopPacket _ _ => none
  | .launchPacket _ _ _ => none
  | .barrierPacket _ _ => none
  | .barrierResolve _ _ => none
  | .signalPacket _ _ => none
  | .copyPacket _ _ => none
  | .qfencePacket _ _ => none
  | .qfenceSatisfied _ _ => none
  | .stepmarkPacket _ _ => none
  | .queueTimeslice _ _ => none
  | .msixDeadline _ _ => none
  | .dieLost _ => none
  | .sparesWrite _ => none
  | .slotminWrite _ => none
  | .tlbinv _ => none
  | .privhwWrite _ => none
  | .swapGo _ => none
  | .fwreadyWrite _ => none
  | .registerWrite _ => none
  | .tlbinvDone => none
  | .swapDone _ => none
  | .bar2Access _ _ => none
  | .ctxCreate _ => none
  | .ctxDestroy _ => none
  | .regRead _ => none
  | .sealEntry _ => none
  | .checkEntry _ => none
  | .attest _ => none
  | .cert _ => none
  | .fwStage _ => none
  | .fwCommit _ => none
  | .partPeers _ => none
  | .ctxBind _ => none
  | .unknownCommand _ => none
  | .mailboxComplete _ => none
  | .fwReadyTimeout => none
  | .dataFlit _ _ => none
  | .idleFlit _ _ => none
  | .linkctlFlit _ _ => none
  | .readRec _ _ => none
  | .writeRec _ => none
  | .rdresp _ => none
  | .wrack _ => none
  | .podreg _ => none
  | .podarr _ => none
  | .poddone _ => none
  | .ftask _ => none
  | .proxy _ => none
  | .proxyresp _ => none
  | .linkTimeout _ => none
  | .dieState => none
  | .matrixGate => none
  | .routerGate => none
  | .powerCommandDone => none
  | .routerWake _ => none
  | .routerGroupOn _ => none
  | .freeze => none
  | .freezeRelease => none
  | .tapIdcode => none
  | .tapBypass => none
  | .coldReset => none
  | .tapScanout _ => none
  | .smbalert _ => none
  | .tileOperationComplete _ _ _ => none
  | .patchVerificationDone => none
  | .hostAbort _ => none
  | .vfPartitionBinding _ _ => none
  | .devnumWrite _ => none

/-- The bytes of an instruction as memory holds them. -/
def encodeBytes (i : Instr) : Option (List Byte) :=
  match encode i with
  | some (w0, some w1) => some (leBytes 4 w0 ++ leBytes 4 w1)
  | some (w0, none) => some (leBytes 4 w0)
  | none => none

/-- The instruction this decoder reads from the `nbits` low bits of `w`, laid out as the machine stores
instruction words, every later bit zero. -/
def decodeTableWord (nbits w : Nat) : Option Instr :=
  match decodeBytes (leBytes 8 (w % 2 ^ nbits)) with
  | .ok (i, _) => some i
  | .error _ => none

end Sys2Proof
end

