-- ==== Sys2Proof/Machine/Bits.lean ====
section
/-! DEFINITION. Bit fields, sign extension, byte order, CRC-32C and the sorted tables that hold the
machine's sparse contents (R3, R5, R93). -/
namespace Sys2Proof.Machine

/-- Bits [lo+n-1 : lo] of a number. -/
def bits (w lo n : Nat) : Nat := w / 2 ^ lo % 2 ^ n

/-- `sx(v, n)` of R5: the `n` low bits read as a signed number. -/
def sx (v n : Nat) : Int :=
  let m := v % 2 ^ n
  if m < 2 ^ (n - 1) then m else (m : Int) - 2 ^ n

/-- A 32-bit word read as a signed number. -/
def sx32 (v : Word) : Int := sx v.toNat 32

/-- An integer narrowed to `n` bits. -/
def narrow (n : Nat) (v : Int) : Nat := (v % (2 ^ n : Nat)).toNat

/-- An integer narrowed to a word (R149). -/
def wordOf (v : Int) : Word := BitVec.ofNat 32 (narrow 32 v)

/-- The word of a truth value. -/
def wordBool (b : Bool) : Word := if b then 1 else 0

/-- The pair of two registers as one 64-bit value, the low half first (R65). -/
def pair (lo hi : Word) : Addr := BitVec.ofNat 64 (lo.toNat + hi.toNat * 2 ^ 32)

/-- The low half of a pair. -/
def loWord (v : Addr) : Word := BitVec.ofNat 32 v.toNat

/-- The high half of a pair. -/
def hiWord (v : Addr) : Word := BitVec.ofNat 32 (v.toNat / 2 ^ 32)

/-- The little-endian value of bytes (R3). -/
def leNat : List Byte → Nat
  | [] => 0
  | b :: bs => b.toNat + 256 * leNat bs

/-- The `n` lowest bytes of a number, the lowest first (R3). -/
def natBytes : Nat → Nat → List Byte
  | 0, _ => []
  | n + 1, w => BitVec.ofNat 8 w :: natBytes n (w / 256)

/-- Bit `i` of a word. -/
def bitOf (w : Word) (i : Nat) : Bool := w.getLsbD i

/-- A word with bit `i` given. -/
def putBit (w : Word) (i : Nat) (b : Bool) : Word :=
  if b then w ||| (BitVec.ofNat 32 (2 ^ i)) else w &&& ~~~(BitVec.ofNat 32 (2 ^ i))

/-- The numbers of the 1 bits of a word, ascending. -/
def bitsOf (w : Word) : List Nat := (List.range 32).filter fun i => w.getLsbD i

/-- The word whose 1 bits are the listed numbers below 32. -/
def maskOf (l : List Nat) : Word := l.foldl (fun w i => putBit w i true) 0

/-- The number of the lowest 1 bit among the `n` lowest bits, if any. -/
def lowBit (n v : Nat) : Option Nat := (List.range n).find? fun i => v.testBit i

/-- The 1 bits among the `n` lowest bits of a number. -/
def popCount (n v : Nat) : Nat := ((List.range n).filter fun i => v.testBit i).length

/-- The least of a list of numbers, if it has any. -/
def least : List Nat → Option Nat
  | [] => none
  | x :: xs => match least xs with
    | none => some x
    | some y => some (min x y)

/-- The last of a list in ascending order: its greatest member. -/
def highest (l : List Nat) : Option Nat := l.getLast?

/-- The first number from `from'` on, at most `n` tried, that is not in the list. -/
def freeFrom (used : List Nat) (n from' : Nat) : Option Nat :=
  ((List.range n).map (· + from')).find? fun i => !used.contains i

/-- One step of the reflected CRC-32C of one bit (R93; 0x82F6_3B78 is the polynomial reflected). -/
def crcBit (c : Word) : Word := if c.getLsbD 0 then (c >>> 1) ^^^ 0x82F63B78#32 else c >>> 1

/-- The CRC register after one byte. -/
def crcByte (c : Word) (b : Byte) : Word :=
  (List.range 8).foldl (fun r _ => crcBit r) (c ^^^ b.setWidth 32)

/-- The CRC-32C of bytes in address order (R93). -/
def crc32c (bs : List Byte) : Word := bs.foldl crcByte 0xFFFFFFFF#32 ^^^ 0xFFFFFFFF#32

/-! ## Sorted tables -/

/-- Entries by number, in strictly rising order of number. -/
abbrev Tab (α : Type) := List (Nat × α)

/-- The entry of a number, if the table has it. -/
def tabGet {α : Type} (t : Tab α) (k : Nat) : Option α :=
  match t with
  | [] => none
  | (j, v) :: r => if j = k then some v else tabGet r k

/-- The table with an entry put in its place. -/
def tabSet {α : Type} (t : Tab α) (k : Nat) (v : α) : Tab α :=
  match t with
  | [] => [(k, v)]
  | (j, w) :: r => if k < j then (k, v) :: (j, w) :: r else if k = j then (k, v) :: r else (j, w) :: tabSet r k v

/-- The table without an entry. -/
def tabErase {α : Type} (t : Tab α) (k : Nat) : Tab α :=
  match t with
  | [] => []
  | (j, w) :: r => if j = k then tabErase r k else (j, w) :: tabErase r k

/-- The table with an entry changed, if it has it. -/
def tabMod {α : Type} (t : Tab α) (k : Nat) (f : α → α) : Tab α :=
  match t with
  | [] => []
  | (j, w) :: r => if j = k then (j, f w) :: r else (j, w) :: tabMod r k f

/-- The table with every entry changed. -/
def tabMap {α : Type} (t : Tab α) (f : Nat → α → α) : Tab α := t.map fun e => (e.1, f e.1 e.2)

/-- The value of a number, `d` where the table lists none. -/
def tabVal {α : Type} (d : α) (t : Tab α) (k : Nat) : α := (tabGet t k).getD d

/-- The table with a value put at a number, unlisted where it is the value `d` that unlisted numbers
have: equal contents are then equal tables. -/
def tabPut {α : Type} [DecidableEq α] (d : α) (t : Tab α) (k : Nat) (v : α) : Tab α :=
  if v = d then tabErase t k else tabSet t k v

/-- The least number from `lo` on that a table does not list, of those below `lo + n`. -/
def tabFree {α : Type} (t : Tab α) (lo n : Nat) : Option Nat := freeFrom (t.map (·.1)) n lo

/-- The number after the greatest of a table. -/
def tabNext {α : Type} (t : Tab α) : Nat := t.foldl (fun m e => max m (e.1 + 1)) 0

/-- The numbers of a table rise strictly. -/
def tabSorted {α : Type} : Tab α → Bool
  | [] => true
  | [_] => true
  | (j, _) :: (k, w) :: r => decide (j < k) && tabSorted ((k, w) :: r)

end Sys2Proof.Machine
end

