-- ==== Sys2Proof/Machine/Flags.lean ====
section
/-! DEFINITION. Format tags and operand classes (R102, R104), exceptions, %flags and traps (R113-R116). -/
namespace Sys2Proof.Machine

/-- The format tag of a register or a tile (R102). -/
inductive Tag where
  | b32 | i32 | n32 | f32 | f16x2 | bf16x2 | tf8x4 | tf6x5 | f64lo | f64hi | i16x2 | i8x4 | e8x4
deriving DecidableEq, Repr

/-- The tag of a code; 13 to 15 are reserved (R102). -/
def tagOf (code : Nat) : Option Tag :=
  match code with
  | 0 => some .b32 | 1 => some .i32 | 2 => some .n32 | 3 => some .f32 | 4 => some .f16x2 | 5 => some .bf16x2
  | 6 => some .tf8x4 | 7 => some .tf6x5 | 8 => some .f64lo | 9 => some .f64hi | 10 => some .i16x2
  | 11 => some .i8x4 | 12 => some .e8x4 | _ => none

/-- The code of a tag (R102). -/
def tagCode : Tag → Nat
  | .b32 => 0 | .i32 => 1 | .n32 => 2 | .f32 => 3 | .f16x2 => 4 | .bf16x2 => 5 | .tf8x4 => 6 | .tf6x5 => 7
  | .f64lo => 8 | .f64hi => 9 | .i16x2 => 10 | .i8x4 => 11 | .e8x4 => 12

/-- A register's word with its tag (R102). -/
structure Tagged where
  val : Word
  tag : Tag
deriving DecidableEq, Repr

/-- The value of a register that nothing has written: zero tagged b32 (R40, R33). -/
def zeroReg : Tagged := ⟨0, .b32⟩

/-- The class of a source operand (R104); `data ty` is the store class of R184, `lowInt` that of a scratchpad
offset, whose pair's odd register is not checked (R207). -/
inductive Cls where
  | any
  | int
  | f32
  | f64
  | packed (t : Tag)
  | data (ty : Nat)
  | lowInt
deriving DecidableEq, Repr

/-- Whether a class accepts a tag; `i` is the register's place in its pair or group (R104, R184). -/
def clsAccepts (c : Cls) (i : Nat) (t : Tag) : Bool :=
  match c with
  | .any => true
  | .int => t == .b32 || t == .i32 || t == .n32
  | .f32 => t == .b32 || t == .f32
  | .f64 => t == .b32 || t == (if i % 2 = 0 then .f64lo else .f64hi)
  | .packed p => t == .b32 || t == p
  | .data ty =>
    if ty = 0 then true
    else if ty = 8 then t == .b32 || t == (if i % 2 = 0 then .f64lo else .f64hi)
    else t == .b32 || some t == tagOf ty
  | .lowInt => i != 0 || t == .b32 || t == .i32 || t == .n32

/-- A set of exceptions, by the bit numbers of %flags (R113). -/
abbrev Exc := BitVec 32

/-- No exception. -/
def excNone : Exc := 0
/-- Invalid operation. -/
def excInv : Exc := 1
/-- Floating division by zero. -/
def excDz : Exc := 2
/-- Overflow. -/
def excOvf : Exc := 4
/-- Underflow. -/
def excUnf : Exc := 8
/-- Inexact. -/
def excInx : Exc := 16
/-- Integer division by zero. -/
def excIdz : Exc := 32
/-- Use of a NaR. -/
def excNar : Exc := 64

/-- The exceptions of a set where a condition holds. -/
def excIf (b : Bool) (e : Exc) : Exc := if b then e else 0

/-- The bits of %flags and %trapen that exist (R113, R114). -/
def flagBits : Word := 0x7F

/-- The cause code of the lowest trapping exception of a set: FP_INVALID to NAR_USE stand in the order of
the flag bits from 0x20 (R115, R116). -/
def trapCause (e : Exc) : Option Nat := (lowBit 7 e.toNat).map (0x20 + ·)

/-- %flags after an operation that does not trap (R113). -/
def flagsAfter (flags : Word) (e : Exc) : Word := flags ||| (e &&& flagBits)

end Sys2Proof.Machine
end

