-- ==== Sys2Proof/Machine/Operands.lean ====
section
/-! DEFINITION. The operands of every instruction: registers read with their classes, registers and
predicates written, the scoreboard entry taken, and the static checks that R76 makes from the decoded
instruction (R63-R65, R71, R104 and each instruction's table). -/
namespace Sys2Proof.Machine

/-- A source operand: `n` registers from `reg`, of a class (R65, R104). -/
structure SrcOp where
  reg : Reg
  n : Nat
  cls : Cls
deriving DecidableEq, Repr

/-- A destination operand: `n` registers from `reg` (R65). -/
structure DstOp where
  reg : Reg
  n : Nat
deriving DecidableEq, Repr

/-- The scoreboard class whose entry an instruction takes (R25, R182). -/
inductive OpClass where
  | load | store | copy | tile
deriving DecidableEq, Repr

/-- The operands of an instruction. -/
structure Opnds where
  guard : Nat := 7
  srcs : List SrcOp := []
  dsts : List DstOp := []
  /-- the predicate written -/
  pdst : Option Nat := none
  /-- the predicates read beside the guard -/
  preads : List Nat := []
  entry : Option OpClass := none
deriving DecidableEq, Repr

/-- The registers that an access of width W moves (R68). -/
def regsOfW (w : Nat) : Nat := match w with | 0 => 1 | 1 => 2 | _ => 4

/-- The register `i` codes after another (R65). -/
def regPlus (r : Reg) (i : Nat) : Reg := match r with | .v n => .v (n + i) | .k n => .k (n + i)

/-- The 64-bit special registers: %lnk, %ctags, %time, %cfail, %cheld, %fpc, %fdata (R148, R205, R372). -/
def specialIs64 (n : Nat) : Bool := [0x00B, 0x00C, 0x00D, 0x040, 0x041, 0x0C0, 0x0C3].contains n

/-- The registers that GETS and SETS move for a special register (R147). -/
def specialRegs (n : Nat) : Nat := if specialIs64 n then 2 else 1

/-- The source operand of CVT by its source format (R171). -/
def cvtSrc (a : Reg) (sf : Nat) : SrcOp :=
  match sf with
  | 2 | 3 => ⟨a, 2, .int⟩
  | 8 => ⟨a, 1, .f32⟩
  | 9 => ⟨a, 2, .f64⟩
  | 10 => ⟨a, 1, .packed .f16x2⟩
  | 11 => ⟨a, 1, .packed .bf16x2⟩
  | 12 => ⟨a, 1, .packed .tf8x4⟩
  | 13 => ⟨a, 1, .packed .tf6x5⟩
  | _ => ⟨a, 1, .int⟩

/-- The registers that CVT writes by its destination format (R171). -/
def cvtRegs (df : Nat) : Nat := if df = 2 ∨ df = 3 ∨ df = 9 then 2 else 1

/-- The operands of an instruction; an engine or host step has none. -/
def opndsOf : Instr → Opnds
  | .nop o => { guard := o.g }
  | .bra o => { guard := o.g }
  | .brx o => { guard := o.g, srcs := [⟨o.a, 2, .int⟩] }
  | .call o => { guard := o.g }
  | .callx o => { guard := o.g, srcs := [⟨o.a, 2, .int⟩] }
  | .ret o => { guard := o.g }
  | .trap o => { guard := o.g }
  | .yield o => { guard := o.g }
  | .stepMark o => { guard := o.g }
  | .isync o => { guard := o.g, srcs := [⟨o.a, 2, .int⟩, ⟨o.b, 1, .int⟩], entry := some .store }
  | .fspawn o => { guard := o.g, srcs := [⟨o.a, 2, .int⟩, ⟨o.b, 1, .any⟩], dsts := [⟨o.d, 1⟩] }
  | .fexit o => { guard := o.g }
  | .waitc o => { guard := o.g }
  | .gets o => { guard := o.g, dsts := [⟨o.d, specialRegs o.imm⟩] }
  | .sets o => { guard := o.g, srcs := [⟨o.d, specialRegs o.imm, .any⟩] }
  | .mjoin o => { guard := o.g }
  | .mleave o => { guard := o.g }
  | .mwaitm o => { guard := o.g }
  | .mlog o => { guard := o.g }
  | .mrd o => { guard := o.g, dsts := [⟨o.d, 1⟩] }
  | .mwr o => { guard := o.g, srcs := [⟨o.a, 1, .any⟩] }
  | .shfl o => { guard := o.g, srcs := [⟨o.a, 1, .any⟩, ⟨o.b, 1, .int⟩], dsts := [⟨o.d, 1⟩], pdst := some o.pd }
  | .vote o => { guard := o.g, pdst := some o.pd, preads := [o.pa] }
  | .ballot o => { guard := o.g, dsts := [⟨o.d, 1⟩], preads := [o.pa] }
  | .bara o => { guard := o.g, dsts := if o.token = 1 then [⟨o.a, 1⟩] else [] }
  | .barw o => { guard := o.g, srcs := [⟨o.a, 1, .int⟩] }
  | .bars o => { guard := o.g }
  | .barc o => { guard := o.g, srcs := [⟨o.a, 2, .int⟩] }
  | .wgrow o => { guard := o.g }
  | .wshrink o => { guard := o.g }
  | .wmove o => { guard := o.g }
  | .iadd o => { guard := o.g, srcs := [⟨o.a, 1, .int⟩, ⟨o.b, 1, .int⟩], dsts := [⟨o.d, 1⟩] }
  | .isub o => { guard := o.g, srcs := [⟨o.a, 1, .int⟩, ⟨o.b, 1, .int⟩], dsts := [⟨o.d, 1⟩] }
  | .imul o => { guard := o.g, srcs := [⟨o.a, 1, .int⟩, ⟨o.b, 1, .int⟩], dsts := [⟨o.d, 1⟩] }
  | .imulhI32 o => { guard := o.g, srcs := [⟨o.a, 1, .int⟩, ⟨o.b, 1, .int⟩], dsts := [⟨o.d, 1⟩] }
  | .imulhN32 o => { guard := o.g, srcs := [⟨o.a, 1, .int⟩, ⟨o.b, 1, .int⟩], dsts := [⟨o.d, 1⟩] }
  | .idivI32 o => { guard := o.g, srcs := [⟨o.a, 1, .int⟩, ⟨o.b, 1, .int⟩], dsts := [⟨o.d, 1⟩] }
  | .idivN32 o => { guard := o.g, srcs := [⟨o.a, 1, .int⟩, ⟨o.b, 1, .int⟩], dsts := [⟨o.d, 1⟩] }
  | .iremI32 o => { guard := o.g, srcs := [⟨o.a, 1, .int⟩, ⟨o.b, 1, .int⟩], dsts := [⟨o.d, 1⟩] }
  | .iremN32 o => { guard := o.g, srcs := [⟨o.a, 1, .int⟩, ⟨o.b, 1, .int⟩], dsts := [⟨o.d, 1⟩] }
  | .iminI32 o => { guard := o.g, srcs := [⟨o.a, 1, .int⟩, ⟨o.b, 1, .int⟩], dsts := [⟨o.d, 1⟩] }
  | .iminN32 o => { guard := o.g, srcs := [⟨o.a, 1, .int⟩, ⟨o.b, 1, .int⟩], dsts := [⟨o.d, 1⟩] }
  | .imaxI32 o => { guard := o.g, srcs := [⟨o.a, 1, .int⟩, ⟨o.b, 1, .int⟩], dsts := [⟨o.d, 1⟩] }
  | .imaxN32 o => { guard := o.g, srcs := [⟨o.a, 1, .int⟩, ⟨o.b, 1, .int⟩], dsts := [⟨o.d, 1⟩] }
  | .iabs o => { guard := o.g, srcs := [⟨o.a, 1, .int⟩], dsts := [⟨o.d, 1⟩] }
  | .ineg o => { guard := o.g, srcs := [⟨o.a, 1, .int⟩], dsts := [⟨o.d, 1⟩] }
  | .imad o => { guard := o.g, srcs := [⟨o.a, 1, .int⟩, ⟨o.b, 1, .int⟩, ⟨o.c, 1, .int⟩], dsts := [⟨o.d, 1⟩] }
  | .andOp o => { guard := o.g, srcs := [⟨o.a, 1, .any⟩, ⟨o.b, 1, .any⟩], dsts := [⟨o.d, 1⟩] }
  | .orOp o => { guard := o.g, srcs := [⟨o.a, 1, .any⟩, ⟨o.b, 1, .any⟩], dsts := [⟨o.d, 1⟩] }
  | .xorOp o => { guard := o.g, srcs := [⟨o.a, 1, .any⟩, ⟨o.b, 1, .any⟩], dsts := [⟨o.d, 1⟩] }
  | .andn o => { guard := o.g, srcs := [⟨o.a, 1, .any⟩, ⟨o.b, 1, .any⟩], dsts := [⟨o.d, 1⟩] }
  | .notOp o => { guard := o.g, srcs := [⟨o.a, 1, .any⟩], dsts := [⟨o.d, 1⟩] }
  | .shl o => { guard := o.g, srcs := [⟨o.a, 1, .any⟩, ⟨o.b, 1, .int⟩], dsts := [⟨o.d, 1⟩] }
  | .shr o => { guard := o.g, srcs := [⟨o.a, 1, .any⟩, ⟨o.b, 1, .int⟩], dsts := [⟨o.d, 1⟩] }
  | .sar o => { guard := o.g, srcs := [⟨o.a, 1, .any⟩, ⟨o.b, 1, .int⟩], dsts := [⟨o.d, 1⟩] }
  | .rotl o => { guard := o.g, srcs := [⟨o.a, 1, .any⟩, ⟨o.b, 1, .int⟩], dsts := [⟨o.d, 1⟩] }
  | .popc o => { guard := o.g, srcs := [⟨o.a, 1, .any⟩], dsts := [⟨o.d, 1⟩] }
  | .clz o => { guard := o.g, srcs := [⟨o.a, 1, .any⟩], dsts := [⟨o.d, 1⟩] }
  | .brev o => { guard := o.g, srcs := [⟨o.a, 1, .any⟩], dsts := [⟨o.d, 1⟩] }
  | .bfxI32 o => { guard := o.g, srcs := [⟨o.a, 1, .any⟩, ⟨o.b, 1, .int⟩], dsts := [⟨o.d, 1⟩] }
  | .bfxN32 o => { guard := o.g, srcs := [⟨o.a, 1, .any⟩, ⟨o.b, 1, .int⟩], dsts := [⟨o.d, 1⟩] }
  | .bfi o => { guard := o.g, srcs := [⟨o.a, 1, .any⟩, ⟨o.b, 1, .any⟩, ⟨o.c, 1, .int⟩], dsts := [⟨o.d, 1⟩] }
  | .sel o => { guard := o.g, srcs := [⟨o.a, 1, .any⟩, ⟨o.b, 1, .any⟩], dsts := [⟨o.d, 1⟩], preads := [o.ps] }
  | .iaddi o => { guard := o.g, srcs := [⟨o.d, 1, .int⟩], dsts := [⟨o.d, 1⟩] }
  | .andi o => { guard := o.g, srcs := [⟨o.d, 1, .any⟩], dsts := [⟨o.d, 1⟩] }
  | .ori o => { guard := o.g, srcs := [⟨o.d, 1, .any⟩], dsts := [⟨o.d, 1⟩] }
  | .xori o => { guard := o.g, srcs := [⟨o.d, 1, .any⟩], dsts := [⟨o.d, 1⟩] }
  | .shli o => { guard := o.g, srcs := [⟨o.a, 1, .any⟩], dsts := [⟨o.d, 1⟩] }
  | .shri o => { guard := o.g, srcs := [⟨o.a, 1, .any⟩], dsts := [⟨o.d, 1⟩] }
  | .sari o => { guard := o.g, srcs := [⟨o.a, 1, .any⟩], dsts := [⟨o.d, 1⟩] }
  | .movi o => { guard := o.g, dsts := [⟨o.d, 1⟩] }
  | .movl o => { guard := o.g, dsts := [⟨o.d, 1⟩] }
  | .mov o => { guard := o.g, srcs := [⟨o.a, 1, .any⟩], dsts := [⟨o.d, 1⟩] }
  | .icmpI32 o => { guard := o.g, srcs := [⟨o.a, 1, .int⟩, ⟨o.b, 1, .int⟩], pdst := some o.pd }
  | .icmpN32 o => { guard := o.g, srcs := [⟨o.a, 1, .int⟩, ⟨o.b, 1, .int⟩], pdst := some o.pd }
  | .icmpiI32 o => { guard := o.g, srcs := [⟨o.a, 1, .int⟩], pdst := some o.pd }
  | .icmpiN32 o => { guard := o.g, srcs := [⟨o.a, 1, .int⟩], pdst := some o.pd }
  | .plog o => { guard := o.g, pdst := some o.pd, preads := [o.pa, o.pb] }
  | .iaddl o => { guard := o.g, srcs := [⟨o.a, 1, .int⟩], dsts := [⟨o.d, 1⟩] }
  | .iaddB64 o => { guard := o.g, srcs := [⟨o.a, 2, .int⟩, ⟨o.b, 2, .int⟩], dsts := [⟨o.d, 2⟩] }
  | .isubB64 o => { guard := o.g, srcs := [⟨o.a, 2, .int⟩, ⟨o.b, 2, .int⟩], dsts := [⟨o.d, 2⟩] }
  | .imulwI32 o => { guard := o.g, srcs := [⟨o.a, 1, .int⟩, ⟨o.b, 1, .int⟩], dsts := [⟨o.d, 2⟩] }
  | .imulwN32 o => { guard := o.g, srcs := [⟨o.a, 1, .int⟩, ⟨o.b, 1, .int⟩], dsts := [⟨o.d, 2⟩] }
  | .shlB64 o => { guard := o.g, srcs := [⟨o.a, 2, .int⟩, ⟨o.b, 1, .int⟩], dsts := [⟨o.d, 2⟩] }
  | .shrB64 o => { guard := o.g, srcs := [⟨o.a, 2, .int⟩, ⟨o.b, 1, .int⟩], dsts := [⟨o.d, 2⟩] }
  | .sarB64 o => { guard := o.g, srcs := [⟨o.a, 2, .int⟩, ⟨o.b, 1, .int⟩], dsts := [⟨o.d, 2⟩] }
  | .icmpI64 o => { guard := o.g, srcs := [⟨o.a, 2, .int⟩, ⟨o.b, 2, .int⟩], pdst := some o.pd }
  | .icmpN64 o => { guard := o.g, srcs := [⟨o.a, 2, .int⟩, ⟨o.b, 2, .int⟩], pdst := some o.pd }
  | .movB64 o => { guard := o.g, srcs := [⟨o.a, 2, .any⟩], dsts := [⟨o.d, 2⟩] }
  | .lea o => { guard := o.g, srcs := [⟨o.a, 2, .int⟩, ⟨o.b, 1, .int⟩], dsts := [⟨o.d, 2⟩] }
  | .faddF32 o => { guard := o.g, srcs := [⟨o.a, 1, .f32⟩, ⟨o.b, 1, .f32⟩], dsts := [⟨o.d, 1⟩] }
  | .fsubF32 o => { guard := o.g, srcs := [⟨o.a, 1, .f32⟩, ⟨o.b, 1, .f32⟩], dsts := [⟨o.d, 1⟩] }
  | .fmulF32 o => { guard := o.g, srcs := [⟨o.a, 1, .f32⟩, ⟨o.b, 1, .f32⟩], dsts := [⟨o.d, 1⟩] }
  | .ffmaF32 o => { guard := o.g, srcs := [⟨o.a, 1, .f32⟩, ⟨o.b, 1, .f32⟩, ⟨o.d, 1, .f32⟩], dsts := [⟨o.d, 1⟩] }
  | .fminF32 o => { guard := o.g, srcs := [⟨o.a, 1, .f32⟩, ⟨o.b, 1, .f32⟩], dsts := [⟨o.d, 1⟩] }
  | .fmaxF32 o => { guard := o.g, srcs := [⟨o.a, 1, .f32⟩, ⟨o.b, 1, .f32⟩], dsts := [⟨o.d, 1⟩] }
  | .fabsF32 o => { guard := o.g, srcs := [⟨o.a, 1, .f32⟩], dsts := [⟨o.d, 1⟩] }
  | .fnegF32 o => { guard := o.g, srcs := [⟨o.a, 1, .f32⟩], dsts := [⟨o.d, 1⟩] }
  | .fcmpF32 o => { guard := o.g, srcs := [⟨o.a, 1, .f32⟩, ⟨o.b, 1, .f32⟩], pdst := some o.pd }
  | .frcpF32 o => { guard := o.g, srcs := [⟨o.a, 1, .f32⟩], dsts := [⟨o.d, 1⟩] }
  | .frsqF32 o => { guard := o.g, srcs := [⟨o.a, 1, .f32⟩], dsts := [⟨o.d, 1⟩] }
  | .fsqrtF32 o => { guard := o.g, srcs := [⟨o.a, 1, .f32⟩], dsts := [⟨o.d, 1⟩] }
  | .fexp2F32 o => { guard := o.g, srcs := [⟨o.a, 1, .f32⟩], dsts := [⟨o.d, 1⟩] }
  | .flog2F32 o => { guard := o.g, srcs := [⟨o.a, 1, .f32⟩], dsts := [⟨o.d, 1⟩] }
  | .fsinF32 o => { guard := o.g, srcs := [⟨o.a, 1, .f32⟩], dsts := [⟨o.d, 1⟩] }
  | .fcosF32 o => { guard := o.g, srcs := [⟨o.a, 1, .f32⟩], dsts := [⟨o.d, 1⟩] }
  | .faddF32Long o => { guard := o.g, srcs := [⟨o.a, 1, .f32⟩, ⟨o.b, 1, .f32⟩], dsts := [⟨o.d, 1⟩] }
  | .fsubF32Long o => { guard := o.g, srcs := [⟨o.a, 1, .f32⟩, ⟨o.b, 1, .f32⟩], dsts := [⟨o.d, 1⟩] }
  | .fmulF32Long o => { guard := o.g, srcs := [⟨o.a, 1, .f32⟩, ⟨o.b, 1, .f32⟩], dsts := [⟨o.d, 1⟩] }
  | .ffmaF32Long o => { guard := o.g, srcs := [⟨o.a, 1, .f32⟩, ⟨o.b, 1, .f32⟩, ⟨o.c, 1, .f32⟩], dsts := [⟨o.d, 1⟩] }
  | .fdivF32 o => { guard := o.g, srcs := [⟨o.a, 1, .f32⟩, ⟨o.b, 1, .f32⟩], dsts := [⟨o.d, 1⟩] }
  | .frcpF32Long o => { guard := o.g, srcs := [⟨o.a, 1, .f32⟩], dsts := [⟨o.d, 1⟩] }
  | .frsqF32Long o => { guard := o.g, srcs := [⟨o.a, 1, .f32⟩], dsts := [⟨o.d, 1⟩] }
  | .fsqrtF32Long o => { guard := o.g, srcs := [⟨o.a, 1, .f32⟩], dsts := [⟨o.d, 1⟩] }
  | .faddF64 o => { guard := o.g, srcs := [⟨o.a, 2, .f64⟩, ⟨o.b, 2, .f64⟩], dsts := [⟨o.d, 2⟩] }
  | .fmulF64 o => { guard := o.g, srcs := [⟨o.a, 2, .f64⟩, ⟨o.b, 2, .f64⟩], dsts := [⟨o.d, 2⟩] }
  | .ffmaF64 o => { guard := o.g, srcs := [⟨o.a, 2, .f64⟩, ⟨o.b, 2, .f64⟩, ⟨o.c, 2, .f64⟩], dsts := [⟨o.d, 2⟩] }
  | .fdivF64 o => { guard := o.g, srcs := [⟨o.a, 2, .f64⟩, ⟨o.b, 2, .f64⟩], dsts := [⟨o.d, 2⟩] }
  | .fsqrtF64 o => { guard := o.g, srcs := [⟨o.a, 2, .f64⟩], dsts := [⟨o.d, 2⟩] }
  | .fminF64 o => { guard := o.g, srcs := [⟨o.a, 2, .f64⟩, ⟨o.b, 2, .f64⟩], dsts := [⟨o.d, 2⟩] }
  | .fmaxF64 o => { guard := o.g, srcs := [⟨o.a, 2, .f64⟩, ⟨o.b, 2, .f64⟩], dsts := [⟨o.d, 2⟩] }
  | .fcmpF64 o => { guard := o.g, srcs := [⟨o.a, 2, .f64⟩, ⟨o.b, 2, .f64⟩], pdst := some o.pd }
  | .faddF16x2 o => { guard := o.g, srcs := [⟨o.a, 1, .packed .f16x2⟩, ⟨o.b, 1, .packed .f16x2⟩], dsts := [⟨o.d, 1⟩] }
  | .fmulF16x2 o => { guard := o.g, srcs := [⟨o.a, 1, .packed .f16x2⟩, ⟨o.b, 1, .packed .f16x2⟩], dsts := [⟨o.d, 1⟩] }
  | .ffmaF16x2 o => { guard := o.g, srcs := [⟨o.a, 1, .packed .f16x2⟩, ⟨o.b, 1, .packed .f16x2⟩, ⟨o.c, 1, .packed .f16x2⟩], dsts := [⟨o.d, 1⟩] }
  | .faddBf16x2 o => { guard := o.g, srcs := [⟨o.a, 1, .packed .bf16x2⟩, ⟨o.b, 1, .packed .bf16x2⟩], dsts := [⟨o.d, 1⟩] }
  | .fmulBf16x2 o => { guard := o.g, srcs := [⟨o.a, 1, .packed .bf16x2⟩, ⟨o.b, 1, .packed .bf16x2⟩], dsts := [⟨o.d, 1⟩] }
  | .ffmaBf16x2 o => { guard := o.g, srcs := [⟨o.a, 1, .packed .bf16x2⟩, ⟨o.b, 1, .packed .bf16x2⟩, ⟨o.c, 1, .packed .bf16x2⟩], dsts := [⟨o.d, 1⟩] }
  | .fdotF16x2 o => { guard := o.g, srcs := [⟨o.a, 1, .packed .f16x2⟩, ⟨o.b, 1, .packed .f16x2⟩, ⟨o.c, 1, .f32⟩], dsts := [⟨o.d, 1⟩] }
  | .fdotBf16x2 o => { guard := o.g, srcs := [⟨o.a, 1, .packed .bf16x2⟩, ⟨o.b, 1, .packed .bf16x2⟩, ⟨o.c, 1, .f32⟩], dsts := [⟨o.d, 1⟩] }
  | .cvt o => { guard := o.g, srcs := [cvtSrc o.a o.sf], dsts := [⟨o.d, cvtRegs o.df⟩] }
  | .packTf8 o => { guard := o.g, srcs := [⟨o.a, 1, .f32⟩, ⟨o.b, 1, .packed .e8x4⟩, ⟨o.d, 1, .packed .tf8x4⟩], dsts := [⟨o.d, 1⟩] }
  | .packTf6 o => { guard := o.g, srcs := [⟨o.a, 1, .f32⟩, ⟨o.b, 1, .packed .e8x4⟩, ⟨o.d, 1, .packed .tf6x5⟩], dsts := [⟨o.d, 1⟩] }
  | .packF16 o => { guard := o.g, srcs := [⟨o.a, 1, .f32⟩, ⟨o.b, 1, .f32⟩], dsts := [⟨o.d, 1⟩] }
  | .packBf16 o => { guard := o.g, srcs := [⟨o.a, 1, .f32⟩, ⟨o.b, 1, .f32⟩], dsts := [⟨o.d, 1⟩] }
  | .unpkTf8 o => { guard := o.g, srcs := [⟨o.a, 1, .packed .tf8x4⟩], dsts := [⟨o.d, 1⟩] }
  | .unpkTf6 o => { guard := o.g, srcs := [⟨o.a, 1, .packed .tf6x5⟩], dsts := [⟨o.d, 1⟩] }
  | .unpkF16 o => { guard := o.g, srcs := [⟨o.a, 1, .packed .f16x2⟩], dsts := [⟨o.d, 1⟩] }
  | .unpkBf16 o => { guard := o.g, srcs := [⟨o.a, 1, .packed .bf16x2⟩], dsts := [⟨o.d, 1⟩] }
  | .schist o => { guard := o.g, srcs := [⟨o.a, 1, .f32⟩, ⟨o.b, 1, .int⟩], dsts := [⟨o.d, 1⟩] }
  | .scale o => { guard := o.g, srcs := [⟨o.a, 1, .f32⟩, ⟨o.b, 1, .packed .e8x4⟩], dsts := [⟨o.d, 1⟩] }
  | .retag o => { guard := o.g, srcs := [⟨o.a, 1, .any⟩], dsts := [⟨o.d, 1⟩] }
  | .ld o => { guard := o.g, srcs := [⟨o.a, 2, .int⟩], dsts := [⟨o.d, regsOfW o.w⟩], entry := some .load }
  | .ldOff o => { guard := o.g, srcs := [⟨o.a, 2, .int⟩], dsts := [⟨o.d, regsOfW o.w⟩], entry := some .load }
  | .ldInv o => { guard := o.g, srcs := [⟨o.a, 2, .int⟩], dsts := [⟨o.d, regsOfW o.w⟩], entry := some .load }
  | .ldInvOff o => { guard := o.g, srcs := [⟨o.a, 2, .int⟩], dsts := [⟨o.d, regsOfW o.w⟩], entry := some .load }
  | .ldNf o => { guard := o.g, srcs := [⟨o.a, 2, .int⟩], dsts := [⟨o.d, regsOfW o.w⟩], entry := some .load }
  | .ldNfOff o => { guard := o.g, srcs := [⟨o.a, 2, .int⟩], dsts := [⟨o.d, regsOfW o.w⟩], entry := some .load }
  | .ldInvNf o => { guard := o.g, srcs := [⟨o.a, 2, .int⟩], dsts := [⟨o.d, regsOfW o.w⟩], entry := some .load }
  | .ldInvNfOff o => { guard := o.g, srcs := [⟨o.a, 2, .int⟩], dsts := [⟨o.d, regsOfW o.w⟩], entry := some .load }
  | .st o => { guard := o.g, srcs := [⟨o.a, 2, .int⟩, ⟨o.d, regsOfW o.w, .data o.ty⟩], entry := some .store }
  | .stOff o => { guard := o.g, srcs := [⟨o.a, 2, .int⟩, ⟨o.d, regsOfW o.w, .data o.ty⟩], entry := some .store }
  | .ldb o => { guard := o.g, srcs := [⟨o.a, 2, .int⟩], dsts := [⟨o.d, 1⟩], entry := some .load }
  | .ldbOff o => { guard := o.g, srcs := [⟨o.a, 2, .int⟩], dsts := [⟨o.d, 1⟩], entry := some .load }
  | .ldbInv o => { guard := o.g, srcs := [⟨o.a, 2, .int⟩], dsts := [⟨o.d, 1⟩], entry := some .load }
  | .ldbInvOff o => { guard := o.g, srcs := [⟨o.a, 2, .int⟩], dsts := [⟨o.d, 1⟩], entry := some .load }
  | .ldbNf o => { guard := o.g, srcs := [⟨o.a, 2, .int⟩], dsts := [⟨o.d, 1⟩], entry := some .load }
  | .ldbNfOff o => { guard := o.g, srcs := [⟨o.a, 2, .int⟩], dsts := [⟨o.d, 1⟩], entry := some .load }
  | .stb o => { guard := o.g, srcs := [⟨o.a, 2, .int⟩, ⟨o.d, 1, if o.ty = 0 then .any else .int⟩], entry := some .store }
  | .stbOff o => { guard := o.g, srcs := [⟨o.a, 2, .int⟩, ⟨o.d, 1, if o.ty = 0 then .any else .int⟩], entry := some .store }
  | .pgreq o => { guard := o.g, srcs := [⟨o.a, 2, .int⟩], entry := some .load }
  | .pgreqOff o => { guard := o.g, srcs := [⟨o.a, 2, .int⟩], entry := some .load }
  | .lds o => { guard := o.g, srcs := [⟨o.a, 1, .int⟩], dsts := [⟨o.d, regsOfW o.w⟩], entry := some .load }
  | .ldsOff o => { guard := o.g, srcs := [⟨o.a, 1, .int⟩], dsts := [⟨o.d, regsOfW o.w⟩], entry := some .load }
  | .sts o => { guard := o.g, srcs := [⟨o.a, 1, .int⟩, ⟨o.d, regsOfW o.w, .data o.ty⟩], entry := some .store }
  | .stsOff o => { guard := o.g, srcs := [⟨o.a, 1, .int⟩, ⟨o.d, regsOfW o.w, .data o.ty⟩], entry := some .store }
  | .ldq o => { guard := o.g, srcs := [⟨o.a, 1, .int⟩], dsts := [⟨o.d, regsOfW o.w⟩], entry := some .load }
  | .ldqOff o => { guard := o.g, srcs := [⟨o.a, 1, .int⟩], dsts := [⟨o.d, regsOfW o.w⟩], entry := some .load }
  | .stq o => { guard := o.g, srcs := [⟨o.a, 1, .int⟩, ⟨o.d, regsOfW o.w, .data o.ty⟩], entry := some .store }
  | .stqOff o => { guard := o.g, srcs := [⟨o.a, 1, .int⟩, ⟨o.d, regsOfW o.w, .data o.ty⟩], entry := some .store }
  | .ldnw o => { guard := o.g, srcs := [⟨o.a, 1, .int⟩], dsts := [⟨o.d, regsOfW o.w⟩], entry := some .load }
  | .ldnwOff o => { guard := o.g, srcs := [⟨o.a, 1, .int⟩], dsts := [⟨o.d, regsOfW o.w⟩], entry := some .load }
  | .stnw o => { guard := o.g, srcs := [⟨o.a, 1, .int⟩, ⟨o.d, regsOfW o.w, .data o.ty⟩], entry := some .store }
  | .stnwOff o => { guard := o.g, srcs := [⟨o.a, 1, .int⟩, ⟨o.d, regsOfW o.w, .data o.ty⟩], entry := some .store }
  | .cpg2s o => { guard := o.g, srcs := [⟨o.a, 2, .lowInt⟩, ⟨o.b, 2, .int⟩, ⟨regPlus o.b 2, 1, .int⟩], entry := some .copy }
  | .cpg2sExt o => { guard := o.g, srcs := [⟨o.a, 2, .lowInt⟩, ⟨o.b, 2, .int⟩, ⟨regPlus o.b 2, 1, .int⟩], entry := some .copy }
  | .cps2g o => { guard := o.g, srcs := [⟨o.a, 2, .int⟩, ⟨o.b, 2, .lowInt⟩, ⟨regPlus o.b 2, 1, .int⟩], entry := some .copy }
  | .cps2gExt o => { guard := o.g, srcs := [⟨o.a, 2, .int⟩, ⟨o.b, 2, .lowInt⟩, ⟨regPlus o.b 2, 1, .int⟩], entry := some .copy }
  | .cpx o => { guard := o.g, srcs := [⟨o.a, 2, .int⟩, ⟨o.b, 2, .int⟩, ⟨regPlus o.b 2, 1, .int⟩], entry := some .copy }
  | .cpxExt o => { guard := o.g, srcs := [⟨o.a, 2, .int⟩, ⟨o.b, 2, .int⟩, ⟨regPlus o.b 2, 1, .int⟩], entry := some .copy }
  | .cpfence o => { guard := o.g }
  | .twany o => { guard := o.g, srcs := [⟨o.a, 2, .int⟩], dsts := [⟨o.d, 1⟩] }
  | .twall o => { guard := o.g, srcs := [⟨o.a, 2, .int⟩] }
  | .tfirst o => { guard := o.g, srcs := [⟨o.a, 2, .int⟩], dsts := [⟨o.d, 1⟩] }
  | .mxgo o => { guard := o.g, srcs := [⟨o.a, 1, .int⟩], entry := some .tile }
  | .mxclr o => { guard := o.g, entry := some .tile }
  | .mxrd o => { guard := o.g, srcs := [⟨o.a, 1, .int⟩], dsts := [⟨o.d, 4⟩], entry := some .tile }
  | .mxwr o => { guard := o.g, srcs := [⟨o.a, 1, .int⟩, ⟨o.b, 4, .f32⟩], entry := some .tile }
  | .mxsc o => { guard := o.g, srcs := [⟨o.a, 2, .int⟩, ⟨o.b, 1, .int⟩], entry := some .tile }
  | .mxhist o => { guard := o.g, srcs := [⟨o.a, 1, .int⟩, ⟨o.b, 1, .int⟩], dsts := [⟨o.d, 1⟩], entry := some .tile }
  | .mxwait o => { guard := o.g }
  | .atadd o => { guard := o.g, srcs := [⟨o.a, 2, .int⟩, ⟨o.b, 1, .int⟩], dsts := [⟨o.d, 1⟩], entry := some .load }
  | .atminI32 o => { guard := o.g, srcs := [⟨o.a, 2, .int⟩, ⟨o.b, 1, .int⟩], dsts := [⟨o.d, 1⟩], entry := some .load }
  | .atminN32 o => { guard := o.g, srcs := [⟨o.a, 2, .int⟩, ⟨o.b, 1, .int⟩], dsts := [⟨o.d, 1⟩], entry := some .load }
  | .atmaxI32 o => { guard := o.g, srcs := [⟨o.a, 2, .int⟩, ⟨o.b, 1, .int⟩], dsts := [⟨o.d, 1⟩], entry := some .load }
  | .atmaxN32 o => { guard := o.g, srcs := [⟨o.a, 2, .int⟩, ⟨o.b, 1, .int⟩], dsts := [⟨o.d, 1⟩], entry := some .load }
  | .atand o => { guard := o.g, srcs := [⟨o.a, 2, .int⟩, ⟨o.b, 1, .any⟩], dsts := [⟨o.d, 1⟩], entry := some .load }
  | .ator o => { guard := o.g, srcs := [⟨o.a, 2, .int⟩, ⟨o.b, 1, .any⟩], dsts := [⟨o.d, 1⟩], entry := some .load }
  | .atxor o => { guard := o.g, srcs := [⟨o.a, 2, .int⟩, ⟨o.b, 1, .any⟩], dsts := [⟨o.d, 1⟩], entry := some .load }
  | .atxchg o => { guard := o.g, srcs := [⟨o.a, 2, .int⟩, ⟨o.b, 1, .any⟩], dsts := [⟨o.d, 1⟩], entry := some .load }
  | .atcas o => { guard := o.g, srcs := [⟨o.a, 2, .int⟩, ⟨o.b, 1, .any⟩, ⟨o.c, 1, .any⟩], dsts := [⟨o.d, 1⟩], entry := some .load }
  | .ataddB64 o => { guard := o.g, srcs := [⟨o.a, 2, .int⟩, ⟨o.b, 2, .int⟩], dsts := [⟨o.d, 2⟩], entry := some .load }
  | .atcasB64 o => { guard := o.g, srcs := [⟨o.a, 2, .int⟩, ⟨o.b, 2, .any⟩, ⟨o.c, 2, .any⟩], dsts := [⟨o.d, 2⟩], entry := some .load }
  | .redaddF32 o => { guard := o.g, srcs := [⟨o.a, 2, .int⟩, ⟨o.b, 1, .f32⟩], entry := some .store }
  | .redaddBf16x2 o => { guard := o.g, srcs := [⟨o.a, 2, .int⟩, ⟨o.b, 1, .packed .bf16x2⟩], entry := some .store }
  | .ldAcq o => { guard := o.g, srcs := [⟨o.a, 2, .int⟩], dsts := [⟨o.d, regsOfW o.w⟩], entry := some .load }
  | .ldAcqOff o => { guard := o.g, srcs := [⟨o.a, 2, .int⟩], dsts := [⟨o.d, regsOfW o.w⟩], entry := some .load }
  | .stRel o => { guard := o.g, srcs := [⟨o.a, 2, .int⟩, ⟨o.d, regsOfW o.w, .data o.ty⟩], entry := some .store }
  | .stRelOff o => { guard := o.g, srcs := [⟨o.a, 2, .int⟩, ⟨o.d, regsOfW o.w, .data o.ty⟩], entry := some .store }
  | .fence o => { guard := o.g }
  | .mwait o => { guard := o.g, srcs := [⟨o.a, 2, .int⟩, ⟨o.b, 1, .any⟩, ⟨o.c, 1, .int⟩], dsts := [⟨o.d, 1⟩], entry := some .load }
  | .objreg o => { guard := o.g, srcs := [⟨o.a, 2, .int⟩, ⟨o.b, 1, .int⟩], dsts := [⟨o.d, 2⟩], entry := some .load }
  | .objdrop o => { guard := o.g, srcs := [⟨o.a, 2, .int⟩], entry := some .store }
  | .clpush o => { guard := o.g, srcs := [⟨o.a, 2, .int⟩, ⟨o.b, 1, .any⟩], dsts := [⟨o.d, 1⟩], entry := some .load }
  | .clpop o => { guard := o.g, srcs := [⟨o.a, 2, .int⟩], dsts := [⟨o.d, 1⟩], pdst := some o.pd, entry := some .load }
  | .shrd o => { guard := o.g, srcs := [⟨o.a, 1, .int⟩, ⟨o.b, 1, .int⟩], dsts := [⟨o.d, 1⟩], entry := some .load }
  | .shwr o => { guard := o.g, srcs := [⟨o.a, 1, .int⟩, ⟨o.b, 1, .int⟩, ⟨o.d, 1, .any⟩], entry := some .store }
  | .shrg o => { guard := o.g, srcs := [⟨o.a, 1, .int⟩, ⟨o.b, 1, .int⟩], dsts := [⟨o.d, 1⟩], entry := some .load }
  | .shwg o => { guard := o.g, srcs := [⟨o.a, 1, .int⟩, ⟨o.b, 1, .int⟩, ⟨o.d, 1, .any⟩], entry := some .store }
  | .shfin o => { guard := o.g, srcs := ⟨o.a, 1, .int⟩ :: (if o.disp = 2 then [⟨o.d, 2, .int⟩] else []), entry := some .store }
  | .fctret o => { guard := o.g, srcs := [⟨.v 7, 1, .int⟩] }
  | .fctstg o => { guard := o.g, srcs := [⟨o.a, 2, .int⟩, ⟨o.b, 1, .int⟩], dsts := [⟨o.d, 1⟩], entry := some .load }
  | .fctact o => { guard := o.g, srcs := [⟨o.a, 1, .int⟩], dsts := [⟨o.d, 1⟩], entry := some .load }
  | .fctrd o => { guard := o.g, srcs := [⟨o.a, 1, .int⟩], dsts := [⟨o.d, 1⟩] }
  | .qmap o => { guard := o.g, srcs := [⟨o.a, 2, .int⟩, ⟨o.b, 1, .int⟩], dsts := [⟨o.d, 1⟩], entry := some .store }
  | .qunmap o => { guard := o.g, srcs := [⟨o.a, 1, .int⟩], dsts := [⟨o.d, 1⟩], entry := some .store }
  | .preempt o => { guard := o.g, srcs := [⟨o.a, 1, .int⟩, ⟨o.b, 1, .int⟩], dsts := [⟨o.d, 1⟩], entry := some .store }
  | .nonInstructionWord _ => {}
  | .facetTrap _ => {}
  | .facetRewrite _ => {}
  | .facetEmulateEntry _ => {}
  | .emulationLimit _ _ => {}
  | .regroupBoundary _ => {}
  | .wgrowGrant _ => {}
  | .regPoolDeadlock _ => {}
  | .loadComplete _ _ => {}
  | .storeComplete _ => {}
  | .isyncComplete _ _ _ => {}
  | .channelEntry _ => {}
  | .channelAck _ => {}
  | .channelNack _ => {}
  | .backoffExpiry _ => {}
  | .congestionWindowEnd _ _ => {}
  | .copyBegin _ _ => {}
  | .segmentComplete _ _ _ _ => {}
  | .copyCompletion _ _ => {}
  | .passGrant _ _ => {}
  | .passCommitDone _ => {}
  | .mxhistServe _ => {}
  | .lateItemArrival _ => {}
  | .scaleLineFill _ _ _ => {}
  | .passResidueCheck _ _ => {}
  | .sliceRequest _ _ => {}
  | .sliceFill _ _ _ _ => {}
  | .l1Revoke _ => {}
  | .revokeAck _ => {}
  | .mwaitTimeout _ _ => {}
  | .claspArrival _ => {}
  | .dwellExpiry _ _ => {}
  | .fallThrough _ _ => {}
  | .genTableWrite _ => {}
  | .genTableAck _ => {}
  | .subjectPark _ => {}
  | .heldSubjectRecord _ => {}
  | .faulttask _ _ _ _ => {}
  | .taskDeadline _ => {}
  | .budgetExpired _ => {}
  | .preemptRequest _ => {}
  | .groupSave _ => {}
  | .groupRestore _ _ => {}
  | .groupAdmit _ => {}
  | .tlbLookup _ _ => {}
  | .walkComplete _ _ _ _ => {}
  | .pgreqResident _ => {}
  | .doorbell _ _ _ => {}
  | .nopPacket _ _ => {}
  | .launchPacket _ _ _ => {}
  | .barrierPacket _ _ => {}
  | .barrierResolve _ _ => {}
  | .signalPacket _ _ => {}
  | .copyPacket _ _ => {}
  | .qfencePacket _ _ => {}
  | .qfenceSatisfied _ _ => {}
  | .stepmarkPacket _ _ => {}
  | .queueTimeslice _ _ => {}
  | .msixDeadline _ _ => {}
  | .dieLost _ => {}
  | .sparesWrite _ => {}
  | .slotminWrite _ => {}
  | .tlbinv _ => {}
  | .privhwWrite _ => {}
  | .swapGo _ => {}
  | .fwreadyWrite _ => {}
  | .registerWrite _ => {}
  | .tlbinvDone => {}
  | .swapDone _ => {}
  | .bar2Access _ _ => {}
  | .ctxCreate _ => {}
  | .ctxDestroy _ => {}
  | .regRead _ => {}
  | .sealEntry _ => {}
  | .checkEntry _ => {}
  | .attest _ => {}
  | .cert _ => {}
  | .fwStage _ => {}
  | .fwCommit _ => {}
  | .partPeers _ => {}
  | .ctxBind _ => {}
  | .unknownCommand _ => {}
  | .mailboxComplete _ => {}
  | .fwReadyTimeout => {}
  | .dataFlit _ _ => {}
  | .idleFlit _ _ => {}
  | .linkctlFlit _ _ => {}
  | .readRec _ _ => {}
  | .writeRec _ => {}
  | .rdresp _ => {}
  | .wrack _ => {}
  | .podreg _ => {}
  | .podarr _ => {}
  | .poddone _ => {}
  | .ftask _ => {}
  | .proxy _ => {}
  | .proxyresp _ => {}
  | .linkTimeout _ => {}
  | .dieState => {}
  | .matrixGate => {}
  | .routerGate => {}
  | .powerCommandDone => {}
  | .routerWake _ => {}
  | .routerGroupOn _ => {}
  | .freeze => {}
  | .freezeRelease => {}
  | .tapIdcode => {}
  | .tapBypass => {}
  | .coldReset => {}
  | .tapScanout _ => {}
  | .smbalert _ => {}
  | .tileOperationComplete _ _ _ => {}
  | .patchVerificationDone => {}
  | .hostAbort _ => {}
  | .vfPartitionBinding _ _ => {}
  | .devnumWrite _ => {}

/-- Whether W and TY of a full-width memory instruction are legal together (R180). -/
def wTyLegal (w ty : Nat) : Bool :=
  match w with
  | 0 => ty ≤ 7 || (10 ≤ ty && ty ≤ 12)
  | 1 => ty == 0 || ty == 1 || ty == 2 || ty == 8
  | 2 => ty ≤ 8 || (10 ≤ ty && ty ≤ 12)
  | _ => false

/-- Whether W and TY of a narrow memory instruction are legal together (R68, R180). -/
def narrowLegal (w ty : Nat) : Bool := w ≤ 1 && ty ≤ 2

/-- A conversion pairing that CVT allows (R171). -/
def cvtLegal (df sf : Nat) : Bool := df ≤ 13 && sf ≤ 13 && df != sf

/-- A field of the instruction holds a value that its description calls reserved (R63 and the
instruction's own rule). -/
def reservedValue : Instr → Bool
  | .wgrow o | .wshrink o => o.imm == 0 || 29 < o.imm
  | .wmove o => decide (sx o.imm 14 < -29) || decide (29 < sx o.imm 14)
  | .mjoin o | .mleave o | .mwaitm o => 11 < o.md
  | .mlog o => 11 < o.md || 11 < o.ma || 11 < o.mb || 4 < o.op || (o.op == 4 && o.mb != 0)
  | .mrd o => 11 < o.ma
  | .mwr o => 11 < o.md
  | .shfl o => 11 < o.ma
  | .vote o => 11 < o.ma || o.op == 3
  | .ballot o => 11 < o.ma
  | .bara o => 4 < o.scope || (o.token == 0 && o.a != .v 0)
  | .barw o => 4 < o.scope
  | .bars o => 4 < o.scope
  | .barc o => 4 < o.scope
  | .shli o | .shri o | .sari o => 31 < o.imm
  | .movl o => 12 < o.ty
  | .icmpI32 o | .icmpN32 o | .icmpI64 o | .icmpN64 o | .fcmpF32 o | .fcmpF64 o => 7 < o.cc
  | .icmpiI32 o | .icmpiN32 o => 7 < o.cc
  | .faddF32Long o | .fsubF32Long o | .fmulF32Long o | .fdivF32 o | .faddF64 o | .fmulF64 o | .fdivF64 o
  | .faddF16x2 o | .fmulF16x2 o | .faddBf16x2 o | .fmulBf16x2 o => 4 < o.rnd
  | .ffmaF32Long o | .ffmaF64 o | .ffmaF16x2 o | .ffmaBf16x2 o | .fdotF16x2 o | .fdotBf16x2 o => 4 < o.rnd
  | .frcpF32Long o | .frsqF32Long o | .fsqrtF32Long o | .fsqrtF64 o => 4 < o.rnd
  | .cvt o => !cvtLegal o.df o.sf || 4 < o.rnd
  | .unpkTf8 o => 3 < o.imm
  | .unpkTf6 o => 4 < o.imm
  | .unpkF16 o | .unpkBf16 o => 1 < o.imm
  | .retag o => 12 < o.ty
  | .ld o | .ldInv o | .ldNf o | .ldInvNf o | .st o | .lds o | .sts o | .ldq o | .stq o | .ldnw o | .stnw o =>
    !wTyLegal o.w o.ty
  | .ldOff o | .ldInvOff o | .ldNfOff o | .ldInvNfOff o | .stOff o | .ldsOff o | .stsOff o | .ldqOff o | .stqOff o
  | .ldnwOff o | .stnwOff o => !wTyLegal o.w o.ty
  | .ldb o | .ldbInv o | .ldbNf o | .stb o => !narrowLegal o.w o.ty
  | .ldbOff o | .ldbInvOff o | .ldbNfOff o | .stbOff o => !narrowLegal o.w o.ty
  | .ldAcq o | .stRel o => !wTyLegal o.w o.ty || 1 < o.w
  | .ldAcqOff o | .stRelOff o => !wTyLegal o.w o.ty || 1 < o.w
  | .cpg2sExt o | .cps2gExt o | .cpxExt o => 4 < o.scope || (o.bar == 0 && (o.scope != 0 || o.id != 0))
  | .cpfence o => o.qm == 0
  | .redaddF32 o | .redaddBf16x2 o => o.ord == 1 || o.ord == 3
  | .mxclr o => o.tm == 0
  | .fence o => 2 < o.kind
  | .shfin o => (o.fail == 1 && o.disp != 3) || (o.disp != 2 && o.d != .v 0)
  | _ => false

/-- A group of registers starts at a code that is no multiple of its size or runs past the last code of
its class (R65). -/
def badGroup (r : Reg) (n : Nat) : Bool :=
  let lim := match r with | .v _ => 96 | .k _ => 32
  let code := match r with | .v k => k | .k k => k
  code % n != 0 || lim < code + n

/-- The mask that the instruction writes (R71). -/
def maskWritten : Instr → Option Nat
  | .mjoin o | .mleave o => some o.md
  | .mlog o => some o.md
  | .mwr o => some o.md
  | _ => none

/-- Whether a chapter assigns a special-register number. -/
def specialAssigned (n : Nat) : Bool :=
  n ≤ 0x010 || n == 0x040 || n == 0x041 || (0x060 ≤ n && n ≤ 0x062) || (0x0A0 ≤ n && n ≤ 0x0A3) ||
    (0x0C0 ≤ n && n ≤ 0x0C5) || (0x0E0 ≤ n && n ≤ 0x0E2)

/-- Whether SETS may name a special register: access RW or W1C. -/
def specialWritable (n : Nat) : Bool := [0x008, 0x009, 0x00B, 0x00C, 0x040, 0x060].contains n

/-- GETS or SETS names a special register that it may not: a number that nothing assigns, or SETS one that is read-only (R147). -/
def badSpecial : Instr → Bool
  | .gets o => !specialAssigned o.imm
  | .sets o => !specialAssigned o.imm || !specialWritable o.imm
  | _ => false

/-- A bad pair or group, a write of M0 or P7, or a special register that may not be named: ILLEGAL_OPERAND at decode (R65, R71, R76,
R147). -/
def illegalOperand (i : Instr) : Bool :=
  let o := opndsOf i
  o.srcs.any (fun x => badGroup x.reg x.n) || o.dsts.any (fun x => badGroup x.reg x.n) ||
  maskWritten i == some 0 || o.pdst == some 7 || badSpecial i

end Sys2Proof.Machine
end

