-- ==== Sys2Proof/Machine/CoreState.lean ====
section
/-! DEFINITION. The state of a core's work: fibres, waves, groups and cores (R24-R59, 02; R182-R184, 06;
R263-R265, 11; R334-R337, 13; R360-R365, 15). -/
namespace Sys2Proof.Machine

/-- A fibre slot: never launched, live, or exited (R24). -/
inductive FibState where
  | never | live | exited
deriving DecidableEq, Repr

/-- A destination register as an instruction in flight holds it: an allocation register of the fibre, a K
register of the wave, or a register of the facet frame (R32, R64, R360). -/
inductive DReg where
  | v (idx : Nat)
  | k (n : Nat)
  | fv (n : Nat)
  | fk (n : Nat)
deriving DecidableEq, Repr

/-- The collective that a fibre has arrived at (R134-R136, R177). -/
inductive Collective where
  | shfl (pd : Nat)
  | vote (op pd : Nat)
  | ballot
  | schist
deriving DecidableEq, Repr

/-- What a fibre waits for (R25, R37). The program counter of a waiting fibre is the address after the
waiting instruction. -/
inductive Wait where
  | none
  /-- MWAITM on a mask at the instruction's address (R133) -/
  | mwaitm (mask : Nat) (at_ : Addr)
  /-- a collective over a mask at an address, with the guard and the captured sources (R134) -/
  | coll (c : Collective) (mask : Nat) (at_ : Addr) (guard : Bool) (srcs : List Tagged) (src : Bool) (dst : List DReg)
  /-- a barrier phase: waits while PHASE is `phase` (R141) -/
  | barrier (scope id : Nat) (phase : Nat)
  /-- a WGROW request for units, at the instruction's address (R34); `n` is its operand -/
  | wgrow (n : Nat) (at_ : Addr)
  /-- an MWAIT whose load entry is `slot` (R286) -/
  | mwait (slot : Nat)
  /-- WAITC (R143) -/
  | waitc (nl ns nc nt : Nat)
  /-- TWANY with its destination and mask (R212) -/
  | twany (mask : Nat) (dst : List DReg)
  /-- TWALL (R212) -/
  | twall (mask : Nat)
  /-- MXWAIT: the tile operations it waits for, as wave and issue number pairs (R250) -/
  | tile (ops : List (Nat × Nat))
  /-- FENCE: the kind and the entry ages it waits for (R285) -/
  | fence (kind : Nat) (ages : List Nat)
  /-- ISYNC, with its store entry (R145) -/
  | isync (slot : Nat)
  /-- STEP of an elastic launch (R144) -/
  | step
  /-- not ready until the next regroup boundary after the core cycle of its issue (YIELD, R146) -/
  | yield (cycle : Nat)
deriving DecidableEq, Repr

/-- A fibre's facet context (R360, R361): the emulated instruction and the frame's share of the fibre; `pc` and `lnk` count
from the active image's first byte. -/
structure FacetCtx where
  slot : Nat
  pc : Addr
  w0 : Nat
  w1 : Nat
  /-- core cycle of entry (R364) -/
  entry : Nat
  regs : Tab Tagged
  ks : Tab Tagged
  preds : BitVec 8
  flags : Word
  trapen : Word
  lnk : Addr
deriving DecidableEq, Repr

/-- A fibre slot's state (R24, R25). -/
structure Fibre where
  st : FibState
  pc : Addr
  /-- P0 to P7; bit 7 is always 1 (R25) -/
  preds : BitVec 8
  /-- %wnd.BASE (R31) -/
  base : Nat
  /-- %wnd.ALLOC (R31) -/
  alloc : Nat
  /-- the registers of the allocation by index, zero tagged b32 where unlisted (R33) -/
  regs : Tab Tagged
  flags : Word
  trapen : Word
  lnk : Addr
  wait : Wait
  /-- the fired bit of a saved MWAIT (R288) -/
  fired : Bool
  facet : Option FacetCtx
deriving DecidableEq, Repr

/-- The fibre slot that nothing has filled (R24). -/
def Fibre.empty : Fibre :=
  { st := .never, pc := 0, preds := 0x80, base := 0, alloc := 0, regs := [], flags := 0, trapen := 0, lnk := 0,
    wait := .none, fired := false, facet := none }

/-- How far one fibre's access of an entry has come (R182, R183, R334). -/
inductive AccState where
  /-- formed, not yet sent (release order, R266; held back, R334) -/
  | unsent
  /-- on its way to its home, or there -/
  | sent
  | done
  /-- a late fault of this cause (R183) -/
  | faulted (cause : Nat)
  /-- returned unapplied behind an older faulted access (R334) -/
  | returned
deriving DecidableEq, Repr

/-- One fibre's access or operation of a scoreboard entry (R183, R335): its address, its data or operation
operands (space 3 of R344), where its result goes. -/
structure Acc where
  fib : Nat
  va : Addr
  data : List Word
  st : AccState
  dst : List DReg
  /-- the predicate that completion writes: P6 of an `.nf` load, PD of CLPOP -/
  pd : Option Nat
  /-- words of the line that must not be taken into the L1 when this load's data come (R265) -/
  skip : Nat
  /-- the fibre has exited: the result is discarded (R39) -/
  drop : Bool
  /-- device time in ticks of an MWAIT's issue, from which its timeout runs (R287) -/
  tmo : Nat
  /-- issued by a facet routine (R364) -/
  inFacet : Bool
deriving DecidableEq, Repr

/-- A scoreboard entry (R335). -/
structure Entry where
  instr : Instr
  pc : Addr
  /-- issue number within the wave: AGE orders by it -/
  age : Nat
  accs : List Acc
  faulted : Bool
  /-- SETTLE: 0 re-issue, 1 supply, 2 discard (R336) -/
  settle : Nat
deriving DecidableEq, Repr

/-- Whether a wave runs, drains after a late fault, stands detached without a record (held or awaiting
SUBJECT_PARK), or is parked under a record (R13, R330, R334). -/
inductive WaveRun where
  | running
  | draining
  | detached
  | parked (rid : Nat)
  | retired
deriving DecidableEq, Repr

/-- A wave (R25). -/
structure Wave where
  /-- wave slot on its core (R52, R324) -/
  slot : Nat
  /-- fibre slots 0 to 31, never launched where unlisted -/
  fibres : Tab Fibre
  /-- M1 to M11; M0 is the set of live fibres (R25) -/
  masks : Tab Word
  ks : Tab Tagged
  /-- entries 0-15 loads, 16-31 stores, 32-39 copies, 40-47 tile operations, 48 execution (R335) -/
  sb : Tab Entry
  nextAge : Nat
  starve : Nat
  admitted : Nat
  mxflags : Word
  mxdone : Word
  mxsig : Word
  run : WaveRun
  /-- the bundles of ready or once-ready fibres (R37) -/
  bundles : List (List Nat)
  /-- the core cycle since which a fibre has been ready, unlisted for one that was not ready in a cycle yet (R43) -/
  ready : Tab Nat
  /-- fibres whose wait ended in the current core cycle, or whose regroup gave them back: ready from the next one on (R37, R41) -/
  letGo : List Nat
  /-- the first issue number of the current core cycle (R250) -/
  ageMark : Nat
  /-- the wave has arrived at the current step (R144) -/
  stepArrived : Bool
  /-- K and mask state is lost with the units of a wave parked by R35: its allocation waits for the pool -/
  noUnits : Bool
  /-- a disposition or a restore let it run again, and it issues nothing until its unsettled entries are settled (R336, R340) -/
  settling : Bool := false
deriving DecidableEq, Repr

/-- A core barrier (R46). -/
structure CoreBarrier where
  exp : Nat
  arr : Nat
  phase : Nat
  live : Bool
  armed : Bool
  members : Nat
  /-- an event of the current core cycle asks for the completion test at its end (R142) -/
  due : Bool
deriving DecidableEq, Repr

/-- An unconfigured core barrier (R40, R46). -/
def CoreBarrier.zero : CoreBarrier := ⟨0, 0, 0, false, false, 0, false⟩

/-- An accumulator tile: its tag and its words by `128 × row + column`, zero where unlisted (R102). -/
structure Tile where
  tag : Tag
  elems : Tab Word
deriving DecidableEq, Repr

/-- A tile that nothing has written (R40, R102). -/
def Tile.zero : Tile := ⟨.b32, []⟩

/-- A kernel header's fields as the device uses them (R90, R91). -/
structure Header where
  /-- registers per fibre in units of 16 -/
  units : Nat
  fibres : Nat
  scratch : Nat
  tiles : Nat
  roles : Nat
  traps : Nat
  level : Nat
  flags : Nat
  minDies : Nat
  maxDies : Nat
  rows : Nat
  cols : Nat
  barriers : Nat
  codeSize : Nat
  priv : Nat
  /-- address of the fault-route table, 0 for none -/
  routes : Nat
deriving DecidableEq, Repr

/-- An item of a copy queue: a copy, or a fence with the copies that stood ahead of it in its queues (R211). -/
inductive QItem where
  | copy (id : Nat)
  | fence (ahead : List Nat)
deriving DecidableEq, Repr

/-- Where a group stands (R25, R338, R340). -/
inductive Place where
  /-- resident on a core -/
  | core (c : Nat)
  /-- resident, its waves stopped, draining before its save (R338) -/
  | saving (c : Nat)
  /-- saved; `last` is the core it left -/
  | saved (last : Nat)
  | ended
deriving DecidableEq, Repr

/-- A copy tag that a group holds (R204). -/
structure HeldTag where
  count : Nat
  done : Bool
  fail : Bool
  /-- its last copy completed in the current core cycle, so that a clear of that cycle leaves the done bit set (R205) -/
  recent : Bool
  /-- the same of its fail bit -/
  recentFail : Bool
deriving DecidableEq, Repr

/-- A group (R25). -/
structure Group where
  launch : Nat
  gid : Nat
  ctx : Nat
  asid : Nat
  cls : Nat
  hdr : Header
  /-- firmware mode (R74, R376) -/
  firmware : Bool
  place : Place
  /-- the other group of a mirror pair and whether this one is the twin (R52) -/
  twin : Option (Nat × Bool)
  waves : Tab Wave
  /-- words of the scratchpad by word offset, zero where unlisted (R29, R40) -/
  scratch : Tab Word
  /-- first byte of the group's share of its core's scratchpad partition (R29) -/
  scrBase : Nat
  tiles : Tab Tile
  bars : Tab CoreBarrier
  tags : Tab HeldTag
  /-- %frec, %fcause, %flevel (R347) -/
  frec : Nat
  fcause : Nat
  flevel : Nat
  /-- the module whose record a handler group serves, 0 for this one (R437) -/
  origin : Nat
  /-- budget ticks left, if the group has a budget (R332) -/
  budget : Option Nat
  /-- BUDGET of the group's fault task, 0 for none (R332) -/
  grant : Nat
  /-- the budget runs since the group's first issue (R332) -/
  started : Bool
  /-- held as memory-bound (R45, R297) -/
  held : Bool
  heldLast : Bool
  /-- dealt to this logical place; %rejoin (R401) -/
  rejoin : Bool
  /-- group slot in the launch's rectangle (R192, R393) -/
  nslot : Nat
  /-- a save is wanted by this request (R338) -/
  preempt : Bool
  /-- restore only on this core (R346) -/
  pinned : Option Nat
  admitted : Nat
  /-- what the save took out of the copy queues, in the order of each: deferred copies and the fences that hold on for them, by queue
  (R211, R218) -/
  deferred : List (Nat × QItem)
  /-- the whole group is parked as a KIND 5 subject (R331) -/
  parked : Bool
  /-- deadline of a handler group of another module's record, all ones for none (R331, R437) -/
  tdl : Nat := 2 ^ 64 - 1
deriving DecidableEq, Repr

/-- A line of an L1 data cache: valid and owned bits of its 16 words, its INV mark, its words (R263). -/
structure L1Line where
  inv : Bool
  valid : Nat
  owned : Nat
  words : List Word
deriving DecidableEq, Repr

/-- A pending WGROW request of a core: the group, wave, fibres, units needed beyond reservations and
operand, in order of waiting (R34). -/
structure GrowReq where
  grp : Nat
  wave : Nat
  fibres : List Nat
  need : Nat
  n : Nat
deriving DecidableEq, Repr

/-- A core (R25, R28, R43-R45, R263, R360). -/
structure Core where
  /-- %part (R28) -/
  regg : Nat
  scrg : Nat
  accg : Nat
  /-- L1 data lines by line key (R263) -/
  l1 : Tab L1Line
  /-- instruction lines by line key: the 64 bytes of each (R450) -/
  icache : Tab (List Byte)
  grow : List GrowReq
  /-- register units given up in the current core cycle, free from the next one on (R34) -/
  freed : Nat
  /-- core cycles since reset (R37) -/
  cycles : Nat
  /-- waves that issued in the current cycle (R43) -/
  issued : List (Nat × Nat)
  /-- the group and wave that own the facet frame (R360) -/
  frame : Option (Nat × Nat)
  /-- this firmware core has written FWREADY (R442) -/
  fwReady : Bool
deriving DecidableEq, Repr

/-- A core that holds nothing. -/
def Core.empty : Core :=
  { regg := 0, scrg := 0, accg := 0, l1 := [], icache := [], grow := [], freed := 0, cycles := 0, issued := [], frame := none,
    fwReady := false }

/-- The issuing bundle: group, wave, fibres ascending, their program counter, and the words decoded. -/
structure Issue where
  grp : Nat
  wave : Nat
  fibres : List Nat
  pc : Addr
  w0 : Nat
  w1 : Nat
deriving DecidableEq, Repr

end Sys2Proof.Machine
end

