-- ==== Sys2Proof/Machine/MemState.lean ====
section
/-! DEFINITION. The state of channels, slices, object units, translation and copy engines (R15-R20, 01;
R200-R219, 08; R260-R288, 11; R292-R316, 12; R412-R423, 18). -/
namespace Sys2Proof.Machine

/-- A generation-table write on its way to a router, or its acknowledgement on its way back (R303). -/
structure GenWrite where
  router : Nat
  home : Nat
  slot : Nat
  gen : Nat
  valid : Bool
  /-- the registration or drop it belongs to -/
  op : Nat
deriving DecidableEq, Repr

/-- A generation-table entry (R303). -/
structure GenEntry where
  valid : Bool
  gen : Nat
deriving DecidableEq, Repr

/-- What a memory request asks of its home slice (R179, R278, R284, R286, R313, R189). -/
inductive ReqOp where
  | load (inv nf : Bool)
  /-- LD.acq -/
  | loadAcq
  /-- ST, STB and ST.rel -/
  | store (data : List Byte) (rel : Bool)
  /-- an atomic by its opcode, with its operands (R278) -/
  | atom (op : Nat) (b c : Nat)
  /-- a float reduction, with the issuing wave's level (R281) -/
  | red (bf : Bool) (v : Word) (level : Nat)
  /-- MWAIT with its expected value (R286) -/
  | mwait (expect : Word)
  /-- a neighbourhood-window access to another slot: the target group and word offset (R192, R295) -/
  | nwLoad (target : Nat)
  | nwStore (target : Nat) (data : List Byte)
  | push (lo hi val : Word)
  | pop (lo hi : Word)
  | objreg (desc : Word)
  | objdrop (lo hi : Word)
  /-- a copy segment that begins: its copy's table and number, its place in the copy (R15, R201) -/
  | seg (table copy k : Nat)
  /-- a generation-table write (R303) -/
  | gen (w : GenWrite)
  /-- the tile and scratchpad read of a redirected pass on a quad's engine, known by its grant, or its commit (R295) -/
  | pass (quad turn : Nat) (commit : Bool)
deriving DecidableEq, Repr

/-- A request-class entry: the access it performs and what it carries (R15, R260, R303). -/
structure Req where
  core : Nat
  grp : Nat
  wave : Nat
  slot : Nat
  fib : Nat
  ctx : Nat
  asid : Nat
  va : Nat
  size : Nat
  /-- the home slice it travels to; 128 and a router's number for a write of that router's generation table -/
  home : Nat
  op : ReqOp
deriving DecidableEq, Repr

/-- Where an entry of a replay window stands (R16, R17): travelling, its ACK or NACK travelling back, or
due for resend. -/
inductive WinState where
  | wire | acked | nacked | hold
deriving DecidableEq, Repr

/-- An entry of a replay window, with the number of its NACKs that started a back-off (R18). -/
structure WinEntry where
  req : Req
  st : WinState
  nacks : Nat := 0
deriving DecidableEq, Repr

/-- An entry of a router's input buffer: the mesh cycle in which it arrived, and whether a clasp operation has been compared with the
operations that dwell there (R294, R305). -/
structure BufEntry where
  req : Req
  at_ : Nat
  met : Bool
deriving DecidableEq, Repr

/-- A request-class channel (R15-R18): entries the sender has not sent, its replay window of at most 16, the back-off in progress, and
the receiver's input buffer (R294). -/
structure Chan where
  queue : List Req
  window : List WinEntry
  backoff : Option Nat
  buf : List BufEntry
deriving DecidableEq, Repr

/-- A channel that carries nothing. -/
def Chan.idle : Chan := ⟨[], [], none, []⟩

/-- What a message from a slice to a core carries. -/
inductive MsgBody where
  /-- a load's bytes, with the line for the L1 where the page may be held there (R263) -/
  | data (bytes : List Byte) (line : Option (List Word)) (inv : Bool)
  | ack (owned : Bool)
  /-- the owned acknowledgement of a store of one or two bytes, with the word as the slice has it (R264, R265, log 10) -/
  | ackWord (w : Word)
  | value (ws : List Word)
  | fault (cause : Nat)
  /-- the page of an `.nf` load is not resident (R188) -/
  | absent
  | returned
  /-- a revoke of words of a line, by word number (R264) -/
  | revoke (word : Nat)
  | status (code : Nat)
  | popped (v : Option Word)
  /-- a PGREQ completes (R420) -/
  | resident
deriving DecidableEq, Repr

/-- A message on its way from a slice or a router to a core: the response to an access, or a revoke. The
messages of one sender, and those of one line, arrive at a core in the order in which they were sent (R293). -/
structure Msg where
  core : Nat
  grp : Nat
  wave : Nat
  slot : Nat
  fib : Nat
  asid : Nat
  /-- line address of the access: virtual address over 64 -/
  line : Nat
  body : MsgBody
  /-- the slice that sends it, or 128 and a router's number; none where the core answers itself -/
  src : Option Nat := none
deriving DecidableEq, Repr

/-- A revoke acknowledgement on its way to a slice (R264, R265). -/
structure RevAck where
  core : Nat
  asid : Nat
  line : Nat
  word : Nat
deriving DecidableEq, Repr

/-- Who waits behind a revoke (R264): the writer whose ACK is held, if it is a core's store or another
core access. -/
inductive Owner where
  | core (c : Nat)
  /-- revoked from core `c`; the held answer with its request, if a core's access is held, and the owner to come -/
  | revoke (c : Nat) (held : Option (Req × MsgBody)) (next : Option Nat)
deriving DecidableEq, Repr

/-- A translated page as a leaf maps it (R414). -/
structure Leaf where
  pa : Nat
  r : Bool
  w : Bool
  x : Bool
  sliceOnly : Bool
  /-- peer device, 0 for a local page -/
  peer : Nat
deriving DecidableEq, Repr

/-- A slice line: its 16 words, whether dirty, its physical line address and permissions, and the owner
fields that are not NONE by word (R261, R264). -/
structure SLine where
  words : List Word
  dirty : Bool
  leaf : Leaf
  owners : Tab Owner
deriving DecidableEq, Repr

/-- How far a miss's translation has come (R412). -/
inductive MissState where
  | lookup
  | walking
  | ready (l : Leaf)
deriving DecidableEq, Repr

/-- A miss-table entry: one line, at most 8 merged requests in arrival order (R262). -/
structure Miss where
  asid : Nat
  line : Nat
  reqs : List Req
  st : MissState
deriving DecidableEq, Repr

/-- An armed MWAIT monitor (R286-R288). -/
structure Monitor where
  asid : Nat
  va : Nat
  grp : Nat
  wave : Nat
  fib : Nat
  slot : Nat
  core : Nat
  ctx : Nat
  /-- device time of the timeout in ticks, 0 for none -/
  tmo : Nat
  /-- rebound to the saved or parked context (R288) -/
  rebound : Bool
deriving DecidableEq, Repr

/-- An object-table entry (R299-R302, R310). -/
structure ObjEntry where
  gen : Nat
  used : Bool
  kind : Nat
  win : Nat
  cap : Nat
  count : Nat
  head : Nat
  asid : Nat
  /-- virtual address of the region -/
  region : Nat
  /-- the frames found at registration, as page and physical address pairs (R302) -/
  frames : List (Nat × Nat)
  /-- slots that the object has written -/
  slots : Tab Word
deriving DecidableEq, Repr

/-- An object-table entry at reset (R302). -/
def ObjEntry.free : ObjEntry := ⟨1, false, 0, 0, 0, 0, 0, 0, 0, [], []⟩

/-- A slice (R261, R418): VA-tagged lines, forward tags, PA-tagged lines of the slice-only class, the miss
table, the acceptance buffer, monitors and objects. -/
structure Slice where
  lines : Tab SLine
  fwd : Tab Leaf
  plines : Tab SLine
  miss : Tab Miss
  accept : List (Nat × SLine)
  monitors : Tab Monitor
  objs : Tab ObjEntry
deriving DecidableEq, Repr

/-- A slice that holds nothing. -/
def Slice.empty : Slice := ⟨[], [], [], [], [], [], []⟩

/-- A leaf held by a TLB: ASID, the page's first 64 KiB number, its size class, the leaf (R412, R413). -/
structure TlbEntry where
  asid : Nat
  /-- first byte of the page, as the low 56 bits of its virtual address -/
  va : Nat
  /-- 0: 64 KiB, 1: 2 MiB, 2: 1 GiB -/
  size : Nat
  leaf : Leaf
  /-- physical address of the leaf entry (R423) -/
  at_ : Nat
deriving DecidableEq, Repr

/-- A swap engine (R422). -/
structure Swap where
  fa : Nat
  fb : Nat
  pa : Nat
  pb : Nat
  size : Nat
  state : Nat
  lines : Nat
  code : Nat
  /-- the frames and leaves of the running swap, as its GO found them -/
  runA : Nat
  runB : Nat
  leafA : Nat
  leafB : Nat
  /-- mesh cycle at which the running swap began -/
  begun : Nat
deriving DecidableEq, Repr

/-- A swap engine at reset (R422; log 4). -/
def Swap.zero : Swap := ⟨0, 0, 0, 0, 0, 0, 0, 0, 0, 0, 0, 0, 0⟩

/-- A TLBINV in progress (R417). -/
structure Inval where
  asid : Nat
  size : Nat
  flush : Bool
  va : Nat
deriving DecidableEq, Repr

/-- A residency request posted to Cuset, with the PGREQ that waits for it (R420). -/
structure PageReq where
  req : Req
  posted : Bool
deriving DecidableEq, Repr

/-- A residency request pending at the Cuset of a die, and the entry of its page (R420). -/
structure Resid where
  die : Nat
  asid : Nat
  va : Nat
  at_ : Nat
deriving DecidableEq, Repr

/-- A clasp operation dwelling at a router since a mesh cycle (R304). -/
structure Dwell where
  router : Nat
  since : Nat
  req : Req
deriving DecidableEq, Repr

/-- A registration or drop in progress (R302, R310, R314): `waits` are the accesses to the region that were on their way when
the registration reached its slice; `started` says that the table entry is taken, or freed, and the routers are being
told; `left` counts the routers that have not acknowledged. -/
structure ObjOp where
  req : Req
  home : Nat
  slot : Nat
  left : Nat
  drop : Bool
  handle : List Word
  waits : List Req
  started : Bool
  /-- the dropped object, whose pages are held until its region is written -/
  old : Option ObjEntry
deriving DecidableEq, Repr

/-- A router's congestion counters: latched and running (R296). -/
structure Router where
  nacks : Nat
  occ : Nat
  clasps : Nat
  dwell : Nat
  curNacks : Nat
  curClasps : Nat
  curDwell : Nat
  /-- entries in its request buffers, summed over the mesh cycles of the window (R296) -/
  curOcc : Nat
deriving DecidableEq, Repr

/-- A router whose counters are zero (R296). -/
def Router.zero : Router := ⟨0, 0, 0, 0, 0, 0, 0, 0⟩

/-- A base die's MTHRESH and allowance (R296, R297). -/
structure BaseDie where
  nthr : Nat
  othr : Nat
  allow : Nat
deriving DecidableEq, Repr

/-- A base die at reset (R296, R297). -/
def BaseDie.zero : BaseDie := ⟨0x0400, 0xC0, 0⟩

/-- How far a copy segment has come (R201, R216). -/
inductive SegState where
  | waiting
  /-- it has begun, and its request is on its way (R15, R218) -/
  | sent
  /-- its request has reached its slice -/
  | here
  /-- its words are written, and a revoke holds the acknowledgement (R264) -/
  | written
  /-- a late fault struck it; a record holds it or it is held (R216, R330) -/
  | parked
  /-- carried by a link transfer (R438) -/
  | remote
  | done
deriving DecidableEq, Repr

/-- A copy segment: offset within its copy, bytes, source and destination (R201). -/
structure Seg where
  off : Nat
  len : Nat
  src : Nat
  dst : Nat
  st : SegState
  /-- the core whose copy engine a REDIRECT named to perform it; its copy's own engine where there is none (R217, R346) -/
  on : Option Nat := none
deriving DecidableEq, Repr

/-- The core whose copy engine performs a segment of a copy in the table of `core`. -/
def Seg.engine (g : Seg) (core : Nat) : Nat := g.on.getD core

/-- Who started a copy: a wave's instruction, or a COPY packet of a queue slot (R200, R388). -/
inductive CopyOwner where
  | wave (grp wave slot fib : Nat)
  | packet (die slot : Nat)
deriving DecidableEq, Repr

/-- A copy of a copy table (R200-R203). -/
structure Copy where
  owner : CopyOwner
  op : Nat
  tag : Nat
  queue : Nat
  asid : Nat
  ctx : Nat
  src : Nat
  dst : Nat
  len : Nat
  bar : Option (Nat × Nat)
  begun : Bool
  segs : List Seg
  failed : Bool
deriving DecidableEq, Repr

/-- A copy engine (R200): its table by copy number, which no two copies of the module share, and its queues. -/
structure CopyEng where
  copies : Tab Copy
  queues : Tab (List QItem)
deriving DecidableEq, Repr

/-- A copy engine that holds nothing. -/
def CopyEng.empty : CopyEng := ⟨[], []⟩

end Sys2Proof.Machine
end

