-- ==== Sys2Proof/Machine/EngineState.lean ====
section
/-! DEFINITION. The state of matrix engines, wide barriers and fault engines (R221-R255, 09; R46-R50, 02;
R140, 05; R321-R347, 13). -/
namespace Sys2Proof.Machine

/-- How far a pass has come (R223, R241-R243). -/
inductive PassState where
  | reserved
  /-- granted: its operands are fetched, its array result is not yet checked -/
  | granted
  /-- checked: its staged tile is being committed -/
  | committing
  | parked
deriving DecidableEq, Repr

/-- A pass's checked result: element, bits; its exceptions; Σ Rᵢ (R237-R241). -/
structure Staged where
  elems : List (Nat × Word)
  exc : Exc
  sig : Nat
deriving DecidableEq, Repr

/-- How far a pass on another quad's engine has come on its way through the mailbox slice (R253, R295). -/
inductive PassPath where
  | direct
  /-- the read of its tile and of its scratchpad operands is on its way -/
  | reading
  | read
  /-- its commit is on its way -/
  | storing
deriving DecidableEq, Repr

/-- A pass of a reservation table (R221-R226). -/
structure Pass where
  grp : Nat
  wave : Nat
  slot : Nat
  fib : Nat
  /-- the issuing core; the tiles are in its accumulator partition -/
  core : Nat
  /-- the 16 words of the parameter block -/
  blk : List Word
  /-- the captured K pairs, A's then B's: 4 words -/
  kp : List Word
  /-- captured register operands, by row × 32 + word of the row (R233) -/
  capA : Tab Word
  capB : Tab Word
  /-- its number in the order of reservations -/
  order : Nat
  /-- its number in the order of grants -/
  turn : Nat
  /-- grants that passed it over while eligible (R224) -/
  passedOver : Nat
  st : PassState
  /-- it runs on another quad's engine (R253) -/
  redirected : Bool
  /-- a late item is still to arrive (R242) -/
  late : Bool
  /-- the operand words fetched: A rows, B rows and metadata words, by their place (R230, R234) -/
  opA : Tab Word
  opB : Tab Word
  meta_ : Tab Word
  staged : Option Staged
  /-- the core cycle of its reservation (R224) -/
  at_ : Nat := 0
  /-- the scale lines that it has read, by line key (R235) -/
  scale : Tab (List Byte) := []
  /-- a disposition let it run again: the checks of R228 are made before it does (R253) -/
  recheck : Bool := false
  path : PassPath := .direct
  /-- the tile as its read through the slice path brought it (R295) -/
  tileIn : Option Tile := none
deriving DecidableEq, Repr

/-- A pass without what its engine fetched, staged or sent for it (R252, R254). -/
def Pass.dropped (p : Pass) : Pass :=
  { p with late := false, opA := [], opB := [], meta_ := [], staged := none, scale := [], path := .direct, tileIn := none }

/-- A request to a quad's histogram unit (R249). -/
structure HistReq where
  grp : Nat
  wave : Nat
  slot : Nat
  fib : Nat
  off : Nat
  ctl : Word
deriving DecidableEq, Repr

/-- A matrix engine (R221, R236, R249, R446). -/
structure Matrix where
  entries : Tab Pass
  /-- scale-cache lines by line key (R236) -/
  scale : Tab (List Byte)
  hist : List HistReq
  gated : Bool
deriving DecidableEq, Repr

/-- A matrix engine that holds nothing and is not gated. -/
def Matrix.empty : Matrix := ⟨[], [], [], false⟩

/-- A quad, die, package or pod barrier (R46, R48, R140, R392): its counts, the waves that arrived in the
phase, and the launch it is allotted to. -/
structure WideBarrier where
  exp : Nat
  arr : Nat
  phase : Nat
  armed : Bool
  /-- waves arrived, as group and wave pairs -/
  came : List (Nat × Nat)
  owner : Option Nat
  /-- PHASE of the last arrival of a wave, which the twin of a mirror pair is told too (R53) -/
  told : Nat
deriving DecidableEq, Repr

/-- A wide barrier that no launch has. -/
def WideBarrier.zero : WideBarrier := ⟨0, 0, 0, false, [], none, 0⟩

/-- What a subject is (R324 KIND) with what identifies it in its engine. -/
inductive SubjectOf where
  | wave
  /-- a mirror pair with the two signatures -/
  | mirror (sigP sigT : Word)
  | pass (quad entry : Nat)
  | segment (core copy seg : Nat)
  /-- a clasp operation, by its request; the entry stays in the wave's scoreboard -/
  | clasp (req : Req)
  | group
  | launch (id step die : Nat)
deriving DecidableEq, Repr

/-- What a disposition does to the saved PCs of the faulting bundle (R337, R358): nothing, RESUME moves them past
the word of a TRAP slot, RETRY moves them back to a TRAP instruction. -/
inductive PcMove where
  | none | onResume | onRetry
deriving DecidableEq, Repr

/-- A detected subject: what its record will hold (R13, R324). -/
structure Subject where
  of : SubjectOf
  cause : Nat
  late : Bool
  die : Nat
  ctx : Nat
  asid : Nat
  gid : Nat
  grp : Nat
  wave : Nat
  core : Nat
  fpc : Nat
  va : Nat
  tdet : Nat
  fmask : Word
  gmask : Word
  w0 : Nat
  w1 : Nat
  /-- exceptions by fibre (R116) -/
  exc : Tab Nat
  detail : Nat
  /-- the faulting bundle and its instruction's bytes, for a move of its PCs -/
  bundle : Word
  len : Nat
  move : PcMove
  /-- words 32 to 63 of the record, for the kinds whose fields the unit supplies (R324) -/
  tail : Tab Word
  /-- the core cycle of its detection, of a wave (R323) -/
  cycle : Nat := 0
deriving DecidableEq, Repr

/-- STATE of a record (R331). -/
inductive RecState where
  | parked | handling | settling
deriving DecidableEq, Repr

/-- A shadow record (R324, R331). -/
structure Record where
  gen : Nat
  subj : Subject
  st : RecState
  depth : Nat
  prio : Nat
  remote : Bool
  dlmiss : Bool
  parent : Nat
  tdl : Nat
  budget : Nat
  peer : Nat
  tdie : Nat
  handler : Nat
  /-- the route led to the Cuset default handler (R327) -/
  toFirmware : Bool
  /-- the handler group, once admitted -/
  hgrp : Option Nat
  /-- its FAULTTASK waits in a queue slot of the target die -/
  queued : Bool
  /-- CAUSE became REMOTE_ROUTE (R329) -/
  rerouted : Bool
  /-- the module that the record was first delivered to, after which it was delivered again here; 0 for none (R329) -/
  wasPeer : Nat := 0
  /-- the deadline passed while the handler was parked: DEADLINE_MISSED strikes when it runs again (R323, R331) -/
  owed : Bool := false
deriving DecidableEq, Repr

/-- A die's fault engine (R324-R333). -/
structure FaultEng where
  recs : Tab Record
  /-- generations of record indices, 1 where unlisted (R325) -/
  gens : Tab Nat
  detected : List Subject
  heldSubs : List Subject
deriving DecidableEq, Repr

/-- A fault engine that holds nothing. -/
def FaultEng.empty : FaultEng := ⟨[], [], [], []⟩

end Sys2Proof.Machine
end

