-- ==== Sys2Proof/Machine/HostState.lean ====
section
/-! DEFINITION. The state of the command processor, contexts, host interface, links, firmware, facet images
and power (R354, R367-R370, 15; R376-R397, 16; R424-R442, R453, 19; R444-R452, 20). -/
namespace Sys2Proof.Machine

/-! ## Command processor -/

/-- State of a queue slot (R384). -/
inductive SlotSt where
  | free | mapped | held | unmapping
deriving DecidableEq, Repr

/-- How a packet's completion changes its COMPL (R387). -/
inductive Ending where
  | dec
  | fail (v : Int)
deriving DecidableEq, Repr

/-- What a begun packet still does (R387-R392). -/
inductive Flight where
  /-- its effect is applied and it is complete; DONE waits for an earlier packet -/
  | finished
  /-- a LAUNCH, by its launch number -/
  | launch (id : Nat)
  /-- a BARRIER holding on signal addresses -/
  | barrier (signals : List Nat)
  /-- a QFENCE waiting for (descriptor, count) pairs -/
  | qfence (waits : List (Nat × Nat))
  /-- a COPY, by the copy's number on the die's firmware core -/
  | copy (id : Nat)
  /-- its effect is applied: COMPL is to be changed so, once the answer to a write of the signal `after` has come (R264, R388) -/
  | ending (how : Ending) (after : Nat)
  /-- COMPL is changed, and its home's answer is awaited (R264) -/
  | told
deriving DecidableEq, Repr

/-- A begun packet: its index, completion signal or 0, its IRQ bit, what it does (R386, R388). -/
structure Begun where
  idx : Nat
  compl : Nat
  irq : Bool
  fl : Flight
deriving DecidableEq, Repr

/-- The firmware instruction that a slot's change answers when it is done (R396). -/
structure SlotOp where
  core : Nat
  grp : Nat
  wave : Nat
  entry : Nat
  fib : Nat
deriving DecidableEq, Repr

/-- A queue slot of a die (R382, R384, R450): descriptor address, the fields read from the descriptor, the
counts, STATE, the begun packets by ascending index. -/
structure QSlot where
  st : SlotSt
  desc : Nat
  ctx : Nat
  asid : Nat
  cls : Nat
  ring : Nat
  log2 : Nat
  vec : Nat
  coal : Nat
  wr : Nat
  rd : Nat
  done : Nat
  qstate : Nat
  begun : List Begun
  /-- device time of mapping, and whether the slot was taken as a borrowed one (R385) -/
  mappedAt : Nat
  borrowed : Bool
  op : Option SlotOp
  /-- the class whose longest-waiting queue takes the slot when it is free (R385) -/
  heir : Option Nat := none
deriving DecidableEq, Repr

/-- A free slot. -/
def QSlot.free : QSlot :=
  { st := .free, desc := 0, ctx := 0, asid := 0, cls := 0, ring := 0, log2 := 4, vec := 0, coal := 0, wr := 0, rd := 0,
    done := 0, qstate := 0, begun := [], mappedAt := 0, borrowed := false, op := none }

/-- A fault task in its class slot (R328, R386): a record of this module, or a remote task bound to a local
context, with its source device and the 64 bytes of its packet, and whether its deadline has moved it to the head of class 0
(R331). -/
inductive Task where
  | own (rid : Nat)
  | remote (dev ctx : Nat) (packet : List Byte) (late : Bool)
deriving DecidableEq, Repr

/-- State of a launch (R392); `parked` is a launch that a lost die parked (R395). -/
inductive LaunchSt where
  | check | wait | running | saved | done | refused | parked
deriving DecidableEq, Repr

/-- A group dealt to a core, or to a pair with its twin's core, and not yet admitted (R391). -/
structure Dealt where
  gid : Nat
  core : Nat
  twin : Option Nat
  rejoin : Bool
deriving DecidableEq, Repr

/-- A launch (R391-R395). -/
structure Launch where
  die : Nat
  slot : Nat
  desc : Nat
  pkt : Nat
  ctx : Nat
  asid : Nat
  cls : Nat
  entry : Nat
  arg : Nat
  hdr : Header
  st : LaunchSt
  /-- the dies of DIEMASK within the partition (R391) -/
  dies : List Nat
  /-- GROUPS of the packet: the launch's groups, or those of each die of an elastic launch -/
  groups : Nat
  waiting : List Dealt
  /-- groups not yet completed -/
  left : Nat
  /-- dies that hold its groups, in order of joining (R394) -/
  joined : List Nat
  /-- cores on which a group of the launch has started (R266) -/
  landed : List Nat
  target : Nat
  step : Nat
  /-- QBAR, DBAR, PBAR, ODBAR -/
  want : List Nat
  /-- barriers allotted, by network: the physical numbers in order of the launch's identifiers (R392) -/
  allot : Tab (List Nat)
  failed : Bool
  /-- quads on which the launch has landed (R236) -/
  quads : List Nat := []
  /-- groups admitted, as they were last dealt (R395) -/
  dealt : List Dealt := []
  /-- dies that took the place of lost ones: they may be spare (R395) -/
  subs : List Nat := []
deriving DecidableEq, Repr

/-- What Cuset keeps of a context (R381). -/
structure Ctx where
  asid : Nat
  part : Nat
  routes : Nat
  allow : Nat
deriving DecidableEq, Repr

/-- A completion held for an MSI-X vector (R397). -/
structure HeldIrq where
  fn : Nat
  vec : Nat
  /-- device time in ticks -/
  deadline : Nat
deriving DecidableEq, Repr

/-- The command processors and what Cuset keeps (16). -/
structure CmdProc where
  /-- by 64 × die + slot, free where unlisted -/
  slots : Tab QSlot
  /-- fault tasks by 8 × die + class, oldest first -/
  tasks : Tab (List Task)
  launches : Tab Launch
  ctxs : Tab Ctx
  /-- doorbells seen of queues that no slot holds: descriptor address and context (R383, R385) -/
  seen : List (Nat × Nat)
  held : List HeldIrq
  /-- MSI-X messages sent, newest first, as function and vector -/
  msix : List (Nat × Nat)
  spares : Nat
  /-- SLOTMIN by class, 7 where unlisted -/
  slotMin : Tab Nat
  /-- spare dies that took effect, lost dies (R377, R395) -/
  spareDies : List Nat
  lost : List Nat
  /-- fuses: bit s of die d for a harvested site, bit q for an unusable matrix engine (R378) -/
  fused : Tab Nat
  mxbad : Tab Nat
  /-- queues in STATE 2 whose descriptor shows STATE 3, by descriptor address and context (R384, R389) -/
  aborted : List (Nat × Nat) := []
deriving DecidableEq, Repr

/-! ## Host interface -/

/-- A function's mailbox (R425, R427): its arguments, the command that runs and how it ended. -/
structure Mailbox where
  args : List Nat
  busy : Bool
  cmd : Nat
  /-- the arguments that the running command was issued with -/
  given : List Nat
  /-- the command has been performed and its completion is due -/
  ran : Bool
  status : Nat
  result : Nat
deriving DecidableEq, Repr

/-- A mailbox at reset (log 4). -/
def Mailbox.idle : Mailbox := ⟨[0, 0, 0, 0], false, 0, [], false, 0, 0⟩

/-- An event ring (R425, R430). -/
structure EvRing where
  base : Nat
  size : Nat
  wr : Nat
  rd : Nat
  drop : Nat
deriving DecidableEq, Repr

/-- An event ring at reset (log 4). -/
def EvRing.zero : EvRing := ⟨0, 0, 0, 0, 0⟩

/-- A store to a device register that is on its way (R377). -/
structure DevWrite where
  core : Nat
  grp : Nat
  wave : Nat
  slot : Nat
  fib : Nat
  off : Nat
  val : Nat
deriving DecidableEq, Repr

/-- The host interface (R424-R430). -/
structure HostIf where
  boxes : Tab Mailbox
  rings : Tab EvRing
  aperture : Nat
  hostMem : List Host.Cell
  /-- partition die mask of each VF that is bound (R427) -/
  vfs : Tab Nat
  /-- CTX_BIND table: 4,096 × source device + source context to local context -/
  binds : Tab Nat
  /-- PART_PEERS lists by die mask (R453) -/
  peers : Tab (List Nat)
  devq : List DevWrite
  /-- device serial and bytes read last by the host through BAR2 -/
  lastRead : List Byte
deriving DecidableEq, Repr

/-! ## Peer links -/

/-- A transfer record as a flit carries it (R433). -/
structure Rec where
  kind : Nat
  status : Nat
  tid : Nat
  arg : Nat
  data : List Byte
deriving DecidableEq, Repr

/-- What a transfer that awaits its answer belongs to (R432, R433). -/
inductive XferOf where
  /-- a fibre's access -/
  | access (req : Req)
  /-- a narrow store: the word read, and then written with the store's bytes in it (R433, log 57) -/
  | merge (req : Req)
  /-- a CPX segment's write, by core, copy and segment number; or its read of the source -/
  | segWrite (core copy seg : Nat)
  | segRead (core copy seg : Nat)
  | pod
  | ftask (rid : Nat)
  | proxy (grp wave slot fib : Nat)
deriving DecidableEq, Repr

/-- A transfer sent and not yet answered. -/
structure Xfer where
  dev : Nat
  port : Nat
  body : Rec
  /-- device time in ticks -/
  sent : Nat
  of : XferOf
deriving DecidableEq, Repr

/-- An unacknowledged DATA flit: its sequence number, the records that it carries with their device, how many
times it has failed, and which 240 bytes of them it carries (R432, R433). -/
structure Flit where
  seq : Nat
  dev : Nat
  recs : List Rec
  fails : Nat
  part : Nat
deriving DecidableEq, Repr

/-- A peer-link port (R431-R433, R450). -/
structure Port where
  up : Bool
  /-- device times of the flits replayed -/
  replays : List Nat
  retrains : Nat
  nextSeq : Nat
  lastRx : Nat
  /-- a DATA flit has been accepted since the last restart of sequencing -/
  rxAny : Bool
  unacked : List Flit
  /-- records that wait for the window or for the end of a retrain -/
  backlog : List (Nat × Rec)
  /-- bytes of a record that continues in the next flit, with its sender -/
  partialRec : List Byte
  /-- retraining: a LINKCTL flit of the other end has not yet come -/
  retraining : Bool
deriving DecidableEq, Repr

/-- A port at reset: up, nothing sent or received (log 4). -/
def Port.zero : Port := ⟨true, [], 0, 0, 0, false, [], [], [], false⟩

/-- A received record that has not yet been performed. -/
structure InRec where
  dev : Nat
  port : Nat
  body : Rec
  /-- a WRITE whose bytes are written, its answer held by a revoke (R264) -/
  written : Bool := false
deriving DecidableEq, Repr

/-- An INWIN entry (R434). -/
structure InWin where
  base : Nat
  limit : Nat
  src : Nat
  valid : Bool
  w : Bool
deriving DecidableEq, Repr

/-- A pod barrier at its root (R436): the sum of arrivals in the phase and the modules registered. -/
structure PodRoot where
  exp : Nat
  sum : Nat
  phase : Nat
  mods : List Nat
  /-- arrivals of the phase that have been counted, as device and transfer (R432) -/
  seen : List (Nat × Nat)
deriving DecidableEq, Repr

/-- A pod barrier that nobody has registered. -/
def PodRoot.zero : PodRoot := ⟨0, 0, 0, [], []⟩

/-- The peer links (R431-R438). -/
structure Links where
  devnum : Nat
  lkto : Nat
  ports : Tab Port
  inwin : Tab InWin
  podRoot : Tab Nat
  peerMap : Tab Nat
  nextTid : Nat
  xfers : Tab Xfer
  inbox : List InRec
  roots : Tab PodRoot
  /-- requests taken whose answers are not yet acknowledged: device, transfer and, for a proxied access, its record (R329,
  R432, R437) -/
  served : List (Nat × Nat × Nat)
  /-- the port that a 1 KiB block of a peer uses while it stays UP, by device + 4,096 × block (R434) -/
  ways : Tab Nat
  /-- flits put on the wires, the latest first, with their port (R433) -/
  wire : List (Nat × List Byte)
deriving DecidableEq, Repr

/-! ## Facet images and firmware -/

/-- A facet operation in progress (R369, R370): its instruction and, for a staging, the image copied and its
status; for an activation, the groups to be saved and then restored with their cores. -/
inductive FacetOp where
  | stage (by_ : SlotOp) (image : List Byte) (status : Nat)
  | activate (by_ : SlotOp) (groups : List (Nat × Nat)) (switched : Bool)
deriving DecidableEq, Repr

/-- The facet fabric: the active and the staged image's bytes, empty for none (R354, R367-R370). -/
structure Facet where
  active : List Byte
  staged : List Byte
  op : Option FacetOp
deriving DecidableEq, Repr

/-- Firmware (R440-R442). -/
structure Firmware where
  version : Nat
  /-- the running image as it was staged, which a report measures -/
  image : List Byte
  /-- the running image as it stands: firmware's stores change its data area (R442, log 24) -/
  run : List Byte
  staged : Option (List Byte)
  recovery : Bool
  /-- device time of the commit point whose image has not yet signalled ready -/
  committed : Option Nat
  /-- the minimum version that fuses record -/
  minVersion : Nat
  /-- host writes latched since the commit point, as function, offset and value (R441) -/
  latched : List (Nat × Nat × Nat)
  /-- FW_COMMIT has been accepted, and the firmware cores finish their steps (R441) -/
  stopping : Bool
deriving DecidableEq, Repr

/-! ## Power and debug -/

/-- A router group (R447): on, gated, or waking since a mesh cycle. -/
inductive RouterPower where
  | on | gated | waking (since : Nat)
deriving DecidableEq, Repr

/-- Power, clocks, freeze and the TAP (R444-R452). -/
structure Power where
  /-- the command in progress -/
  cmd : Option Nat
  /-- its effect has been applied with this status -/
  status : Nat
  applied : Bool
  dieState : Tab Nat
  groups : Tab RouterPower
  frozen : Bool
  freezePin : Bool
  tap : Nat
  /-- words of the state that the TAP has shifted out since SCANOUT began, and the words of its last step (R449, R450) -/
  tapPos : Nat
  tapOut : List Word
  alert : Bool
deriving DecidableEq, Repr

end Sys2Proof.Machine
end

