-- ==== Sys2Proof/Machine/State.lean ====
section
/-! DEFINITION. The machine's whole state, its faults and refusals, and the state after reset (R25, R40,
R450, R451; INVENTORY.md lists every piece with its rule). -/
namespace Sys2Proof.Machine

/-- Where an uncorrectable error strikes that no step of the opcode table tells of (R321, R322, log 42). -/
inductive Strike where
  /-- a line of a core's L1 data cache, or of its instruction cache, by line key -/
  | l1 (core key : Nat)
  | icache (core key : Nat)
  /-- what the fetch of the wave's bundle of this number reads, beyond the instruction cache -/
  | fetch (grp wave bundle : Nat)
  /-- what the wave's bundle of this number reads of the core's SRAM pool as it issues, in the fibres named -/
  | operand (grp wave bundle : Nat) (fibres : Word)
  /-- the scratchpad words that the response numbered `k` carries, as they were read -/
  | window (k : Nat)
  /-- the tile that the pass that a quad's engine checks next has read -/
  | pass (quad : Nat)
  /-- what a fibre's part of an MXRD or MXHIST reads, of the tile or of the scratchpad -/
  | tiles (grp wave slot fib : Nat)
deriving DecidableEq, Repr

/-- One turn of the agenda (log 1): which agent moves next. -/
inductive Turn where
  /-- one step of the opcode table that no issuing bundle performs -/
  | event (i : Instr)
  /-- the issue unit of a core issues by its own arbiter (R43) -/
  | slot (core : Nat)
  /-- the wave's bundle of this number issues, if it is ready -/
  | issue (grp wave bundle : Nat)
  /-- the core's cycle ends: starvation counters (R44) and the cycle count move -/
  | cycleEnd (core : Nat)
  /-- time passes, in units of 1/26 ns -/
  | elapse (n : Nat)
  /-- an uncorrectable error strikes -/
  | ecc (x : Strike)
  /-- Cuset fills a frame for residency request `k` with bytes by offset, and makes its page resident (R420, log 44) -/
  | resident (k frame : Nat) (fill : List (Nat × Byte))
deriving DecidableEq, Repr

/-- The translation engine (R412-R423). -/
structure Xlate where
  tbase : Nat
  /-- leaves held by each of the 32 TLBs, oldest first -/
  tlbs : Tab (List TlbEntry)
  /-- the TLBINV in progress: TLBSTAT.BUSY is whether there is one (R417) -/
  inval : Option Inval
  privhw : Tab Nat
  swaps : Tab Swap
  pgreqs : List PageReq
  /-- residency requests pending at Cuset, one for a page (R420) -/
  resids : List Resid
deriving DecidableEq, Repr

/-- The mesh: routers, base dies, generation tables and operations of objects in flight (R292-R316). -/
structure Mesh where
  routers : Tab Router
  baseDies : Tab BaseDie
  /-- time at which the congestion window began (R296) -/
  winBegan : Nat
  /-- entries by 8192 × router + 64 × home + slot, not valid and of generation 0 where unlisted (R303; log 4) -/
  genTable : Tab GenEntry
  genAcks : List GenWrite
  objOps : Tab ObjOp
  dwells : List Dwell
  /-- clasp operations that have reached their home slice, in order of arrival (R307) -/
  falls : List Req
deriving DecidableEq, Repr

/-- The engines of the dies. Copies and passes that a save has taken out of their engine stand in a table of their own under
a number that no core and no quad has (R218, R254). -/
structure Engines where
  copy : Tab CopyEng
  /-- the number of the next copy -/
  nextCopy : Nat
  matrix : Tab Matrix
  /-- the number of the next reservation or grant of a pass -/
  nextPass : Nat
  wbars : Tab WideBarrier
  faults : Tab FaultEng
deriving DecidableEq, Repr

/-- The machine's state. -/
structure State where
  /-- the turns to come (log 1) -/
  agenda : List Turn
  /-- the issuing bundle, while a step performs its instruction (log 2) -/
  cur : Option Issue
  /-- the number of the next free value (log 3) -/
  fresh : Nat
  /-- time since cold reset in units of 1/26 ns (R2) -/
  now : Nat
  /-- physical memory, both tiers (R416) -/
  mem : List Host.Cell
  groups : Tab Group
  cores : Tab Core
  chans : Tab Chan
  msgs : List Msg
  revAcks : List RevAck
  slices : Tab Slice
  xl : Xlate
  mesh : Mesh
  eng : Engines
  cp : CmdProc
  host : HostIf
  links : Links
  facet : Facet
  fw : Firmware
  pw : Power
deriving DecidableEq, Repr

/-- Why a step stops the machine. Both are stops of the model, not of the hardware. -/
inductive Fault where
  /-- an instruction is performed while no bundle issues (`cur` is none): raised by every meaning of an
  instruction word, never by a step, which sets the issuing bundle first; safe -/
  | noBundle
deriving DecidableEq, Repr

/-- Why a step refuses an instruction. -/
inductive Refusal where
  /-- an instruction that has no meaning yet, raised by its own arm of exec; safe -/
  | notModelled (mnemonic : String)
deriving DecidableEq, Repr

/-- The machine right after a cold reset (R451): nothing resident, nothing in flight, RECOVERY set, every die
in state 0; the registers with a Reset column at its value, the others as log 4 names them. -/
def State.reset : State :=
  { agenda := [], cur := none, fresh := 0, now := 0, mem := [], groups := [], cores := [], chans := [], msgs := [],
    revAcks := [], slices := [],
    xl := { tbase := 0, tlbs := [], inval := none, privhw := [], swaps := [], pgreqs := [], resids := [] },
    mesh := { routers := [], baseDies := [], winBegan := 0, genTable := [], genAcks := [],
              objOps := [], dwells := [], falls := [] },
    eng := { copy := [], nextCopy := 0, matrix := [], nextPass := 0, wbars := [], faults := [] },
    cp := { slots := [], tasks := [], launches := [], ctxs := [], seen := [], held := [], msix := [], spares := 0,
            slotMin := [], spareDies := [], lost := [], fused := [], mxbad := [] },
    host := { boxes := [], rings := [], aperture := 0, hostMem := [], vfs := [], binds := [], peers := [], devq := [],
              lastRead := [] },
    links := { devnum := 0, lkto := 2000, ports := [], inwin := [], podRoot := [], peerMap := [], nextTid := 0,
               xfers := [], inbox := [], roots := [], served := [], ways := [], wire := [] },
    facet := { active := [], staged := [], op := none },
    fw := { version := 0, image := [], run := [], staged := none, recovery := true, committed := none, minVersion := 0,
            latched := [], stopping := false },
    pw := { cmd := none, status := 0, applied := false, dieState := [], groups := [], frozen := false,
            freezePin := false, tap := 0, tapPos := 0, tapOut := [], alert := false } }

end Sys2Proof.Machine
end

