-- ==== Sys2Proof/Machine/Access.lean ====
section
/-! DEFINITION. Reading and changing the parts of the state by name: places of the module (R7, R8), time (R2),
groups, waves, fibres and their registers (R24-R33, R360). -/
namespace Sys2Proof.Machine

/-! ## Places (R7, R8, R378) -/

/-- The compute die of a core. -/
def dieOf (core : Nat) : Nat := core / 36

/-- The module quad of a core. -/
def quadOf (core : Nat) : Nat := 9 * (core / 36) + 3 * (core % 36 / 6 / 2) + core % 6 / 2

/-- Quad-local number q of a core (R52). -/
def quadLocal (core : Nat) : Nat := 2 * (core % 36 / 6 % 2) + core % 6 % 2

/-- The core with quad-local number `q` in a module quad. -/
def coreInQuad (quad q : Nat) : Nat :=
  36 * (quad / 9) + 6 * (2 * (quad % 9 / 3) + q / 2) + (2 * (quad % 3) + q % 2)

/-- The base die that a compute die sits on. -/
def baseOfDie (die : Nat) : Nat := die / 6

/-- The harvested sites of a die, as bits (R378). -/
def State.fusedOf (s : State) (die : Nat) : Nat := tabVal 0 s.cp.fused die

/-- The site of a die's firmware core (R8). -/
def State.fwSite (s : State) (die : Nat) : Option Nat := [0, 1, 6, 7].find? fun i => !(s.fusedOf die).testBit i

/-- Whether a core is its die's firmware core. -/
def State.isFwCore (s : State) (core : Nat) : Bool := s.fwSite (dieOf core) == some (core % 36)

/-- Whether a core is a work core (R379). -/
def State.isWorkCore (s : State) (core : Nat) : Bool :=
  decide (core < 432) && !(s.fusedOf (dieOf core)).testBit (core % 36) && !s.isFwCore core

/-- The work cores of a die in logical-core order (R379). -/
def State.workCores (s : State) (die : Nat) : List Nat :=
  ((List.range 36).map (36 * die + ·)).filter s.isWorkCore

/-- Whether a die is lost (R376, R395). -/
def State.dieLost (s : State) (die : Nat) : Bool := s.cp.lost.contains die || (s.fwSite die).isNone

/-- Whether the matrix engine of a module quad is unusable (R378). -/
def State.mxBad (s : State) (quad : Nat) : Bool := (tabVal 0 s.cp.mxbad (quad / 9)).testBit (quad % 9)

/-! ## Time (R2, R445) -/

/-- Device time in ticks. -/
def State.ticks (s : State) : Nat := s.now / 260

/-- Mesh cycles since cold reset. -/
def State.meshCycles (s : State) : Nat := s.now / 13

/-- The state in force of a die's clock (R445). -/
def State.dieClock (s : State) (die : Nat) : Nat := tabVal 0 s.pw.dieState die

/-! ## Cores, groups, waves, fibres -/

/-- A core's own state. -/
def State.core (s : State) (c : Nat) : Core := tabVal Core.empty s.cores c

/-- A core changed. -/
def State.modCore (s : State) (c : Nat) (f : Core → Core) : State :=
  { s with cores := tabPut Core.empty s.cores c (f (s.core c)) }

/-- A group. -/
def State.group (s : State) (g : Nat) : Option Group := tabGet s.groups g

/-- A wave of a group. -/
def State.wave (s : State) (g w : Nat) : Option Wave := (s.group g).bind fun G => tabGet G.waves w

/-- A group changed. -/
def State.modGroup (s : State) (g : Nat) (f : Group → Group) : State := { s with groups := tabMod s.groups g f }

/-- A wave of a group changed. -/
def Group.modWave (G : Group) (w : Nat) (f : Wave → Wave) : Group := { G with waves := tabMod G.waves w f }

/-- A wave changed. -/
def State.modWave (s : State) (g w : Nat) (f : Wave → Wave) : State := s.modGroup g fun G => G.modWave w f

/-- A fibre slot of a wave. -/
def Wave.fib (W : Wave) (f : Nat) : Fibre := tabVal Fibre.empty W.fibres f

/-- A fibre slot changed. -/
def Wave.modFib (W : Wave) (f : Nat) (h : Fibre → Fibre) : Wave :=
  { W with fibres := tabPut Fibre.empty W.fibres f (h (W.fib f)) }

/-- A fibre changed. -/
def State.modFib (s : State) (g w f : Nat) (h : Fibre → Fibre) : State := s.modWave g w fun W => W.modFib f h

/-- The core that a group is resident on. -/
def Group.core? (G : Group) : Option Nat := match G.place with | .core c | .saving c => some c | _ => none

/-- The same, 0xFFFF for a group that is resident nowhere (R324 CORE). -/
def Group.coreNo (G : Group) : Nat := G.core?.getD 0xFFFF

/-- The die of a group: of its core, or of the core it left (R27). -/
def Group.die (G : Group) : Nat := match G.place with | .core c | .saving c | .saved c => dieOf c | .ended => 0

/-- Whether the fibre slot holds a live fibre. -/
def Fibre.isLive (F : Fibre) : Bool := F.st == .live

/-- The live fibres of a wave, ascending: M0 (R25). -/
def Wave.live (W : Wave) : List Nat := (List.range 32).filter fun f => (W.fib f).isLive

/-- A mask register (R25, R131). -/
def Wave.mask (W : Wave) (m : Nat) : Word := if m = 0 then maskOf W.live else tabVal 0 W.masks m

/-- A mask register written, ANDed with M0 (R132). -/
def Wave.setMask (W : Wave) (m : Nat) (v : Word) : Wave := { W with masks := tabPut 0 W.masks m (v &&& W.mask 0) }

/-- Whether a group is the twin of a mirror pair (R52). -/
def Group.isTwin (G : Group) : Bool := match G.twin with | some (_, true) => true | _ => false

/-- The waves of a group, with their numbers. -/
def Group.waveCount (G : Group) : Nat := (G.hdr.fibres + 31) / 32

/-- The waves that have not retired. -/
def Group.liveWaves (G : Group) : List (Nat × Wave) := G.waves.filter fun e => e.2.run != .retired

/-- The groups resident on a core, with their numbers. -/
def State.residents (s : State) (c : Nat) : List (Nat × Group) :=
  s.groups.filterMap fun e => match s.group e.1 with
    | some G => if G.core? = some c then some (e.1, G) else none
    | none => none

/-! ## A fibre as its instructions see it (R25, R360) -/

/-- The program counter: the routine's in facet context. -/
def Fibre.curPc (F : Fibre) : Addr := match F.facet with | some c => c.pc | none => F.pc

/-- The program counter changed. -/
def Fibre.setPc (F : Fibre) (pc : Addr) : Fibre :=
  match F.facet with
  | some c => { F with facet := some { c with pc := pc } }
  | none => { F with pc := pc }

/-- The predicate word; P7 reads 1. -/
def Fibre.curPreds (F : Fibre) : BitVec 8 := (match F.facet with | some c => c.preds | none => F.preds) ||| 0x80

/-- A predicate. -/
def Fibre.pred (F : Fibre) (p : Nat) : Bool := F.curPreds.getLsbD p

/-- A predicate written; a write of P7 is ignored. -/
def putPred (v : BitVec 8) (p : Nat) (b : Bool) : BitVec 8 :=
  if p = 7 then v else if b then v ||| BitVec.ofNat 8 (2 ^ p) else v &&& ~~~(BitVec.ofNat 8 (2 ^ p))

/-- A predicate of a fibre written. -/
def Fibre.setPred (F : Fibre) (p : Nat) (b : Bool) : Fibre :=
  match F.facet with
  | some c => { F with facet := some { c with preds := putPred c.preds p b } }
  | none => { F with preds := putPred F.preds p b }

/-- %flags. -/
def Fibre.curFlags (F : Fibre) : Word := match F.facet with | some c => c.flags | none => F.flags

/-- %trapen. -/
def Fibre.curTrapen (F : Fibre) : Word := match F.facet with | some c => c.trapen | none => F.trapen

/-- %lnk. -/
def Fibre.curLnk (F : Fibre) : Addr := match F.facet with | some c => c.lnk | none => F.lnk

/-- %flags written; the reserved bits stay zero (R113). -/
def Fibre.setFlags (F : Fibre) (v : Word) : Fibre :=
  match F.facet with
  | some c => { F with facet := some { c with flags := v &&& flagBits } }
  | none => { F with flags := v &&& flagBits }

/-- %trapen written (R114). -/
def Fibre.setTrapen (F : Fibre) (v : Word) : Fibre :=
  match F.facet with
  | some c => { F with facet := some { c with trapen := v &&& flagBits } }
  | none => { F with trapen := v &&& flagBits }

/-- %lnk written. -/
def Fibre.setLnk (F : Fibre) (v : Addr) : Fibre :=
  match F.facet with
  | some c => { F with facet := some { c with lnk := v } }
  | none => { F with lnk := v }

/-- Whether operand register `r` lies in the fibre's window (R32); the frame has 16 registers (R360). -/
def Fibre.inWindow (F : Fibre) (r : Reg) : Bool :=
  match r, F.facet with
  | .v n, none => decide (F.base + n < F.alloc)
  | .v n, some _ => decide (n < 16)
  | .k _, _ => true

/-- The register that operand `r` names for the fibre (R32, R64, R360). -/
def Fibre.dreg (F : Fibre) (r : Reg) : DReg :=
  match r, F.facet with
  | .v n, none => .v (F.base + n)
  | .k n, none => .k n
  | .v n, some _ => .fv n
  | .k n, some _ => .fk n

/-- A register of a fibre, or a K register of its wave. -/
def Wave.get (W : Wave) (f : Nat) (d : DReg) : Tagged :=
  match d with
  | .v i => tabVal zeroReg (W.fib f).regs i
  | .k n => tabVal zeroReg W.ks n
  | .fv n => match (W.fib f).facet with | some c => tabVal zeroReg c.regs n | none => zeroReg
  | .fk n => match (W.fib f).facet with | some c => tabVal zeroReg c.ks n | none => zeroReg

/-- A register of a fibre, or a K register of its wave, written with its tag; nothing is beyond the allocation (R25). -/
def Wave.put (W : Wave) (f : Nat) (d : DReg) (t : Tagged) : Wave :=
  match d with
  | .v i => W.modFib f fun F => if i < F.alloc then { F with regs := tabPut zeroReg F.regs i t } else F
  | .k n => { W with ks := tabPut zeroReg W.ks n t }
  | .fv n => W.modFib f fun F => { F with facet := F.facet.map fun c => { c with regs := tabPut zeroReg c.regs n t } }
  | .fk n => W.modFib f fun F => { F with facet := F.facet.map fun c => { c with ks := tabPut zeroReg c.ks n t } }

/-- The register that operand `r` names, read by fibre `f`. -/
def Wave.read (W : Wave) (f : Nat) (r : Reg) : Tagged := W.get f ((W.fib f).dreg r)

/-- Registers written in order, as many as there are values. -/
def Wave.putAll (W : Wave) (f : Nat) (ds : List DReg) (ts : List Tagged) : Wave :=
  (ds.zip ts).foldl (fun X e => X.put f e.1 e.2) W

/-- Whether a register belongs to the wave and not to a fibre, so that R26 chooses its value. -/
def DReg.isK : DReg → Bool
  | .k _ => true
  | _ => false

/-- The registers of an operand of `n` registers. -/
def regRun (r : Reg) (n : Nat) : List Reg := (List.range n).map (regPlus r)

/-! ## Launches and contexts -/

/-- The launch of a group; a handler group and a firmware group have none. -/
def State.launchOf (s : State) (G : Group) : Option Launch := tabGet s.cp.launches G.launch

/-- A context that exists (R381). -/
def State.ctx (s : State) (c : Nat) : Option Ctx := tabGet s.cp.ctxs c

/-- The next free value (log 3). -/
def State.freeWord (s : State) : Word := Config.freeWord s.fresh

/-- The state after a free value has been drawn. -/
def State.drawn (s : State) : State := { s with fresh := s.fresh + 1 }

end Sys2Proof.Machine
end

