-- ==== Sys2Proof/Machine/FpNum.lean ====
section
/-! DEFINITION. Floating-point and tapered arithmetic on codes (R96-R101, R107-R112, R119, R120,
R159-R169): operands are read exactly, computed exactly as a whole number times a power of two, with a
sticky bit where the exact result has no such form, and rounded once. -/
namespace Sys2Proof.Machine

/-- The IEEE formats (R96). -/
inductive FFmt where
  | f16 | bf16 | f32 | f64
deriving DecidableEq, Repr

/-- Exponent bits of a format (R96). -/
def ebits : FFmt → Nat
  | .f16 => 5 | .bf16 => 8 | .f32 => 8 | .f64 => 11

/-- Fraction bits of a format (R96). -/
def fbits : FFmt → Nat
  | .f16 => 10 | .bf16 => 7 | .f32 => 23 | .f64 => 52

/-- The exponent bias of a format, also its greatest exponent (R96). -/
def bias (f : FFmt) : Nat := 2 ^ (ebits f - 1) - 1

/-- The exponent of the least normal number. -/
def emin (f : FFmt) : Int := 1 - (bias f : Int)

/-- The code of the sign bit of a format. -/
def signCode (f : FFmt) (neg : Bool) : Nat := if neg then 2 ^ (ebits f + fbits f) else 0

/-- ±infinity (R97). -/
def infCode (f : FFmt) (neg : Bool) : Nat := signCode f neg + (2 ^ ebits f - 1) * 2 ^ fbits f

/-- The greatest finite value of a sign (R97). -/
def maxCode (f : FFmt) (neg : Bool) : Nat := infCode f neg - 1

/-- The positive canonical NaN (R97). -/
def canonNan (f : FFmt) : Nat := infCode f false + 2 ^ (fbits f - 1)

/-- What a code means: a NaN with its fraction field, an infinity, or `±m × 2^e`, zero with `m = 0`. -/
inductive FVal where
  | nan (neg : Bool) (frac : Nat)
  | inf (neg : Bool)
  | num (neg : Bool) (m : Nat) (e : Int)
deriving DecidableEq, Repr

/-- The meaning of a code (R96). -/
def unpackF (f : FFmt) (w : Nat) : FVal :=
  let neg := bits w (ebits f + fbits f) 1 == 1
  let ex := bits w (fbits f) (ebits f)
  let fr := bits w 0 (fbits f)
  if ex = 2 ^ ebits f - 1 then (if fr = 0 then .inf neg else .nan neg fr)
  else if ex = 0 then .num neg fr (emin f - fbits f)
  else .num neg (2 ^ fbits f + fr) ((ex : Int) - bias f - fbits f)

/-- Whether a compatibility level flushes a format's subnormals (R119). -/
def flushes (f : FFmt) (level : Nat) : Bool :=
  match f with
  | .f64 => false
  | .bf16 => level ≤ 1
  | _ => level == 0

/-- A code as an operand: a subnormal that the level flushes is the zero of its sign (R109, R119). -/
def flushed (f : FFmt) (level w : Nat) : Nat :=
  if flushes f level && bits w (fbits f) (ebits f) == 0 then signCode f (bits w (ebits f + fbits f) 1 == 1) else w

/-- The meaning of an operand at a level (R109, R119). -/
def readF (f : FFmt) (level w : Nat) : FVal := unpackF f (flushed f level w)

/-- Whether a code is a NaN. -/
def isNan (f : FFmt) (w : Nat) : Bool := bits w (fbits f) (ebits f) == 2 ^ ebits f - 1 && bits w 0 (fbits f) != 0

/-- Whether a code is a signalling NaN (R96). -/
def isSnan (f : FFmt) (w : Nat) : Bool := isNan f w && bits w (fbits f - 1) 1 == 0

/-- A NaN code quieted (R110). -/
def quiet (f : FFmt) (w : Nat) : Nat := if bits w (fbits f - 1) 1 = 0 then w + 2 ^ (fbits f - 1) else w

/-- A source with its negation bit applied; a NaN is left as it is (R110, R159). -/
def negF (f : FFmt) (neg : Bool) (w : Nat) : Nat :=
  if neg && !isNan f w then
    (if bits w (ebits f + fbits f) 1 = 0 then w + 2 ^ (ebits f + fbits f) else w - 2 ^ (ebits f + fbits f))
  else w

/-- The rounding modes (R107). -/
inductive Rnd where
  | rne | rz | rp | rm | rna
deriving DecidableEq, Repr

/-- The rounding of an RND code; 5 to 7 are refused before (R67). -/
def rndOf (code : Nat) : Rnd :=
  match code with
  | 1 => .rz | 2 => .rp | 3 => .rm | 4 => .rna | _ => .rne

/-- What one floating-point instruction computes under: rounding, saturation and level. -/
structure FEnv where
  rnd : Rnd
  sat : Bool
  level : Nat
deriving DecidableEq, Repr

/-- A magnitude cut to a whole number of quanta: the quanta kept, how the rest compares with half a
quantum, and whether nothing was cut off. -/
structure Cut where
  kept : Nat
  half : Ordering
  exact : Bool
deriving DecidableEq, Repr

/-- Cuts `k` bits off `m`; `sticky` says that the exact magnitude is a little more than `m`. -/
def cutBits (m k : Nat) (sticky : Bool) : Cut :=
  if k = 0 then ⟨m, .lt, !sticky⟩
  else
    let rest := m % 2 ^ k
    let h := 2 ^ (k - 1)
    ⟨m / 2 ^ k, if rest < h then .lt else if rest = h && !sticky then .eq else .gt, rest == 0 && !sticky⟩

/-- Cuts the magnitude `m × 2^e` to multiples of `2^q`. -/
def cutAt (m : Nat) (e q : Int) (sticky : Bool) : Cut :=
  if q ≤ e then ⟨m * 2 ^ (e - q).toNat, .lt, !sticky⟩ else cutBits m (q - e).toNat sticky

/-- Whether a cut magnitude is rounded away from zero (R107). -/
def roundsUp (r : Rnd) (neg : Bool) (c : Cut) : Bool :=
  !c.exact && match r with
    | .rne => c.half == .gt || (c.half == .eq && c.kept % 2 == 1)
    | .rz => false
    | .rp => !neg
    | .rm => neg
    | .rna => c.half != .lt

/-- A cut magnitude rounded. -/
def rounded (r : Rnd) (neg : Bool) (c : Cut) : Nat := if roundsUp r neg c then c.kept + 1 else c.kept

/-- What an overflow gives (R107). -/
def overflowCode (f : FFmt) (r : Rnd) (neg : Bool) : Nat :=
  match r with
  | .rne | .rna => infCode f neg
  | .rz => maxCode f neg
  | .rp => if neg then maxCode f neg else infCode f neg
  | .rm => if neg then infCode f neg else maxCode f neg

/-- Rounds `±m × 2^e` (a little more with `sticky`) into a format, once (R107, R109, R119). With
`sticky`, `m` has more bits than the format. -/
def roundF (f : FFmt) (level : Nat) (r : Rnd) (neg : Bool) (m : Nat) (e : Int) (sticky : Bool) : Nat × Exc :=
  if m = 0 then (signCode f neg, excNone)
  else
    let ex := (Nat.log2 m : Int) + e
    let qn := ex - fbits f
    let qs := emin f - fbits f
    let exn := if rounded r neg (cutAt m e qn sticky) = 2 ^ (fbits f + 1) then ex + 1 else ex
    if (bias f : Int) < exn then (overflowCode f r neg, excOvf ||| excInx)
    else
      let q := max qn qs
      let c := cutAt m e q sticky
      let k := rounded r neg c
      if k < 2 ^ fbits f then
        if flushes f level && k != 0 then (signCode f neg, excUnf ||| excInx)
        else (signCode f neg + k, excIf (!c.exact) (excUnf ||| excInx))
      else
        let code := if k = 2 ^ (fbits f + 1) then (q + 1 + fbits f + bias f).toNat * 2 ^ fbits f
          else (q + fbits f + bias f).toNat * 2 ^ fbits f + (k - 2 ^ fbits f)
        (signCode f neg + code, excIf (!c.exact) excInx ||| excIf (!c.exact && decide (exn < emin f)) excUnf)

/-- `.sat` applied to a result: an infinity becomes the greatest finite value of its sign (R108). -/
def saturate (f : FFmt) (sat : Bool) (w : Nat) : Nat :=
  if sat && bits w 0 (fbits f) == 0 && bits w (fbits f) (ebits f) == 2 ^ ebits f - 1 then w - 1 else w

/-- The result of an operation with `.sat` applied. -/
def finishF (f : FFmt) (env : FEnv) (r : Nat × Exc) : Nat × Exc := (saturate f env.sat r.1, r.2)

/-- A NaN result of arithmetic from its sources in order (R110, R119). -/
def nanResult (f : FFmt) (level : Nat) (srcs : List Nat) : Nat :=
  if level = 0 then canonNan f
  else match srcs.find? (isNan f) with
    | some w => quiet f w
    | none => canonNan f

/-- The result of an operation that has a NaN operand (R110). -/
def nanOf (f : FFmt) (level : Nat) (srcs : List Nat) : Nat × Exc :=
  (nanResult f level srcs, excIf (srcs.any (isSnan f)) excInv)

/-- The result of an invalid operation (R110, R115). -/
def invalidF (f : FFmt) (level : Nat) (srcs : List Nat) : Nat × Exc := (nanResult f level srcs, excInv)

/-- A signed dyadic number: `±m × 2^e`. -/
structure Dyad where
  neg : Bool
  m : Nat
  e : Int
deriving DecidableEq, Repr

/-- The signed whole number that a dyadic number is in units of `2^q`, `q` at most its exponent. -/
def dyadAt (q : Int) (d : Dyad) : Int :=
  let v : Int := d.m * 2 ^ (d.e - q).toNat
  if d.neg then -v else v

/-- The exact sum of dyadic numbers. An exact zero takes the sign that all its terms share, else + and −
under `.rm` (R162). -/
def sumDyads (r : Rnd) (ds : List Dyad) : Dyad :=
  let q := ds.foldl (fun q d => min q d.e) 0
  let v := ds.foldl (fun v d => v + dyadAt q d) 0
  if v = 0 then
    ⟨if ds.all (·.neg) then true else if ds.all (!·.neg) then false else r == .rm, 0, q⟩
  else ⟨decide (v < 0), v.natAbs, q⟩

/-- Rounds a dyadic number into a format. -/
def roundDyad (f : FFmt) (env : FEnv) (d : Dyad) : Nat × Exc :=
  finishF f env (roundF f env.level env.rnd d.neg d.m d.e false)

/-- a + b (R161, R162). -/
def faddF (f : FFmt) (env : FEnv) (a b : Nat) : Nat × Exc :=
  match readF f env.level a, readF f env.level b with
  | .nan _ _, _ | _, .nan _ _ => nanOf f env.level [a, b]
  | .inf s, .inf t => if s = t then finishF f env (infCode f s, excNone) else invalidF f env.level [a, b]
  | .inf s, .num _ _ _ => finishF f env (infCode f s, excNone)
  | .num _ _ _, .inf s => finishF f env (infCode f s, excNone)
  | .num s m e, .num t n g => roundDyad f env (sumDyads env.rnd [⟨s, m, e⟩, ⟨t, n, g⟩])

/-- a × b (R161, R162). -/
def fmulF (f : FFmt) (env : FEnv) (a b : Nat) : Nat × Exc :=
  match readF f env.level a, readF f env.level b with
  | .nan _ _, _ | _, .nan _ _ => nanOf f env.level [a, b]
  | .inf s, .inf t => finishF f env (infCode f (s != t), excNone)
  | .inf s, .num t n _ => if n = 0 then invalidF f env.level [a, b] else finishF f env (infCode f (s != t), excNone)
  | .num t n _, .inf s => if n = 0 then invalidF f env.level [a, b] else finishF f env (infCode f (s != t), excNone)
  | .num s m e, .num t n g => roundDyad f env ⟨s != t, m * n, e + g⟩

/-- a × b + c with one rounding; ∞ × 0 is invalid even beside a quiet NaN (R161, R162). -/
def ffmaF (f : FFmt) (env : FEnv) (a b c : Nat) : Nat × Exc :=
  match readF f env.level a, readF f env.level b, readF f env.level c with
  | .nan _ _, _, _ | _, .nan _ _, _ => nanOf f env.level [a, b, c]
  | .inf s, .num t n _, z | .num t n _, .inf s, z =>
    if n = 0 then invalidF f env.level [a, b, c]
    else match z with
      | .nan _ _ => nanOf f env.level [a, b, c]
      | .inf u => if u = (s != t) then finishF f env (infCode f u, excNone) else invalidF f env.level [a, b, c]
      | .num _ _ _ => finishF f env (infCode f (s != t), excNone)
  | .inf s, .inf t, z =>
    match z with
      | .nan _ _ => nanOf f env.level [a, b, c]
      | .inf u => if u = (s != t) then finishF f env (infCode f u, excNone) else invalidF f env.level [a, b, c]
      | .num _ _ _ => finishF f env (infCode f (s != t), excNone)
  | .num _ _ _, .num _ _ _, .nan _ _ => nanOf f env.level [a, b, c]
  | .num _ _ _, .num _ _ _, .inf u => finishF f env (infCode f u, excNone)
  | .num s m e, .num t n g, .num u k h => roundDyad f env (sumDyads env.rnd [⟨s != t, m * n, e + g⟩, ⟨u, k, h⟩])

/-- a ÷ b (R161, R162). -/
def fdivF (f : FFmt) (env : FEnv) (a b : Nat) : Nat × Exc :=
  match readF f env.level a, readF f env.level b with
  | .nan _ _, _ | _, .nan _ _ => nanOf f env.level [a, b]
  | .inf _, .inf _ => invalidF f env.level [a, b]
  | .inf s, .num t _ _ => finishF f env (infCode f (s != t), excNone)
  | .num s _ _, .inf t => (signCode f (s != t), excNone)
  | .num s m e, .num t n g =>
    if n = 0 then
      (if m = 0 then invalidF f env.level [a, b] else finishF f env (infCode f (s != t), excDz))
    else if m = 0 then (signCode f (s != t), excNone)
    else
      let k := fbits f + 4 + Nat.log2 n
      finishF f env (roundF f env.level env.rnd (s != t) (m * 2 ^ k / n) (e - g - k) (m * 2 ^ k % n != 0))

/-- The bits of a whole square root, from bit `i - 1` down. -/
def isqrtFrom (x : Nat) : Nat → Nat → Nat
  | 0, r => r
  | i + 1, r => isqrtFrom x i (if (r + 2 ^ i) * (r + 2 ^ i) ≤ x then r + 2 ^ i else r)

/-- The whole part of a square root. -/
def isqrt (x : Nat) : Nat := isqrtFrom x (Nat.log2 x / 2 + 1) 0

/-- √a (R161, R162). -/
def fsqrtF (f : FFmt) (env : FEnv) (a : Nat) : Nat × Exc :=
  match readF f env.level a with
  | .nan _ _ => nanOf f env.level [a]
  | .inf s => if s then invalidF f env.level [a] else finishF f env (infCode f false, excNone)
  | .num s m e =>
    if m = 0 then (signCode f s, excNone)
    else if s then invalidF f env.level [a]
    else
      let k := 2 * (fbits f + 4) + (e % 2).toNat
      let r := isqrt (m * 2 ^ k)
      finishF f env (roundF f env.level env.rnd false r ((e - k) / 2) (r * r != m * 2 ^ k))

/-- 1 ÷ √a, correctly rounded (R161, R162). -/
def frsqF (f : FFmt) (env : FEnv) (a : Nat) : Nat × Exc :=
  match readF f env.level a with
  | .nan _ _ => nanOf f env.level [a]
  | .inf s => if s then invalidF f env.level [a] else (signCode f false, excNone)
  | .num s m e =>
    if m = 0 then finishF f env (infCode f s, excDz)
    else if s then invalidF f env.level [a]
    else
      let odd := (e % 2).toNat
      let n := m * 2 ^ odd
      let k := fbits f + 6 + Nat.log2 n
      let r := isqrt (2 ^ (2 * k) / n)
      finishF f env (roundF f env.level env.rnd false r (-((e - odd) / 2) - k) (r * r * n != 2 ^ (2 * k)))

/-- The code of 1.0 (R97). -/
def oneCode (f : FFmt) : Nat := bias f * 2 ^ fbits f

/-- 1 ÷ a (R161, R162). -/
def frcpF (f : FFmt) (env : FEnv) (a : Nat) : Nat × Exc :=
  match readF f env.level a with
  | .nan _ _ => nanOf f env.level [a]
  | .inf s => (signCode f s, excNone)
  | .num s m _ => if m = 0 then finishF f env (infCode f s, excDz) else fdivF f env (oneCode f) a

/-- The place of a code that is no NaN in the order of values, −0 below +0 (R163). -/
def orderKey (f : FFmt) (w : Nat) : Int :=
  let mag := bits w 0 (ebits f + fbits f)
  if bits w (ebits f + fbits f) 1 = 1 then -(mag : Int) - 1 else mag

/-- FMIN and FMAX (R163). -/
def fminmaxF (f : FFmt) (level : Nat) (wantMax : Bool) (a b : Nat) : Nat × Exc :=
  let a' := flushed f level a
  let b' := flushed f level b
  let e := excIf (isSnan f a || isSnan f b) excInv
  if isNan f a then (if isNan f b then (nanResult f level [a, b], e) else (b', e))
  else if isNan f b then (a', e)
  else if decide (orderKey f a' ≤ orderKey f b') != wantMax then (a', e) else (b', e)

/-- The order of two codes that are no NaN, the zeros equal (R165). -/
def cmpF (f : FFmt) (a b : Nat) : Ordering :=
  let v := fun w => let mag := bits w 0 (ebits f + fbits f)
    if bits w (ebits f + fbits f) 1 = 1 then -(mag : Int) else mag
  compare (v a) (v b)

/-- FCMP: the condition's truth and the exceptions (R165); codes 8 to 15 are refused before. -/
def fcmpF (f : FFmt) (level cc a b : Nat) : Bool × Exc :=
  let nan := isNan f a || isNan f b
  let o := cmpF f (flushed f level a) (flushed f level b)
  let holds := match cc with
    | 0 => !nan && o == .eq
    | 1 => nan || o != .eq
    | 2 => !nan && o == .lt
    | 3 => !nan && o != .gt
    | 4 => !nan && o == .gt
    | 5 => !nan && o != .lt
    | 6 => !nan
    | _ => nan
  (holds, excIf (if 2 ≤ cc ∧ cc ≤ 5 then nan else isSnan f a || isSnan f b) excInv)

/-! ## Conversions -/

/-- A NaN of one format converted into another (R110, R119). -/
def nanConv (src dst : FFmt) (level w : Nat) : Nat :=
  let neg := bits w (ebits src + fbits src) 1 == 1
  let fr := bits (quiet src w) 0 (fbits src)
  if fbits dst < fbits src then
    (if level ≤ 1 then canonNan dst
     else infCode dst neg + bits (quiet dst (fr / 2 ^ (fbits src - fbits dst))) 0 (fbits dst))
  else infCode dst neg + fr * 2 ^ (fbits dst - fbits src)

/-- An IEEE code converted into another IEEE format (R112). -/
def cvtFF (src dst : FFmt) (env : FEnv) (w : Nat) : Nat × Exc :=
  match readF src env.level w with
  | .nan _ _ => (nanConv src dst env.level w, excIf (isSnan src w) excInv)
  | .inf s => finishF dst env (infCode dst s, excNone)
  | .num s m e => finishF dst env (roundF dst env.level env.rnd s m e false)

/-- An exact whole number converted into an IEEE format (R112). -/
def cvtIF (dst : FFmt) (env : FEnv) (v : Int) : Nat × Exc :=
  finishF dst env (roundF dst env.level env.rnd (decide (v < 0)) v.natAbs 0 false)

/-- The range of an integer format. -/
def intRange (signed : Bool) (n : Nat) : Int × Int :=
  if signed then (-(2 ^ (n - 1) : Nat), (2 ^ (n - 1) : Nat) - 1) else (0, (2 ^ n : Nat) - 1)

/-- A whole number clamped to a range. -/
def clampInt (r : Int × Int) (v : Int) : Int := max r.1 (min r.2 v)

/-- `±m × 2^e` rounded to a whole number and clamped to a range (R108). -/
def toIntRange (rng : Int × Int) (r : Rnd) (neg : Bool) (m : Nat) (e : Int) : Int × Exc :=
  let c := cutAt m e 0 false
  let k : Int := rounded r neg c
  let v := if neg then -k else k
  if v < rng.1 ∨ rng.2 < v then (clampInt rng v, excInv ||| excInx) else (v, excIf (!c.exact) excInx)

/-- An IEEE code converted to an integer format (R108, R172). -/
def cvtFI (src : FFmt) (rng : Int × Int) (env : FEnv) (w : Nat) : Int × Exc :=
  match readF src env.level w with
  | .nan _ _ => (0, excInv)
  | .inf s => (if s then rng.1 else rng.2, excInv ||| excInx)
  | .num s m e => toIntRange rng env.rnd s m e

/-- What a tapered code means (R98). -/
inductive TVal where
  | nar
  | num (neg : Bool) (m : Nat) (e : Int)
deriving DecidableEq, Repr

/-- The length of the run of bits equal to `b` from bit `w - 1` of `m` down (R98). -/
def runLen (m : Nat) (b : Bool) : Nat → Nat
  | 0 => 0
  | w + 1 => if m.testBit w = b then runLen m b w + 1 else 0

/-- The meaning of a tapered code whose magnitude field has `w` bits (R98). -/
def unpackT (w code : Nat) : TVal :=
  let neg := code.testBit w
  let m := bits code 0 w
  if m = 0 then (if neg then .nar else .num false 0 0)
  else
    let b := m.testBit (w - 1)
    let k := runLen m b w
    let r : Int := if b then (k : Int) - 1 else -(k : Int)
    let rest := w - min w (k + 1)
    let e := if rest = 0 then 0 else bits m (rest - 1) 1
    let nf := rest - 1
    .num neg (2 ^ nf + bits m 0 nf) (2 * r + e - nf)

/-- The code of NaR. -/
def narCode (w : Nat) : Nat := 2 ^ w

/-- A non-zero magnitude `m × 2^e` with its sign rounded on the tapered code of `w` magnitude bits
(R100, R119, R120). -/
def roundT (w level : Nat) (r : Rnd) (neg : Bool) (m : Nat) (e : Int) : Nat × Exc :=
  let n := Nat.log2 m
  let ex := (n : Int) + e
  let reg := ex / 2
  let eb := (ex % 2).toNat
  let frac := m - 2 ^ n
  let sgn := fun (k : Nat) => if k = 0 then 0 else (if neg then 2 ^ w else 0) + k
  if ex < -(2 * (w - 1 : Nat) : Int) then
    -- below minpos
    let k := if level = 0 then 1 else if level = 1 then 0
      else
        let zeros := (-reg).toNat
        let tail := (1 * 2 + eb) * 2 ^ n + frac
        let k0 := zeros - w
        rounded r neg (cutBits tail (n + 2 + k0) false)
    (sgn k, excUnf ||| excInx)
  else if (2 * (w - 1 : Nat) : Int) < ex ∨ (ex = (2 * (w - 1 : Nat) : Int) ∧ frac ≠ 0) then (sgn (2 ^ w - 1), excInx)
  else
    let regBits := if 0 ≤ reg then (2 ^ (reg.toNat + 1) - 1) * 2 else 1
    let regLen := if 0 ≤ reg then reg.toNat + 2 else (-reg).toNat + 1
    let all := (regBits * 2 + eb) * 2 ^ n + frac
    let len := regLen + 1 + n
    if len ≤ w then (sgn (all * 2 ^ (w - len)), excNone)
    else
      let c := cutBits all (len - w) false
      (sgn (min (rounded r neg c) (2 ^ w - 1)), excIf (!c.exact) excInx)

/-- `±m × 2^e` converted into a tapered format (R100); zero of either sign is code 0. -/
def toTapered (w : Nat) (env : FEnv) (neg : Bool) (m : Nat) (e : Int) : Nat × Exc :=
  if m = 0 then (0, excNone) else roundT w env.level env.rnd neg m e

/-- An infinity converted into a tapered format (R119). -/
def infTapered (w : Nat) (level : Nat) (neg : Bool) : Nat × Exc :=
  if level = 0 then (narCode w, excInv) else ((if neg then 2 ^ w else 0) + (2 ^ w - 1), excInx)

/-- An IEEE code, divided exactly by `2^scale`, converted into a tapered format (R100, R111, R174). -/
def cvtFT (src : FFmt) (w : Nat) (env : FEnv) (scale : Int) (x : Nat) : Nat × Exc :=
  match readF src env.level x with
  | .nan _ _ => (narCode w, excInv)
  | .inf s => infTapered w env.level s
  | .num s m e => toTapered w env s m (e - scale)

/-- A tapered code converted into an IEEE format (R111, R112). -/
def cvtTF (w : Nat) (dst : FFmt) (env : FEnv) (x : Nat) : Nat × Exc :=
  match unpackT w x with
  | .nar => (canonNan dst, excNar)
  | .num s m e => finishF dst env (roundF dst env.level env.rnd s m e false)

/-- A tapered code converted to an integer format (R111). -/
def cvtTI (w : Nat) (rng : Int × Int) (env : FEnv) (x : Nat) : Int × Exc :=
  match unpackT w x with
  | .nar => (0, excNar)
  | .num s m e => toIntRange rng env.rnd s m e

/-- A tapered code converted into another tapered format (R111, R112). -/
def cvtTT (src dst : Nat) (env : FEnv) (x : Nat) : Nat × Exc :=
  match unpackT src x with
  | .nar => (narCode dst, excNar)
  | .num s m e => toTapered dst env s m e

/-- f32 multiplied by the E8 scale of a code (R101, R176). -/
def scaleF32 (level a e8 : Nat) : Nat × Exc :=
  let env : FEnv := ⟨.rne, false, level⟩
  if e8 = 0xFF then (canonNan .f32, excNar)
  else match readF .f32 level a with
    | .nan _ _ => nanOf .f32 level [a]
    | .inf s => (infCode .f32 s, excNone)
    | .num s m e => finishF .f32 env (roundF .f32 level .rne s m (e + e8 - 127) false)

/-- floor(log2 |x|) of a finite non-zero f32 operand (R177). -/
def expOfF32 (level w : Nat) : Option Int :=
  match readF .f32 level w with
  | .num _ m e => if m = 0 then none else some ((Nat.log2 m : Int) + e)
  | _ => none

/-! ## Packed lanes and dot products -/

/-- Lane `i` of two packed halves. -/
def lane16 (w : Word) (i : Nat) : Nat := bits w.toNat (16 * i) 16

/-- Two lanes packed. -/
def pack16 (l0 l1 : Nat) : Word := BitVec.ofNat 32 (l0 % 2 ^ 16 + l1 * 2 ^ 16)

/-- A lane-wise operation on packed halves: its word and the union of the exceptions (R168). -/
def lanes2 (op : Nat → Nat × Exc) : Word × Exc :=
  (pack16 (op 0).1 (op 1).1, (op 0).2 ||| (op 1).2)

/-- The dyadic product of two finite values. -/
def mulVal (a b : FVal) : FVal :=
  match a, b with
  | .num s m e, .num t n g => .num (s != t) (m * n) (e + g)
  | .inf s, .num t n _ | .num t n _, .inf s => if n = 0 then .nan false 1 else .inf (s != t)
  | .inf s, .inf t => .inf (s != t)
  | _, _ => .nan false 1

/-- a₀ × b₀ + a₁ × b₁ + c rounded once into f32 (R169); the NaN order is A0, A1, B0, B1, C. -/
def fdotF (f : FFmt) (env : FEnv) (a0 a1 b0 b1 c : Nat) : Nat × Exc :=
  let p0 := mulVal (readF f env.level a0) (readF f env.level b0)
  let p1 := mulVal (readF f env.level a1) (readF f env.level b1)
  let lanes := [a0, a1, b0, b1]
  let rd := fun x => readF f env.level x
  let prodInvalid := fun (x y : Nat) => !isNan f x && !isNan f y && mulVal (rd x) (rd y) == .nan false 1
  let inv := prodInvalid a0 b0 || prodInvalid a1 b1
  let snan := lanes.any (isSnan f) || isSnan .f32 c
  let terms := [p0, p1, readF .f32 env.level c]
  let pos := terms.any fun t => t == .inf false
  let neg := terms.any fun t => t == .inf true
  if lanes.any (isNan f) || isNan .f32 c then
    let w := if env.level = 0 then canonNan .f32
      else match lanes.find? (isNan f) with
        | some x => nanConv f .f32 2 x
        | none => quiet .f32 c
    (w, excIf (snan || inv || (pos && neg)) excInv)
  else if inv || (pos && neg) then (canonNan .f32, excInv)
  else if pos || neg then finishF .f32 env (infCode .f32 neg, excNone)
  else roundDyad .f32 env (sumDyads env.rnd (terms.filterMap fun t =>
    match t with
    | .num s m e => some ⟨s, m, e⟩
    | _ => none))

end Sys2Proof.Machine
end

