-- ==== Sys2Proof/Machine/Transc.lean ====
section
/-! DEFINITION. FEXP2, FLOG2, FSIN and FCOS (R166). The spec bounds their error and leaves their bits to
the implementation: each gives the implementation's code (a free function of level and operand) wherever
that code keeps the bound, and otherwise a rounded value that does; the exact results, the special
operands and the flags are fixed. A fixed-point number of this file is a whole number of units of `2^-tbits`: at this width no f32
operand has a code so near its bound that the error of the computation could decide. -/
namespace Sys2Proof.Machine

/-- Fraction bits of the fixed-point numbers of this file. -/
def tbits : Nat := 128

/-- A code as a whole number of units of `2^-tbits`, cut toward zero; infinities and NaNs count as none. -/
def fixedOf (w : Nat) : Option Int :=
  match unpackF .f32 w with
  | .num s m e =>
    let x := e + tbits
    let v : Int := if 0 ≤ x then m * 2 ^ x.toNat else (m / 2 ^ (-x).toNat : Nat)
    some (if s then -v else v)
  | _ => none

/-- Whether a candidate surely lies within `bound` of the value that `t` stands for, all in units of `2^-tbits`: `t` itself is
off by less than 2^12 units. -/
def within (cand : Option Int) (t : Int) (bound : Nat) : Bool :=
  match cand with
  | some c => (c - t).natAbs + 2 ^ 12 ≤ bound
  | none => false

/-- Sum of the Taylor terms `x^k / k!` of `step 1`, or of every second of them: `term` is the current
term, `k` its number. -/
def taylor (x2 : Int) (up : Nat → Nat) : Nat → Nat → Int → Int
  | 0, _, _ => 0
  | n + 1, k, term => term + taylor x2 up n (k + 1) (term * x2 / 2 ^ tbits / (up k : Nat))

/-- 2^f for a fraction `f`. -/
def exp2Fix (f : Nat) : Int :=
  let y : Int := f * 0xb17217f7d1cf79abc9e3b39803f2f6af / 2 ^ tbits
  taylor y (fun k => k + 1) 45 0 (2 ^ tbits)

/-- The bits of log2 of a number of [1, 2) given in units of 2^-320, by repeated squaring. -/
def log2Bits : Nat → Nat → Nat → Nat
  | 0, _, acc => acc
  | n + 1, y, acc =>
    let z := y * y / 2 ^ 320
    if 2 ^ 321 ≤ z then log2Bits n (z / 2) (2 * acc + 1) else log2Bits n z (2 * acc)

/-- π. -/
def piFix : Int := 0x3243f6a8885a308d313198a2e03707344

/-- 2π in units of 2^-320. -/
def twoPiFix : Nat := 0x6487ed5110b4611a62633145c06e0e68948127044533e63a0105df531d89cd9128a5043cc71a026ef

/-- `±m × 2^e` less π, reduced modulo 2π into [−π, π). -/
def reduce2pi (neg : Bool) (m : Nat) (e : Int) : Int :=
  let a := m * 2 ^ (e + 320).toNat
  let r : Int := (a % twoPiFix / 2 ^ (320 - tbits) : Nat)
  if neg then -r + piFix else r - piFix

/-- sin of an angle of [−π, π]. -/
def sinFix (x : Int) : Int :=
  let x2 := -(x * x / 2 ^ tbits)
  taylor x2 (fun k => (2 * k + 2) * (2 * k + 3)) 35 0 x

/-- cos of an angle of [−π, π]. -/
def cosFix (x : Int) : Int :=
  let x2 := -(x * x / 2 ^ tbits)
  taylor x2 (fun k => (2 * k + 1) * (2 * k + 2)) 35 0 (2 ^ tbits)

/-- The f32 code nearest a fixed-point value. -/
def codeOfFix (level : Nat) (t : Int) : Nat :=
  (roundF .f32 level .rne (decide (t < 0)) t.natAbs (-(tbits : Int)) false).1

/-- A result that is not exact: inexact, and underflow where it is tiny (R115). -/
def inexactly (code : Nat) : Nat × Exc := (code, if bits code 0 31 < 2 ^ 23 then excUnf ||| excInx else excInx)

/-- A result with the level's flush of a subnormal applied (R109, R119). -/
def flushOut (level : Nat) (r : Nat × Exc) : Nat × Exc :=
  if flushes .f32 level && bits r.1 23 8 == 0 && bits r.1 0 23 != 0 then
    (signCode .f32 (bits r.1 31 1 == 1), r.2 ||| excUnf ||| excInx)
  else r

/-- One unit in the last place of f32 at a value of [2^x, 2^(x+1)). -/
def ulpFix (x : Int) : Nat := 2 ^ (max x (-126) - 23 + tbits).toNat

/-- FEXP2.f32 (R166). -/
def fexp2 (level a : Nat) : Nat × Exc :=
  match readF .f32 level a with
  | .nan _ _ => nanOf .f32 level [a]
  | .inf s => (if s then 0 else infCode .f32 false, excNone)
  | .num s m e =>
    let v : Int := if s then -(m : Int) else m
    -- n = floor of the operand, f its fraction in units of 2^-tbits
    let n : Int := if 0 ≤ e then v * 2 ^ e.toNat else v / (2 ^ (-e).toNat : Nat)
    let f : Nat := if 0 ≤ e then 0 else ((v % (2 ^ (-e).toNat : Nat)).toNat * 2 ^ tbits / 2 ^ (-e).toNat)
    let whole : Bool := 0 ≤ e || v % (2 ^ (-e).toNat : Nat) == 0
    if 128 ≤ n then (infCode .f32 false, excOvf ||| excInx)
    else if whole && decide (-149 ≤ n) then flushOut level (roundF .f32 2 .rne false 1 n false)
    else
      let c := Config.exp2Code level a % 2 ^ 32
      let code :=
        if n < -155 then (if c ≤ 1 then c else 0)
        else
          -- everything scaled by 2^-n
          let t := exp2Fix f
          let scaled := match unpackF .f32 c with
            | .num false k g => some ((k * 2 ^ (g - n + tbits).toNat : Nat) : Int)
            | _ => none
          if within scaled t (2 ^ (max n (-126) - 23 - n + tbits).toNat) then c
          else (roundF .f32 2 .rne false t.natAbs (n - tbits) false).1
      flushOut level (inexactly code)

/-- FLOG2.f32 (R166). -/
def flog2 (level a : Nat) : Nat × Exc :=
  match readF .f32 level a with
  | .nan _ _ => nanOf .f32 level [a]
  | .inf s => if s then invalidF .f32 level [a] else (infCode .f32 false, excNone)
  | .num s m e =>
    if m = 0 then (infCode .f32 true, excDz)
    else if s then invalidF .f32 level [a]
    else
      let l := Nat.log2 m
      let n := (l : Int) + e
      if m = 2 ^ l then (cvtIF .f32 ⟨.rne, false, level⟩ n).1 |> fun w => (w, excNone)
      else
        let frac := log2Bits tbits (m * 2 ^ (320 - l)) 0
        let t : Int := n * 2 ^ tbits + frac
        let c := Config.log2Code level a % 2 ^ 32
        let bound := if n = 0 ∨ n = -1 then 2 ^ (tbits - 22) else ulpFix ((Nat.log2 t.natAbs : Int) - tbits)
        flushOut level (inexactly (if within (fixedOf c) t bound then c else codeOfFix level t))

/-- FSIN.f32 (R166). -/
def fsin (level a : Nat) : Nat × Exc :=
  match readF .f32 level a with
  | .nan _ _ => nanOf .f32 level [a]
  | .inf _ => invalidF .f32 level [a]
  | .num s m e =>
    if m = 0 then (signCode .f32 s, excNone)
    else
      let t := -sinFix (reduce2pi s m e)
      let c := Config.sinCode level a % 2 ^ 32
      flushOut level (inexactly (if within (fixedOf c) t (2 ^ (tbits - 21)) then c else codeOfFix level t))

/-- FCOS.f32 (R166). -/
def fcos (level a : Nat) : Nat × Exc :=
  match readF .f32 level a with
  | .nan _ _ => nanOf .f32 level [a]
  | .inf _ => invalidF .f32 level [a]
  | .num s m e =>
    if m = 0 then (oneCode .f32, excNone)
    else
      let t := -cosFix (reduce2pi s m e)
      let c := Config.cosCode level a % 2 ^ 32
      flushOut level (inexactly (if within (fixedOf c) t (2 ^ (tbits - 21)) then c else codeOfFix level t))

end Sys2Proof.Machine
end

