-- ==== Sys2Proof/Machine/Lane.lean ====
section
/-! DEFINITION. What the arithmetic instructions compute in one fibre: sources in, results and exceptions
out, whatever machine state holds them (R123, R124, R149-R178). -/
namespace Sys2Proof.Machine

/-- What one fibre gives an arithmetic instruction: its source registers in operand order, its
predicate word with P7 set, and the compatibility level. -/
structure LaneIn where
  r : List Tagged
  p : BitVec 8
  level : Nat
deriving DecidableEq, Repr

/-- What an arithmetic instruction gives one fibre. -/
structure LaneOut where
  regs : List Tagged := []
  pred : Option Bool := none
  exc : Exc := 0
deriving DecidableEq, Repr

/-- The word of the `i`-th source register. -/
def LaneIn.w (x : LaneIn) (i : Nat) : Word := (x.r.getD i zeroReg).val

/-- The tag of the `i`-th source register. -/
def LaneIn.t (x : LaneIn) (i : Nat) : Tag := (x.r.getD i zeroReg).tag

/-- The word of the `i`-th source register as a number. -/
def LaneIn.n (x : LaneIn) (i : Nat) : Nat := (x.w i).toNat

/-- The pair of source registers `i` and `i + 1`. -/
def LaneIn.q (x : LaneIn) (i : Nat) : Addr := pair (x.w i) (x.w (i + 1))

/-- The same pair as a number. -/
def LaneIn.q64 (x : LaneIn) (i : Nat) : Nat := (x.q i).toNat

/-- A source predicate. -/
def LaneIn.pr (x : LaneIn) (i : Nat) : Bool := x.p.getLsbD i

/-- One result register. -/
def one (w : Word) (t : Tag) : LaneOut := { regs := [⟨w, t⟩] }

/-- One result register and exceptions. -/
def oneExc (w : Word) (t : Tag) (e : Exc) : LaneOut := { regs := [⟨w, t⟩], exc := e }

/-- One result register from a code. -/
def oneF (r : Nat × Exc) (t : Tag) : LaneOut := oneExc (BitVec.ofNat 32 r.1) t r.2

/-- A result word of lanes. -/
def wordExc (r : Word × Exc) (t : Tag) : LaneOut := oneExc r.1 t r.2

/-- A pair of result registers with one tag on both. -/
def two (v : Addr) (t : Tag) : LaneOut := { regs := [⟨loWord v, t⟩, ⟨hiWord v, t⟩] }

/-- An f64 result pair (R167). -/
def twoF (r : Nat × Exc) : LaneOut :=
  let v := BitVec.ofNat 64 r.1
  { regs := [⟨loWord v, .f64lo⟩, ⟨hiWord v, .f64hi⟩], exc := r.2 }

/-- A predicate result. -/
def predOut (b : Bool) : LaneOut := { pred := some b }

/-- A predicate result with exceptions. -/
def predExc (r : Bool × Exc) : LaneOut := { pred := some r.1, exc := r.2 }

/-- The result tag of the sign-neutral integer instructions: that of A if i32 or n32, else that of B if
i32 or n32, else b32 (R124). -/
def sumTag (x : LaneIn) : Tag :=
  let ok := fun (i : Nat) => x.t i == .i32 || x.t i == .n32
  if ok 0 then x.t 0 else if 1 < x.r.length && ok 1 then x.t 1 else .b32

/-- A << n, 0 from 32 on (R151). -/
def shl32 (a : Word) (n : Nat) : Word := if n < 32 then a <<< n else 0

/-- A >> n unsigned, 0 from 32 on (R151). -/
def shr32 (a : Word) (n : Nat) : Word := if n < 32 then a >>> n else 0

/-- A >> n signed, all sign from 32 on (R151). -/
def sar32 (a : Word) (n : Nat) : Word := a.sshiftRight (min n 31)

/-- The field of a descriptor: its position and its width, cut at bit 31 (R152). -/
def fieldOf (desc : Word) : Nat × Nat :=
  let pos := bits desc.toNat 0 5
  (pos, min (bits desc.toNat 8 6) (32 - pos))

/-- BFX (R152). -/
def bfx (signed : Bool) (a desc : Word) : Word :=
  let (pos, w) := fieldOf desc
  if w = 0 then 0
  else if signed then wordOf (sx (bits a.toNat pos w) w) else BitVec.ofNat 32 (bits a.toNat pos w)

/-- BFI (R152). -/
def bfi (a b desc : Word) : Word :=
  let (pos, w) := fieldOf desc
  let m := BitVec.ofNat 32 ((2 ^ w - 1) * 2 ^ pos)
  (a &&& ~~~m) ||| ((b <<< pos) &&& m)

/-- An integer condition on two numbers as read and on their bits (R156). -/
def icmp (cc : Nat) (a b : Int) (ra rb : Nat) : Bool :=
  match cc with
  | 0 => a == b
  | 1 => a != b
  | 2 => decide (a < b)
  | 3 => decide (a ≤ b)
  | 4 => decide (b < a)
  | 5 => decide (b ≤ a)
  | 6 => ra &&& rb != 0
  | _ => ra &&& rb == 0

/-- The environment of a short form: `.rne`, no saturation (R159). -/
def shortEnv (x : LaneIn) : FEnv := ⟨.rne, false, x.level⟩

/-- The environment of an F7 field (R67, R159). -/
def envOf (rnd sat level : Nat) : FEnv := ⟨rndOf rnd, sat == 1, level⟩

/-- Bits of the magnitude field of a tapered format, by its CVT code (R98, R171). -/
def taperedBits (code : Nat) : Nat := if code = 12 then 7 else 5

/-- The IEEE format of a CVT code (R171). -/
def floatOf (code : Nat) : FFmt := match code with | 9 => .f64 | 10 => .f16 | 11 => .bf16 | _ => .f32

/-- Signedness and width of an integer CVT code (R171). -/
def intOf (code : Nat) : Bool × Nat :=
  (code % 2 == 0, match code with | 0 | 1 => 32 | 2 | 3 => 64 | 4 | 5 => 16 | _ => 8)

/-- An integer result of CVT in its register or pair (R171). -/
def intOut (df : Nat) (r : Int × Exc) : LaneOut :=
  let t : Tag := if df % 2 = 0 then .i32 else .n32
  if df = 2 ∨ df = 3 then
    let v := BitVec.ofNat 64 (narrow 64 r.1)
    { regs := [⟨loWord v, t⟩, ⟨hiWord v, t⟩], exc := r.2 }
  else oneExc (wordOf r.1) t r.2

/-- A float or tapered result of CVT in its register or pair (R171). -/
def codeOut (df : Nat) (r : Nat × Exc) : LaneOut :=
  match df with
  | 9 => twoF r
  | 10 => oneF r .f16x2
  | 11 => oneF r .bf16x2
  | 12 => oneF r .tf8x4
  | 13 => oneF r .tf6x5
  | _ => oneF r .f32

/-- An integer wrapped or clamped into an integer format of CVT (R172). -/
def cvtII (df : Nat) (sat : Bool) (v : Int) : Int × Exc :=
  let (s, n) := intOf df
  (if sat then clampInt (intRange s n) v else if s then sx (narrow n v) n else narrow n v, excNone)

/-- CVT in one fibre (R171, R172); the level-0 rule for f32 to bf16 overrides RND (R119). -/
def cvtLane (o : Form.Cvt) (x : LaneIn) : LaneOut :=
  let env0 := envOf o.rnd o.sat x.level
  let env := if o.df = 11 ∧ o.sf = 8 ∧ x.level = 0 then { env0 with rnd := .rz } else env0
  let a := if o.sf = 2 ∨ o.sf = 3 ∨ o.sf = 9 then x.q64 0 else x.n 0
  if o.sf < 8 then
    let (s, n) := intOf o.sf
    let v : Int := if s then sx a n else (bits a 0 n : Nat)
    if o.df < 8 then intOut o.df (cvtII o.df env.sat v)
    else if o.df < 12 then codeOut o.df (cvtIF (floatOf o.df) env v)
    else codeOut o.df (toTapered (taperedBits o.df) env (decide (v < 0)) v.natAbs 0)
  else if o.sf < 12 then
    let f := floatOf o.sf
    let w := if o.sf = 10 ∨ o.sf = 11 then a % 2 ^ 16 else a
    if o.df < 8 then intOut o.df (cvtFI f (intRange (intOf o.df).1 (intOf o.df).2) env w)
    else if o.df < 12 then codeOut o.df (cvtFF f (floatOf o.df) env w)
    else codeOut o.df (cvtFT f (taperedBits o.df) env 0 w)
  else
    let tb := taperedBits o.sf
    let w := a % 2 ^ (tb + 1)
    if o.df < 8 then intOut o.df (cvtTI tb (intRange (intOf o.df).1 (intOf o.df).2) env w)
    else if o.df < 12 then codeOut o.df (cvtTF tb (floatOf o.df) env w)
    else codeOut o.df (cvtTT tb (taperedBits o.df) env w)

/-- A tapered code of A under the block scale of an E8 code (R174). -/
def packTapered (w level a e8 : Nat) : Nat × Exc :=
  if e8 = 0xFF then (narCode w, excNar) else cvtFT .f32 w ⟨.rne, false, level⟩ ((e8 : Int) - 127) a

/-- A and B converted into the lanes of a packed format (R173); the level-0 rule for f32 to bf16 rounds
toward zero (R119). -/
def packPair (f : FFmt) (x : LaneIn) : Word × Exc :=
  let env : FEnv := ⟨if f = .bf16 ∧ x.level = 0 then .rz else .rne, false, x.level⟩
  lanes2 fun i => cvtFF .f32 f env (x.n i)

/-- IADD: A + B (R149); the tag of A or of B (R124). -/
def laneIadd (x : LaneIn) : LaneOut :=
  one (x.w 0 + x.w 1) (sumTag x)

/-- ISUB: A − B (R149). -/
def laneIsub (x : LaneIn) : LaneOut :=
  one (x.w 0 - x.w 1) (sumTag x)

/-- IMUL: the low half of A × B (R149). -/
def laneImul (x : LaneIn) : LaneOut :=
  one (x.w 0 * x.w 1) (sumTag x)

/-- IMULH_I32: the high half of the signed product (R149). -/
def laneImulhI32 (x : LaneIn) : LaneOut :=
  one (BitVec.ofNat 32 (narrow 64 (sx32 (x.w 0) * sx32 (x.w 1)) / 2 ^ 32)) .i32

/-- IMULH_N32: the high half of the unsigned product (R149). -/
def laneImulhN32 (x : LaneIn) : LaneOut :=
  one (BitVec.ofNat 32 ((x.w 0).toNat * (x.w 1).toNat / 2 ^ 32)) .n32

/-- IDIV_I32: the signed quotient, truncated toward zero (R150). -/
def laneIdivI32 (x : LaneIn) : LaneOut :=
  if x.w 1 = 0 then oneExc 0xFFFFFFFF .i32 excIdz
  else one (wordOf (Int.tdiv (sx32 (x.w 0)) (sx32 (x.w 1)))) .i32

/-- IDIV_N32: the unsigned quotient (R150). -/
def laneIdivN32 (x : LaneIn) : LaneOut :=
  if x.w 1 = 0 then oneExc 0xFFFFFFFF .n32 excIdz
  else one (BitVec.ofNat 32 ((x.w 0).toNat / (x.w 1).toNat)) .n32

/-- IREM_I32: the signed remainder A − quotient × B (R150). -/
def laneIremI32 (x : LaneIn) : LaneOut :=
  if x.w 1 = 0 then oneExc (x.w 0) .i32 excIdz
  else one (wordOf (Int.tmod (sx32 (x.w 0)) (sx32 (x.w 1)))) .i32

/-- IREM_N32: the unsigned remainder (R150). -/
def laneIremN32 (x : LaneIn) : LaneOut :=
  if x.w 1 = 0 then oneExc (x.w 0) .n32 excIdz
  else one (BitVec.ofNat 32 ((x.w 0).toNat % (x.w 1).toNat)) .n32

/-- IMIN_I32: the lesser, signed (R149). -/
def laneIminI32 (x : LaneIn) : LaneOut :=
  one (if sx32 (x.w 0) ≤ sx32 (x.w 1) then x.w 0 else x.w 1) .i32

/-- IMIN_N32: the lesser, unsigned (R149). -/
def laneIminN32 (x : LaneIn) : LaneOut :=
  one (if (x.w 0).toNat ≤ (x.w 1).toNat then x.w 0 else x.w 1) .n32

/-- IMAX_I32: the greater, signed (R149). -/
def laneImaxI32 (x : LaneIn) : LaneOut :=
  one (if sx32 (x.w 0) ≤ sx32 (x.w 1) then x.w 1 else x.w 0) .i32

/-- IMAX_N32: the greater, unsigned (R149). -/
def laneImaxN32 (x : LaneIn) : LaneOut :=
  one (if (x.w 0).toNat ≤ (x.w 1).toNat then x.w 1 else x.w 0) .n32

/-- IABS: |A| modulo 2^32 (R149). -/
def laneIabs (x : LaneIn) : LaneOut :=
  one (wordOf (sx32 (x.w 0)).natAbs) .i32

/-- INEG: 0 − A (R149). -/
def laneIneg (x : LaneIn) : LaneOut :=
  one (0 - x.w 0) (sumTag x)

/-- IMAD: A × B + C (R149). -/
def laneImad (x : LaneIn) : LaneOut :=
  one (x.w 0 * x.w 1 + x.w 2) (sumTag x)

/-- AND: A AND B (R151). -/
def laneAndOp (x : LaneIn) : LaneOut :=
  one (x.w 0 &&& x.w 1) .b32

/-- OR: A OR B (R151). -/
def laneOrOp (x : LaneIn) : LaneOut :=
  one (x.w 0 ||| x.w 1) .b32

/-- XOR: A XOR B (R151). -/
def laneXorOp (x : LaneIn) : LaneOut :=
  one (x.w 0 ^^^ x.w 1) .b32

/-- ANDN: A AND NOT B (R151). -/
def laneAndn (x : LaneIn) : LaneOut :=
  one (x.w 0 &&& ~~~(x.w 1)) .b32

/-- NOT: NOT A (R151). -/
def laneNotOp (x : LaneIn) : LaneOut :=
  one (~~~(x.w 0)) .b32

/-- SHL: A << B, 0 from 32 on (R151). -/
def laneShl (x : LaneIn) : LaneOut :=
  one (shl32 (x.w 0) (x.w 1).toNat) .b32

/-- SHR: A >> B unsigned, 0 from 32 on (R151). -/
def laneShr (x : LaneIn) : LaneOut :=
  one (shr32 (x.w 0) (x.w 1).toNat) .b32

/-- SAR: A >> B signed, all sign from 32 on (R151). -/
def laneSar (x : LaneIn) : LaneOut :=
  one (sar32 (x.w 0) (x.w 1).toNat) .i32

/-- ROTL: A rotated left by B mod 32 (R151). -/
def laneRotl (x : LaneIn) : LaneOut :=
  one ((x.w 0).rotateLeft ((x.w 1).toNat % 32)) .b32

/-- POPC: the number of 1 bits (R151). -/
def lanePopc (x : LaneIn) : LaneOut :=
  one (BitVec.ofNat 32 (popCount 32 (x.w 0).toNat)) .n32

/-- CLZ: leading zero bits (R151). -/
def laneClz (x : LaneIn) : LaneOut :=
  one (BitVec.ofNat 32 (if x.w 0 = 0 then 32 else 31 - Nat.log2 (x.w 0).toNat)) .n32

/-- BREV: the bits reversed (R151). -/
def laneBrev (x : LaneIn) : LaneOut :=
  one ((List.range 32).foldl (fun w i => putBit w i (bitOf (x.w 0) (31 - i))) 0) .b32

/-- BFX_I32: the described field, sign-extended (R152). -/
def laneBfxI32 (x : LaneIn) : LaneOut :=
  one (bfx true (x.w 0) (x.w 1)) .i32

/-- BFX_N32: the described field, zero-extended (R152). -/
def laneBfxN32 (x : LaneIn) : LaneOut :=
  one (bfx false (x.w 0) (x.w 1)) .n32

/-- BFI: B put into the described field of A (R152). -/
def laneBfi (x : LaneIn) : LaneOut :=
  one (bfi (x.w 0) (x.w 1) (x.w 2)) .b32

/-- SEL: A where the predicate is 1, else B, with its tag (R153). -/
def laneSel (o : Form.Sel) (x : LaneIn) : LaneOut :=
  let s := if x.pr o.ps then 0 else 1
  one (x.w s) (x.t s)

/-- IADDI: D + sx(IMM14) (R154). -/
def laneIaddi (o : Form.DI) (x : LaneIn) : LaneOut :=
  one (x.w 0 + wordOf (sx o.imm 14)) (sumTag x)

/-- ANDI: D op zx(IMM14) (R154). -/
def laneAndi (o : Form.DI) (x : LaneIn) : LaneOut :=
  one (x.w 0 &&& BitVec.ofNat 32 o.imm) .b32

/-- ORI: D op zx(IMM14) (R154). -/
def laneOri (o : Form.DI) (x : LaneIn) : LaneOut :=
  one (x.w 0 ||| BitVec.ofNat 32 o.imm) .b32

/-- XORI: D op zx(IMM14) (R154). -/
def laneXori (o : Form.DI) (x : LaneIn) : LaneOut :=
  one (x.w 0 ^^^ BitVec.ofNat 32 o.imm) .b32

/-- SHLI: A << n (R154). -/
def laneShli (o : Form.DAI) (x : LaneIn) : LaneOut :=
  one (shl32 (x.w 0) o.imm) .b32

/-- SHRI: A >> n unsigned (R154). -/
def laneShri (o : Form.DAI) (x : LaneIn) : LaneOut :=
  one (shr32 (x.w 0) o.imm) .b32

/-- SARI: A >> n signed (R154). -/
def laneSari (o : Form.DAI) (x : LaneIn) : LaneOut :=
  one (sar32 (x.w 0) o.imm) .i32

/-- MOVI: sx(IMM14) (R154). -/
def laneMovi (o : Form.DI) (_ : LaneIn) : LaneOut :=
  one (wordOf (sx o.imm 14)) .i32

/-- MOVL: IMM32 tagged TY (R154). -/
def laneMovl (o : Form.Movl) (_ : LaneIn) : LaneOut :=
  one (BitVec.ofNat 32 o.imm) ((tagOf o.ty).getD .b32)

/-- MOV: A with its tag (R154). -/
def laneMov (x : LaneIn) : LaneOut :=
  one (x.w 0) (x.t 0)

/-- IADDL: A + IMM32 (R154). -/
def laneIaddl (o : Form.Iaddl) (x : LaneIn) : LaneOut :=
  one (x.w 0 + BitVec.ofNat 32 o.imm) (sumTag x)

/-- ICMP_I32: the condition on A and B, signed (R156). -/
def laneIcmpI32 (o : Form.C) (x : LaneIn) : LaneOut :=
  predOut (icmp o.cc (sx32 (x.w 0)) (sx32 (x.w 1)) (x.w 0).toNat (x.w 1).toNat)

/-- ICMP_N32: the condition on A and B, unsigned (R156). -/
def laneIcmpN32 (o : Form.C) (x : LaneIn) : LaneOut :=
  predOut (icmp o.cc (x.w 0).toNat (x.w 1).toNat (x.w 0).toNat (x.w 1).toNat)

/-- ICMPI_I32: the condition on A and sx(IMM7) (R156). -/
def laneIcmpiI32 (o : Form.CI) (x : LaneIn) : LaneOut :=
  predOut (icmp o.cc (sx32 (x.w 0)) (sx o.imm 7) (x.w 0).toNat (wordOf (sx o.imm 7)).toNat)

/-- ICMPI_N32: the condition on A and zx(IMM7) (R156). -/
def laneIcmpiN32 (o : Form.CI) (x : LaneIn) : LaneOut :=
  predOut (icmp o.cc (x.w 0).toNat o.imm (x.w 0).toNat o.imm)

/-- PLOG: bit 2 Pa + Pb of the truth table (R157). -/
def lanePlog (o : Form.Plog) (x : LaneIn) : LaneOut :=
  predOut (o.tt.testBit ((if x.pr o.pa then 2 else 0) + (if x.pr o.pb then 1 else 0)))

/-- IADD_B64: pair A + pair B (R158). -/
def laneIaddB64 (x : LaneIn) : LaneOut :=
  two (x.q 0 + x.q 2) .b32

/-- ISUB_B64: pair A − pair B (R158). -/
def laneIsubB64 (x : LaneIn) : LaneOut :=
  two (x.q 0 - x.q 2) .b32

/-- IMULW_I32: the signed 64-bit product (R158). -/
def laneImulwI32 (x : LaneIn) : LaneOut :=
  two (BitVec.ofNat 64 (narrow 64 (sx32 (x.w 0) * sx32 (x.w 1)))) .i32

/-- IMULW_N32: the unsigned 64-bit product (R158). -/
def laneImulwN32 (x : LaneIn) : LaneOut :=
  two (BitVec.ofNat 64 ((x.w 0).toNat * (x.w 1).toNat)) .n32

/-- SHL_B64: pair A << B (R158). -/
def laneShlB64 (x : LaneIn) : LaneOut :=
  two (if (x.w 2).toNat < 64 then x.q 0 <<< (x.w 2).toNat else 0) .b32

/-- SHR_B64: pair A >> B unsigned (R158). -/
def laneShrB64 (x : LaneIn) : LaneOut :=
  two (if (x.w 2).toNat < 64 then x.q 0 >>> (x.w 2).toNat else 0) .b32

/-- SAR_B64: pair A >> B signed (R158). -/
def laneSarB64 (x : LaneIn) : LaneOut :=
  two ((x.q 0).sshiftRight (min (x.w 2).toNat 63)) .i32

/-- ICMP_I64: the condition on pairs, signed (R158). -/
def laneIcmpI64 (o : Form.C) (x : LaneIn) : LaneOut :=
  predOut (icmp o.cc (sx (x.q 0).toNat 64) (sx (x.q 2).toNat 64) (x.q 0).toNat (x.q 2).toNat)

/-- ICMP_N64: the condition on pairs, unsigned (R158). -/
def laneIcmpN64 (o : Form.C) (x : LaneIn) : LaneOut :=
  predOut (icmp o.cc (x.q 0).toNat (x.q 2).toNat (x.q 0).toNat (x.q 2).toNat)

/-- MOV_B64: pair A with both tags (R154). -/
def laneMovB64 (x : LaneIn) : LaneOut :=
  { regs := [⟨x.w 0, x.t 0⟩, ⟨x.w 1, x.t 1⟩] }

/-- LEA: pair A + (sx(B) << sh) (R155). -/
def laneLea (o : Form.Lea) (x : LaneIn) : LaneOut :=
  two (x.q 0 + (BitVec.ofNat 64 (narrow 64 (sx32 (x.w 2) * 2 ^ o.sh)))) .b32

/-- FADD_F32: a + b (R161). -/
def laneFaddF32 (x : LaneIn) : LaneOut :=
  oneF (faddF .f32 (shortEnv x) (x.n 0) (x.n 1)) .f32

/-- FSUB_F32: a − b (R161). -/
def laneFsubF32 (x : LaneIn) : LaneOut :=
  oneF (faddF .f32 (shortEnv x) (x.n 0) (negF .f32 true (x.n 1))) .f32

/-- FMUL_F32: a × b (R161). -/
def laneFmulF32 (x : LaneIn) : LaneOut :=
  oneF (fmulF .f32 (shortEnv x) (x.n 0) (x.n 1)) .f32

/-- FFMA_F32: a × b + d (R161). -/
def laneFfmaF32 (x : LaneIn) : LaneOut :=
  oneF (ffmaF .f32 (shortEnv x) (x.n 0) (x.n 1) (x.n 2)) .f32

/-- FMIN_F32: the lesser operand (R163). -/
def laneFminF32 (x : LaneIn) : LaneOut :=
  oneF (fminmaxF .f32 x.level false (x.n 0) (x.n 1)) .f32

/-- FMAX_F32: the greater operand (R163). -/
def laneFmaxF32 (x : LaneIn) : LaneOut :=
  oneF (fminmaxF .f32 x.level true (x.n 0) (x.n 1)) .f32

/-- FABS_F32: bit 31 cleared (R164). -/
def laneFabsF32 (x : LaneIn) : LaneOut :=
  one (x.w 0 &&& 0x7FFFFFFF) .f32

/-- FNEG_F32: bit 31 flipped (R164). -/
def laneFnegF32 (x : LaneIn) : LaneOut :=
  one (x.w 0 ^^^ 0x80000000) .f32

/-- FCMP_F32: the condition on a and b (R165). -/
def laneFcmpF32 (o : Form.C) (x : LaneIn) : LaneOut :=
  predExc (fcmpF .f32 x.level o.cc (x.n 0) (x.n 1))

/-- FRCP_F32: 1 ÷ a (R161). -/
def laneFrcpF32 (x : LaneIn) : LaneOut :=
  oneF (frcpF .f32 (shortEnv x) (x.n 0)) .f32

/-- FRSQ_F32: 1 ÷ √a (R161). -/
def laneFrsqF32 (x : LaneIn) : LaneOut :=
  oneF (frsqF .f32 (shortEnv x) (x.n 0)) .f32

/-- FSQRT_F32: √a (R161). -/
def laneFsqrtF32 (x : LaneIn) : LaneOut :=
  oneF (fsqrtF .f32 (shortEnv x) (x.n 0)) .f32

/-- FEXP2_F32: 2^a (R166). -/
def laneFexp2F32 (x : LaneIn) : LaneOut :=
  oneF (fexp2 x.level (x.n 0)) .f32

/-- FLOG2_F32: log₂ a (R166). -/
def laneFlog2F32 (x : LaneIn) : LaneOut :=
  oneF (flog2 x.level (x.n 0)) .f32

/-- FSIN_F32: sin a (R166). -/
def laneFsinF32 (x : LaneIn) : LaneOut :=
  oneF (fsin x.level (x.n 0)) .f32

/-- FCOS_F32: cos a (R166). -/
def laneFcosF32 (x : LaneIn) : LaneOut :=
  oneF (fcos x.level (x.n 0)) .f32

/-- FADD_F32_LONG: a + b, rounded by RND, with SAT and negation (R161). -/
def laneFaddF32Long (o : Form.Fp2) (x : LaneIn) : LaneOut :=
  oneF (faddF .f32 (envOf o.rnd o.sat x.level) (negF .f32 (o.na == 1) (x.n 0)) (negF .f32 (o.nb == 1) (x.n 1))) .f32

/-- FSUB_F32_LONG: a − b, long form (R161). -/
def laneFsubF32Long (o : Form.Fp2) (x : LaneIn) : LaneOut :=
  oneF (faddF .f32 (envOf o.rnd o.sat x.level) (negF .f32 (o.na == 1) (x.n 0)) (negF .f32 true (negF .f32 (o.nb == 1) (x.n 1)))) .f32

/-- FMUL_F32_LONG: a × b, long form (R161). -/
def laneFmulF32Long (o : Form.Fp2) (x : LaneIn) : LaneOut :=
  oneF (fmulF .f32 (envOf o.rnd o.sat x.level) (negF .f32 (o.na == 1) (x.n 0)) (negF .f32 (o.nb == 1) (x.n 1))) .f32

/-- FFMA_F32_LONG: a × b + c, long form (R161). -/
def laneFfmaF32Long (o : Form.Fp3) (x : LaneIn) : LaneOut :=
  oneF (ffmaF .f32 (envOf o.rnd o.sat x.level) (negF .f32 (o.na == 1) (x.n 0)) (negF .f32 (o.nb == 1) (x.n 1)) (negF .f32 (o.nc == 1) (x.n 2))) .f32

/-- FDIV_F32: a ÷ b (R161). -/
def laneFdivF32 (o : Form.Fp2) (x : LaneIn) : LaneOut :=
  oneF (fdivF .f32 (envOf o.rnd o.sat x.level) (negF .f32 (o.na == 1) (x.n 0)) (negF .f32 (o.nb == 1) (x.n 1))) .f32

/-- FRCP_F32_LONG: 1 ÷ a, long form (R161). -/
def laneFrcpF32Long (o : Form.Fp1) (x : LaneIn) : LaneOut :=
  oneF (frcpF .f32 (envOf o.rnd o.sat x.level) (negF .f32 (o.na == 1) (x.n 0))) .f32

/-- FRSQ_F32_LONG: 1 ÷ √a, long form (R161). -/
def laneFrsqF32Long (o : Form.Fp1) (x : LaneIn) : LaneOut :=
  oneF (frsqF .f32 (envOf o.rnd o.sat x.level) (negF .f32 (o.na == 1) (x.n 0))) .f32

/-- FSQRT_F32_LONG: √a, long form (R161). -/
def laneFsqrtF32Long (o : Form.Fp1) (x : LaneIn) : LaneOut :=
  oneF (fsqrtF .f32 (envOf o.rnd o.sat x.level) (negF .f32 (o.na == 1) (x.n 0))) .f32

/-- FADD_F64: a + b in f64 (R167). -/
def laneFaddF64 (o : Form.Fp2) (x : LaneIn) : LaneOut :=
  twoF (faddF .f64 (envOf o.rnd o.sat x.level) (negF .f64 (o.na == 1) (x.q64 0)) (negF .f64 (o.nb == 1) (x.q64 2)))

/-- FMUL_F64: a × b in f64 (R167). -/
def laneFmulF64 (o : Form.Fp2) (x : LaneIn) : LaneOut :=
  twoF (fmulF .f64 (envOf o.rnd o.sat x.level) (negF .f64 (o.na == 1) (x.q64 0)) (negF .f64 (o.nb == 1) (x.q64 2)))

/-- FFMA_F64: a × b + c in f64 (R167). -/
def laneFfmaF64 (o : Form.Fp3) (x : LaneIn) : LaneOut :=
  twoF (ffmaF .f64 (envOf o.rnd o.sat x.level) (negF .f64 (o.na == 1) (x.q64 0)) (negF .f64 (o.nb == 1) (x.q64 2)) (negF .f64 (o.nc == 1) (x.q64 4)))

/-- FDIV_F64: a ÷ b in f64 (R167). -/
def laneFdivF64 (o : Form.Fp2) (x : LaneIn) : LaneOut :=
  twoF (fdivF .f64 (envOf o.rnd o.sat x.level) (negF .f64 (o.na == 1) (x.q64 0)) (negF .f64 (o.nb == 1) (x.q64 2)))

/-- FSQRT_F64: √a in f64 (R167). -/
def laneFsqrtF64 (o : Form.Fp1) (x : LaneIn) : LaneOut :=
  twoF (fsqrtF .f64 (envOf o.rnd o.sat x.level) (negF .f64 (o.na == 1) (x.q64 0)))

/-- FMIN_F64: the lesser operand in f64 (R163, R167). -/
def laneFminF64 (x : LaneIn) : LaneOut :=
  twoF (fminmaxF .f64 x.level false (x.q64 0) (x.q64 2))

/-- FMAX_F64: the greater operand in f64 (R163, R167). -/
def laneFmaxF64 (x : LaneIn) : LaneOut :=
  twoF (fminmaxF .f64 x.level true (x.q64 0) (x.q64 2))

/-- FCMP_F64: the condition on a and b in f64 (R165). -/
def laneFcmpF64 (o : Form.C) (x : LaneIn) : LaneOut :=
  predExc (fcmpF .f64 x.level o.cc (x.q64 0) (x.q64 2))

/-- FADD_F16X2: a + b in each lane (R168). -/
def laneFaddF16x2 (o : Form.Fp2) (x : LaneIn) : LaneOut :=
  wordExc (lanes2 fun i => faddF .f16 (envOf o.rnd o.sat x.level) (negF .f16 (o.na == 1) (lane16 (x.w 0) i)) (negF .f16 (o.nb == 1) (lane16 (x.w 1) i))) .f16x2

/-- FMUL_F16X2: a × b in each lane (R168). -/
def laneFmulF16x2 (o : Form.Fp2) (x : LaneIn) : LaneOut :=
  wordExc (lanes2 fun i => fmulF .f16 (envOf o.rnd o.sat x.level) (negF .f16 (o.na == 1) (lane16 (x.w 0) i)) (negF .f16 (o.nb == 1) (lane16 (x.w 1) i))) .f16x2

/-- FFMA_F16X2: a × b + c in each lane (R168). -/
def laneFfmaF16x2 (o : Form.Fp3) (x : LaneIn) : LaneOut :=
  wordExc (lanes2 fun i => ffmaF .f16 (envOf o.rnd o.sat x.level) (negF .f16 (o.na == 1) (lane16 (x.w 0) i)) (negF .f16 (o.nb == 1) (lane16 (x.w 1) i)) (negF .f16 (o.nc == 1) (lane16 (x.w 2) i))) .f16x2

/-- FDOT_F16X2: a₀ × b₀ + a₁ × b₁ + c (R169). -/
def laneFdotF16x2 (o : Form.Fp3) (x : LaneIn) : LaneOut :=
  let a := fun i => negF .f16 (o.na == 1) (lane16 (x.w 0) i)
  let b := fun i => negF .f16 (o.nb == 1) (lane16 (x.w 1) i)
  oneF (fdotF .f16 (envOf o.rnd o.sat x.level) (a 0) (a 1) (b 0) (b 1) (negF .f32 (o.nc == 1) (x.n 2))) .f32

/-- FADD_BF16X2: a + b in each lane (R168). -/
def laneFaddBf16x2 (o : Form.Fp2) (x : LaneIn) : LaneOut :=
  wordExc (lanes2 fun i => faddF .bf16 (envOf o.rnd o.sat x.level) (negF .bf16 (o.na == 1) (lane16 (x.w 0) i)) (negF .bf16 (o.nb == 1) (lane16 (x.w 1) i))) .bf16x2

/-- FMUL_BF16X2: a × b in each lane (R168). -/
def laneFmulBf16x2 (o : Form.Fp2) (x : LaneIn) : LaneOut :=
  wordExc (lanes2 fun i => fmulF .bf16 (envOf o.rnd o.sat x.level) (negF .bf16 (o.na == 1) (lane16 (x.w 0) i)) (negF .bf16 (o.nb == 1) (lane16 (x.w 1) i))) .bf16x2

/-- FFMA_BF16X2: a × b + c in each lane (R168). -/
def laneFfmaBf16x2 (o : Form.Fp3) (x : LaneIn) : LaneOut :=
  wordExc (lanes2 fun i => ffmaF .bf16 (envOf o.rnd o.sat x.level) (negF .bf16 (o.na == 1) (lane16 (x.w 0) i)) (negF .bf16 (o.nb == 1) (lane16 (x.w 1) i)) (negF .bf16 (o.nc == 1) (lane16 (x.w 2) i))) .bf16x2

/-- FDOT_BF16X2: a₀ × b₀ + a₁ × b₁ + c (R169). -/
def laneFdotBf16x2 (o : Form.Fp3) (x : LaneIn) : LaneOut :=
  let a := fun i => negF .bf16 (o.na == 1) (lane16 (x.w 0) i)
  let b := fun i => negF .bf16 (o.nb == 1) (lane16 (x.w 1) i)
  oneF (fdotF .bf16 (envOf o.rnd o.sat x.level) (a 0) (a 1) (b 0) (b 1) (negF .f32 (o.nc == 1) (x.n 2))) .f32

/-- CVT: the conversion of A from SF to DF (R171, R172). -/
def laneCvt (o : Form.Cvt) (x : LaneIn) : LaneOut :=
  cvtLane o x

/-- PACK_TF8: A scaled, converted and shifted into the top lane of D (R174). -/
def lanePackTf8 (x : LaneIn) : LaneOut :=
  let r := packTapered 7 x.level (x.n 0) (x.n 1 % 256)
  oneExc (BitVec.ofNat 32 ((x.n 2) / 2 ^ 8 + r.1 * 2 ^ 24)) .tf8x4 r.2

/-- PACK_TF6: A scaled, converted and shifted into the top lane of D (R174). -/
def lanePackTf6 (x : LaneIn) : LaneOut :=
  let r := packTapered 5 x.level (x.n 0) (x.n 1 % 256)
  oneExc (BitVec.ofNat 32 ((x.n 2 % 2 ^ 30) / 2 ^ 6 + r.1 * 2 ^ 24)) .tf6x5 r.2

/-- PACK_F16: A and B converted into two lanes (R173). -/
def lanePackF16 (x : LaneIn) : LaneOut :=
  wordExc (packPair .f16 x) .f16x2

/-- PACK_BF16: A and B converted into two lanes (R173). -/
def lanePackBf16 (x : LaneIn) : LaneOut :=
  wordExc (packPair .bf16 x) .bf16x2

/-- UNPK_TF8: lane n converted into f32 (R175). -/
def laneUnpkTf8 (o : Form.DAI) (x : LaneIn) : LaneOut :=
  oneF (cvtTF 7 .f32 (shortEnv x) (bits (x.n 0) (8 * o.imm) 8)) .f32

/-- UNPK_TF6: lane n converted into f32 (R175). -/
def laneUnpkTf6 (o : Form.DAI) (x : LaneIn) : LaneOut :=
  oneF (cvtTF 5 .f32 (shortEnv x) (bits (x.n 0) (6 * o.imm) 6)) .f32

/-- UNPK_F16: lane n converted into f32 (R175). -/
def laneUnpkF16 (o : Form.DAI) (x : LaneIn) : LaneOut :=
  oneF (cvtFF .f16 .f32 (shortEnv x) (lane16 (x.w 0) o.imm)) .f32

/-- UNPK_BF16: lane n converted into f32 (R175). -/
def laneUnpkBf16 (o : Form.DAI) (x : LaneIn) : LaneOut :=
  oneF (cvtFF .bf16 .f32 (shortEnv x) (lane16 (x.w 0) o.imm)) .f32

/-- SCALE: A × 2^(E − 127) (R176). -/
def laneScale (x : LaneIn) : LaneOut :=
  oneF (scaleF32 x.level (x.n 0) (x.n 1 % 256)) .f32

/-- RETAG: A with another tag (R178). -/
def laneRetag (o : Form.Retag) (x : LaneIn) : LaneOut :=
  one (x.w 0) ((tagOf o.ty).getD .b32)
/-- The lane function of every arithmetic instruction, for the units that recompute one: a REWRITE slot's
internal executor (R359) and a resumed execution entry (R336). -/
def laneOf : Instr → Option (LaneIn → LaneOut)
  | .iadd _ => some laneIadd
  | .isub _ => some laneIsub
  | .imul _ => some laneImul
  | .imulhI32 _ => some laneImulhI32
  | .imulhN32 _ => some laneImulhN32
  | .idivI32 _ => some laneIdivI32
  | .idivN32 _ => some laneIdivN32
  | .iremI32 _ => some laneIremI32
  | .iremN32 _ => some laneIremN32
  | .iminI32 _ => some laneIminI32
  | .iminN32 _ => some laneIminN32
  | .imaxI32 _ => some laneImaxI32
  | .imaxN32 _ => some laneImaxN32
  | .iabs _ => some laneIabs
  | .ineg _ => some laneIneg
  | .imad _ => some laneImad
  | .andOp _ => some laneAndOp
  | .orOp _ => some laneOrOp
  | .xorOp _ => some laneXorOp
  | .andn _ => some laneAndn
  | .notOp _ => some laneNotOp
  | .shl _ => some laneShl
  | .shr _ => some laneShr
  | .sar _ => some laneSar
  | .rotl _ => some laneRotl
  | .popc _ => some lanePopc
  | .clz _ => some laneClz
  | .brev _ => some laneBrev
  | .bfxI32 _ => some laneBfxI32
  | .bfxN32 _ => some laneBfxN32
  | .bfi _ => some laneBfi
  | .sel o => some (laneSel o)
  | .iaddi o => some (laneIaddi o)
  | .andi o => some (laneAndi o)
  | .ori o => some (laneOri o)
  | .xori o => some (laneXori o)
  | .shli o => some (laneShli o)
  | .shri o => some (laneShri o)
  | .sari o => some (laneSari o)
  | .movi o => some (laneMovi o)
  | .movl o => some (laneMovl o)
  | .mov _ => some laneMov
  | .iaddl o => some (laneIaddl o)
  | .icmpI32 o => some (laneIcmpI32 o)
  | .icmpN32 o => some (laneIcmpN32 o)
  | .icmpiI32 o => some (laneIcmpiI32 o)
  | .icmpiN32 o => some (laneIcmpiN32 o)
  | .plog o => some (lanePlog o)
  | .iaddB64 _ => some laneIaddB64
  | .isubB64 _ => some laneIsubB64
  | .imulwI32 _ => some laneImulwI32
  | .imulwN32 _ => some laneImulwN32
  | .shlB64 _ => some laneShlB64
  | .shrB64 _ => some laneShrB64
  | .sarB64 _ => some laneSarB64
  | .icmpI64 o => some (laneIcmpI64 o)
  | .icmpN64 o => some (laneIcmpN64 o)
  | .movB64 _ => some laneMovB64
  | .lea o => some (laneLea o)
  | .faddF32 _ => some laneFaddF32
  | .fsubF32 _ => some laneFsubF32
  | .fmulF32 _ => some laneFmulF32
  | .ffmaF32 _ => some laneFfmaF32
  | .fminF32 _ => some laneFminF32
  | .fmaxF32 _ => some laneFmaxF32
  | .fabsF32 _ => some laneFabsF32
  | .fnegF32 _ => some laneFnegF32
  | .fcmpF32 o => some (laneFcmpF32 o)
  | .frcpF32 _ => some laneFrcpF32
  | .frsqF32 _ => some laneFrsqF32
  | .fsqrtF32 _ => some laneFsqrtF32
  | .fexp2F32 _ => some laneFexp2F32
  | .flog2F32 _ => some laneFlog2F32
  | .fsinF32 _ => some laneFsinF32
  | .fcosF32 _ => some laneFcosF32
  | .faddF32Long o => some (laneFaddF32Long o)
  | .fsubF32Long o => some (laneFsubF32Long o)
  | .fmulF32Long o => some (laneFmulF32Long o)
  | .ffmaF32Long o => some (laneFfmaF32Long o)
  | .fdivF32 o => some (laneFdivF32 o)
  | .frcpF32Long o => some (laneFrcpF32Long o)
  | .frsqF32Long o => some (laneFrsqF32Long o)
  | .fsqrtF32Long o => some (laneFsqrtF32Long o)
  | .faddF64 o => some (laneFaddF64 o)
  | .fmulF64 o => some (laneFmulF64 o)
  | .ffmaF64 o => some (laneFfmaF64 o)
  | .fdivF64 o => some (laneFdivF64 o)
  | .fsqrtF64 o => some (laneFsqrtF64 o)
  | .fminF64 _ => some laneFminF64
  | .fmaxF64 _ => some laneFmaxF64
  | .fcmpF64 o => some (laneFcmpF64 o)
  | .faddF16x2 o => some (laneFaddF16x2 o)
  | .fmulF16x2 o => some (laneFmulF16x2 o)
  | .ffmaF16x2 o => some (laneFfmaF16x2 o)
  | .fdotF16x2 o => some (laneFdotF16x2 o)
  | .faddBf16x2 o => some (laneFaddBf16x2 o)
  | .fmulBf16x2 o => some (laneFmulBf16x2 o)
  | .ffmaBf16x2 o => some (laneFfmaBf16x2 o)
  | .fdotBf16x2 o => some (laneFdotBf16x2 o)
  | .cvt o => some (laneCvt o)
  | .packTf8 _ => some lanePackTf8
  | .packTf6 _ => some lanePackTf6
  | .packF16 _ => some lanePackF16
  | .packBf16 _ => some lanePackBf16
  | .unpkTf8 o => some (laneUnpkTf8 o)
  | .unpkTf6 o => some (laneUnpkTf6 o)
  | .unpkF16 o => some (laneUnpkF16 o)
  | .unpkBf16 o => some (laneUnpkBf16 o)
  | .scale _ => some laneScale
  | .retag o => some (laneRetag o)
  | _ => none

end Sys2Proof.Machine
end

