-- ==== Sys2Proof/Machine/Ops.lean ====
section
/-! DEFINITION. The named operations that the meanings share: what the gate of an issuing bundle asks (R61, R74, R76, R104,
R105), scoreboard entries (R182, R335), taking a fault (R13, R334) and the return from one (R336, R337). -/
namespace Sys2Proof.Machine

/-! ## Facet images (R354, R367) -/

/-- A little-endian field of an image. -/
def imgField (img : List Byte) (off n : Nat) : Nat := leNat ((img.drop off).take n)

/-- Word `w` of slot-table entry `i` (R367). -/
def slotWord (img : List Byte) (i w : Nat) : Nat := imgField img (0x40 + 64 * i + 4 * w) 4

/-- The entry of an EMULATE slot's routine, as an offset in the image: its PARAM (R367). -/
def slotParam (img : List Byte) (i : Nat) : Nat := slotWord img i 3

/-- The level in the header of an EMULATE slot's routine (R90, R362). -/
def routineLevel (img : List Byte) (i : Nat) : Nat := imgField img (slotParam img i - 64 + 20) 1

/-- The trap enables in the header of an EMULATE slot's routine (R90, R361). -/
def routineTraps (img : List Byte) (i : Nat) : Nat := imgField img (slotParam img i - 64 + 18) 2

/-- The compatibility level that an instruction of the fibre follows (R118, R362). -/
def State.levelOf (s : State) (G : Group) (F : Fibre) : Nat :=
  match F.facet with
  | some c => routineLevel s.facet.active c.slot
  | none => G.hdr.level

/-! ## Scoreboard entries (R25, R182, R335) -/

/-- The first entry of a class. -/
def entryBase : OpClass → Nat | .load => 0 | .store => 16 | .copy => 32 | .tile => 40

/-- The entries of a class. -/
def entryCount : OpClass → Nat | .load => 16 | .store => 16 | .copy => 8 | .tile => 8

/-- The lowest free entry of a class. -/
def Wave.freeEntry (W : Wave) (k : OpClass) : Option Nat :=
  freeFrom (W.sb.map (·.1)) (entryCount k) (entryBase k)

/-- The outstanding entries of a class (R143). -/
def Wave.outstanding (W : Wave) (k : OpClass) : Nat :=
  (W.sb.filter fun e => decide (entryBase k ≤ e.1) && decide (e.1 < entryBase k + entryCount k)).length

/-- An entry taken. -/
def Wave.addEntry (W : Wave) (slot : Nat) (i : Instr) (pc : Addr) (accs : List Acc) : Wave :=
  { W with sb := tabSet W.sb slot { instr := i, pc := pc, age := W.nextAge, accs := accs, faulted := false, settle := 0 },
           nextAge := W.nextAge + 1 }

/-- One fibre's access of an entry changed. -/
def Entry.modAcc (e : Entry) (f : Nat) (h : Acc → Acc) : Entry :=
  { e with accs := e.accs.map fun a => if a.fib = f then h a else a }

/-- The access of one fibre in an entry. -/
def Wave.acc (W : Wave) (slot f : Nat) : Option Acc := (tabGet W.sb slot).bind fun e => e.accs.find? fun a => a.fib == f

/-- An access changed, and the entry freed once all of its accesses are done (R182, R336). -/
def Wave.modAcc (W : Wave) (slot f : Nat) (h : Acc → Acc) : Wave :=
  match tabGet W.sb slot with
  | none => W
  | some e =>
    let e' := e.modAcc f h
    if e'.accs.all fun a => a.st == .done then { W with sb := tabErase W.sb slot } else { W with sb := tabSet W.sb slot e' }

/-- An access completes with values for its destinations and its predicate; nothing is written for a fibre that
has exited (R39). -/
def Wave.complete (W : Wave) (slot f : Nat) (vals : List Tagged) (p : Option Bool) : Wave :=
  match W.acc slot f with
  | none => W
  | some a =>
    let W1 := if a.drop then W else W.putAll f a.dst vals
    let W2 := match a.pd, p with
      | some pd, some b => if a.drop then W1 else W1.modFib f fun F => F.setPred pd b
      | _, _ => W1
    W2.modAcc slot f fun a => { a with st := .done }

/-- An access that its entry still waits for. -/
def Acc.waits (a : Acc) : Bool := a.st != .done

/-- A register carries a scoreboard hazard for a fibre (R182, R245, R249, R312). -/
def Wave.regHazard (W : Wave) (f : Nat) (d : DReg) : Bool :=
  W.sb.any fun e => e.2.accs.any fun a => a.waits && !a.drop && (a.fib == f || d.isK) && a.dst.contains d

/-- A predicate carries a scoreboard hazard for a fibre (R188, R312). -/
def Wave.predHazard (W : Wave) (f p : Nat) : Bool :=
  W.sb.any fun e => e.2.accs.any fun a => a.waits && !a.drop && a.fib == f && a.pd == some p

/-! ## The gate of an issuing bundle -/

/-- The opcodes that a facet routine may use (R362). -/
def facetLegal (op : Nat) : Bool :=
  [0x01, 0x02, 0x04, 0x06, 0x0E, 0xA0, 0xA2, 0xA4, 0xA5, 0xA8, 0xCE, 0xCF, 0xD0, 0xE0].contains op ||
  (0x20 ≤ op && op ≤ 0x5A) || (0x60 ≤ op && op ≤ 0x9B)

/-- Whether an opcode is allowed where the bundle issues it (R74, R362). -/
def opAllowed (op : Nat) (G : Group) (inFacet : Bool) : Bool :=
  match privilegeOf op with
  | .facetContext => inFacet
  | .faultHandler => !inFacet && (G.firmware || G.hdr.roles.testBit 1)
  | .firmware => !inFacet && G.firmware
  | .none => !inFacet || facetLegal op

/-- The guard-true fibres of a bundle (R61). -/
def Wave.guardTrue (W : Wave) (c : Issue) (g : Nat) : List Nat := c.fibres.filter fun f => (W.fib f).pred g

/-- Whether the bundle executes in facet context: its fibres are all inside or all outside (R360). -/
def Wave.inFacet (W : Wave) (c : Issue) : Bool := c.fibres.any fun f => (W.fib f).facet.isSome

/-- The registers of an instruction's operands. -/
def Opnds.regs (o : Opnds) : List Reg :=
  o.srcs.flatMap (fun x => regRun x.reg x.n) ++ o.dsts.flatMap (fun x => regRun x.reg x.n)

/-- The source registers with their class and place in the operand, in operand order. -/
def Opnds.srcRegs (o : Opnds) : List Reg := o.srcs.flatMap fun x => regRun x.reg x.n

/-- The destination registers in order. -/
def Opnds.dstRegs (o : Opnds) : List Reg := o.dsts.flatMap fun x => regRun x.reg x.n

/-- The operands of the bundle's instruction carry no hazard (R37, R182, R188). P6 of an `.nf` load is looked at for the
readers that R188 names; a second `.nf` load does not wait for it (log 66). -/
def Wave.hazardFree (W : Wave) (c : Issue) (o : Opnds) : Bool :=
  c.fibres.all fun f =>
    (o.regs.all fun r => !W.regHazard f ((W.fib f).dreg r)) &&
    ((o.guard :: o.preads ++ o.pdst.toList).all fun p => !W.predHazard f p)

/-- A source operand's tags all match its class in a fibre (R104, R105). -/
def Wave.tagsOk (W : Wave) (f : Nat) (x : SrcOp) : Bool :=
  (List.range x.n).all fun i => clsAccepts x.cls i (W.read f (regPlus x.reg i)).tag

/-- DETAIL of a tag mismatch in source operand `k`: 0 A, 1 B, 2 C, 3 store data (R324); for a source that is none of these, its place among
the sources (log 71). -/
def tagDetail (op k : Nat) : Nat :=
  if k = 1 ∧ [0xA4, 0xA8, 0xAB, 0xAD, 0xAF, 0xCF].contains op then 3
  else if k = 2 ∧ [0xD7, 0xD9].contains op then 3 else k

/-- What raises: the cause, the fibres in which it arose, DETAIL, VA and the exceptions of fibres (R324). -/
structure Raise where
  cause : Nat
  fmask : Word := 0
  detail : Nat := 0
  va : Nat := 0
  exc : Tab Nat := []
deriving DecidableEq, Repr

/-- The answer of the gate. -/
inductive Gate where
  | go
  | stall
  | raise (r : Raise)
deriving DecidableEq, Repr

/-- Whether a source operand of a bundle is a K operand of the wave, which is checked once, whatever the guards (R105). A K
operand in a facet frame is each fibre's own (R360): it is checked for the fibres whose guard is true (log 71). -/
def Wave.onceChecked (W : Wave) (c : Issue) (x : SrcOp) : Bool :=
  match c.fibres with
  | f :: _ => ((W.fib f).dreg x.reg).isK
  | [] => false

/-- The fibres through which a source operand is checked: the guard-true ones, and for a K operand of the wave one fibre of the
bundle where no guard is true (R105). -/
def Wave.checkedFor (W : Wave) (c : Issue) (gt : List Nat) (x : SrcOp) : List Nat :=
  if gt = [] ∧ W.onceChecked c x = true then c.fibres.take 1 else gt

/-- The first source operand with a mismatched tag in operand order, and the guard-true fibres in which it mismatches (R105, log
66). -/
def Wave.tagMismatch (W : Wave) (op : Nat) (o : Opnds) (c : Issue) (gt : List Nat) : Option Raise :=
  (List.range o.srcs.length).findSome? fun k =>
    match o.srcs[k]? with
    | none => none
    | some x =>
      match (W.checkedFor c gt x).filter fun f => !W.tagsOk f x with
      | [] => none
      | bad => some { cause := 0x03, fmask := maskOf (bad.filter gt.contains), detail := tagDetail op k }

/-! ## Taking a fault (R13, R334) -/

/-- A wave leaves facet context: every facet fibre stands at the emulated PC and waits for nothing of the routine, results due to the
frame are discarded (R364). -/
def Wave.leaveFrame (W : Wave) : Wave :=
  { W with
    fibres := tabMap W.fibres fun _ F => { F with facet := none, wait := if F.facet.isSome then .none else F.wait },
    sb := W.sb.filterMap fun e =>
      let accs := (e.2.accs.filter fun a => !(a.inFacet && a.st == .unsent)).map fun a =>
        if a.inFacet then { a with drop := true, dst := [], pd := none } else a
      if accs.isEmpty && !e.2.accs.isEmpty then none else some (e.1, { e.2 with accs := accs }) }

/-- The core's frame is free when no fibre of the owning wave is in facet context (R360). -/
def State.freeFrame (s : State) (c : Nat) : State :=
  match (s.core c).frame with
  | none => s
  | some (g, w) =>
    match s.wave g w with
    | some W => if W.live.any fun f => (W.fib f).facet.isSome then s else s.modCore c fun C => { C with frame := none }
    | none => s.modCore c fun C => { C with frame := none }

/-- A die's fault engine. -/
def State.faultEng (s : State) (d : Nat) : FaultEng := tabVal FaultEng.empty s.eng.faults d

/-- A die's fault engine changed. -/
def State.modFault (s : State) (d : Nat) (f : FaultEng → FaultEng) : State :=
  { s with eng := { s.eng with faults := tabPut FaultEng.empty s.eng.faults d (f (s.faultEng d)) } }

/-- A subject is handed to its die's fault engine (R13). -/
def State.detect (s : State) (d : Nat) (x : Subject) : State :=
  s.modFault d fun E => { E with detected := E.detected ++ [x] }

/-- A wave stops issuing and drains (R334). -/
def State.stopWave (s : State) (g w : Nat) : State :=
  match s.group g with
  | none => s
  | some G => (s.modWave g w fun W => { W.leaveFrame with run := .draining }).freeFrame G.coreNo

/-- A wave and, in a mirror pair, its twin stop (R54). -/
def State.stopPair (s : State) (g w : Nat) : State :=
  match (s.group g).bind (·.twin) with
  | some (t, _) => (s.stopWave g w).stopWave t w
  | none => s.stopWave g w

/-- The group by which a wave's subject is named: the primary's of a mirror pair. -/
def Group.firstOf (G : Group) (g : Nat) : Nat := match G.twin with | some (p, true) => p | _ => g

/-- The subject of a wave: KIND 1, standing where the primary stands, when its group has a twin (R54, R324, R341). -/
def State.waveSubject (s : State) (G : Group) (g : Nat) (W : Wave) (c : Issue) (r : Raise) (late : Bool)
    (gmask : Word) (mv : PcMove) : Subject :=
  let fr := c.fibres.findSome? fun f => (W.fib f).facet.map fun x => ((W.fib f).pc, x.w0, x.w1)
  let at_ := fr.getD (c.pc, c.w0, c.w1)
  let first := G.firstOf g
  { of := if G.twin.isSome then .mirror 0 0 else .wave, cause := r.cause, late := late, die := G.die, ctx := G.ctx,
    asid := G.asid, gid := G.gid, grp := first, wave := c.wave, core := ((s.group first).getD G).coreNo, fpc := at_.1.toNat,
    va := r.va, tdet := s.ticks, fmask := r.fmask, gmask := gmask, w0 := at_.2.1, w1 := at_.2.2, exc := r.exc,
    detail := r.detail, bundle := maskOf c.fibres, len := if hasTwoWords c.w0 then 8 else 4, move := mv, tail := [],
    cycle := (s.core G.coreNo).cycles }

/-- A wave takes a fault: it is detached with the cause and what its record will hold, it and its twin issue
nothing more, and the fault engine of its die has the subject (R13, R76, R334). This is the one operation through
which every fault of an instruction goes. -/
def State.takeFault (s : State) (c : Issue) (r : Raise) (late : Bool) (gmask : Word) (mv : PcMove) : State :=
  match s.group c.grp with
  | none => s
  | some G =>
    match tabGet G.waves c.wave with
    | none => s
    | some W => (s.stopPair c.grp c.wave).detect G.die (s.waveSubject G c.grp W c r late gmask mv)

/-- Whether a subject is that of a wave, or of the pair that the wave belongs to. -/
def Subject.isWave (x : Subject) (first w : Nat) : Bool :=
  x.grp == first && x.wave == w && match x.of with | .wave | .mirror _ _ => true | _ => false

/-- The subject of a wave that was detected in the core cycle that goes on, with a higher cause than one that strikes the wave now
(R323). -/
def State.outranked (s : State) (G : Group) (g w cause : Nat) : Option Subject :=
  (s.faultEng G.die).detected.find? fun x =>
    x.isWave (G.firstOf g) w && x.cycle == (s.core G.coreNo).cycles && decide (cause < x.cause)

/-- The entry whose access gives the cause of a wave that parks: no other one of the wave is FAULTED (R323, R335). -/
def Wave.markFaulted (W : Wave) (slot : Nat) (yes : Bool) : Wave :=
  if yes then { W with sb := W.sb.map fun e => (e.1, { e.2 with faulted := e.1 == slot }) } else W

/-- One fibre's access meets a late fault (R183, R334): its entry records it; the first one of a running wave gives the
cause and the wave parks. Of several in one core cycle the lowest cause stands (R323). An access of a facet routine leaves no trace;
one that was sent before its fibre entered the frame is recorded with its own instruction (R364). -/
def State.lateFault (s : State) (g w slot f cause : Nat) : State :=
  match s.group g, s.wave g w with
  | some G, some W =>
    match tabGet W.sb slot, W.acc slot f with
    | some e, some a =>
      let words := (encode e.instr).getD (0, none)
      let c : Issue := { grp := g, wave := w, fibres := if a.inFacet then [f] else [], pc := e.pc, w0 := words.1, w1 := words.2.getD 0 }
      let r : Raise := { cause := cause, fmask := maskOf [f], va := a.va.toNat }
      let x := s.waveSubject G g W c r true (maskOf (e.accs.map (·.fib))) .none
      let first := W.run == .running
      let old := if first then none else s.outranked G g w cause
      let s1 := s.modWave g w fun X =>
        (X.modAcc slot f fun a => if a.inFacet then { a with st := .done, drop := true } else { a with st := .faulted cause }).markFaulted
          slot ((first || old.isSome) && !a.inFacet)
      if first then (s1.stopPair g w).detect G.die x
      else match old with
        | some y => s1.modFault G.die fun E => { E with detected := E.detected.map fun z => if z = y then x else z }
        | none => s1
    | _, _ => s
  | _, _ => s

/-- A fault of the decode stage applies to the whole bundle, whatever its predicates hold (R61, R76); GMASK still tells the
fibres whose guard, the predicate that the first word names (R60), is true. -/
def State.decodeFault (s : State) (c : Issue) (r : Raise) (mv : PcMove) : State :=
  match s.wave c.grp c.wave with
  | none => s
  | some W => s.takeFault c { r with fmask := maskOf c.fibres } false (maskOf (W.guardTrue c (bits c.w0 21 3))) mv

/-- A raise of a value check: no effect, the wave parks at the instruction (R76). -/
def State.raised (s : State) (c : Issue) (gt : List Nat) (r : Raise) : Host.Outcome State Fault Refusal :=
  .next (s.takeFault c r false (maskOf gt) .none)

/-- The address after the instruction (R62). -/
def Issue.nextPc (c : Issue) : Addr := c.pc + (if hasTwoWords c.w0 then 8 else 4)

/-- Every fibre of the bundle goes on to the next instruction. -/
def Wave.advance (W : Wave) (c : Issue) : Wave :=
  c.fibres.foldl (fun X f => X.modFib f fun F => F.setPc c.nextPc) W

/-- Destination registers written by the guard-true fibres in ascending order, so that the highest-numbered one
decides a K register of the wave (R26); a facet frame holds K registers for each fibre slot (R360, log 18). -/
def Wave.writeRegs (W : Wave) (gt : List Nat) (rs : List Reg) (val : Nat → List Tagged) : Wave :=
  gt.foldl (fun X f => X.putAll f (rs.map (W.fib f).dreg) (val f)) W

/-- A wave replaced. -/
def State.setWave (s : State) (c : Issue) (W : Wave) : State := s.modWave c.grp c.wave fun _ => W

/-! ## Arithmetic (R113-R116, R123) -/

/-- What one fibre gives an arithmetic instruction. -/
def State.laneIn (s : State) (G : Group) (W : Wave) (o : Opnds) (f : Nat) : LaneIn :=
  { r := o.srcRegs.map (W.read f), p := (W.fib f).curPreds, level := s.levelOf G (W.fib f) }

/-- The exceptions of a fibre that trap (R116). -/
def trapping (F : Fibre) (e : Exc) : Exc := e &&& F.curTrapen

/-- The captured sources of a fibre, two words for each operand (R335). -/
def captured (W : Wave) (o : Opnds) (f : Nat) : List Word :=
  o.srcs.flatMap fun x => [(W.read f x.reg).val, if 1 < x.n then (W.read f (regPlus x.reg 1)).val else 0]

/-- A result written to a fibre: registers by `writeRegs`, the predicate and %flags here (R113). -/
def Wave.writePredFlags (W : Wave) (f : Nat) (o : Opnds) (x : LaneOut) : Wave :=
  W.modFib f fun F =>
    let F1 := match o.pdst, x.pred with
      | some p, some b => F.setPred p b
      | _, _ => F
    F1.setFlags (flagsAfter F1.curFlags x.exc)

/-- The trap of an arithmetic instruction: nothing is written, the wave parks late with the lowest trapping cause,
each fibre's exceptions go to the record, and entry 48 holds the captured sources (R116, R334); a routine's trap
parks at the emulated word without an entry (R364). -/
def State.trapAt (s : State) (i : Instr) (c : Issue) (W : Wave) (gt : List Nat) (exc : Nat → Exc) : State :=
  let o := opndsOf i
  let all := gt.foldl (fun e f => e ||| trapping (W.fib f) (exc f)) 0
  let r : Raise :=
    { cause := (trapCause all).getD 0x20, fmask := maskOf (gt.filter fun f => trapping (W.fib f) (exc f) != 0),
      exc := gt.filterMap fun f => if exc f = 0 then none else some (f, (exc f).toNat) }
  let accs := gt.map fun f =>
    { fib := f, va := 0, data := captured W o f, st := .faulted r.cause, dst := o.dstRegs.map (W.fib f).dreg, pd := o.pdst,
      skip := 0, drop := false, tmo := 0, inFacet := false }
  let e : Entry := { instr := i, pc := c.pc, age := W.nextAge, accs := accs, faulted := true, settle := 0 }
  let W1 := if W.inFacet c then W else { (W.advance c) with sb := tabSet W.sb 48 e, nextAge := W.nextAge + 1 }
  (s.setWave c W1).takeFault c r true (maskOf gt) .none

/-! ## The return from a fault (R336, R337) -/

/-- Whether an access is unsettled at the end of a drain (R334). -/
def Acc.unsettled (a : Acc) : Bool :=
  match a.st with
  | .unsent | .faulted _ | .returned => true
  | .sent | .done => false

/-- The unsettled fibres of an entry: PEND (R335). -/
def Entry.pend (e : Entry) : Word := maskOf ((e.accs.filter Acc.unsettled).map (·.fib))

/-- An entry put in its place by AGE. -/
def ageInsert (e : Nat × Entry) : List (Nat × Entry) → List (Nat × Entry)
  | [] => [e]
  | x :: xs => if e.2.age < x.2.age then e :: x :: xs else x :: ageInsert e xs

/-- The entries of a wave in ascending AGE (R335). -/
def Wave.byAge (W : Wave) : List (Nat × Entry) := W.sb.foldr ageInsert []

/-- The sources of a lane from the words that entry 48 captured (R335, R336). -/
def recapture (o : Opnds) (data : List Word) : List Tagged :=
  (List.range o.srcs.length).flatMap fun k =>
    match o.srcs[k]? with
    | none => []
    | some x => (List.range (min x.n 2)).map fun j => ⟨data.getD (2 * k + j) 0, .b32⟩

/-- The execution entry recomputed from its captured sources: it traps again, or writes its results (R336). -/
def State.recompute (s : State) (g w : Nat) (G : Group) (W : Wave) (e : Entry) : State :=
  match laneOf e.instr with
  | none => s.modWave g w fun W => { W with sb := tabErase W.sb 48 }
  | some lane =>
    let o := opndsOf e.instr
    let pend := e.accs.filter Acc.unsettled
    let out := fun (a : Acc) => lane { r := recapture o a.data, p := (W.fib a.fib).curPreds, level := G.hdr.level }
    let all := pend.foldl (fun x a => x ||| trapping (W.fib a.fib) (out a).exc) 0
    match trapCause all with
    | some cause =>
      let words := (encode e.instr).getD (0, none)
      let c : Issue := { grp := g, wave := w, fibres := pend.map (·.fib), pc := e.pc, w0 := words.1, w1 := words.2.getD 0 }
      let r : Raise :=
        { cause := cause, fmask := maskOf ((pend.filter fun a => trapping (W.fib a.fib) (out a).exc != 0).map (·.fib)),
          exc := pend.filterMap fun a => if (out a).exc = 0 then none else some (a.fib, (out a).exc.toNat) }
      let again : Entry :=
        { e with faulted := true, settle := 0,
                 accs := e.accs.map fun a => if a.unsettled then { a with st := .faulted cause } else a }
      (s.modWave g w fun X => { X with sb := tabSet X.sb 48 again }).takeFault c r true e.pend .none
    | none =>
      s.setWave { grp := g, wave := w, fibres := [], pc := 0, w0 := 0, w1 := 0 }
        (pend.foldl (fun X a =>
          (X.putAll a.fib a.dst (out a).regs).writePredFlags a.fib { o with pdst := a.pd } (out a))
          { W with sb := tabErase W.sb 48 })

/-- RETRY forces SETTLE 0 on the entry whose access gave the cause (R336). -/
def State.forceRetry (s : State) (g w : Nat) : State :=
  s.modWave g w fun W => { W with sb := W.sb.map fun e => if e.2.faulted then (e.1, { e.2 with settle := 0 }) else e }

/-- The saved PCs of the faulting bundle moved as the disposition asks (R337, R358). -/
def State.movePcs (s : State) (x : Subject) (retry : Bool) : State :=
  s.modWave x.grp x.wave fun W =>
    (bitsOf x.bundle).foldl (fun X f => X.modFib f fun F =>
      match x.move, retry with
      | .onResume, false => if F.pc.toNat = x.fpc then { F with pc := F.pc + BitVec.ofNat 64 x.len } else F
      | .onRetry, true => { F with pc := BitVec.ofNat 64 x.fpc }
      | _, _ => F) W

end Sys2Proof.Machine
end

