-- ==== Sys2Proof/Machine/Memory.lean ====
section
/-! DEFINITION. Memory: physical bytes (R416), page walks (R412-R415), homes (R260, R418), the L1 words (R263, R265)
and the reads and writes that engines make at the homes (R263, R264). -/
namespace Sys2Proof.Machine

/-! ## Physical memory (R416) -/

/-- What a byte that nothing has written reads as (log 5). -/
def unwritten : Byte := 0

/-- The byte at a physical address. -/
def memByte (m : List Host.Cell) (a : Nat) : Byte := tabVal unwritten m a

/-- The memory with a byte written. -/
def memPut (m : List Host.Cell) (a : Nat) (b : Byte) : List Host.Cell := tabPut unwritten m a b

/-- `n` bytes from an address. -/
def memBytes (m : List Host.Cell) (a n : Nat) : List Byte := (List.range n).map fun i => memByte m (a + i)

/-- Bytes written from an address on. -/
def memPutBytes (m : List Host.Cell) (a : Nat) : List Byte → List Host.Cell
  | [] => m
  | b :: bs => memPutBytes (memPut m a b) (a + 1) bs

/-- The canonical form of memory: addresses rise strictly, no entry is what an unlisted address reads as. -/
def Memory.wf (m : List Host.Cell) : Bool := tabSorted m && m.all fun e => e.2 != unwritten

/-- Whether a physical address lies in a tier. -/
def inTier (pa : Nat) : Bool := decide (pa < 0xC00000000) || (decide (0x10000000000 ≤ pa) && decide (pa < 0x20000000000))

/-- The ECC cause of the tier of an address (R416). -/
def eccCause (pa : Nat) : Nat := if pa < 0xC00000000 then 0x32 else 0x33

/-! ## Lines and homes (R260, R418) -/

/-- The home slice of a virtual address (R260). -/
def vaHome (asid va : Nat) : Nat :=
  bits va 6 7 ^^^ bits va 13 7 ^^^ bits va 20 7 ^^^ bits va 27 7 ^^^ bits va 34 7 ^^^ bits va 41 7 ^^^ bits va 48 7 ^^^
    bits asid 0 7 ^^^ bits asid 7 7 ^^^ bits asid 14 2

/-- The home slice of a physical address (R418). -/
def paHome (pa : Nat) : Nat :=
  bits pa 6 7 ^^^ bits pa 13 7 ^^^ bits pa 20 7 ^^^ bits pa 27 7 ^^^ bits pa 34 7 ^^^ bits pa 41 7

/-- The number of a virtual line: its ASID and its address over 64. -/
def lineKey (asid va : Nat) : Nat := asid * 2 ^ 50 + va % 2 ^ 56 / 64

/-- Sign extension of a 56-bit address (R181). -/
def signExt56 (va : Nat) : Nat := if va.testBit 55 then va % 2 ^ 56 + 0xFF * 2 ^ 56 else va % 2 ^ 56

/-- An address is canonical: bits [63:56] equal bit 55 (R127, R181). -/
def canonical (va : Nat) : Bool := va < 2 ^ 64 && signExt56 va == va

/-- The virtual address of the active image's first byte in facet context: canonical and line-aligned (R362, log 11). -/
def facetOrigin : Nat := signExt56 (Config.facetBase / 64 * 64)

/-- A slice. -/
def State.slice (s : State) (h : Nat) : Slice := tabVal Slice.empty s.slices h

/-- A slice changed. -/
def State.modSlice (s : State) (h : Nat) (f : Slice → Slice) : State :=
  { s with slices := tabPut Slice.empty s.slices h (f (s.slice h)) }

/-- The virtual address of the running Cuset image's first byte: canonical and line-aligned (R442, log 24). -/
def fwOrigin : Nat := signExt56 (Config.firmwareBase / 64 * 64)

/-- Bytes of the running Cuset image at an address of firmware mode. -/
def State.fwBytes (s : State) (va n : Nat) : Option (List Byte) :=
  if !s.fw.run.isEmpty && decide (fwOrigin ≤ va) && decide (va + n ≤ fwOrigin + s.fw.run.length) then
    some ((s.fw.run.drop (va - fwOrigin)).take n)
  else none

/-- Bytes written into the data area of the running Cuset image; none outside it. -/
def State.fwPut (s : State) (va : Nat) (bs : List Byte) : Option State :=
  let off := va - fwOrigin
  let f := fun o => leNat ((s.fw.image.drop o).take 4)
  if f 0x18 ≤ off ∧ off + bs.length ≤ f 0x18 + f 0x1C then
    some { s with fw := { s.fw with run := s.fw.run.take off ++ bs ++ s.fw.run.drop (off + bs.length) } }
  else none

/-- The bytes of a line's words. -/
def lineBytes (ws : List Word) : List Byte := ws.flatMap fun w => natBytes 4 w.toNat

/-- The words of a line's bytes. -/
def lineWords (bs : List Byte) : List Word :=
  (List.range (bs.length / 4)).map fun i => BitVec.ofNat 32 (leNat ((bs.drop (4 * i)).take 4))

/-- Bytes of a line from an offset. -/
def lineGet (ws : List Word) (off n : Nat) : List Byte := ((lineBytes ws).drop off).take n

/-- A line with bytes put at an offset. -/
def linePut (ws : List Word) (off : Nat) (bs : List Byte) : List Word :=
  let l := lineBytes ws
  lineWords (l.take off ++ bs ++ l.drop (off + bs.length))

/-- The words of a line that an access of `n` bytes touches. -/
def touched (va n : Nat) : List Nat := (List.range ((va % 4 + n + 3) / 4)).map (va % 64 / 4 + ·)

/-- A byte at a physical address as its PA home slice holds it: of the line it caches, else of the tier. -/
def State.paByte (s : State) (pa : Nat) : Byte :=
  match tabGet (s.slice (paHome pa)).plines (pa / 64) with
  | some l => (lineGet l.words (pa % 64) 1).headD 0
  | none => memByte s.mem pa

/-- `n` bytes at a physical address. -/
def State.paBytes (s : State) (pa n : Nat) : List Byte := (List.range n).map fun i => s.paByte (pa + i)

/-- A byte written at its PA home slice. -/
def State.putPaByte (s : State) (pa : Nat) (b : Byte) : State :=
  match tabGet (s.slice (paHome pa)).plines (pa / 64) with
  | some _ => s.modSlice (paHome pa) fun S =>
      { S with plines := tabMod S.plines (pa / 64) fun l => { l with words := linePut l.words (pa % 64) [b], dirty := true } }
  | none => { s with mem := memPut s.mem pa b }

/-- Bytes written at their PA home slices. -/
def State.putPaBytes (s : State) (pa : Nat) : List Byte → State
  | [] => s
  | b :: bs => State.putPaBytes (s.putPaByte pa b) (pa + 1) bs

/-! ## Translation (R412-R415) -/

/-- The fields of a page-table entry (R414). -/
structure Pte where
  v : Bool
  leaf : Bool
  r : Bool
  w : Bool
  x : Bool
  res : Bool
  cls : Nat
  addr : Nat
  peer : Nat
  rmt : Bool
deriving DecidableEq, Repr

/-- A page-table entry read from its 8 bytes. -/
def pteOf (n : Nat) : Pte :=
  { v := n.testBit 0, leaf := n.testBit 1, r := n.testBit 2, w := n.testBit 3, x := n.testBit 4, res := n.testBit 5,
    cls := bits n 6 2, addr := bits n 8 40 * 256, peer := bits n 48 12, rmt := n.testBit 60 }

/-- How a walk ends, before any permission is asked (R415, R420). -/
inductive Walk where
  /-- V = 0 at some level -/
  | unmapped
  | broken
  /-- a leaf with RES = 0 and its backing tag; the entry's address -/
  | absent (tag at_ : Nat)
  | found (e : TlbEntry)
deriving DecidableEq, Repr

/-- log2 of the page size of a size class (R413). -/
def pageShift : Nat → Nat | 0 => 16 | 1 => 21 | _ => 30

/-- What a leaf entry at `at_` gives, its page of size class `size`. -/
def leafResult (asid va size at_ : Nat) (p : Pte) : Walk :=
  if 1 < p.cls ∨ (p.rmt ∧ (p.peer = 0 ∨ !p.res)) ∨ (!p.rmt ∧ p.peer ≠ 0) then .broken
  else if p.res ∧ p.addr % 2 ^ pageShift size ≠ 0 then .broken
  else if !p.res then .absent p.addr at_
  else .found { asid := asid, va := va % 2 ^ 56 / 2 ^ pageShift size * 2 ^ pageShift size, size := size, at_ := at_,
                leaf := { pa := p.addr, r := p.r, w := p.w, x := p.x, sliceOnly := p.cls == 1, peer := p.peer } }

/-- The levels below the root: lowest VA bit, index bits, size class of a leaf there, alignment of the next table;
0 where every entry is a leaf (R413, R414). -/
def walkLevels : List (Nat × Nat × Option Nat × Nat) :=
  [(48, 8, none, 4096), (39, 9, none, 4096), (30, 9, some 2, 4096), (21, 9, some 1, 256), (16, 5, some 0, 0)]

/-- A walk of the levels from a table on. -/
def State.walkFrom (s : State) (asid va tbl : Nat) : List (Nat × Nat × Option Nat × Nat) → Walk
  | [] => .broken
  | (lo, n, sz, al) :: rest =>
    let at_ := tbl + 8 * bits va lo n
    let p := pteOf (leNat (s.paBytes at_ 8))
    if !p.v then .unmapped
    else if p.leaf then
      match sz with
      | none => .broken
      | some size => leafResult asid va size at_ p
    else if al = 0 ∨ p.addr % al ≠ 0 then .broken
    else State.walkFrom s asid va p.addr rest

/-- A table walk (R413, R415). -/
def State.walk (s : State) (asid va : Nat) : Walk :=
  let p := pteOf (leNat (s.paBytes (s.xl.tbase + 8 * asid) 8))
  if !p.v then .unmapped
  else if p.leaf ∨ p.addr % 2048 ≠ 0 then .broken
  else s.walkFrom asid va p.addr walkLevels

/-- The TLB of an access: by the start of its page (R412). The size of the page is not known before the walk, so a
leaf is found in the TLB of any page size. -/
def tlbOf (asid pageVa : Nat) : Nat := bits pageVa 16 5 ^^^ bits asid 0 5

/-- The leaf of a TLB that covers an address. -/
def State.tlbHit (s : State) (asid va : Nat) : Option TlbEntry :=
  [0, 1, 2].findSome? fun size =>
    let page := va % 2 ^ 56 / 2 ^ pageShift size * 2 ^ pageShift size
    (tabVal [] s.xl.tlbs (tlbOf asid page)).find? fun e => e.asid == asid && e.size == size && e.va == page

/-- The physical address of a virtual one under a leaf. -/
def TlbEntry.pa (e : TlbEntry) (va : Nat) : Nat := e.leaf.pa + va % 2 ^ pageShift e.size

/-! ## Running swaps (R423) -/

/-- Line pairs of a swap of a size class (R423). -/
def swapTotal (size : Nat) : Nat := 2 ^ pageShift size / 64

/-- Line pairs that a swap has exchanged: line `i` is in the engine's buffer in mesh cycle `i + 1` after GO (R422, R423). -/
def State.swapLines (s : State) (x : Swap) : Nat :=
  if x.state = 1 then min (swapTotal x.size) (s.meshCycles - x.begun - 1) else x.lines

/-- A physical address on the other side of a swap. -/
def Swap.cross (x : Swap) (pa : Nat) : Nat :=
  let n := 2 ^ pageShift x.size
  if x.runA ≤ pa ∧ pa < x.runA + n then pa - x.runA + x.runB
  else if x.runB ≤ pa ∧ pa < x.runB + n then pa - x.runB + x.runA
  else pa

/-- The number within its frame of an address's line, if a running swap has the frame. -/
def Swap.lineOf (x : Swap) (pa : Nat) : Option Nat :=
  let n := 2 ^ pageShift x.size
  if x.state ≠ 1 then none
  else if x.runA ≤ pa ∧ pa < x.runA + n then some ((pa - x.runA) / 64)
  else if x.runB ≤ pa ∧ pa < x.runB + n then some ((pa - x.runB) / 64)
  else none

/-- Where the bytes of an address stand: in the other frame, once a running swap has moved their line (R423). -/
def State.movedTo (s : State) (pa : Nat) : Nat :=
  match s.xl.swaps.find? fun e => (e.2.lineOf pa).any fun i => decide (i < s.swapLines e.2) with
  | some e => e.2.cross pa
  | none => pa

/-- Whether the line of an address is in the buffer of a swap engine: accesses to it wait (R423). -/
def State.inBuffer (s : State) (pa : Nat) : Bool :=
  s.xl.swaps.any fun e => (e.2.lineOf pa).any fun i => i == s.swapLines e.2 && decide (e.2.begun < s.meshCycles)

/-- What an access asks of a page (R414, R419). -/
structure Need where
  r : Bool := false
  w : Bool := false
  x : Bool := false
  /-- the unit may reach a remote page -/
  remote : Bool := false
  /-- the object unit's own access to a page that an object holds -/
  object : Bool := false
deriving DecidableEq, Repr

/-- Whether a queue object holds the frame of an address (R302). -/
def State.heldFrame (s : State) (pa : Nat) : Bool :=
  let holds := fun (o : ObjEntry) => o.used && o.frames.any fun f => f.2 / 65536 == pa / 65536
  (s.slices.any fun e => e.2.objs.any fun o => holds o.2) || s.mesh.objOps.any fun o => o.2.old.any holds

/-- Whether a leaf refuses an access, with the cause (R415). -/
def State.leafFault (s : State) (n : Need) (l : Leaf) (pa : Nat) : Option Nat :=
  if (n.r && !l.r) || (n.w && !l.w) || (n.x && !l.x) then some 0x11
  else if l.peer ≠ 0 then if n.remote then none else some 0x11
  else if s.heldFrame pa && !n.object then some 0x11
  else if !inTier pa then some 0x11
  else none

/-- Where an access finds its bytes (R260, R418, R419). -/
inductive HomeAt where
  /-- a virtually tagged line of its home slice -/
  | line (home key : Nat)
  /-- physical bytes, through the PA home slice for a slice-only page -/
  | phys (pa : Nat) (sliceOnly : Bool)
  /-- bytes of a peer module -/
  | peer (dev pa : Nat)
  | fault (cause : Nat)
deriving DecidableEq, Repr

/-- Where a leaf's page holds an address, if the leaf allows the access. -/
def State.atLeaf (s : State) (n : Need) (l : Leaf) (pa : Nat) : HomeAt :=
  match s.leafFault n l pa with
  | some c => .fault c
  | none => if l.peer ≠ 0 then .peer l.peer pa else .phys pa l.sliceOnly

/-- The leaf that an engine's access meets: of a TLB, else of a walk (R412). -/
def State.leafOf (s : State) (asid va : Nat) : Except Nat TlbEntry :=
  match s.tlbHit asid va with
  | some e => .ok e
  | none =>
    match s.walk asid va with
    | .found e => .ok e
    | .absent _ _ => .error 0x10
    | _ => .error 0x11

/-- Where an access of an engine finds its bytes: in the line its home slice holds, else where translation leads. -/
def State.locate (s : State) (asid va : Nat) (n : Need) : HomeAt :=
  let h := vaHome asid va
  let key := lineKey asid va
  match tabGet (s.slice h).lines key with
  | some l =>
    match s.leafFault n l.leaf (l.leaf.pa + va % 64) with
    | some c => .fault c
    | none => .line h key
  | none =>
    match tabGet (s.slice h).fwd key with
    | some l => s.atLeaf n l (l.pa + va % 64)
    | none =>
      match s.leafOf asid va with
      | .error c => .fault c
      | .ok e => s.atLeaf n e.leaf (e.pa va)

/-- Bytes read at their home; all lie in one line (R263). -/
def State.homeRead (s : State) (asid va len : Nat) (n : Need) : Except Nat (List Byte) :=
  match s.locate asid va n with
  | .line h key => .ok (match tabGet (s.slice h).lines key with | some l => lineGet l.words (va % 64) len | none => [])
  | .phys pa _ => .ok (s.paBytes pa len)
  | .peer _ _ => .error 0x11
  | .fault c => .error c

/-! ## The L1 (R263, R265) -/

/-- A word of a core's L1 becomes INVALID. -/
def Core.l1Drop (C : Core) (key word : Nat) : Core :=
  { C with l1 := tabMod C.l1 key fun l =>
      { l with valid := l.valid &&& (0xFFFF ^^^ 2 ^ word), owned := l.owned &&& (0xFFFF ^^^ 2 ^ word) } }

/-- Words of a core's L1 become INVALID. -/
def Core.l1DropAll (C : Core) (key : Nat) (words : List Nat) : Core := words.foldl (fun X w => X.l1Drop key w) C

/-- Outstanding loads of a core must not take a word of a line into the L1 (log 9). -/
def State.skipFill (s : State) (core asid line word : Nat) : State :=
  { s with groups := tabMap s.groups fun _ G =>
      if G.core? = some core ∧ G.asid = asid then
        { G with waves := tabMap G.waves fun _ W =>
            { W with sb := tabMap W.sb fun _ e =>
                { e with accs := e.accs.map fun a =>
                    if a.waits && a.va.toNat % 2 ^ 56 / 64 == line then { a with skip := a.skip ||| 2 ^ word } else a } } }
      else G }

/-- The acquire invalidation of a core: VALID words of lines without an INV mark go, OWNED words stay (R265, R266). -/
def Core.acquire (C : Core) : Core :=
  { C with l1 := C.l1.filterMap fun e =>
      if e.2.inv then some e
      else if e.2.owned = 0 then none
      else some (e.1, { e.2 with valid := e.2.owned }) }

/-- An acquire point of a core: the invalidation, and no fill of an earlier load takes a word afterwards (R266). -/
def State.acquire (s : State) (core : Nat) : State :=
  let s1 := s.modCore core Core.acquire
  { s1 with groups := tabMap s1.groups fun _ G =>
      if G.core? = some core then
        { G with waves := tabMap G.waves fun _ W =>
            { W with sb := tabMap W.sb fun _ e => { e with accs := e.accs.map fun a => { a with skip := 0xFFFF } } } }
      else G }

/-! ## Monitors (R286-R288) -/

/-- Every write applied to a word completes the MWAITs armed on it, or sets the fired bit of one that is rebound. -/
def State.fire (s : State) (h asid word : Nat) (v : Word) : State :=
  let hit := (s.slice h).monitors.filter fun e => e.2.asid == asid && e.2.va == word
  if hit.isEmpty then s
  else
    let s1 := s.modSlice h fun S => { S with monitors := S.monitors.filter fun e => !(e.2.asid == asid && e.2.va == word) }
    hit.foldl (fun t e =>
      let m := e.2
      if m.rebound then t.modFib m.grp m.wave m.fib fun F => { F with fired := true }
      else { t with msgs := t.msgs ++ [{ core := m.core, grp := m.grp, wave := m.wave, slot := m.slot, fib := m.fib,
                                         asid := m.asid, line := word / 64, body := .value [v] }] }) s1

/-- The monitors of the words that a write touched fire. -/
def State.fireAll (s : State) (h asid va : Nat) (ws : List Word) (words : List Nat) : State :=
  words.foldl (fun t w => t.fire h asid (va % 2 ^ 56 / 64 * 64 + 4 * w) (ws.getD w 0)) s

/-- The ASID under which a word of a slice-only page is monitored, at its physical address. -/
def physAsid : Nat := 65536

/-- An answer that gives no ownership. -/
def MsgBody.unowned (b : MsgBody) : MsgBody := match b with | .ack _ | .ackWord _ => .ack false | b => b

/-- The owner field of a word in REVOKE after a descriptor's write that does not wait for it (log 9): no core owns the word next, and the
answer that the revoke holds, which other words may hold too, gives no ownership. -/
def Owner.passed (o : Owner) (hit : Bool) (held : List (Req × MsgBody)) : Owner :=
  match o with
  | .revoke c (some x) next => .revoke c (some (if held.contains x then (x.1, x.2.unowned) else x)) (if hit then none else next)
  | .revoke c none next => .revoke c none (if hit then none else next)
  | .core c => .core c

/-- Bytes written into a line of a slice by an engine: a word that a core owns is revoked, and the engine's acknowledgement is held
until the core has answered (`State.homeBusy`); the line is dirty, monitors fire (R264, R286). A write that may not wait for a word in
REVOKE, that of a descriptor, is applied ahead of the requests that wait for it (log 9). -/
def State.writeLine (s : State) (h key asid va : Nat) (bs : List Byte) : State :=
  match tabGet (s.slice h).lines key with
  | none => s
  | some l =>
    let ws := linePut l.words (va % 64) bs
    let ts := touched va bs.length
    let owned : List (Nat × Nat) := ts.filterMap fun w => match tabGet l.owners w with | some (.core c) => some (w, c) | _ => none
    let held := ts.filterMap fun w => match tabGet l.owners w with | some (.revoke _ (some x) _) => some x | _ => none
    let owners := owned.foldl (fun o (x : Nat × Nat) => tabSet o x.1 (.revoke x.2 none none))
      (tabMap l.owners fun w o => o.passed (ts.contains w) held)
    let s1 := s.modSlice h fun S =>
      { S with lines := (tabMod S.lines key fun l =>
          { l with words := ws, dirty := true, owners := owners }) }
    let s2 := { s1 with msgs := s1.msgs ++ owned.map fun (x : Nat × Nat) =>
      ({ core := x.2, grp := 0, wave := 0, slot := 0, fib := 0, asid := asid, line := va % 2 ^ 56 / 64, body := .revoke x.1, src := some h } : Msg) }
    s2.fireAll h asid va ws ts

/-- Bytes written to a physical place; monitors of a slice-only page fire. -/
def State.writePhys (s : State) (pa : Nat) (bs : List Byte) : State :=
  let s1 := s.putPaBytes pa bs
  s1.fireAll (paHome pa) physAsid pa (lineWords (s1.paBytes (pa / 64 * 64) 64)) (touched pa bs.length)

/-- The lines in which slices hold the bytes at a physical address by virtual address: home and key. -/
def State.linesAt (s : State) (pa : Nat) : List (Nat × Nat) :=
  s.slices.flatMap fun e => (e.2.lines.filter fun l => l.2.leaf.peer == 0 && l.2.leaf.pa / 64 == pa / 64).map fun l => (e.1, l.1)

/-- A byte at a physical address as the host or a peer reads it: of the line in which a slice holds it, else at its PA home slice. -/
def State.physByte (s : State) (pa : Nat) : Byte :=
  match s.linesAt pa with
  | [] => s.paByte pa
  | x :: _ => match tabGet (s.slice x.1).lines x.2 with
    | some l => (lineGet l.words (pa % 64) 1).headD 0
    | none => s.paByte pa

/-- `n` bytes at a physical address as the host or a peer reads them. -/
def State.physBytes (s : State) (pa n : Nat) : List Byte := (List.range n).map fun i => s.physByte (pa + i)

/-- A word of the line is being revoked: requests to it wait (R262). -/
def SLine.revoking (l : SLine) (words : List Nat) : Bool :=
  words.any fun w => match tabGet l.owners w with | some (.revoke _ _ _) => true | _ => false

/-- The pieces of a run of bytes that lie in one line each: address and length. -/
def pieces : Nat → Nat → Nat → List (Nat × Nat)
  | 0, _, _ => []
  | _, _, 0 => []
  | fuel + 1, va, len =>
    let n := min len (64 - va % 64)
    (va, n) :: pieces fuel (va + n) (len - n)

/-- Whether an access of the host or a peer to `n` bytes waits for a revoke of a word of theirs (R262, R264). -/
def State.physBusy (s : State) (pa n : Nat) : Bool :=
  (pieces (n / 64 + 2) pa n).any fun p => (s.linesAt p.1).any fun x => match tabGet (s.slice x.1).lines x.2 with
    | some l => l.revoking (touched p.1 p.2)
    | none => false

/-- The monitors of virtual words whose bytes at a physical address were written, and which no slice holds in a line, fire (R286). -/
def State.firePhys (s : State) (pa n : Nat) : State :=
  s.slices.foldl (fun t e => e.2.monitors.foldl (fun u m =>
    match if m.2.asid < physAsid then s.locate m.2.asid m.2.va {} else .fault 0 with
    | .phys p _ => if p < pa + n ∧ pa < p + 4 then u.fire e.1 m.2.asid m.2.va (BitVec.ofNat 32 (leNat (u.paBytes p 4))) else u
    | _ => u) t) s

/-- Bytes that the host or a peer writes by physical address, in one line: a write of any other writer to the lines in which slices hold
them, else to their place (R264, R286). -/
def State.physWrite (s : State) (pa : Nat) (bs : List Byte) : State :=
  match s.linesAt pa with
  | [] => (s.writePhys pa bs).firePhys pa bs.length
  | ls => ls.foldl (fun t x => t.writeLine x.1 x.2 (x.2 / 2 ^ 50) (x.2 % 2 ^ 50 * 64 + pa % 64) bs) s

/-- Bytes written by an engine at their home; all lie in one line (R263, R264). -/
def State.homeWrite (s : State) (asid va : Nat) (bs : List Byte) (n : Need) : Except Nat State :=
  match s.locate asid va n with
  | .line h key => .ok (s.writeLine h key asid va bs)
  | .phys pa so =>
    let t := s.writePhys pa bs
    .ok (if so then t
      else t.fireAll (vaHome asid va) asid va (lineWords (t.paBytes (pa / 64 * 64) 64)) (touched va bs.length))
  | .peer _ _ => .error 0x11
  | .fault c => .error c

/-- Whether an engine's access to `len` bytes of one line must wait: for a revoke, or for a line that is in a swap engine's buffer (R262,
R423). -/
def State.homeBusy (s : State) (asid va len : Nat) : Bool :=
  match tabGet (s.slice (vaHome asid va)).lines (lineKey asid va) with
  | some l => l.revoking (touched va len)
  | none => (s.xl.swaps.any fun e => e.2.state == 1) && match s.locate asid va {} with
    | .phys pa _ => s.inBuffer pa
    | _ => false

/-- Bytes read at their homes across lines; the first fault ends the read with its address. -/
def State.readRun (s : State) (asid va len : Nat) (n : Need) : Except (Nat × Nat) (List Byte) :=
  (pieces (len / 64 + 2) va len).foldl (fun r p =>
    match r with
    | .error e => .error e
    | .ok bs =>
      match s.homeRead asid p.1 p.2 n with
      | .ok more => .ok (bs ++ more)
      | .error c => .error (c, p.1)) (.ok [])

/-- Bytes written at their homes across lines; the first fault ends the write with its address, and nothing has been
written. -/
def State.writeRun (s : State) (asid va : Nat) (bs : List Byte) (n : Need) : Except (Nat × Nat) State :=
  let ps := pieces (bs.length / 64 + 2) va bs.length
  match ps.findSome? fun p => match s.locate asid p.1 n with
      | .fault c => some (c, p.1)
      | .peer _ _ => some (0x11, p.1)
      | _ => none with
  | some e => .error e
  | none => .ok (ps.foldl (fun t p =>
      match t.homeWrite asid p.1 ((bs.drop (p.1 - va)).take p.2) n with
      | .ok u => u
      | .error _ => t) s)

/-- A 64-bit little-endian value read at its home, as the command processor reads descriptors and signals. -/
def State.read64 (s : State) (asid va : Nat) : Except Nat Nat :=
  (s.homeRead asid va 8 { r := true }).map leNat

/-- A 64-bit value written at its home. -/
def State.write64 (s : State) (asid va v : Nat) : Except Nat State :=
  s.homeWrite asid va (natBytes 8 v) { w := true }

/-! ## Instruction fetch (R76, R145, R263) -/

/-- The four bytes of an instruction word: of the core's instruction-cache line, else of its home, which needs X
(R414). -/
def State.fetchWord (s : State) (core asid va : Nat) : Except Nat Nat :=
  match tabGet (s.core core).icache (lineKey asid va) with
  | some l => .ok (leNat ((l.drop (va % 64)).take 4))
  | none => (s.homeRead asid va 4 { x := true }).map leNat

/-- The line of a fetch taken into the instruction cache: its 64 bytes as they stand in this turn, so that two words of one
line are read together (R77 would let each be old or new by itself; DESIGN CHOICE, log 49). -/
def State.fillIcache (s : State) (core asid va : Nat) : State :=
  match tabGet (s.core core).icache (lineKey asid va) with
  | some _ => s
  | none =>
    match s.homeRead asid (va / 64 * 64) 64 { x := true } with
    | .ok bs => s.modCore core fun C => { C with icache := tabSet C.icache (lineKey asid va) bs }
    | .error _ => s

end Sys2Proof.Machine
end

