-- ==== Sys2Proof/Machine/Pages.lean ====
section
/-! DEFINITION. Page tables beyond a single walk: the entries that a walk reads (R415), the leaves that a range has (R417), the pages that
Cuset maps or makes resident (R416, R420, R421), and the tier in which an error strikes (R321, R416, R423). -/
namespace Sys2Proof.Machine

/-! ## What a walk reads (R413, R415) -/

/-- The addresses of the entries that a walk reads from a table on. -/
def State.readsFrom (s : State) (va tbl : Nat) : List (Nat × Nat × Option Nat × Nat) → List Nat
  | [] => []
  | (lo, n, _, al) :: rest =>
    let at_ := tbl + 8 * bits va lo n
    let p := pteOf (leNat (s.paBytes at_ 8))
    at_ :: if !p.v || p.leaf || al = 0 || p.addr % al ≠ 0 then [] else State.readsFrom s va p.addr rest

/-- The addresses of the entries that a walk reads, the root's first. -/
def State.walkReads (s : State) (asid va : Nat) : List Nat :=
  let at_ := s.xl.tbase + 8 * asid
  let p := pteOf (leNat (s.paBytes at_ 8))
  at_ :: if !p.v || p.leaf || p.addr % 2048 ≠ 0 then [] else s.readsFrom va p.addr walkLevels

/-- The size class of the page whose entry a walk of so many reads ends at (R413). -/
def sizeOfReads (n : Nat) : Nat := if n = 4 then 2 else if n = 5 then 1 else 0

/-! ## The tier of an address (R321, R416, R423) -/

/-- The cause of an uncorrectable error at a physical address: a line that a running swap has moved stands in the other frame (R416,
R423). -/
def State.eccTier (s : State) (pa : Nat) : Nat := eccCause (s.movedTo pa)

/-- The cause of an error in a table read of a walk; which of the tables it strikes is open (R415, log 42). -/
def State.eccTable (s : State) (asid va : Nat) : Nat :=
  let rs := s.walkReads asid va
  s.eccTier (rs.getD (s.freeWord.toNat % rs.length) 0)

/-- The cause of an uncorrectable error met by an engine's access: of the slice that holds its line; else of the tier of its bytes or,
where the access is translated by a walk, of one of the tables, whichever it strikes (R321, R415, log 42). -/
def State.eccAt (s : State) (asid va : Nat) : Nat :=
  let walked := (tabGet (s.slice (vaHome asid va)).fwd (lineKey asid va)).isNone && (s.tlbHit asid va).isNone
  match s.locate asid va {} with
  | .line _ _ => 0x31
  | .phys pa _ =>
    if walked && s.freeWord.getLsbD 31 then s.eccTable asid va
    else if (tabGet (s.slice (paHome pa)).plines (pa / 64)).isSome then 0x31
    else s.eccTier pa
  | _ => if walked then s.eccTable asid va else 0x31

/-! ## The leaves of a range (R417, R422) -/

/-- The entries of a table of `2 ^ n` that are not all zero, by number: those of which memory or a slice holds a byte. -/
def State.entriesOf (s : State) (tbl n : Nat) : List Nat :=
  let size := 8 * 2 ^ n
  let inside := fun a => decide (tbl ≤ a) && decide (a < tbl + size)
  let ofMem := (s.mem.filter fun c => inside c.1).map fun c => (c.1 - tbl) / 8
  let ofLines := s.slices.flatMap fun S => S.2.plines.flatMap fun l =>
    ((List.range 8).map fun i => 64 * l.1 + 8 * i).filterMap fun a => if inside a then some ((a - tbl) / 8) else none
  (ofMem ++ ofLines).eraseReps

/-- The leaves of resident pages below a table, where a page begins in or below a table of the range that a test keeps; `base` is the first
virtual address that the table maps. -/
def State.leavesFrom (s : State) (asid : Nat) (keep : Nat → Nat → Bool) (tbl base : Nat) :
    List (Nat × Nat × Option Nat × Nat) → List TlbEntry
  | [] => []
  | (lo, n, sz, al) :: rest => (s.entriesOf tbl n).flatMap fun i =>
    let va := base + i * 2 ^ lo
    let p := pteOf (leNat (s.paBytes (tbl + 8 * i) 8))
    if !keep va (2 ^ lo) || !p.v then []
    else if p.leaf then
      match sz with
      | some size => (match leafResult asid va size (tbl + 8 * i) p with | .found e => [e] | _ => [])
      | none => []
    else if al = 0 || p.addr % al ≠ 0 then []
    else State.leavesFrom s asid keep p.addr va rest

/-- The leaves of an ASID's resident pages that overlap a range, as the tables now stand. -/
def State.leaves (s : State) (asid : Nat) (keep : Nat → Nat → Bool) : List TlbEntry :=
  let p := pteOf (leNat (s.paBytes (s.xl.tbase + 8 * asid) 8))
  if !p.v || p.leaf || p.addr % 2048 ≠ 0 then [] else s.leavesFrom asid keep p.addr 0 walkLevels

/-! ## Pages that Cuset maps (R416, R420, R421) -/

/-- A frame that Cuset may take for a page: aligned, wholly in a tier of this module (R416). -/
def frameOk (pa size : Nat) : Bool := pa % 2 ^ pageShift size == 0 && inTier pa && inTier (pa + 2 ^ pageShift size - 1)

/-- A frame filled with zeros. -/
def State.clearFrame (s : State) (pa n : Nat) : State :=
  let inFrame := fun a => decide (pa ≤ a) && decide (a < pa + n)
  { s with mem := s.mem.filter fun c => !inFrame c.1,
           slices := s.slices.map fun e => (e.1, { e.2 with plines := e.2.plines.filter fun l => !inFrame (64 * l.1) }) }

/-- An entry that Cuset may write for private memory: one that names a table, or the leaf of a resident page of this module (R416). -/
def TableWrite.allowed (m : TableWrite) : Bool :=
  let p := pteOf m.entry
  3 ≤ m.size || (p.v && p.leaf && p.res && !p.rmt && frameOk p.addr m.size)

/-- Zero-filled pages mapped by Cuset: each leaf's frame is cleared, then its entry is written (R416, R421). -/
def State.mapPages (s : State) (ms : List TableWrite) : State :=
  (ms.filter TableWrite.allowed).foldl (fun t m =>
    let t1 := if m.size < 3 then t.clearFrame (pteOf m.entry).addr (2 ^ pageShift m.size) else t
    t1.putPaBytes m.at_ (natBytes 8 m.entry)) s

/-- Whether every 64 KiB page of a run is mapped to a frame of this module. -/
def State.runMapped (s : State) (asid va n : Nat) : Bool :=
  (List.range n).all fun i => match s.walk asid (va + 65536 * i) with | .found e => e.leaf.peer == 0 | _ => false

/-- A page-table entry with another address (R414). -/
def pteMoved (n pa : Nat) : Nat := n - bits n 8 40 * 256 + pa

/-- A residency request posted to the Cuset of a die, unless one for the page is pending already (R420). -/
def State.askPage (s : State) (die asid va at_ : Nat) : State :=
  if s.xl.resids.any fun q => q.at_ == at_ then s
  else { s with xl := { s.xl with resids := s.xl.resids ++ [{ die := die, asid := asid, va := va, at_ := at_ }] } }

/-- Cuset fills a frame with the page of pending request `k`, bytes by their offset and zeros elsewhere, and then writes the leaf that makes
the page resident; the request is done (R416, R420, log 44). -/
def State.makeResident (s : State) (k frame : Nat) (fill : List (Nat × Byte)) : State :=
  match s.xl.resids[k]? with
  | none => s
  | some q =>
    let size := sizeOfReads (s.walkReads q.asid q.va).length
    let done : State := { s with xl := { s.xl with resids := s.xl.resids.eraseIdx k } }
    match s.walk q.asid q.va with
    | .absent tag at_ =>
      if tag = 0 then done
      else if !frameOk frame size || s.dieLost q.die then s
      else
        let n := 2 ^ pageShift size
        let t := (fill.filter fun b => decide (b.1 < n)).foldl (fun u b => u.putPaByte (frame + b.1) b.2) (done.clearFrame frame n)
        t.putPaBytes at_ (natBytes 8 (pteMoved (leNat (s.paBytes at_ 8)) frame ||| 0x20))
    | _ => done

end Sys2Proof.Machine
end

