-- ==== Sys2Proof/Machine/Send.lean ====
section
/-! DEFINITION. Sending: routes (R292, R293), channels with drop and replay (R15-R18, R294), and the accesses that leave
a core (R182, R263, R266, R282, R334). -/
namespace Sys2Proof.Machine

/-! ## Routes (R292, R293) -/

/-- The router of a core's quad. -/
def routerOfCore (c : Nat) : Nat := 48 * (quadOf c / 54) + quadOf c % 54 % 48

/-- The router of a slice. -/
def routerOfSlice (h : Nat) : Nat := 48 * (h / 64) + h % 64 % 48

/-- The mailbox slice of a module quad (R295). -/
def mailboxOf (quad : Nat) : Nat := 64 * (quad / 54) + quad % 54

/-- A core, a router and a slice as ends of channels. -/
def coreNode (c : Nat) : Nat := c
/-- A copy engine and a matrix engine as ends of channels (R9, R15). -/
def copyNode (c : Nat) : Nat := 1024 + c
/-- See `copyNode`. -/
def matrixNode (q : Nat) : Nat := 1536 + q
/-- A router as an end of channels. -/
def routerNode (r : Nat) : Nat := 512 + r
/-- A slice as an end of channels. -/
def sliceNode (h : Nat) : Nat := 640 + h

/-- The channel from one node to another. -/
def chanId (src dst : Nat) : Nat := src * 4096 + dst
/-- The sender of a channel. -/
def chanSrc (ch : Nat) : Nat := ch / 4096
/-- The receiver of a channel. -/
def chanDst (ch : Nat) : Nat := ch % 4096

/-- One hop in dimension order from a router toward another of the same base die. -/
def gridHop (r t : Nat) : Nat :=
  let x := r % 48 % 8
  let tx := t % 48 % 8
  if x < tx then r + 1 else if tx < x then r - 1 else if r < t then r + 8 else r - 8

/-- The router after router `r` on the way to router `t`: along x, then y, over the bridge at (7,5) (R293). -/
def hopToward (r t : Nat) : Nat :=
  if r / 48 = t / 48 then gridHop r t
  else if r % 48 = 47 then 48 * (t / 48) + 47
  else gridHop r (48 * (r / 48) + 47)

/-- The node after router `r` on the way to a slice, or to the router that 128 and a number name. -/
def nextNode (r h : Nat) : Nat :=
  if 128 ≤ h then routerNode (if r = h - 128 then r else hopToward r (h - 128))
  else if r = routerOfSlice h then sliceNode h else routerNode (hopToward r (routerOfSlice h))

/-- The routers from one to another; the longest way has fewer than 32. -/
def routersOn : Nat → Nat → Nat → List Nat
  | 0, r, _ => [r]
  | n + 1, r, t => if r = t then [r] else r :: routersOn n (hopToward r t) t

/-! ## The ports of a router (R292) -/

/-- What a router's endpoint ports join to the mesh, by its number in the module. -/
inductive Endpoint where
  | quad (q : Nat)
  | slice (h : Nat)
  | lpddr (c : Nat)
  | peer (p : Nat)
  | host
  /-- the fault engine and the command processor of a compute die -/
  | die (d : Nat)
deriving DecidableEq, Repr

/-- A router's endpoints in the order of its endpoint ports. -/
def endpoints (r : Nat) : List Endpoint :=
  let b := r / 48
  let i := r % 48
  let among := fun n (at_ : Nat → Nat) => (List.range n).filter fun k => at_ k == i
  (among 54 (· % 48)).map (fun k => .quad (54 * b + k)) ++ (among 64 (· % 48)).map (fun k => .slice (64 * b + k)) ++
    (among 16 (16 + ·)).map (fun k => .lpddr (16 * b + k)) ++ (among 8 (32 + ·)).map (fun k => .peer (8 * b + k)) ++
    (if r = 40 then [.host] else []) ++ (among 6 (41 + ·)).map (fun k => .die (6 * b + k))

/-- The number of a router's ports: four endpoint ports, four grid links and, at (7,5) of each base die, the bridge (R292). -/
def portCount (r : Nat) : Nat := if r % 48 = 47 then 9 else 8

/-- The port of a router at which entries of a node arrive, in port order: its endpoints, then north, east, south and west, then the
bridge (R305). -/
def portOf (r node : Nat) : Nat :=
  let ends := fun (e : Endpoint) => ((endpoints r).findIdx? (· == e)).getD 0
  if node < 512 then ends (.quad (quadOf node))
  else if 1536 ≤ node then ends (.quad (node - 1536))
  else if 1024 ≤ node then ends (.quad (quadOf (node - 1024)))
  else if 640 ≤ node then ends (.slice (node - 640))
  else
    let q := node - 512
    if q / 48 ≠ r / 48 then 8 else if q + 8 = r then 4 else if q = r + 1 then 5 else if q = r + 8 then 6 else 7

/-! ## Channels (R15-R18) -/

/-- A channel. -/
def State.chan (s : State) (ch : Nat) : Chan := tabVal Chan.idle s.chans ch

/-- A channel changed. -/
def State.modChan (s : State) (ch : Nat) (f : Chan → Chan) : State :=
  { s with chans := tabPut Chan.idle s.chans ch (f (s.chan ch)) }

/-- The sender has entries due for resend. R17 stops a channel at 16 unacknowledged entries and says nothing of new ones while a back-off
runs or entries are due for resend: the model sends none (log 68). -/
def Chan.holding (c : Chan) : Bool := c.backoff.isSome || c.window.any fun e => e.st == .hold

/-- Entries of the sender's queue put on the wire while the window has places (R17). -/
def Chan.send (c : Chan) : Chan :=
  if c.holding then c
  else
    let n := 16 - c.window.length
    { c with window := c.window ++ (c.queue.take n).map (fun r => { req := r, st := .wire }), queue := c.queue.drop n }

/-- A request handed to a channel. -/
def State.enqueue (s : State) (ch : Nat) (r : Req) : State :=
  s.modChan ch fun c => Chan.send { c with queue := c.queue ++ [r] }

/-- The words of an operation's handle and whether it is a push. -/
def Req.clasp (r : Req) : Option (Word × Word × Bool) :=
  match r.op with
  | .push lo hi _ => some (lo, hi, true)
  | .pop lo hi => some (lo, hi, false)
  | _ => none

/-- Whether an entry in an input buffer of a router stays there: a clasp operation until it has been compared, a write of the router's
generation table (R303, R305). -/
def BufEntry.stays (e : BufEntry) (router : Nat) : Bool := (e.req.clasp.isSome && !e.met) || e.req.home == 128 + router

/-- A router moves the entry at the head of a channel's input buffer on to its next channel, where that one's window
has a place (R17, R294). -/
def State.forward (s : State) (ch : Nat) : State :=
  match (s.chan ch).buf with
  | [] => s
  | e :: rest =>
    let next := chanId (chanDst ch) (nextNode (chanDst ch - 512) e.req.home)
    let c := s.chan next
    if e.stays (chanDst ch - 512) || c.holding || decide (16 ≤ c.window.length) || !c.queue.isEmpty then s
    else (s.modChan ch fun c => { c with buf := rest }).enqueue next e.req

/-- Every router moves on what it can. -/
def State.forwardAll (s : State) : State := s.chans.foldl (fun t e => t.forward e.1) s

/-- The state of a router's power group (R447). -/
def State.routerPower (s : State) (r : Nat) : RouterPower := tabVal .on s.pw.groups (r / 48 * 6 + r % 48 / 8)

/-- The routers that a response passes on the reverse of its request's route, which ends at a slice or at a router (R293). -/
def returnWay (core src : Nat) : List Nat :=
  (routersOn 32 (routerOfCore core) (if 128 ≤ src then src - 128 else routerOfSlice src)).reverse

/-- Whether every router on the way back to a core is on: a response waits at a gated one (R447). -/
def State.wayOpen (s : State) (src core : Nat) : Bool :=
  s.pw.groups.isEmpty || (returnWay core src).all fun r => s.routerPower r == .on

/-- The entries that a router's request buffers hold, for every mesh cycle of a time that passes (R296). -/
def State.addOccupancy (s : State) (cycles : Nat) : State :=
  if cycles = 0 then s
  else s.chans.foldl (fun t e =>
    if e.2.buf.isEmpty then t
    else { t with mesh := { t.mesh with routers :=
      (tabPut Router.zero t.mesh.routers (chanDst e.1 - 512)
        (let r := tabVal Router.zero t.mesh.routers (chanDst e.1 - 512)
         { r with curOcc := r.curOcc + cycles * e.2.buf.length })) } }) s

/-- Whether a channel carries an entry of a group (R20). -/
def State.carries (s : State) (g : Nat) : Bool :=
  s.chans.any fun e => e.2.queue.any (·.grp == g) || e.2.window.any (·.req.grp == g) || e.2.buf.any (·.req.grp == g)

/-- The entries of the input port of a router at which a channel arrives: several channels may share a port (R292, R294). -/
def State.portLoad (s : State) (ch : Nat) : Nat :=
  let r := chanDst ch - 512
  s.chans.foldl (fun n e =>
    if chanDst e.1 = chanDst ch ∧ portOf r (chanSrc e.1) = portOf r (chanSrc ch) then n + e.2.buf.length else n) 0

/-- Whether a router has room for an entry of a channel: its power group is on and the input port holds fewer than 8
(R294, R447). -/
def State.routerRoom (s : State) (ch : Nat) : Bool :=
  s.routerPower (chanDst ch - 512) == .on && decide (s.portLoad ch < 8)

/-- The first entry of a window that is on the wire, if no earlier one has been refused. -/
def nextWire (w : List WinEntry) : Option (Nat × Req × Bool) :=
  match w with
  | [] => none
  | e :: rest =>
    match e.st with
    | .wire => some (0, e.req, true)
    | .acked => (nextWire rest).map fun x => (x.1 + 1, x.2.1, x.2.2)
    | .nacked | .hold => (nextWire rest).map fun x => (x.1 + 1, x.2.1, false)

/-- An entry of a window given a state. -/
def winSet (w : List WinEntry) (i : Nat) (st : WinState) : List WinEntry :=
  w.mapIdx fun j e => if j = i then { e with st := st } else e

/-- The receiver's answer to an entry of a channel (R16). -/
def State.answer (s : State) (ch i : Nat) (ok : Bool) : State :=
  s.modChan ch fun c => { c with window := winSet c.window i (if ok then .acked else .nacked) }

/-! ## Accesses that leave a core (R182, R263, R284, R286) -/

/-- The bytes of an access of width W (R68, R180). -/
def wideBytes (w : Nat) : Nat := 4 * regsOfW w

/-- The address space of a memory instruction (R179). -/
inductive Space where
  | virt | own | quad | neigh
deriving DecidableEq, Repr

/-- What a memory instruction does with its address. -/
inductive MemDo where
  | load (ty : Nat) (inv nf : Bool)
  /-- a narrow load: sign extension for TY 1 (R186) -/
  | narrow (ty : Nat) (inv nf : Bool)
  | store
  | narrowStore
  | pgreq
  /-- LD.acq -/
  | loadAcq (ty : Nat)
  /-- ST.rel -/
  | storeRel
  /-- an atomic that returns a value: opcode, ORD, tag of D -/
  | atom (op ord : Nat) (tag : Tag)
  | red (bf : Bool) (ord : Nat)
  | mwait
deriving DecidableEq, Repr

/-- Whether a form stores: of its accesses to one location only the highest-numbered fibre's is performed (R193). -/
def MemDo.stores : MemDo → Bool
  | .store | .narrowStore | .storeRel => true
  | _ => false

/-- Whether a form reads and writes a word at its home slice in one operation (R278, R280, R281). -/
def MemDo.rmw : MemDo → Bool
  | .atom _ _ _ | .red _ _ => true
  | _ => false

/-- A memory instruction as the core treats it. -/
structure MemForm where
  a : Reg
  off : Nat
  size : Nat
  space : Space
  act : MemDo
deriving DecidableEq, Repr

/-- The memory form of an instruction of R179, R278, R284 or R286. -/
def memForm : Instr → Option MemForm
  | .ld o => some ⟨o.a, 0, wideBytes o.w, .virt, .load o.ty false false⟩
  | .ldOff o => some ⟨o.a, o.off, wideBytes o.w, .virt, .load o.ty false false⟩
  | .ldInv o => some ⟨o.a, 0, wideBytes o.w, .virt, .load o.ty true false⟩
  | .ldInvOff o => some ⟨o.a, o.off, wideBytes o.w, .virt, .load o.ty true false⟩
  | .ldNf o => some ⟨o.a, 0, wideBytes o.w, .virt, .load o.ty false true⟩
  | .ldNfOff o => some ⟨o.a, o.off, wideBytes o.w, .virt, .load o.ty false true⟩
  | .ldInvNf o => some ⟨o.a, 0, wideBytes o.w, .virt, .load o.ty true true⟩
  | .ldInvNfOff o => some ⟨o.a, o.off, wideBytes o.w, .virt, .load o.ty true true⟩
  | .st o => some ⟨o.a, 0, wideBytes o.w, .virt, .store⟩
  | .stOff o => some ⟨o.a, o.off, wideBytes o.w, .virt, .store⟩
  | .ldb o => some ⟨o.a, 0, o.w + 1, .virt, .narrow o.ty false false⟩
  | .ldbOff o => some ⟨o.a, o.off, o.w + 1, .virt, .narrow o.ty false false⟩
  | .ldbInv o => some ⟨o.a, 0, o.w + 1, .virt, .narrow o.ty true false⟩
  | .ldbInvOff o => some ⟨o.a, o.off, o.w + 1, .virt, .narrow o.ty true false⟩
  | .ldbNf o => some ⟨o.a, 0, o.w + 1, .virt, .narrow o.ty false true⟩
  | .ldbNfOff o => some ⟨o.a, o.off, o.w + 1, .virt, .narrow o.ty false true⟩
  | .stb o => some ⟨o.a, 0, o.w + 1, .virt, .narrowStore⟩
  | .stbOff o => some ⟨o.a, o.off, o.w + 1, .virt, .narrowStore⟩
  | .pgreq o => some ⟨o.a, 0, 4, .virt, .pgreq⟩
  | .pgreqOff o => some ⟨o.a, o.off, 4, .virt, .pgreq⟩
  | .lds o => some ⟨o.a, 0, wideBytes o.w, .own, .load o.ty false false⟩
  | .ldsOff o => some ⟨o.a, o.off, wideBytes o.w, .own, .load o.ty false false⟩
  | .sts o => some ⟨o.a, 0, wideBytes o.w, .own, .store⟩
  | .stsOff o => some ⟨o.a, o.off, wideBytes o.w, .own, .store⟩
  | .ldq o => some ⟨o.a, 0, wideBytes o.w, .quad, .load o.ty false false⟩
  | .ldqOff o => some ⟨o.a, o.off, wideBytes o.w, .quad, .load o.ty false false⟩
  | .stq o => some ⟨o.a, 0, wideBytes o.w, .quad, .store⟩
  | .stqOff o => some ⟨o.a, o.off, wideBytes o.w, .quad, .store⟩
  | .ldnw o => some ⟨o.a, 0, wideBytes o.w, .neigh, .load o.ty false false⟩
  | .ldnwOff o => some ⟨o.a, o.off, wideBytes o.w, .neigh, .load o.ty false false⟩
  | .stnw o => some ⟨o.a, 0, wideBytes o.w, .neigh, .store⟩
  | .stnwOff o => some ⟨o.a, o.off, wideBytes o.w, .neigh, .store⟩
  | .atadd o => some ⟨o.a, 0, 4, .virt, .atom 0xC0 o.ord .b32⟩
  | .atminI32 o => some ⟨o.a, 0, 4, .virt, .atom 0xC1 o.ord .i32⟩
  | .atminN32 o => some ⟨o.a, 0, 4, .virt, .atom 0xC2 o.ord .n32⟩
  | .atmaxI32 o => some ⟨o.a, 0, 4, .virt, .atom 0xC3 o.ord .i32⟩
  | .atmaxN32 o => some ⟨o.a, 0, 4, .virt, .atom 0xC4 o.ord .n32⟩
  | .atand o => some ⟨o.a, 0, 4, .virt, .atom 0xC5 o.ord .b32⟩
  | .ator o => some ⟨o.a, 0, 4, .virt, .atom 0xC6 o.ord .b32⟩
  | .atxor o => some ⟨o.a, 0, 4, .virt, .atom 0xC7 o.ord .b32⟩
  | .atxchg o => some ⟨o.a, 0, 4, .virt, .atom 0xC8 o.ord .b32⟩
  | .atcas o => some ⟨o.a, 0, 4, .virt, .atom 0xC9 o.ord .b32⟩
  | .ataddB64 o => some ⟨o.a, 0, 8, .virt, .atom 0xCA o.ord .b32⟩
  | .atcasB64 o => some ⟨o.a, 0, 8, .virt, .atom 0xCB o.ord .b32⟩
  | .redaddF32 o => some ⟨o.a, 0, 4, .virt, .red false o.ord⟩
  | .redaddBf16x2 o => some ⟨o.a, 0, 4, .virt, .red true o.ord⟩
  | .ldAcq o => some ⟨o.a, 0, wideBytes o.w, .virt, .loadAcq o.ty⟩
  | .ldAcqOff o => some ⟨o.a, o.off, wideBytes o.w, .virt, .loadAcq o.ty⟩
  | .stRel o => some ⟨o.a, 0, wideBytes o.w, .virt, .storeRel⟩
  | .stRelOff o => some ⟨o.a, o.off, wideBytes o.w, .virt, .storeRel⟩
  | .mwait o => some ⟨o.a, 0, 4, .virt, .mwait⟩
  | _ => none

/-- Whether the access carries an acquire: later accesses of the fibre wait for it (R282, R284). -/
def MemDo.acquires : MemDo → Bool
  | .loadAcq _ | .mwait => true
  | .atom _ ord _ => ord.testBit 0
  | _ => false

/-- Whether the access leaves only after the fibre's earlier accesses have completed (R266, R282, R284). -/
def MemDo.releases : MemDo → Bool
  | .storeRel => true
  | .atom _ ord _ => ord.testBit 1
  | .red _ ord => ord.testBit 1
  | _ => false

/-- Whether the access is synchronising: never served from the L1 (R263, R267). -/
def MemDo.synchronises : MemDo → Bool
  | .loadAcq _ | .storeRel | .atom _ _ _ | .red _ _ | .mwait => true
  | _ => false

/-- Whether an instruction is an access whose fibre's release points wait for (R266): every memory, object and copy-free
access that takes a load or store entry. -/
def accessSlot (slot : Nat) : Bool := decide (slot < 32)

/-- The instruction's write to memory happens once for a mirror pair (R53). -/
def suppressedInTwin (i : Instr) : Bool :=
  match memForm i with
  | some f =>
    match f.act, f.space with
    | .store, .own => false
    | .store, _ | .narrowStore, _ | .storeRel, _ | .atom _ _ _, _ | .red _ _, _ => true
    | _, _ => false
  | none => match opcodeOf i with
    | 0xB0 | 0xB1 | 0xB2 | 0xB8 | 0xD2 | 0xD3 | 0xD4 | 0xD5 => true
    | _ => false

/-- The request that one access makes of its home slice (R260, R278, R281, R284, R286). -/
def ReqOp.ofForm (f : MemForm) (data : List Word) (level : Nat) : ReqOp :=
  let w := fun i => (data.getD i 0).toNat
  match f.act with
  | .load _ inv nf | .narrow _ inv nf => .load inv nf
  | .loadAcq _ => .loadAcq
  | .store => .store ((lineBytes data).take f.size) false
  | .narrowStore => .store ((lineBytes data).take f.size) false
  | .storeRel => .store ((lineBytes data).take f.size) true
  | .atom op _ _ => if f.size = 8 then .atom op (w 0 + w 1 * 2 ^ 32) (w 2 + w 3 * 2 ^ 32) else .atom op (w 0) (w 1)
  | .red bf _ => .red bf (data.getD 0 0) level
  | .mwait => .mwait (data.getD 0 0)
  | .pgreq => .load false false

/-- Device registers (R377): the first of their addresses and how many bytes they span. -/
def devBase : Nat := 0xFFC0000000000000

/-- Whether an address is one of the device registers' (R377, R417). -/
def isDevice (va : Nat) : Bool := decide (devBase ≤ va) && decide (va < devBase + 0x10000)

/-- The tags and values that a load's bytes give its registers (R103, R180, R186). -/
def loadValues (act : MemDo) (bs : List Byte) : List Tagged :=
  match act with
  | .load ty _ _ | .loadAcq ty =>
    (lineWords bs).mapIdx fun i w =>
      ⟨w, if ty = 8 then (if i % 2 = 0 then .f64lo else .f64hi) else (tagOf ty).getD .b32⟩
  | .narrow ty _ _ =>
    let n := leNat bs
    let v := if ty = 1 then wordOf (sx n (8 * bs.length)) else BitVec.ofNat 32 n
    [⟨v, (tagOf ty).getD .b32⟩]
  | .atom _ _ t => (lineWords bs).map fun w => ⟨w, t⟩
  | _ => (lineWords bs).map fun w => ⟨w, .b32⟩

/-- The L1 line that serves a load, if all of its words are VALID there; a plain load of an INV-marked line misses
(R263, R265). -/
def Core.l1Hit (C : Core) (key va size : Nat) (inv : Bool) : Option L1Line :=
  match tabGet C.l1 key with
  | some l => if (!l.inv || inv) && (touched va size).all fun w => l.valid.testBit w then some l else none
  | none => none

/-- PGREQ takes an entry and is no access to memory: no release waits for it (R267, R351). -/
def isPgreq (i : Instr) : Bool := match memForm i with | some f => f.act == .pgreq | none => false

/-- The older accesses of the fibre in load and store entries that still wait (R266, R334). -/
def Wave.olderWaits (W : Wave) (age fib : Nat) : List (Entry × Acc) :=
  W.sb.flatMap fun e =>
    if accessSlot e.1 && decide (e.2.age < age) && !isPgreq e.2.instr then
      (e.2.accs.filter fun a => a.fib == fib && a.waits).map fun a => (e.2, a)
    else []

/-- Whether an older access of the fibre to a word that a load touches still waits: what the L1 holds of the word may come from before
an older load, or from a store that is yet to fault (R268, R334, log 64). -/
def Wave.olderOn (W : Wave) (age fib va size : Nat) : Bool :=
  W.sb.any fun e => accessSlot e.1 && decide (e.2.age < age) && match memForm e.2.instr with
    | some f => e.2.accs.any fun a => a.fib == fib && a.waits && a.va.toNat / 64 == va / 64 &&
        (touched a.va.toNat f.size).any fun w => (touched va size).contains w
    | none => false

/-- Whether two accesses are synchronising ones to a common word of virtual memory (R269). -/
def sameWord (f : MemForm) (a : Acc) (o : Entry × Acc) : Bool :=
  f.act.synchronises && match memForm o.1.instr with
    | some m => m.act.synchronises && o.2.va.toNat / 64 == a.va.toNat / 64 &&
        (touched o.2.va.toNat m.size).any (touched a.va.toNat f.size).contains
    | none => false

/-- Whether an unsent access may leave the core: a release waits for every earlier access of its fibre, a synchronising access for an
earlier one to the same word, and no access overtakes an earlier one of its fibre that is unsent or faulted on the same line, nor one
to a device register another such (R266, R269, R282, R334, R377). -/
def Wave.maySend (W : Wave) (e : Entry) (a : Acc) : Bool :=
  let older := W.olderWaits e.age a.fib
  (match memForm e.instr with
   | some f => (!f.act.releases || older.isEmpty) && !(older.any (sameWord f a))
   | none => true) &&
  older.all fun o => o.2.st == .sent ||
    (o.2.va.toNat / 64 != a.va.toNat / 64 && !(isDevice o.2.va.toNat && isDevice a.va.toNat))

/-- Words of the issuing core's L1 that a store of its own writes, if the line is present: a word is written whole, or
in part where it is VALID (R263, R265, log 10). -/
def Core.l1Store (C : Core) (key va : Nat) (bs : List Byte) : Core :=
  { C with l1 := tabMod C.l1 key fun l =>
      { l with words := linePut l.words (va % 64) bs,
               valid := if bs.length < 4 then l.valid else (touched va bs.length).foldl (fun v w => v ||| 2 ^ w) l.valid } }

/-- The stores and synchronising accesses of a core that are on their way to a line of virtual memory: address and size. -/
def State.writesOnWay (s : State) (core asid line : Nat) : List (Nat × Nat) :=
  s.groups.flatMap fun G =>
    if G.2.core? = some core ∧ G.2.asid = asid then
      G.2.waves.flatMap fun W => W.2.sb.flatMap fun e => match memForm e.2.instr with
        | some f =>
          if accessSlot e.1 && f.space == .virt && (f.act.stores || f.act.synchronises) then
            e.2.accs.filterMap fun a =>
              if a.st == .sent && a.va.toNat % 2 ^ 56 / 64 == line then some (a.va.toNat, f.size) else none
          else []
        | none => []
    else []

/-- The words of a line that no load sent now may take into the core's L1: an access on its way may yet write them, so that the load may
bring what stood there before it (R265, R268, log 64). -/
def State.wordsOnWay (s : State) (core asid line : Nat) : Nat :=
  (s.writesOnWay core asid line).foldl (fun m x => (touched x.1 x.2).foldl (fun m w => m ||| 2 ^ w) m) 0

/-- A message put on its way to a core. -/
def State.post (s : State) (m : Msg) : State := { s with msgs := s.msgs ++ [m] }

/-- The response to an access of a wave. -/
def respond (r : Req) (b : MsgBody) : Msg :=
  { core := r.core, grp := r.grp, wave := r.wave, slot := r.slot, fib := r.fib, asid := r.asid,
    line := r.va % 2 ^ 56 / 64, body := b }

end Sys2Proof.Machine
end

