-- ==== Sys2Proof/Machine/ScrOps.lean ====
section
/-! DEFINITION. Scratchpad words (R29, R190) and the parts of a core's partition that a quad window reaches (R191). -/
namespace Sys2Proof.Machine

/-- Scratchpad bytes rounded up to 1 KiB. -/
def Header.scr (h : Header) : Nat := (h.scratch + 1023) / 1024 * 1024

/-- The resident group of the issuing group's launch that holds `size` bytes at an offset of a core's scratchpad partition
(R191). -/
def State.quadHolder (s : State) (g : Nat) (G : Group) (core off size : Nat) : Option (Nat × Group) :=
  (s.residents core).find? fun e =>
    (e.1 == g || (G.launch != 0 && e.2.launch == G.launch)) && decide (e.2.scrBase ≤ off) &&
      decide (off + size ≤ e.2.scrBase + e.2.hdr.scr)

/-- The core that a quad-window address names. -/
def quadTarget (G : Group) (va : Nat) : Nat := coreInQuad (quadOf G.coreNo) (bits va 21 2)

/-- Words of a group's scratchpad. -/
def Group.scrWords (G : Group) (off n : Nat) : List Word := (List.range n).map fun i => tabVal 0 G.scratch (off / 4 + i)

/-- Words written into a group's scratchpad. -/
def Group.putScr (G : Group) (off : Nat) (ws : List Word) : Group :=
  { G with scratch := (ws.mapIdx fun i w => (i, w)).foldl (fun t e => tabPut 0 t (off / 4 + e.1) e.2) G.scratch }

/-- The word at an offset of a core's scratchpad partition, of the group that holds the byte (R191, R232). -/
def State.partWord (s : State) (core off : Nat) : Option Word :=
  ((s.residents core).find? fun e => decide (e.2.scrBase ≤ off) && decide (off + 4 ≤ e.2.scrBase + e.2.hdr.scr)).map
    fun e => tabVal 0 e.2.scratch ((off - e.2.scrBase) / 4)

end Sys2Proof.Machine
end

