-- ==== Sys2Proof/Machine/Pump.lean ====
section
/-! DEFINITION. Device registers as firmware reads them (R296, R377-R379, R417, R422), and the core's sending of the
accesses that are due (R182, R263, R266, R308, R334, R362). -/
namespace Sys2Proof.Machine

/-! ## Device registers -/

/-- A router's counters. -/
def State.router (s : State) (r : Nat) : Router := tabVal Router.zero s.mesh.routers r

/-- A base die's thresholds and allowance. -/
def State.baseDie (s : State) (b : Nat) : BaseDie := tabVal BaseDie.zero s.mesh.baseDies b

/-- A swap engine. -/
def State.swap (s : State) (e : Nat) : Swap := tabVal Swap.zero s.xl.swaps e

/-- HARVEST of a die (R378); FWSITE of a die without a good site for a firmware core reads 0 (log 75). -/
def State.harvestWord (s : State) (d : Nat) : Nat :=
  s.fusedOf d + tabVal 0 s.cp.mxbad d * 2 ^ 36 + (s.fwSite d).getD 0 * 2 ^ 48 + (if s.dieLost d then 2 ^ 54 else 0) +
    (if s.cp.spareDies.contains d then 2 ^ 55 else 0) + (s.workCores d).length * 2 ^ 56

/-- LPT of a die's logical core (R379). -/
def State.lptWord (s : State) (d k : Nat) : Nat :=
  match (s.workCores d)[k]? with
  | some c => c % 36 + 64
  | none => 0

/-- MCONG of a router (R296). -/
def Router.word (r : Router) : Nat := r.nacks + r.occ * 2 ^ 16 + r.clasps * 2 ^ 32 + r.dwell * 2 ^ 48

/-- SWSTAT of a swap engine (R422). -/
def State.swapStatus (s : State) (x : Swap) : Nat := x.state + s.swapLines x % 2 ^ 24 * 2 ^ 8 + x.code * 2 ^ 32

/-- A device register read by a core at an offset; none where no register stands (R377, R417, R422, R442). -/
def State.devRead (s : State) (core off : Nat) : Option Nat :=
  if off % 8 ≠ 0 then none
  else if off < 0x60 then some (s.harvestWord (off / 8))
  else if 0x1000 ≤ off ∧ off < 0x1000 + 0x200 * 12 ∧ off % 0x200 < 8 * 36 then
    some (s.lptWord ((off - 0x1000) / 0x200) (off % 0x200 / 8))
  else if off = 0x3000 then some s.cp.spares
  else if 0x3008 ≤ off ∧ off < 0x3048 then some (tabVal 7 s.cp.slotMin ((off - 0x3008) / 8))
  else if off = 0x3100 then some (if (s.core core).fwReady then 1 else 0)
  else if 0x4000 ≤ off ∧ off < 0x4300 then some (s.router ((off - 0x4000) / 8)).word
  else if 0x5000 ≤ off ∧ off < 0x5010 then
    some ((s.baseDie ((off - 0x5000) / 8)).nthr + (s.baseDie ((off - 0x5000) / 8)).othr * 2 ^ 16)
  else if off = 0x6000 then some s.xl.tbase
  else if off = 0x6008 then some 0
  else if off = 0x6010 then some (if s.xl.inval.isSome then 1 else 0)
  else if 0x7000 ≤ off ∧ off < 0x7800 then
    let x := s.swap ((off - 0x7000) / 0x40)
    match off % 0x40 with
    | 0x00 => some x.fa
    | 0x08 => some x.fb
    | 0x10 => some x.pa
    | 0x18 => some x.pb
    | 0x20 => some 0
    | 0x28 => some (s.swapStatus x)
    | _ => none
  else if 0x8000 ≤ off ∧ off < 0x10000 then some (tabVal 0 s.xl.privhw ((off - 0x8000) / 8))
  else none

/-- Whether an instruction reaches the device registers: LD.b64 and ST.b64 (R377). -/
def deviceForm (f : MemForm) : Bool :=
  f.size == 8 && match f.act with
    | .load ty inv nf => ty == 0 && !inv && !nf
    | .store => true
    | _ => false

/-! ## Sending -/

/-- The request of an access. -/
def reqOf (core g w slot home : Nat) (G : Group) (a : Acc) (size : Nat) (op : ReqOp) : Req :=
  { core := core, grp := g, wave := w, slot := slot, fib := a.fib, ctx := G.ctx, asid := G.asid, va := a.va.toNat,
    size := size, home := home, op := op }

/-- A request handed to the core's channel. -/
def State.inject (s : State) (r : Req) : State :=
  s.enqueue (chanId (coreNode r.core) (routerNode (routerOfCore r.core))) r

/-- An access marked as sent. -/
def State.markSent (s : State) (g w slot f : Nat) : State :=
  s.modWave g w fun W => W.modAcc slot f fun a => { a with st := .sent }

/-- An access to a device register: a load reads it once the fibre's earlier stores to device registers have taken
effect, a store waits to take effect in its turn (R377). An offset at which no register stands raises the same late PROTECTION (log 75). -/
def State.sendDevice (s : State) (core g w slot : Nat) (G : Group) (a : Acc) (f : MemForm) : State :=
  let off := a.va.toNat - devBase
  let r := reqOf core g w slot 0 G a f.size (.load false false)
  if !G.firmware || !deviceForm f || (s.devRead core off).isNone then
    (s.markSent g w slot a.fib).post (respond r (.fault 0x11))
  else if f.act == .store then
    { (s.markSent g w slot a.fib) with
      host := { s.host with devq := s.host.devq ++ [{ core := core, grp := g, wave := w, slot := slot, fib := a.fib,
                                                      off := off, val := leNat (lineBytes a.data) }] } }
  else if s.host.devq.any fun d => d.grp == g && d.wave == w && d.fib == a.fib then s
  else (s.markSent g w slot a.fib).post (respond r (.data (natBytes 8 ((s.devRead core off).getD 0)) none false))

/-- Bytes of the active image's data area at an address of facet context (R362). -/
def State.facetData (s : State) (va size : Nat) : Option (List Byte) :=
  let img := s.facet.active
  let lo := facetOrigin + imgField img 0x20 4
  if lo ≤ va ∧ va + size ≤ lo + imgField img 0x24 4 then some ((img.drop (va - facetOrigin)).take size) else none

/-- An access of firmware mode to the running Cuset image: loads read it, stores write its data area (R442, log 24). -/
def State.sendImage (s : State) (core g w slot : Nat) (G : Group) (a : Acc) (f : MemForm) : State :=
  let r := reqOf core g w slot 0 G a f.size (.load false false)
  let s1 := s.markSent g w slot a.fib
  match f.act with
  | .load _ _ _ | .narrow _ _ _ | .loadAcq _ => s1.post (respond r (.data ((s.fwBytes a.va.toNat f.size).getD []) none false))
  | .store | .narrowStore | .storeRel =>
    match s1.fwPut a.va.toNat ((lineBytes a.data).take f.size) with
    | some t => t.post (respond r (.ack false))
    | none => s1.post (respond r (.fault 0x11))
  | _ => s1.post (respond r (.fault 0x11))

/-- An access of an entry of this age to virtual memory leaves the core, or is served by the L1 (R263). -/
def State.sendVirt (s : State) (core g w slot age : Nat) (G : Group) (W : Wave) (a : Acc) (f : MemForm) : State :=
  let va := a.va.toNat
  let key := lineKey G.asid va
  let line := va % 2 ^ 56 / 64
  let home := vaHome G.asid va
  let op := ReqOp.ofForm f a.data G.hdr.level
  let r := reqOf core g w slot home G a f.size op
  let s1 := s.markSent g w slot a.fib
  let drop := fun (t : State) => (touched va f.size).foldl (fun u i => u.skipFill core G.asid line i) t
  match f.act with
  | .pgreq => { s1 with xl := { s1.xl with pgreqs := s1.xl.pgreqs ++ [⟨r, false⟩] } }
  | .load _ inv _ | .narrow _ inv _ =>
    match if W.olderOn age a.fib va f.size then none else (s.core core).l1Hit key va f.size inv with
    | some l => s1.post (respond r (.data (lineGet l.words (va % 64) f.size) none inv))
    | none =>
      let skip := s.wordsOnWay core G.asid line
      (s1.modWave g w fun W => W.modAcc slot a.fib fun a => { a with skip := a.skip ||| skip }).inject r
  | .store | .narrowStore =>
    ((drop s1).modCore core fun C => C.l1Store key va ((lineBytes a.data).take f.size)).inject r
  | _ => ((drop s1).modCore core fun C => C.l1DropAll key (touched va f.size)).inject r

/-- The group of a neighbourhood launch in a window slot (R192, R393). -/
def State.groupInSlot (s : State) (launch n : Nat) : Option (Nat × Group) :=
  s.groups.find? fun e => e.2.launch == launch && e.2.nslot == n && e.2.place != .ended

/-- A neighbourhood-window access to another slot goes to the mailbox slice of the target's quad (R295); one to a group that has
ended goes to that of its own quad (log 23). -/
def State.sendNeigh (s : State) (core g w slot : Nat) (G : Group) (a : Acc) (f : MemForm) : State :=
  let to_ := s.groupInSlot G.launch (bits a.va.toNat 24 5)
  let t := match to_ with | some e => e.1 | none => 0
  let home := mailboxOf (quadOf (match to_ with | some e => e.2.coreNo | none => G.coreNo))
  let op := match f.act with
    | .store => .nwStore t ((lineBytes a.data).take f.size)
    | _ => .nwLoad t
  (s.markSent g w slot a.fib).inject (reqOf core g w slot home G a f.size op)

/-! ## Accesses at rest, and settlement (R53, R286, R312, R334, R336) -/

/-- Whether an access waits as an armed monitor (R286). -/
def State.armed (s : State) (g w slot f : Nat) : Bool :=
  s.slices.any fun e => e.2.monitors.any fun m => m.2.grp == g && m.2.wave == w && m.2.slot == slot && m.2.fib == f

/-- The access of a primary that answers a twin's access: that of the entry of the same age; a group that is no twin answers for
itself (R53). -/
def State.answerer (s : State) (g w slot : Nat) : Nat × Nat :=
  match s.group g, (s.wave g w).bind fun W => tabGet W.sb slot with
  | some G, some e => match G.twin with
    | some (p, true) => (p, (((s.wave p w).bind fun V => V.sb.find? fun x => x.2.age == e.age).map (·.1)).getD slot)
    | _ => (g, slot)
  | _, _ => (g, slot)

/-- Whether an access is a clasp operation that is parked alone, or a twin's that waits for the primary's: its entry stays held and the
wave goes on (R53, R312). -/
def State.claspParked (s : State) (g w slot f : Nat) : Bool :=
  let a := s.answerer g w slot
  let mine := fun (x : Subject) => match x.of with
    | .clasp r => r.grp == a.1 && r.wave == w && r.slot == a.2 && r.fib == f
    | _ => false
  s.eng.faults.any fun e => (e.2.recs.any fun r => mine r.2.subj) || e.2.detected.any mine || e.2.heldSubs.any mine

/-- Whether a twin's access waits for one that its primary makes for both and that is not under way: it is settled with the primary's
(R53, R341). -/
def State.twinRests (s : State) (g w slot f : Nat) : Bool :=
  let a := s.answerer g w slot
  a.1 != g && (match (s.wave g w).bind fun W => tabGet W.sb slot with | some e => suppressedInTwin e.instr | none => false) &&
    match (s.wave a.1 w).bind fun V => V.acc a.2 f with | some b => b.st != .sent | none => true

/-- Whether an access is sent and not to be awaited: an armed monitor, a parked clasp operation, or a twin's whose primary's has come to
rest. -/
def State.rests (s : State) (g w slot f : Nat) : Bool := s.armed g w slot f || s.claspParked g w slot f || s.twinRests g w slot f

/-- Whether a wave's unsettled entries that are older than an entry have been settled (R336). -/
def State.settledBefore (s : State) (g w : Nat) (W : Wave) (age : Nat) : Bool :=
  !W.settling || !(W.sb.any fun e => (accessSlot e.1 || e.1 == 48) && decide (e.2.age < age) &&
    e.2.accs.any fun a => a.waits && !s.rests g w e.1 a.fib)

/-- Whether an access has faulted, or been returned, or such an answer is on its way to it (R334). -/
def State.hasFailed (s : State) (g w slot : Nat) (a : Acc) : Bool :=
  (match a.st with | .faulted _ | .returned => true | _ => false) ||
  s.msgs.any fun m => m.grp == g && m.wave == w && m.slot == slot && m.fib == a.fib &&
    (match m.body with | .fault _ | .returned => true | _ => false)

/-- An access completes, and with it the twin's, where the pair makes it once (R53). -/
def State.completeAcc (s : State) (g w slot f : Nat) (vals : List Tagged) (p : Option Bool) : State :=
  let s1 := s.modWave g w fun W => W.complete slot f vals p
  match (s.group g).bind (·.twin), (s.wave g w).bind fun W => tabGet W.sb slot with
  | some (t, false), some e =>
    if suppressedInTwin e.instr then
      s1.modWave t w fun V => match V.sb.find? fun x => x.2.age == e.age && x.1 / 16 == slot / 16 with
        | some x => V.complete x.1 f vals p
        | none => V
    else s1
  | _, _ => s1

/-! ## The scratchpad and the windows (R190-R194) -/

/-- The group whose scratchpad an access reaches and the byte in it: its own, a quad window's, its own slot of the
neighbourhood window; none for another slot, reached through a slice (R190-R192). -/
def State.scrTarget (s : State) (g : Nat) (G : Group) (m : MemForm) (va : Nat) : Option (Nat × Nat) :=
  match m.space with
  | .virt => none
  | .own => some (g, va)
  | .quad => (s.quadHolder g G (quadTarget G va) (bits va 0 21) m.size).map fun e => (e.1, bits va 0 21 - e.2.scrBase)
  | .neigh => if bits va 24 5 = G.nslot then some (g, bits va 0 21) else none

/-- Whether the twin of a pair makes no access of its own: it receives the primary's response (R53). A neighbourhood store
to the group's own slot is a store to its own scratchpad. -/
def twinSilent (i : Instr) (G : Group) : Bool := suppressedInTwin i && match G.twin with | some (_, true) => true | _ => false

/-- The group and the byte of its scratchpad that a scratchpad or window access reaches, directly or through a mailbox slice (R190-R192,
R295). -/
def State.scrPlace (s : State) (g : Nat) (G : Group) (m : MemForm) (va : Nat) : Option (Nat × Nat) :=
  match s.scrTarget g G m va, m.space with
  | some x, _ => some x
  | none, .neigh => (s.groupInSlot G.launch (bits va 24 5)).map fun e => (e.1, bits va 0 21)
  | none, _ => none

/-- Whether an older scratchpad or window access of the fibre, to bytes that this one reaches, has not been performed: it is still to
leave, travels through a mailbox, or has met an error. The accesses of one fibre to one location take effect in its program order (R194,
R334). -/
def State.windowAhead (s : State) (g w : Nat) (G : Group) (W : Wave) (age : Nat) (m : MemForm) (a : Acc) : Bool :=
  match s.scrPlace g G m a.va.toNat with
  | none => false
  | some (t, off) => W.sb.any fun e => accessSlot e.1 && decide (e.2.age < age) && match memForm e.2.instr with
    | some f => e.2.accs.any fun o => o.fib == a.fib && o.waits &&
        (o.st != .sent || (s.scrTarget g G f o.va.toNat).isNone || s.hasFailed g w e.1 o) &&
        match s.scrPlace g G f o.va.toNat with
        | some (u, q) => u == t && decide (q < off + m.size) && decide (off < q + f.size)
        | none => false
    | none => false

/-- A window or scratchpad access performed, at its issue if no older one of the fibre is still to be performed (R194): a store writes
its words, a load posts what it read; an access that travels through a slice waits to be sent. A quad-window access meets the
partition's port in the order of issue (R194 leaves the order open, log 67). -/
def State.scrAccess (s : State) (i : Instr) (g w slot age : Nat) (G : Group) (W : Wave) (m : MemForm) (a : Acc) : State :=
  match s.scrTarget g G m a.va.toNat with
  | none => s
  | some (t, off) =>
    if s.windowAhead g w G W age m a then s
    else if m.act.stores then
      let quiet := twinSilent i G && t != g
      let s1 := if quiet then s else s.modGroup t fun T => T.putScr off a.data
      s1.modWave g w fun W => W.modAcc slot a.fib fun a => { a with st := .done }
    else
      let T := (s.group t).getD G
      let r := reqOf G.coreNo g w slot 0 G a m.size (.load false false)
      (s.markSent g w slot a.fib).post (respond r (.data (lineBytes (T.scrWords off (m.size / 4))) none false))

/-- The handle of an object operation (R301). -/
def handleHome (lo : Word) : Nat := bits lo.toNat 0 7

/-- SLOT of a handle (R301). -/
def handleSlot (hi : Word) : Nat := bits hi.toNat 16 6

/-- Whether two handles, as pairs, name one entry of one slice's object table (R301). -/
def sameObject (a b : Addr) : Bool :=
  handleHome (loWord a) == handleHome (loWord b) && handleSlot (hiWord a) == handleSlot (hiWord b)

/-- An object operation may leave: those of one instruction leave in ascending fibre number, and each registration after the one before
has completed; pushes, registrations and drops wait for the fibre's earlier accesses, and operations of one fibre on one object follow
one another (R306, R308, R314, R316). -/
def Wave.maySendObj (W : Wave) (e : Entry) (a : Acc) : Bool :=
  let older := W.olderWaits e.age a.fib
  let op := opcodeOf e.instr
  (e.accs.all fun b => decide (a.fib ≤ b.fib) || (if op = 0xD2 then !b.waits else b.st != .unsent)) &&
  if op = 0xD5 then older.all fun o => !([0xD4, 0xD5].contains (opcodeOf o.1.instr)) || !sameObject o.2.va a.va
  else older.isEmpty

/-- An object operation leaves the core (R303, R304, R310, R314). -/
def State.sendObj (s : State) (core g w slot : Nat) (G : Group) (e : Entry) (a : Acc) : State :=
  let s1 := s.markSent g w slot a.fib
  let lo := loWord a.va
  let hi := hiWord a.va
  match opcodeOf e.instr with
  | 0xD4 => s1.inject (reqOf core g w slot (handleHome lo) G a 0 (.push lo hi (a.data.getD 0 0)))
  | 0xD5 => s1.inject (reqOf core g w slot (handleHome lo) G a 0 (.pop lo hi))
  | 0xD2 => s1.inject (reqOf core g w slot (vaHome G.asid a.va.toNat) G a 0 (.objreg (a.data.getD 0 0)))
  | _ => s1.inject (reqOf core g w slot (handleHome lo) G a 0 (.objdrop lo hi))

/-- Whether an entry's accesses are object operations. -/
def objectOp (i : Instr) : Bool := [0xD2, 0xD3, 0xD4, 0xD5].contains (opcodeOf i)

/-- Whether a lower fibre's operation of the same atomic instruction, to the same home slice, is still to leave: they are applied there
in ascending fibre number (R280). -/
def rmwAhead (e : Entry) (a : Acc) (f : MemForm) (asid : Nat) : Bool :=
  f.act.rmw && e.accs.any fun b => decide (b.fib < a.fib) && b.st == .unsent && vaHome asid b.va.toNat == vaHome asid a.va.toNat

/-- One access of a running wave sent, if it is due. -/
def State.sendOne (s : State) (g w slot fib : Nat) : State :=
  match s.group g, s.wave g w with
  | some G, some W =>
    match tabGet W.sb slot, W.acc slot fib, G.core? with
    | some e, some a, some core =>
      if a.st != .unsent || !s.settledBefore g w W e.age then s
      else match memForm e.instr with
        | some f =>
          if !W.maySend e a || rmwAhead e a f G.asid then s
          else if (s.scrTarget g G f a.va.toNat).isSome then s.scrAccess e.instr g w slot e.age G W f a
          else if f.space == .neigh && s.windowAhead g w G W e.age f a then s
          else if f.act == .pgreq then s.sendVirt core g w slot e.age G W a f
          else if f.space == .neigh then s.sendNeigh core g w slot G a f
          else if a.inFacet && (s.facetData a.va.toNat f.size).isSome then
            let r := reqOf core g w slot 0 G a f.size (.load false false)
            (s.markSent g w slot fib).post (respond r (match f.act, s.facetData a.va.toNat f.size with
              | .load _ _ _, some bs | .narrow _ _ _, some bs | .loadAcq _, some bs => .data bs none false
              | _, _ => .fault 0x11))
          else if G.firmware && (s.fwBytes a.va.toNat f.size).isSome then s.sendImage core g w slot G a f
          else if isDevice a.va.toNat then s.sendDevice core g w slot G a f
          else s.sendVirt core g w slot e.age G W a f
        | none =>
          if objectOp e.instr && W.maySendObj e a then s.sendObj core g w slot G e a else s
    | _, _, _ => s
  | _, _ => s

/-- Whether a wave's core sends its accesses: it runs and its group is resident and not being saved; a wave with fibres
in facet context is stopped only after they return (R334, R338, R365). -/
def sends (G : Group) (W : Wave) : Bool :=
  W.run == .running && match G.place with
    | .core _ => true
    | .saving _ => W.live.any fun f => (W.fib f).facet.isSome
    | _ => false

/-- The accesses of a wave that are due leave its core, oldest first, in ascending fibre number (R267, R280). -/
def State.pumpWave (s : State) (g w : Nat) : State :=
  match s.group g, s.wave g w with
  | some G, some W =>
    if sends G W && W.sb.any fun e => e.2.accs.any fun a => a.st == .unsent then
      W.byAge.foldl (fun t e => e.2.accs.foldl (fun u a => if a.st == .unsent then u.sendOne g w e.1 a.fib else u) t) s
    else s
  | _, _ => s

/-- Every core sends what is due. -/
def State.pump (s : State) : State :=
  s.groups.foldl (fun t G => G.2.waves.foldl (fun u W => u.pumpWave G.1 W.1) t) s

end Sys2Proof.Machine
end

