-- ==== Sys2Proof/Machine/HostOps.lean ====
section
/-! DEFINITION. What the device sends to the host and to peers: event records (R430), MSI-X messages (R397, R427),
transfer records on a port (R431-R434). -/
namespace Sys2Proof.Machine

/-! ## The host's memory, event rings, messages -/

/-- The byte of host memory at an address (log 5). -/
def State.hostByte (s : State) (a : Nat) : Byte := memByte s.host.hostMem a

/-- Bytes of host memory. -/
def State.hostBytes (s : State) (a n : Nat) : List Byte := memBytes s.host.hostMem a n

/-- Bytes written to host memory by the device. -/
def State.hostPut (s : State) (a : Nat) (bs : List Byte) : State :=
  { s with host := { s.host with hostMem := memPutBytes s.host.hostMem a bs } }

/-- An MSI-X message sent on a function's vector. -/
def State.sendMsix (s : State) (fn vec : Nat) : State := { s with cp := { s.cp with msix := (fn, vec) :: s.cp.msix } }

/-- An event ring of a die. -/
def State.ring (s : State) (d : Nat) : EvRing := tabVal EvRing.zero s.host.rings d

/-- An event ring changed. -/
def State.modRing (s : State) (d : Nat) (f : EvRing → EvRing) : State :=
  { s with host := { s.host with rings := tabPut EvRing.zero s.host.rings d (f (s.ring d)) } }

/-- The 32 bytes of an event record (R430). -/
def eventBytes (time cause die ctx rid desc pkt : Nat) : List Byte :=
  natBytes 8 time ++ natBytes 1 cause ++ natBytes 1 die ++ natBytes 2 ctx ++ natBytes 4 rid ++ natBytes 8 desc ++
    natBytes 8 pkt

/-- An event logged: its record goes to the die's ring and the die's management vector is sent, or, with the ring full,
the record is dropped and counted (R430, R427). -/
def State.logEvent (s : State) (die cause ctx rid desc pkt : Nat) : State :=
  let r := s.ring die
  let n := 2 ^ (r.size % 32)
  if (r.wr + 2 ^ 64 - r.rd) % 2 ^ 64 = n then s.modRing die fun r => { r with drop := r.drop + 1 }
  else
    ((s.hostPut (r.base + 32 * (r.wr % n)) (eventBytes s.ticks cause die ctx rid desc pkt)).modRing die fun r =>
      { r with wr := (r.wr + 1) % 2 ^ 64 }).sendMsix 0 die

/-! ## Ports (R431-R434) -/

/-- A peer-link port. -/
def State.port (s : State) (p : Nat) : Port := tabVal Port.zero s.links.ports p

/-- A port changed. -/
def State.modPort (s : State) (p : Nat) (f : Port → Port) : State :=
  { s with links := { s.links with ports := tabPut Port.zero s.links.ports p (f (s.port p)) } }

/-- The port of a transfer to a device: the one that its 1 KiB block uses already, while that is UP, else among those that PEERMAP
names and that are UP one chosen by the block (R434, log 12). -/
def State.portFor (s : State) (dev block : Nat) : Option Nat :=
  let ps := (List.range 16).filter fun p => (tabVal 0 s.links.peerMap dev).testBit p && (s.port p).up
  if s.links.devnum = 0 ∨ ps.isEmpty then none
  else match (tabGet s.links.ways (dev + 4096 * block)).filter ps.contains with
    | some p => some p
    | none => ps[block % ps.length]?

/-! ## The bytes of flits (R433) -/

/-- A list of exactly `n` bytes. -/
def exactly (n : Nat) (l : List Byte) : List Byte := (l ++ List.replicate n 0).take n

/-- A data length padded to 16 bytes. -/
def pad16 (n : Nat) : Nat := (n + 15) / 16 * 16

/-- The bytes of a record: its header, and its data padded with zeros. -/
def Rec.bytes (r : Rec) : List Byte :=
  natBytes 1 r.kind ++ natBytes 1 r.status ++ natBytes 2 r.data.length ++ natBytes 4 r.tid ++ natBytes 8 r.arg ++
    exactly (pad16 r.data.length) r.data

/-- A flit: its header, 240 bytes of payload, and the CRC-32C of both. -/
def flitBytes (type seq ack src dev nrec cont : Nat) (payload : List Byte) : List Byte :=
  let b := natBytes 1 type ++ natBytes 2 seq ++ natBytes 2 ack ++ natBytes 2 src ++ natBytes 2 dev ++ natBytes 1 nrec ++
    natBytes 1 cont ++ [0] ++ exactly 240 payload
  b ++ natBytes 4 (crc32c b).toNat

/-- A DATA flit's bytes: what it carries of its records, those that begin in it counted in NREC, what continues in CONT. -/
def Flit.bytes (f : Flit) (ack src : Nat) : List Byte :=
  let rest := (f.recs.flatMap Rec.bytes).drop (240 * f.part)
  flitBytes 1 f.seq ack src f.dev (if f.part = 0 then f.recs.length else 0) (if f.part = 0 then 0 else min 15 (rest.length / 16)) rest

/-- The ACK field of a port's flits: the last SEQ accepted, ACKV, NACK. -/
def Port.ackField (p : Port) (nack : Bool) : Nat := (if p.rxAny then p.lastRx + 2 ^ 12 else 0) + (if nack then 2 ^ 13 else 0)

/-- A flit put on a port's wire. -/
def State.onWire (s : State) (p : Nat) (b : List Byte) : State := { s with links := { s.links with wire := (p, b) :: s.links.wire } }

/-- DATA flits put on the wire. -/
def State.sendFlits (s : State) (p : Nat) (fs : List Flit) : State :=
  fs.foldl (fun t f => t.onWire p (f.bytes ((t.port p).ackField false) t.links.devnum)) s

/-- The device that a port's unsequenced flits are for: the lowest that PEERMAP reaches by it (log 57). -/
def State.portDev (s : State) (p : Nat) : Nat := ((s.links.peerMap.find? fun e => e.2.testBit p).map (·.1)).getD 0

/-- An IDLE flit put on the wire. -/
def State.sendIdle (s : State) (p : Nat) (nack : Bool) : State :=
  s.onWire p (flitBytes 0 0 ((s.port p).ackField nack) s.links.devnum (s.portDev p) 0 0 [])

/-- A LINKCTL flit put on the wire: its payload begins with the sender's number. -/
def State.sendCtl (s : State) (p : Nat) : State :=
  s.onWire p (flitBytes 2 0 ((s.port p).ackField false) s.links.devnum (s.portDev p) 0 0 (natBytes 2 s.links.devnum))

/-- Whether a record of a kind answers a request. -/
def answers (kind : Nat) : Bool := kind == 3 || kind == 4 || kind == 10

/-- A request leaves: its transfer's time runs from now (R432). -/
def State.startTimer (s : State) (e : Nat × Rec) : State :=
  if answers e.2.kind then s
  else { s with links := { s.links with
    xfers := tabMod s.links.xfers e.2.tid fun x => if x.dev = e.1 then { x with sent := s.ticks } else x } }

/-- The flits that a port's new state has beyond its old one. -/
def Port.added (p q : Port) : List Flit := q.unacked.drop (q.unacked.length - (q.nextSeq + 4096 - p.nextSeq) % 4096)

/-- A port's new state, with the flits that it puts on the wire; records that were kept back and no longer are leave now. -/
def State.portTo (s : State) (p : Nat) (q : Port) (fs : List Flit) : State :=
  let old := (s.port p).backlog
  (old.take (old.length - q.backlog.length)).foldl State.startTimer ((s.modPort p fun _ => q).sendFlits p fs)

/-- The DATA flits that a record fills: its 16-byte header and its data, padded, at 240 payload bytes a flit (R433). -/
def flitsOf (r : Rec) : Nat := (16 + (r.data.length + 15) / 16 * 16 + 239) / 240

/-- A record put into flits of a port: sent while the window of 512 has room and the port does not retrain, else kept
back (R433). -/
def Port.put (p : Port) (dev : Nat) (r : Rec) : Port :=
  let n := flitsOf r
  if p.retraining || !p.backlog.isEmpty || decide (512 < p.unacked.length + n) then { p with backlog := p.backlog ++ [(dev, r)] }
  else
    { p with
      unacked := p.unacked ++ (List.range n).map fun i =>
        { seq := (p.nextSeq + i) % 4096, dev := dev, recs := [r], fails := 0, part := i },
      nextSeq := (p.nextSeq + n) % 4096 }

/-- Records kept back that the window now takes. -/
def Port.drain (p : Port) : Port :=
  p.backlog.foldl (fun q e => q.put e.1 e.2) { p with backlog := [] }

/-- A record given to a port: it leaves in flits, or with the window full an IDLE flit does (R433). -/
def State.putRec (s : State) (p dev : Nat) (r : Rec) : State :=
  let q := (s.port p).put dev r
  let t := s.portTo p q ((s.port p).added q)
  if (s.port p).backlog.length < q.backlog.length ∧ !q.retraining then t.sendIdle p false else t

/-- A transfer started: it takes a TID and leaves on its port; none when no port is usable (R434). -/
def State.startXfer (s : State) (dev block : Nat) (r : Rec) (of : XferOf) : Option State :=
  match s.portFor dev block with
  | none => none
  | some p =>
    let tid := s.links.nextTid
    let r' := { r with tid := tid }
    let s1 := s.putRec p dev r'
    some { s1 with links := { s1.links with
      ways := tabSet s1.links.ways (dev + 4096 * block) p,
      nextTid := (tid + 1) % 2 ^ 32,
      xfers := tabSet s1.links.xfers tid { dev := dev, port := p, body := r', sent := s.ticks, of := of } } }

/-- A transfer of a pod barrier started. With no usable port it is kept under port 16, which there is none of, and sent after
`LKTO` (R436). -/
def State.startPod (s : State) (dev block : Nat) (r : Rec) : State :=
  match s.startXfer dev block r .pod with
  | some t => t
  | none =>
    let tid := s.links.nextTid
    { s with links := { s.links with
      nextTid := (tid + 1) % 2 ^ 32,
      xfers := tabSet s.links.xfers tid { dev := dev, port := 16, body := { r with tid := tid }, sent := s.ticks, of := .pod } } }

/-- A response record sent on the port that its request came by. -/
def State.sendResp (s : State) (dev port : Nat) (r : Rec) : State := s.putRec port dev r

/-- A WRACK or RDRESP that refuses or fails a request (R433). -/
def statusRec (kind tid status cause : Nat) : Rec := { kind := kind, status := status, tid := tid, arg := cause, data := [] }

/-! ## Pod barriers at their root (R436) -/

/-- The barrier of the package or a wider network that a number names. -/
def State.wbar (s : State) (k : Nat) : WideBarrier := tabVal WideBarrier.zero s.eng.wbars k

/-- A wide barrier changed. -/
def State.modWbar (s : State) (k : Nat) (f : WideBarrier → WideBarrier) : State :=
  { s with eng := { s.eng with wbars := tabPut WideBarrier.zero s.eng.wbars k (f (s.wbar k)) } }

/-- The network of a quad, a die, the package and the pod (R10, R392). -/
def quadNet (q : Nat) : Nat := q
/-- The network of a die. -/
def dieNet (d : Nat) : Nat := 108 + d
/-- The package's network. -/
def pkgNet : Nat := 120
/-- The pod's network. -/
def podNet : Nat := 121
/-- The number of a barrier of a network. -/
def barKey (net i : Nat) : Nat := 16 * net + i

/-- The phase of a wide barrier completes (R46, R48). -/
def WideBarrier.flip (b : WideBarrier) : WideBarrier := { b with phase := 1 - b.phase, arr := 0, came := [] }

/-- A pod barrier's root state. -/
def State.podRootOf (s : State) (i : Nat) : PodRoot := tabVal PodRoot.zero s.links.roots i

/-- The root's sum reaches EXP: the phase completes here and every registered module is told (R436). -/
def State.podTest (s : State) (i : Nat) : State :=
  let r := s.podRootOf i
  if r.exp = 0 ∨ r.sum < r.exp then s
  else
    let s1 := { s with links := { s.links with
      roots := tabPut PodRoot.zero s.links.roots i { r with sum := 0, phase := 1 - r.phase, seen := [] } } }
    r.mods.foldl (fun t dev =>
      t.startPod dev i { kind := 7, status := 0, tid := 0, arg := i + r.phase * 4, data := [] })
      (s1.modWbar (barKey podNet i) WideBarrier.flip)

/-- Arrivals counted at the root (R436). -/
def State.podCount (s : State) (i n : Nat) : State :=
  State.podTest { s with links := { s.links with
    roots := tabPut PodRoot.zero s.links.roots i { (s.podRootOf i) with sum := (s.podRootOf i).sum + n } } } i

/-- Whether this module is the root of a pod barrier (R436). -/
def State.isPodRoot (s : State) (i : Nat) : Bool := tabVal 0 s.links.podRoot i == s.links.devnum

/-- An arrival of this module at a pod barrier: counted at the root, or forwarded to it (R436). -/
def State.podArrive (s : State) (i : Nat) : State :=
  if s.isPodRoot i then s.podCount i 1
  else
    s.startPod (tabVal 0 s.links.podRoot i) i
      { kind := 6, status := 0, tid := 0, arg := i + (s.wbar (barKey podNet i)).phase * 4 + 2 ^ 16, data := [] }

/-- A module registers with the root of a pod barrier, or the root takes its own EXP (R436). -/
def State.podRegister (s : State) (i exp : Nat) : State :=
  if s.isPodRoot i then
    State.podTest { s with links := { s.links with
      roots := tabPut PodRoot.zero s.links.roots i { (s.podRootOf i) with exp := exp } } } i
  else
    s.startPod (tabVal 0 s.links.podRoot i) i { kind := 5, status := 0, tid := 0, arg := i + exp * 2 ^ 16, data := [] }

end Sys2Proof.Machine
end

