-- ==== Sys2Proof/Machine/Barriers.lean ====
section
/-! DEFINITION. Barriers: their names (R10, R139), configuration (R46, R140), arrivals and completion (R47, R48, R141,
R142). -/
namespace Sys2Proof.Machine

/-- The identifiers of a scope: 0 core, 1 quad, 2 die, 3 package, 4 pod (R10, R66). -/
def scopeIds : Nat → Nat | 0 => 256 | 1 => 16 | 2 => 16 | 3 => 8 | 4 => 4 | _ => 0

/-- The network of a scope where a group stands. -/
def netOf (G : Group) (scope : Nat) : Nat :=
  match scope with
  | 1 => quadNet (quadOf G.coreNo)
  | 2 => dieNet (dieOf G.coreNo)
  | 3 => pkgNet
  | _ => podNet

/-- The wide barrier that an identifier of a launch names (R392), if it is allotted. -/
def State.wideKey (s : State) (G : Group) (scope id : Nat) : Option Nat :=
  ((s.launchOf G).bind fun L => (tabGet L.allot (netOf G scope)).bind fun l => l[id]?).map (barKey (netOf G scope))

/-- A core barrier of a group. -/
def Group.bar (G : Group) (id : Nat) : CoreBarrier := tabVal CoreBarrier.zero G.bars id

/-- A core barrier of a group changed. -/
def Group.modBar (G : Group) (id : Nat) (f : CoreBarrier → CoreBarrier) : Group :=
  { G with bars := tabPut CoreBarrier.zero G.bars id (f (G.bar id)) }

/-- Whether a barrier instruction names a barrier it may use (R139); `conf` for BARC, which needs no configured one. It is
asked when the instruction issues, before another slot of the same cycle has configured the barrier (R142, log 72). -/
def State.barrierOk (s : State) (G : Group) (scope id : Nat) (conf : Bool) : Bool :=
  decide (id < scopeIds scope) &&
  if scope = 0 then decide (id < G.hdr.barriers) && (conf || (G.bar id).armed)
  else match s.wideKey G scope id with
    | some k => conf || (s.wbar k).armed
    | none => false

/-- PHASE of a barrier as the group sees it. -/
def State.phaseOf (s : State) (G : Group) (scope id : Nat) : Nat :=
  if scope = 0 then (G.bar id).phase
  else match s.wideKey G scope id with
    | some k => (s.wbar k).phase
    | none => 0

/-- Live fibres of the waves that MEMBERS names (R46, R47). -/
def Group.liveCount (G : Group) (members : Nat) : Nat :=
  (G.waves.filter fun e => members.testBit e.1).foldl (fun n e => n + e.2.live.length) 0

/-- A core barrier with an event of this core cycle: its live count taken anew, then its completion test, which the events of
the whole cycle go before (R47, R142). -/
def Group.testBar (G : Group) (id : Nat) : Group :=
  let b := { G.bar id with due := false }
  let b1 := if b.live then { b with exp := G.liveCount b.members } else b
  let b2 := if b1.armed ∧ b1.exp ≤ b1.arr then { b1 with arr := 0, phase := 1 - b1.phase } else b1
  G.modBar id fun _ => b2

/-- The core barriers of a group tested at the end of a core cycle, those that had an event in it (R142). -/
def Group.testBars (G : Group) : Group := G.bars.foldl (fun H e => if e.2.due then H.testBar e.1 else H) G

/-- After an exit or a spawn every live-count barrier of the group is recounted and tested at the end of the core cycle (R47,
R142). -/
def Group.recount (G : Group) : Group :=
  { G with bars := tabMap G.bars fun _ b => if b.live then { b with due := true } else b }

/-- The completion test of a quad, die or package barrier (R48). -/
def WideBarrier.test (b : WideBarrier) : WideBarrier := if b.armed ∧ b.exp ≤ b.arr then b.flip else b

/-- `n` fibres arrive at a core barrier (R47); its completion is tested at the end of the core cycle (R142). -/
def State.arriveCore (s : State) (g id n : Nat) : State :=
  s.modGroup g fun G => G.modBar id fun b => { b with arr := b.arr + n, due := true }

/-- A wave arrives at a wide barrier, once in a phase (R48); `who` is none for a copy, which counts by itself (R215). -/
def State.arriveWide (s : State) (k id scope : Nat) (who : Option (Nat × Nat)) : State :=
  let b := s.wbar k
  match who with
  | some p =>
    if b.came.contains p then s
    else
      let s1 := s.modWbar k fun b => { b with came := b.came ++ [p], arr := b.arr + 1 }
      if scope = 4 then s1.podArrive id else s1.modWbar k WideBarrier.test
  | none =>
    let s1 := s.modWbar k fun b => { b with arr := b.arr + 1 }
    if scope = 4 then s1.podArrive id else s1.modWbar k WideBarrier.test

/-- PHASE of an arrival of the group: a twin is told what its primary's arrival at a wide barrier was told (R53, R54). -/
def State.arrivalPhase (s : State) (G : Group) (scope id : Nat) : Nat :=
  if scope ≠ 0 ∧ G.isTwin then
    match s.wideKey G scope id with
    | some k => (s.wbar k).told
    | none => 0
  else s.phaseOf G scope id

/-- Arrivals of `n` fibres of a wave at a barrier of any scope (R47, R48); the twin of a mirror pair arrives only at core
barriers, and is told the phase that its primary was (R53, R54). -/
def State.arrive (s : State) (g : Nat) (G : Group) (w scope id n : Nat) : State :=
  if n = 0 then s
  else if scope = 0 then s.arriveCore g id n
  else if G.isTwin then s
  else match s.wideKey G scope id with
    | some k => (s.modWbar k fun b => { b with told := b.phase }).arriveWide k (k % 16) scope (some (g, w))
    | none => s

/-- A copy's barrier arrival (R215). -/
def State.arriveCopy (s : State) (g : Nat) (G : Group) (scope id : Nat) : State :=
  if scope = 0 then s.arriveCore g id 1
  else match s.wideKey G scope id with
    | some k => s.arriveWide k (k % 16) scope none
    | none => s

/-- BARC writes a core barrier's fields; it is tested at the end of the core cycle (R140, R142). -/
def State.configCore (s : State) (g id exp : Nat) (live : Bool) (members : Nat) : State :=
  s.modGroup g fun G => G.modBar id fun b => { b with exp := exp, live := live, members := members, armed := true, due := true }

/-- BARC writes a wide barrier's EXP and tests it; a pod barrier registers with its root (R140, R436). -/
def State.configWide (s : State) (k id scope exp : Nat) : State :=
  let s1 := s.modWbar k fun b => { b with exp := exp, armed := true }
  if scope = 4 then s1.podRegister id exp else s1.modWbar k WideBarrier.test

end Sys2Proof.Machine
end

