-- ==== Sys2Proof/Machine/CmdOps.lean ====
section
/-! DEFINITION. The command processor's shared operations: signals (R387), descriptors and slots (R382, R384, R402),
packets that begin, complete and are discarded (R386, R388, R389), held interrupts (R397), the end of a launch (R392). -/
namespace Sys2Proof.Machine

/-! ## Signals (R387) -/

/-- A 64-bit value read as signed. -/
def signed64 (v : Nat) : Int := sx v 64

/-- Completion applied to a signal: old > 0 ? old − 1 : old. -/
def signalDec (old : Int) : Int := if 0 < old then old - 1 else old

/-- SIGNAL with SUB: old > 0 ? max(old − VALUE, 0) : old. -/
def signalSub (v : Int) (old : Int) : Int := if 0 < old then max (old - v) 0 else old

/-- A signal changed by one RMW at its home; none when its page faults (R387). -/
def State.signal (s : State) (asid va : Nat) (f : Int → Int) : Option State :=
  match s.homeRead asid va 8 { r := true, w := true } with
  | .error _ => none
  | .ok bs =>
    match s.homeWrite asid va (natBytes 8 (narrow 64 (f (signed64 (leNat bs))))) { r := true, w := true } with
    | .ok t => some t
    | .error _ => none

/-- The value of a signal. -/
def State.signalValue (s : State) (asid va : Nat) : Option Int :=
  match s.read64 asid va with
  | .ok v => some (signed64 v)
  | .error _ => none

/-! ## Slots and descriptors (R382, R384, R402) -/

/-- The number of a slot of a die. -/
def slotKey (die slot : Nat) : Nat := 64 * die + slot

/-- A queue slot. -/
def State.qslot (s : State) (k : Nat) : QSlot := tabVal QSlot.free s.cp.slots k

/-- A queue slot changed. -/
def State.modSlot (s : State) (k : Nat) (f : QSlot → QSlot) : State :=
  { s with cp := { s.cp with slots := tabPut QSlot.free s.cp.slots k (f (s.qslot k)) } }

/-- A write by the command processor to a queue's descriptor; a page that faults takes nothing. -/
def State.putDesc (s : State) (asid va : Nat) (bs : List Byte) : State :=
  match s.homeWrite asid va bs { w := true } with
  | .ok t => t
  | .error _ => s

/-- STATE of a mapped queue: 2 when aborted, else 1 while DONE is below WR, else 0 (R402). -/
def QSlot.state (q : QSlot) : Nat := if q.qstate = 2 then 2 else if q.done < q.wr then 1 else 0

/-- RD, DONE and STATE written into the descriptor (R402). -/
def State.writeDesc (s : State) (k : Nat) (st : Nat) : State :=
  let q := s.qslot k
  ((s.putDesc q.asid (q.desc + 0x10) (natBytes 8 q.rd)).putDesc q.asid (q.desc + 0x18) (natBytes 8 q.done)).putDesc
    q.asid (q.desc + 0x27) (natBytes 1 st)

/-- The same with the STATE of a mapped queue. -/
def State.syncDesc (s : State) (k : Nat) : State := s.writeDesc k (s.qslot k).state

/-- The function that a context's interrupts go to: the VF bound to its partition, else the PF (R427). -/
def State.boundFn (s : State) (ctx : Nat) : Nat :=
  match s.ctx ctx with
  | none => 0
  | some c => ((s.host.vfs.find? fun e => e.2 == c.part).map (·.1)).getD 0

/-- The vectors that a queue of a context may name (R427). -/
def vecOk (fn vec : Nat) : Bool := decide (vec ≤ 2047) && decide ((if fn = 0 then 16 else 1) ≤ vec)

/-- A completion held for an interrupt: COAL 0 gives 8 µs (R382, R397). -/
def State.holdIrq (s : State) (q : QSlot) : State :=
  { s with cp := { s.cp with held := s.cp.held ++
      [{ fn := s.boundFn q.ctx, vec := q.vec, deadline := s.ticks + 100 * (if q.coal = 0 then 8 else q.coal) }] } }

/-! ## Packets (R386, R388, R389) -/

/-- A field of a packet's bytes. -/
def pkt (p : List Byte) (off n : Nat) : Nat := leNat ((p.drop off).take n)

/-- TYPE of a packet. -/
def pktType (p : List Byte) : Nat := pkt p 0 1 % 16
/-- IRQ of a packet. -/
def pktIrq (p : List Byte) : Bool := (pkt p 0 1).testBit 4
/-- OVERLAP of a packet. -/
def pktOverlap (p : List Byte) : Bool := (pkt p 0 1).testBit 5
/-- COMPL of a packet: VA[55:0] sign-extended, 0 for none. -/
def pktCompl (p : List Byte) : Nat := signExt56 (pkt p 1 7)

/-- Whether every byte of the listed ranges is zero. -/
def zeroAt (p : List Byte) (rs : List (Nat × Nat)) : Bool := rs.all fun r => pkt p r.1 r.2 == 0

/-- The 64 bytes of packet `n` of a slot's queue (R382). -/
def State.packet (s : State) (k n : Nat) : Option (List Byte) :=
  let q := s.qslot k
  match s.homeRead q.asid (q.ring + 64 * (n % 2 ^ q.log2)) 64 { r := true } with
  | .ok bs => some bs
  | .error _ => none

/-- A signal address that a packet may name: 0, or 8-byte aligned (R386). -/
def signalOk (a : Nat) : Bool := a % 8 == 0

/-- The checks of R386 that every packet passes. -/
def pktHeadOk (p : List Byte) : Bool := decide (pktType p < 7) && pkt p 0 1 / 64 == 0 && signalOk (pktCompl p)

/-- DONE moved past every completed packet at the front (R382, R402). -/
def QSlot.advance (q : QSlot) : QSlot :=
  q.begun.foldl (fun r b => if b.idx = r.done ∧ b.fl = .finished then
    { r with done := r.done + 1, begun := r.begun.filter fun x => x.idx != b.idx } else r) q

/-- A begun packet of a slot. -/
def State.begunOf (s : State) (k idx : Nat) : Option Begun := (s.qslot k).begun.find? fun b => b.idx == idx

/-- What a begun packet still does, changed. -/
def State.setFlight (s : State) (k idx : Nat) (fl : Flight) : State :=
  s.modSlot k fun q => { q with begun := q.begun.map fun x => if x.idx = idx then { x with fl := fl } else x }

/-- Whether the home of a signal still waits for a revoke: a request to the word waits, and so does the answer to one (R264). -/
def State.signalHeld (s : State) (asid va : Nat) : Bool := va != 0 && s.homeBusy asid va 8

/-- COMPL of an ending packet changed, unless a signal's home still waits (R264, R387). The flag of the result is false where the page
of COMPL faults, which fails the packet and its queue as a refusal does. -/
def State.tellCompl (s : State) (k idx : Nat) : State × Bool :=
  let asid := (s.qslot k).asid
  match s.begunOf k idx with
  | some b => match b.fl with
    | .ending how after =>
      if s.signalHeld asid after ∨ s.signalHeld asid b.compl then (s, true)
      else if b.compl = 0 then (s.setFlight k idx .told, true)
      else match s.signal asid b.compl (match how with | .dec => signalDec | .fail v => fun _ => v) with
        | some t => (t.setFlight k idx .told, true)
        | none => (s.setFlight k idx .told, false)
    | _ => (s, true)
  | none => (s, true)

/-- A packet whose COMPL is changed and answered completes: DONE, then the interrupt (R264, R388). -/
def State.finishPacket (s : State) (k idx : Nat) : State :=
  let q := s.qslot k
  match s.begunOf k idx with
  | some b =>
    if b.fl ≠ .told ∨ s.signalHeld q.asid b.compl then s
    else
      let s1 := ((s.setFlight k idx .finished).modSlot k QSlot.advance).syncDesc k
      if b.irq then s1.holdIrq q else s1
  | none => s

/-- A packet completes as far as it can: COMPL, then DONE, then the interrupt (R388). -/
def State.completePacket (s : State) (k idx : Nat) : State × Bool :=
  let r := s.tellCompl k idx
  (r.1.finishPacket k idx, r.2)

/-- A packet discarded: it counts as begun and completed, its COMPL becomes −1 (R389, R402). -/
def State.discardOne (s : State) (k : Nat) : State :=
  let q := s.qslot k
  let p := (s.packet k q.rd).getD []
  let b : Begun := { idx := q.rd, compl := pktCompl p, irq := pktIrq p, fl := .ending (.fail (-1)) 0 }
  let s1 := (s.modSlot k fun q => { q with rd := q.rd + 1, begun := q.begun ++ [b] }).syncDesc k
  (s1.completePacket k q.rd).1

/-- Packets from RD up to WR discarded. -/
def State.discardAll (s : State) (k : Nat) : Nat → State
  | 0 => s
  | n + 1 => if (s.qslot k).rd < (s.qslot k).wr then State.discardAll (s.discardOne k) k n else s

/-- The queue enters STATE 2: no packet begins, every announced one is discarded (R389). -/
def State.abortQueue (s : State) (k : Nat) : State :=
  let s1 := (s.modSlot k fun q => { q with qstate := 2 }).syncDesc k
  s1.discardAll k ((s.qslot k).wr - (s.qslot k).rd)

/-- An ending packet goes on, and a COMPL that faults aborts the queue (R387, R388). -/
def State.goEnd (s : State) (k idx : Nat) : State :=
  let r := s.completePacket k idx
  if r.2 then r.1 else r.1.abortQueue k

/-- A packet whose effect is applied completes as given, after the answer to its write of a signal (R264, R388). -/
def State.endAfter (s : State) (k idx : Nat) (how : Ending) (after : Nat) : State :=
  (s.setFlight k idx (.ending how after)).goEnd k idx

/-- A packet completes as given (R388). -/
def State.endPacket (s : State) (k idx : Nat) (how : Ending) : State := s.endAfter k idx how 0

/-- A packet refused: COMPL −2 and STATE 2 (R386). -/
def State.refusePacket (s : State) (k idx : Nat) : State :=
  ((s.setFlight k idx (.ending (.fail (-2)) 0)).completePacket k idx).1.abortQueue k

/-- Ending packets whose signal's home has answered go on (R264). -/
def State.endings (s : State) : State :=
  s.cp.slots.foldl (fun t e => e.2.begun.foldl (fun u b => match b.fl with
    | .ending _ _ | .told => u.goEnd e.1 b.idx
    | _ => u) t) s

/-- Whether the packet at RD may begin: the queue is mapped and runs, the packet is announced, no barrier holds the queue,
and the packet before it has completed, or has begun with OVERLAP set; BARRIER and QFENCE wait for every earlier packet
(R384, R388, R389). -/
def QSlot.mayBegin (q : QSlot) (p : List Byte) : Bool :=
  q.st == .mapped && q.qstate != 2 && decide (q.rd < q.wr) &&
  !(q.begun.any fun b => match b.fl with | .barrier _ => true | _ => false) &&
  if pktType p = 2 ∨ pktType p = 5 then q.begun.isEmpty
  else pktOverlap p || !(q.begun.any fun b => b.idx + 1 == q.rd && b.fl != .finished)

/-- Whether the command processor of a die begins packets: firmware runs and no recovery loader holds it (R441). -/
def State.cpRuns (s : State) : Bool := !s.fw.recovery && !s.fw.stopping && s.fw.committed.isNone

/-- The packet at RD of a slot, if it may begin now. -/
def State.nextPacket (s : State) (k : Nat) : Option (List Byte) :=
  if s.cpRuns then
    match s.packet k (s.qslot k).rd with
    | some p => if (s.qslot k).mayBegin p then some p else none
    | none => none
  else none

/-- A packet begins (R388). -/
def State.beginPacket (s : State) (k : Nat) (p : List Byte) (fl : Flight) : State :=
  (s.modSlot k fun q =>
    { q with rd := q.rd + 1, begun := q.begun ++ [{ idx := q.rd, compl := pktCompl p, irq := pktIrq p, fl := fl }] }).syncDesc k

/-! ## Launches (R392) -/

/-- A launch changed. -/
def State.modLaunch (s : State) (id : Nat) (f : Launch → Launch) : State :=
  { s with cp := { s.cp with launches := tabMod s.cp.launches id f } }

/-- The wide barriers allotted to a launch are free again (R392). -/
def State.freeBarriers (s : State) (L : Launch) : State :=
  L.allot.foldl (fun t e => e.2.foldl (fun u i => u.modWbar (barKey e.1 i) fun _ => WideBarrier.zero) t) s

/-- The slot of a die that holds a queue by its descriptor. -/
def State.slotOfDesc (s : State) (die desc : Nat) : Option Nat :=
  (s.cp.slots.find? fun e => e.1 / 64 == die && e.2.st != .free && e.2.desc == desc).map (·.1)

/-- A launch reaches DONE: its barriers are free, its packet completes, or gets −3 if a KILL with `.fail` struck it
(R392). A launch whose queue no slot holds stays as it is with nothing left, and completes when its queue is mapped again. -/
def State.launchDone (s : State) (id : Nat) : State :=
  match tabGet s.cp.launches id with
  | none => s
  | some L =>
    let s1 := (s.modLaunch id fun L => { L with allot := [], left := 0 }).freeBarriers L
    match s1.slotOfDesc L.die L.desc with
    | none => s1.modLaunch id fun L => { L with st := .saved }
    | some k => (s1.modLaunch id fun L => { L with st := .done }).endPacket k L.pkt (if L.failed then .fail (-3) else .dec)

/-- A group of a launch completes; the launch with its last one (R42, R392). -/
def State.groupLeft (s : State) (id : Nat) : State :=
  match tabGet s.cp.launches id with
  | none => s
  | some L =>
    let s1 := s.modLaunch id fun L => { L with left := L.left - 1 }
    if L.left ≤ 1 ∧ (L.st = .running ∨ L.st = .saved) then s1.launchDone id else s1

end Sys2Proof.Machine
end

