-- ==== Sys2Proof/Machine/Waves.lean ====
section
/-! DEFINITION. What happens to the fibres of a wave beside an instruction's own effect: exit (R39, R41), the register pool
(R34, R35), the release of waits (R37, R41, R133-R136, R141, R143, R177, R212, R250, R285), bundles (R37). -/
namespace Sys2Proof.Machine

/-! ## Exit (R39) -/

/-- A fibre ends: its slot is free, its bit leaves every mask, its allocation above the initial reservation goes, results
of its loads will be discarded. -/
def Wave.exitFib (W : Wave) (units f : Nat) : Wave :=
  let W1 := W.modFib f fun F =>
    { F with st := .exited, alloc := min F.alloc (16 * units), base := 0, regs := [], wait := .none, fired := false,
             facet := none }
  { W1 with
    masks := W1.masks.filterMap fun e =>
      let v := putBit e.2 f false
      if v = 0 then none else some (e.1, v),
    sb := tabMap W1.sb fun slot e =>
      if accessSlot slot then
        { e with accs := e.accs.map fun a => if a.fib = f then { a with drop := true } else a }
      else { e with accs := e.accs.map fun a => if a.fib = f then { a with dst := [] } else a } }

/-- Register units that a fibre holds beyond its slot's reservation (R34, R130). -/
def Fibre.beyond (F : Fibre) (units : Nat) : Nat := F.alloc / 16 - units

/-- Units given up on a group's core: they are free from the next core cycle on (R34). -/
def State.giveBack (s : State) (g n : Nat) : State :=
  match (s.group g).bind Group.core? with
  | some c => s.modCore c fun C => { C with freed := C.freed + n }
  | none => s

/-- Fibres of a wave end; live-count barriers are recounted at the end of the core cycle (R41, R47, R142), the units that
the fibres held beyond their reservations return to the pool (R34, R39), and a facet frame that none of them is in any more is free
(R360). -/
def State.exitFibs (s : State) (g w : Nat) (fs : List Nat) : State :=
  match s.group g, s.wave g w with
  | some G, some W =>
    let n := (fs.filter W.live.contains).foldl (fun n f => n + (W.fib f).beyond G.hdr.units) 0
    ((s.giveBack g n).modGroup g fun G =>
      Group.recount (G.modWave w fun W => fs.foldl (fun X f => X.exitFib G.hdr.units f) W)).freeFrame G.coreNo
  | _, _ => s

/-! ## The register pool (R34) -/

/-- Register units that a wave holds: its reservations and what its fibres were granted beyond them. -/
def Wave.units (W : Wave) (units : Nat) : Nat :=
  if W.noUnits then 0
  else 32 * units + W.live.foldl (fun n f => n + (W.fib f).beyond units) 0

/-- Register units of a core's partition that no wave holds. -/
def State.unitsFree (s : State) (core : Nat) : Nat :=
  256 * (s.core core).regg -
    (s.residents core).foldl (fun n e => e.2.liveWaves.foldl (fun k x => k + x.2.units e.2.hdr.units) n) 0

/-- Free register units of a core: those given up in this core cycle are not among them yet (R34). -/
def State.poolFree (s : State) (core : Nat) : Nat := s.unitsFree core - (s.core core).freed

/-- Units that a fibre needs from the pool to grow by `n`: less what its slot's reservation still covers (R130). -/
def growNeed (units n : Nat) (F : Fibre) : Nat := n - (units - F.alloc / 16)

/-- The allocation of fibres grown by `n` units; the new registers read zero (R33). -/
def Wave.grow (W : Wave) (n : Nat) (fs : List Nat) : Wave :=
  fs.foldl (fun X f => X.modFib f fun F =>
    { F with alloc := F.alloc + 16 * n, regs := F.regs.filter fun e => decide (e.1 < F.alloc) }) W

/-! ## Collectives (R134-R136, R177) -/

/-- A fibre's arrival at a collective. -/
structure Arrival where
  fib : Nat
  coll : Collective
  guard : Bool
  srcs : List Tagged
  src : Bool
  dst : List DReg
deriving DecidableEq, Repr

/-- The arrivals at a collective over a mask at an address, of a program's own code or of a facet routine (R134, R360). -/
def Wave.arrivals (W : Wave) (mask : Nat) (at_ : Addr) (facet : Bool) : List Arrival :=
  W.live.filterMap fun f => match (W.fib f).wait with
    | .coll c m a g srcs src dst =>
      if m = mask ∧ a = at_ ∧ (W.fib f).facet.isSome = facet then some ⟨f, c, g, srcs, src, dst⟩ else none
    | _ => none

/-- The live members of a mask (R133). -/
def Wave.members (W : Wave) (mask : Nat) : List Nat := (bitsOf (W.mask mask)).filter fun f => (W.fib f).isLive

/-- floor(log2 |x|) of a finite non-zero f32 word, if it is one; level 0 reads subnormals as zero (R119, R177). -/
def f32Log (w : Word) (level : Nat) : Option Int :=
  let e := bits w.toNat 23 8
  let m := bits w.toNat 0 23
  if e = 255 then none
  else if e ≠ 0 then some ((e : Int) - 127)
  else if m = 0 ∨ level = 0 then none
  else some ((Nat.log2 m : Int) - 149)

/-- The `k`-th largest (from 0) of a list of integers. -/
def kthLargest (l : List Int) (k : Nat) : Option Int :=
  l.find? fun x => decide ((l.filter fun y => decide (x < y)).length ≤ k) && decide (k < (l.filter fun y => decide (x ≤ y)).length)

/-- The E8 scale that SCHIST chooses (R177). -/
def schistScale (xs : List Int) (b : Word) : Nat :=
  let q := bits b.toNat 0 5
  let mx : Int := if b.getLsbD 8 then 8 else 12
  match kthLargest xs q with
  | none => 127
  | some t => (min (max (t + 1 - mx + 127) 0) 254).toNat

/-- What a released collective gives one of its guard-true arrivals: registers, and a predicate with its number. -/
def collResult (present : List Arrival) (all : List Arrival) (level : Nat) (me : Arrival) : List Tagged × Option (Nat × Bool) :=
  match me.coll with
  | .shfl pd =>
    match present.find? fun a => a.fib == bits (me.srcs.getD 1 zeroReg).val.toNat 0 5 with
    | some a => ([a.srcs.getD 0 zeroReg], some (pd, true))
    | none => ([zeroReg], some (pd, false))
  | .vote op pd =>
    let r := match op with
      | 0 => present.all (·.src)
      | 1 => present.any (·.src)
      | _ => present.all (·.src) || present.all fun a => !a.src
    ([], some (pd, r))
  | .ballot => ([⟨maskOf ((present.filter (·.src)).map (·.fib)), .b32⟩], none)
  | .schist =>
    let b := ((all.filter (·.guard)).getLast?.map fun a => (a.srcs.getD 1 zeroReg).val).getD 0
    ([⟨BitVec.ofNat 32 (schistScale (present.filterMap fun a => f32Log (a.srcs.getD 0 zeroReg).val level) b), .e8x4⟩], none)

/-- A collective over a mask at an address released: results written from the arrivals' sources, the waits end (R134). -/
def Wave.releaseColl (W : Wave) (level mask : Nat) (at_ : Addr) (facet : Bool) : Wave :=
  let all := W.arrivals mask at_ facet
  let mem := W.members mask
  let present := all.filter fun a => mem.contains a.fib
  all.foldl (fun X a =>
    let X1 := if a.guard then
        let r := collResult present all level a
        let Y := X.putAll a.fib a.dst r.1
        match r.2 with
        | some (pd, b) => Y.modFib a.fib fun F => F.setPred pd b
        | none => Y
      else X
    X1.modFib a.fib fun F => { F with wait := .none }) W

/-- Every live member of the mask is among the waiters (R133). -/
def Wave.covered (W : Wave) (mask : Nat) (waiters : List Nat) : Bool := (W.members mask).all waiters.contains

/-- The fibres that wait in MWAITM on a mask at an address. -/
def Wave.maskWaiters (W : Wave) (mask : Nat) (at_ : Addr) : List Nat :=
  W.live.filter fun f => (W.fib f).wait == .mwaitm mask at_

/-! ## Release of waits -/

/-- Done bits of the tags that a group holds: %ctags (R205). -/
def Group.ctags (G : Group) : Nat := G.tags.foldl (fun n e => if e.2.done then n + 2 ^ e.1 else n) 0

/-- Whether a fibre's access of an entry still waits. -/
def Wave.pendingIn (W : Wave) (slot f : Nat) : Bool := match W.acc slot f with | some a => a.waits | none => false

/-- Whether a wait that one fibre can leave by itself is over, and whether leaving it is an acquire (R141, R143, R212, R250,
R266, R285). -/
def State.waitOver (s : State) (G : Group) (W : Wave) (f : Nat) : Bool × Bool :=
  match (W.fib f).wait with
  | .barrier scope id phase => (s.phaseOf G scope id != phase, true)
  | .waitc nl ns nc nt =>
    (decide (W.outstanding .load ≤ nl) && decide (W.outstanding .store ≤ ns) && decide (W.outstanding .copy ≤ nc) &&
      decide (W.outstanding .tile ≤ nt), false)
  | .twany mask _ => (G.ctags &&& mask != 0, true)
  | .twall mask => (G.ctags &&& mask == mask, true)
  | .tile ops => (ops.all fun o => match tabGet G.waves o.1 with
      | some X => X.sb.all fun e => !(decide (40 ≤ e.1) && decide (e.1 < 48) && e.2.age == o.2)
      | none => true, false)
  | .fence kind ages =>
    (W.sb.all fun e => !(ages.contains e.2.age && e.2.accs.any fun a => a.fib == f && a.waits), kind != 1)
  | .isync slot => (!W.pendingIn slot f, false)
  | .mwait slot => (!W.pendingIn slot f, false)
  | _ => (false, false)

/-- A fibre leaves its wait; TWANY's D receives the number of the lowest tag (R212). -/
def Wave.leaveWait (W : Wave) (G : Group) (f : Nat) : Wave :=
  let W1 := match (W.fib f).wait with
    | .twany mask dst =>
      W.putAll f dst [⟨BitVec.ofNat 32 ((lowBit 64 (G.ctags &&& mask)).getD 0), .n32⟩]
    | _ => W
  W1.modFib f fun F => { F with wait := .none }

/-- One fibre's mask wait or collective tested: when every live member of the mask is among those that wait there, all of them
are let go (R133, R134). -/
def State.testMask (s : State) (G : Group) (X : Wave) (f : Nat) : Wave :=
  match (X.fib f).wait with
  | .mwaitm m a =>
    let ws := X.maskWaiters m a
    if X.covered m ws then ws.foldl (fun Y h => Y.modFib h fun F => { F with wait := .none }) X else X
  | .coll _ m a _ _ _ _ =>
    let facet := (X.fib f).facet.isSome
    if X.covered m ((X.arrivals m a facet).map (·.fib)) then X.releaseColl (s.levelOf G (X.fib f)) m a facet else X
  | _ => X

/-- Whether a wave's mask waits and collectives are tested: it runs. Those of a parked or saved wave are tested again after it
has resumed (R58, R137). -/
def testsMasks (G : Group) (W : Wave) : Bool :=
  W.run == .running && !G.parked && match G.place with | .core _ => true | _ => false

/-- Fibres let go in this core cycle are noted: they form bundles together, and are ready from the next cycle on (R37, R41,
R56). -/
def Wave.noteReleased (W : Wave) (fs : List Nat) : Wave :=
  { W with letGo := W.letGo ++ fs.filter fun f => !W.letGo.contains f }

/-- The waits of one wave tested: mask waits and collectives together, the others fibre by fibre (R37, R133, R134). A fibre whose
wait is over in the step that began it has not waited, and stays in its bundle. -/
def State.releaseWave (s : State) (g w : Nat) : State :=
  match s.group g, s.wave g w with
  | some G, some W =>
    if G.core?.isNone || W.live.all fun f => (W.fib f).wait == .none then s
    else
      let W1 := if testsMasks G W then W.live.foldl (s.testMask G) W else W
      let together := W.live.filter fun f => (W.fib f).wait != .none && (W1.fib f).wait == .none
      let ended := W1.live.filter fun f => (s.waitOver G W1 f).1
      let acq := ended.any fun f => (s.waitOver G W1 f).2
      let waited := ended.filter fun f => W.bundles.all fun b => !b.contains f
      let s1 := s.modWave g w fun _ => (ended.foldl (fun X f => X.leaveWait G f) W1).noteReleased (together ++ waited)
      match acq, G.core? with
      | true, some c => s1.acquire c
      | _, _ => s1
  | _, _ => s

/-! ## Bundles (R37) -/

/-- What the fibres of a bundle share: the PC and the window base, and whether they are in facet context (R37, R360). -/
def Fibre.bundleKey (F : Fibre) : Nat × Nat × Bool := (F.curPc.toNat, F.base, F.facet.isSome)

/-- A list of fibres split by what bundles share, in order of the lowest fibre. -/
def Wave.splitBy (W : Wave) : Nat → List Nat → List (List Nat)
  | 0, _ => []
  | _, [] => []
  | n + 1, f :: fs =>
    let k := (W.fib f).bundleKey
    (f :: fs.filter fun h => (W.fib h).bundleKey == k) ::
      Wave.splitBy W n (fs.filter fun h => (W.fib h).bundleKey != k)

/-- A fibre that belongs to some bundle: live and not waiting. -/
def Fibre.bundled (F : Fibre) : Bool := F.isLive && F.wait == .none

/-- The bundles of a wave after a step: each old bundle keeps its fibres that are still ready, split where they differ; fibres
let go in this core cycle, and fibres spawned, form bundles of their own (R37). -/
def Wave.rebundle (W : Wave) : Wave :=
  let old := W.bundles.flatMap fun b =>
    W.splitBy 32 ((List.range 32).filter fun f => (W.fib f).bundled && b.contains f && !W.letGo.contains f)
  let known := old.flatten
  let new := W.splitBy 32 ((List.range 32).filter fun f => (W.fib f).bundled && !known.contains f)
  { W with bundles := old ++ new }

/-- Whether a YIELD of an earlier core cycle holds the fibre (R146). -/
def Fibre.yieldOver (F : Fibre) (now : Nat) : Bool := match F.wait with | .yield n => decide (n < now) | _ => false

/-- A regroup boundary in core cycle `now`: the bundles whose fibres are all ready merge where they share a PC and a window base.
A boundary only merges: a bundle with a fibre that a hazard holds stays whole and takes no part (R37; log 65, DEDUCED from the
printed run of 13_fault_engine.md, where three of four fibres have their operands at core cycle 19 and all four stand at one PC
at core cycle 60, boundaries having passed). -/
def Wave.regroup (W : Wave) (now : Nat) (rdy : Nat → Bool) : Wave :=
  let W1 := { W with fibres := tabMap W.fibres fun _ (F : Fibre) => if F.yieldOver now then { F with wait := .none } else F }
  let old := (W1.bundles.map fun b => b.filter fun f => (W1.fib f).bundled).filter fun b => !b.isEmpty
  let known := old.flatten
  let all := old ++ W1.splitBy 32 ((List.range 32).filter fun f => (W1.fib f).bundled && !known.contains f)
  let ready := fun (b : List Nat) => b.all fun f => !W1.letGo.contains f && rdy f
  let go := (all.filter ready).flatten
  { W1 with bundles := W1.splitBy 32 ((List.range 32).filter go.contains) ++ all.filter fun b => !ready b }

end Sys2Proof.Machine
end

