-- ==== Sys2Proof/Machine/Headers.lean ====
section
/-! DEFINITION. Kernel headers (R90-R93), what fits a core (R28-R30), and the placement of groups on cores (R29, R40, R52,
R206, R391, R393). -/
namespace Sys2Proof.Machine

/-! ## Headers (R90-R93) -/

/-- A little-endian field of a header's bytes. -/
def hdrField (h : List Byte) (off n : Nat) : Nat := leNat ((h.drop off).take n)

/-- The fields of a header that stands before the entry point `entry` (R90). -/
def headerFields (h : List Byte) (entry : Nat) : Header :=
  let ro := sx (hdrField h 40 4) 32
  { units := hdrField h 8 2, fibres := hdrField h 10 2, scratch := hdrField h 12 4, tiles := hdrField h 16 1,
    roles := hdrField h 17 1, traps := hdrField h 18 2, level := hdrField h 20 1, flags := hdrField h 21 1,
    minDies := hdrField h 22 1, maxDies := hdrField h 23 1, rows := hdrField h 24 1, cols := hdrField h 25 1,
    barriers := hdrField h 26 2, codeSize := hdrField h 32 4, priv := hdrField h 36 4,
    routes := if ro = 0 then 0 else narrow 64 ((entry : Int) - 64 + ro) }

/-- Flag bits of a header (R91). -/
def Header.mirror (h : Header) : Bool := h.flags.testBit 0
/-- GANG (R91). -/
def Header.gang (h : Header) : Bool := h.flags.testBit 1
/-- ELASTIC (R91). -/
def Header.elastic (h : Header) : Bool := h.flags.testBit 2
/-- NEIGH (R91). -/
def Header.neigh (h : Header) : Bool := h.flags.testBit 3
/-- MEMBOUND (R91). -/
def Header.membound (h : Header) : Bool := h.roles.testBit 4
/-- FAULT (R91). -/
def Header.fault (h : Header) : Bool := h.roles.testBit 1
/-- Waves of a group (R90). -/
def Header.waves (h : Header) : Nat := (h.fibres + 31) / 32
/-- The groups of a launch start together (R392). -/
def Header.together (h : Header) : Bool := h.gang || h.elastic || h.neigh

/-- Every field lies in its range (R90, R91, R92). -/
def headerInRange (h : List Byte) : Bool :=
  let f := hdrField h
  let el := (f 21 1).testBit 2
  let ng := (f 21 1).testBit 3
  h.length == 64 && h.take 4 == [0x45, 0x54, 0x4B, 0x48] && f 4 2 == 1 && decide (f 6 2 ≤ 0x0102) &&
  decide (1 ≤ f 8 2) && decide (f 8 2 ≤ 30) && decide (1 ≤ f 10 2) && decide (f 10 2 ≤ 512) && decide (f 12 4 ≤ 2097152) &&
  decide (f 16 1 ≤ 16) && decide (f 17 1 < 32) && decide (f 18 2 < 128) && decide (f 20 1 ≤ 2) && decide (f 21 1 < 16) &&
  (if el then decide (1 ≤ f 22 1) && decide (f 22 1 ≤ f 23 1) && decide (f 23 1 ≤ 12) else f 22 1 == 0 && f 23 1 == 0) &&
  (if ng then decide (1 ≤ f 24 1) && decide (f 24 1 ≤ 6) && decide (1 ≤ f 25 1) && decide (f 25 1 ≤ 6) &&
      decide (f 24 1 * f 25 1 ≤ 24)
   else f 24 1 == 0 && f 25 1 == 0) &&
  decide (f 26 2 ≤ 256) && f 28 4 % 64 == 0 && decide (64 ≤ f 28 4) && f 32 4 % 4 == 0 && decide (4 ≤ f 32 4) &&
  decide (1 ≤ f 36 4) && decide (f 36 4 ≤ 65535) && f 40 4 % 64 == 0 && (h.drop 44).take 16 == List.replicate 16 0 &&
  !(el && ng) && f 60 4 == (crc32c (h.take 60)).toNat

/-! ## What fits a core (R29, R30) -/

/-- Register granules of a group. -/
def Header.regGran (h : Header) : Nat := (32 * h.waves * (16 * h.units) + 4095) / 4096
/-- Scratchpad granules of a group. -/
def Header.scrGran (h : Header) : Nat := (h.scr + 16383) / 16384
/-- Accumulator granules of a group. -/
def Header.accGran (h : Header) : Nat := 4 * h.tiles

/-- Whether `k` groups of a kernel fit an empty core (R30). -/
def Header.fits (h : Header) (k : Nat) : Bool :=
  decide (k * (h.regGran + h.scrGran + h.accGran) ≤ 128) && decide (k * h.waves ≤ 16) && decide (k * h.accGran ≤ 64) &&
    decide (k * h.barriers ≤ 256)

/-- The largest number of groups of a kernel that fit an empty core; a group has a wave, so at most 16 (R30). -/
def Header.groupsPerCore (h : Header) : Nat :=
  ((List.range 17).filter h.fits).foldl max 0

/-- The partition word that a kernel's first group on an idle core gives it: REGG, SCRG, ACCG (R30). -/
def Header.partition (h : Header) : Nat × Nat × Nat :=
  let k := h.groupsPerCore
  (128 - k * h.scrGran - k * h.accGran, k * h.scrGran, k * h.accGran)

/-- Where a kernel header stands: in memory, in a patch image or in a Cuset image. -/
inductive HeaderSite where
  | memory | patch | cuset
  deriving DecidableEq, Repr

/-- Whether a kernel's roles are valid where its header stands: FACET in a patch image only, FIRMWARE in a Cuset image only (R91). -/
def Header.rolesFit (h : Header) (site : HeaderSite) : Bool :=
  (!h.roles.testBit 2 || site == .patch) && (!h.roles.testBit 3 || site == .cuset)

/-- A header read and checked under R92. -/
def parseHeader (bs : List Byte) (entry : Nat) (site : HeaderSite) : Option Header :=
  let h := headerFields bs entry
  if headerInRange bs && h.rolesFit site && decide (1 ≤ h.groupsPerCore) then some h else none

/-- The header before an entry point in memory. -/
def State.readHeader (s : State) (asid entry : Nat) : Option Header :=
  if entry % 4 ≠ 0 then none
  else match s.readRun asid ((entry + 2 ^ 64 - 64) % 2 ^ 64) 64 { r := true } with
    | .ok bs => parseHeader bs entry .memory
    | .error _ => none

/-- The header of a handler: in memory, or for a subject in firmware mode in the Cuset image (R327, R376). -/
def State.handlerHeader (s : State) (fw : Bool) (asid entry : Nat) : Option Header :=
  if !fw then s.readHeader asid entry
  else if entry % 4 ≠ 0 ∨ entry < 64 then none
  else match s.fwBytes (entry - 64) 64 with
    | some bs => parseHeader bs entry .cuset
    | none => none

/-! ## Room on a core (R29, R206) -/

/-- First byte of the lowest gap of `n` bytes in the scratchpad partition, in steps of 1 KiB. -/
def scrGap (used : List (Nat × Nat)) (total n : Nat) : Option Nat :=
  ((List.range (total / 1024 + 1)).map (1024 * ·)).find? fun b =>
    decide (b + n ≤ total) && used.all fun u => decide (b + n ≤ u.1) || decide (u.1 + u.2 ≤ b)

/-- Wave slots of a core that no wave holds. -/
def State.freeSlots (s : State) (c : Nat) : List Nat :=
  let used := (s.residents c).flatMap fun e => e.2.liveWaves.map fun w => w.2.slot
  (List.range 16).filter fun i => !used.contains i

/-- Where a group with a header lands on a core: the base of its scratchpad, if R29 and R206 hold for a group of `n` waves that
need `units` register units and hold `tags`. -/
def State.roomFor (s : State) (c : Nat) (h : Header) (n units : Nat) (tags : List Nat) : Option Nat :=
  let res := s.residents c
  let p := if res.isEmpty then h.partition else ((s.core c).regg, (s.core c).scrg, (s.core c).accg)
  let s1 := s.modCore c fun C => { C with regg := p.1, scrg := p.2.1, accg := p.2.2 }
  let tiles := res.foldl (fun n e => n + e.2.hdr.tiles) 0
  let bars := res.foldl (fun n e => n + e.2.hdr.barriers) 0
  let held := res.flatMap fun e => e.2.tags.map (·.1)
  if decide (n ≤ (s.freeSlots c).length) && decide (units ≤ s1.poolFree c) &&
      decide (4 * (tiles + h.tiles) ≤ p.2.2) && decide (bars + h.barriers ≤ 256) && tags.all (fun t => !held.contains t) then
    scrGap (res.map fun e => (e.2.scrBase, e.2.hdr.scr)) (16384 * p.2.1) h.scr
  else none

/-- The same for a group that starts. -/
def State.roomOn (s : State) (c : Nat) (h : Header) : Option Nat := s.roomFor c h h.waves (32 * h.waves * h.units) []

/-- The partition word written when a core that holds no group admits one (R28, R30). -/
def State.partFor (s : State) (c : Nat) (h : Header) : State :=
  if (s.residents c).isEmpty then
    s.modCore c fun C => { C with regg := h.partition.1, scrg := h.partition.2.1, accg := h.partition.2.2 }
  else s

/-! ## A group that starts (R40) -/

/-- A fibre that a launch starts (R40). -/
def freshFibre (h : Header) (entry : Nat) : Fibre :=
  { Fibre.empty with st := .live, pc := BitVec.ofNat 64 entry, alloc := 16 * h.units, trapen := BitVec.ofNat 32 h.traps }

/-- A fibre slot that starts without a fibre: its reservation is its slot's (R39). -/
def idleFibre (h : Header) : Fibre := { Fibre.empty with alloc := 16 * h.units }

/-- A wave that starts: its slot, its number in the group, its K registers (R40). -/
def freshWave (h : Header) (entry slot w : Nat) (ks : List Tagged) (admitted : Nat) : Wave :=
  let n := min 32 (h.fibres - 32 * w)
  { slot := slot,
    fibres := (List.range 32).map fun f => (f, if f < n then freshFibre h entry else idleFibre h),
    masks := [], ks := ((List.range ks.length).zip ks).filter fun e => e.2 != zeroReg, sb := [], nextAge := 0, starve := 0,
    admitted := admitted, mxflags := 0, mxdone := 0, mxsig := 0, run := .running, bundles := [List.range n], ready := [],
    letGo := [], ageMark := 0, stepArrived := false, noUnits := false }

/-- What a new group is besides its header. -/
structure NewGroup where
  launch : Nat
  gid : Nat
  ctx : Nat
  asid : Nat
  cls : Nat
  hdr : Header
  entry : Nat
  ks : List Tagged
  firmware : Bool := false
  rejoin : Bool := false
  nslot : Nat := 0
  frec : Nat := 0
  fcause : Nat := 0
  flevel : Nat := 0
  origin : Nat := 0
  budget : Option Nat := none
deriving DecidableEq, Repr

/-- The number of the next group; 0 is no group. -/
def State.nextGroup (s : State) : Nat := max 1 (tabNext s.groups)

/-- A group put on a core that has room for it (R29, R40). -/
def State.putGroup (s : State) (g c base : Nat) (twin : Option (Nat × Bool)) (slots : List Nat) (n : NewGroup) : State :=
  let s1 := s.partFor c n.hdr
  let G : Group :=
    { launch := n.launch, gid := n.gid, ctx := n.ctx, asid := n.asid, cls := n.cls, hdr := n.hdr, firmware := n.firmware,
      place := .core c, twin := twin,
      waves := (List.range n.hdr.waves).map fun w => (w, freshWave n.hdr n.entry (slots.getD w 0) w n.ks s.ticks),
      scratch := [], scrBase := base, tiles := [], bars := [], tags := [], frec := n.frec, fcause := n.fcause,
      flevel := n.flevel, origin := n.origin, budget := n.budget, grant := n.budget.getD 0, started := false, held := false,
      heldLast := false, rejoin := n.rejoin,
      nslot := n.nslot, preempt := false, pinned := none, admitted := s.ticks, deferred := [], parked := false }
  { s1 with groups := tabSet s1.groups g G }

/-- The twin core of a pair's primary (R52). -/
def twinCore (c : Nat) : Nat := coreInQuad (quadOf c) (quadLocal c + 1)

/-- The first `n` free wave slots that two cores share, so that twins sit in the same slots (R52). -/
def State.pairSlots (s : State) (c t n : Nat) : Option (List Nat) :=
  let both := (s.freeSlots c).filter fun i => (s.freeSlots t).contains i
  if n ≤ both.length then some (both.take n) else none

/-- A group admitted to a core, or to a pair of cores, if there is room (R29, R52). -/
def State.startGroup (s : State) (c : Nat) (t : Option Nat) (n : NewGroup) : Option State :=
  let g := s.nextGroup
  match s.roomOn c n.hdr, t with
  | none, _ => none
  | some base, none => some (s.putGroup g c base none ((s.freeSlots c).take n.hdr.waves) n)
  | some base, some tc =>
    match s.roomOn tc n.hdr, s.pairSlots c tc n.hdr.waves with
    | some tbase, some slots =>
      some ((s.putGroup g c base (some (g + 1, false)) slots n).putGroup (g + 1) tc tbase (some (g, true)) slots n)
    | _, _ => none

/-- The first group of a launch, or the group of a fault task, starts on a core: the INV marks of its address space go and the
L1 self-invalidates (R266). -/
def State.firstOn (s : State) (c asid : Nat) : State :=
  (s.modCore c fun C =>
    { C with l1 := tabMap C.l1 fun k l => if k / 2 ^ 50 = asid then { l with inv := false } else l }).acquire c

/-! ## Placement (R391, R393) -/

/-- The pairs of a die that a mirror kernel may use, by their primaries in ascending site (R52, R391). -/
def State.pairs (s : State) (d : Nat) (tiles : Bool) : List Nat :=
  ((List.range 36).map (36 * d + ·)).filter fun c =>
    (quadLocal c == 0 || quadLocal c == 2) && s.isWorkCore c && s.isWorkCore (twinCore c) && !(tiles && s.mxBad (quadOf c))

/-- The placement list of a die for a kernel (R391). -/
def State.placeList (s : State) (d : Nat) (h : Header) : List Nat :=
  if h.mirror then s.pairs d (decide (0 < h.tiles))
  else (s.workCores d).filter fun c => !(decide (0 < h.tiles) && s.mxBad (quadOf c))

/-- The greatest of a list of pairs by fractional part, ties to the lower die: entries are (die, remainder). -/
def largestRem : List (Nat × Nat) → Option (Nat × Nat)
  | [] => none
  | x :: xs => match largestRem xs with
    | none => some x
    | some y => if x.2 < y.2 then some y else some x

/-- The dies that receive the groups left undealt, one each (R391 step 2). -/
def extraDies : Nat → List (Nat × Nat) → List Nat
  | 0, _ => []
  | n + 1, l => match largestRem l with
    | none => []
    | some x => x.1 :: extraDies n (l.filter fun y => y.1 != x.1)

/-- The numbers of groups dealt to the dies of `ds`, given their list lengths (R391 steps 1 and 2). -/
def dealCounts (groups : Nat) (ds : List (Nat × Nat)) : List (Nat × Nat) :=
  let n := ds.foldl (fun k e => k + e.2) 0
  let base := ds.map fun e => (e.1, groups * e.2 / n)
  let left := groups - base.foldl (fun k e => k + e.2) 0
  let more := extraDies left (ds.filterMap fun e => if e.2 = 0 then none else some (e.1, groups * e.2 % n))
  base.map fun e => (e.1, e.2 + (if more.contains e.1 then 1 else 0))

/-- A block of groups of one die on its placement list (R391 step 4). -/
def State.dealBlock (s : State) (h : Header) (first count d : Nat) (rejoin : Bool) : List Dealt :=
  let l := s.placeList d h
  (List.range count).filterMap fun j =>
    (l[j % l.length]?).map fun c =>
      { gid := first + j, core := c, twin := if h.mirror then some (twinCore c) else none, rejoin := rejoin }

/-- The groups of a launch that is neither elastic nor neighbourhood, dealt (R391). -/
def State.deal (s : State) (h : Header) (groups : Nat) (ds : List Nat) : List Dealt :=
  let cs := dealCounts groups (ds.map fun d => (d, (s.placeList d h).length))
  (cs.foldl (fun (acc : List Dealt × Nat) e => (acc.1 ++ s.dealBlock h acc.2 e.2 e.1 false, acc.2 + e.2)) ([], 0)).1

/-- The rectangle of a neighbourhood launch at a place of a die: the cores of its groups in ascending `%gid` (R393). -/
def rectangle (d row0 col0 : Nat) (h : Header) : List Nat :=
  (List.range (h.rows * h.cols)).map fun g => 36 * d + 6 * (row0 + g / h.cols) + (col0 + g % h.cols)

/-- The places of rectangles in the order of the search (R393). -/
def rectangles (ds : List Nat) (h : Header) : List (List Nat) :=
  ds.flatMap fun d => (List.range (7 - h.rows)).flatMap fun r => (List.range (7 - h.cols)).map fun c => rectangle d r c h

/-- The cores of a rectangle can take a kernel's groups: work cores, outside MXBAD quads where it has tiles; a mirror
group's core is the primary of a pair (R52, R221, R393). -/
def State.rectOk (s : State) (cs : List Nat) (h : Header) : Bool :=
  cs.all fun c => s.isWorkCore c && !(decide (0 < h.tiles) && s.mxBad (quadOf c)) &&
    (!h.mirror || (s.pairs (dieOf c) (decide (0 < h.tiles))).contains c)

/-- Whether a die takes groups of launches: it is neither lost, nor spare or to become spare, nor stopped (R377, R391, R445). -/
def State.takesGroups (s : State) (d : Nat) : Bool := !s.dieLost d && !s.cp.spares.testBit d && s.dieClock d != 3

/-- The neighbourhood groups at the first rectangle that admits them all now; `idle` asks only that the sites would admit
them when empty. -/
def State.dealRect (s : State) (h : Header) (ds : List Nat) (idle : Bool) : Option (List Dealt) :=
  let has := fun c => idle || (s.roomOn c h).isSome && (!h.mirror || (s.roomOn (twinCore c) h).isSome)
  ((rectangles ds h).find? fun cs => s.rectOk cs h && cs.all has).map fun cs =>
    cs.mapIdx fun g c => { gid := g, core := c, twin := if h.mirror then some (twinCore c) else none, rejoin := false }

end Sys2Proof.Machine
end

