-- ==== Sys2Proof/Machine/FaultOps.lean ====
section
/-! DEFINITION. The fault engine: records (R324, R325, R330, R331), routes and hooks (R326-R329, R366), the end of a subject
under KILL (R331, R333, R346). -/
namespace Sys2Proof.Machine

/-! ## Records (R325, R331) -/

/-- A record identifier (R325). -/
def ridOf (die idx gen : Nat) : Nat := idx + die * 2 ^ 16 + gen * 2 ^ 20
/-- INDEX of an identifier. -/
def ridIdx (rid : Nat) : Nat := bits rid 0 13
/-- DIE of an identifier. -/
def ridDie (rid : Nat) : Nat := bits rid 16 4

/-- The generation of a record index. -/
def FaultEng.gen (E : FaultEng) (idx : Nat) : Nat := tabVal 1 E.gens idx

/-- The record that an identifier names, if it is in use and of that generation. -/
def State.record (s : State) (rid : Nat) : Option Record :=
  match tabGet (s.faultEng (ridDie rid)).recs (ridIdx rid) with
  | some r => if ridOf (ridDie rid) (ridIdx rid) r.gen = rid then some r else none
  | none => none

/-- A record changed. -/
def State.modRecord (s : State) (rid : Nat) (f : Record → Record) : State :=
  s.modFault (ridDie rid) fun E => { E with recs := tabMod E.recs (ridIdx rid) f }

/-- A fault task leaves whatever class slot it waits in. -/
def State.dropTask (s : State) (rid : Nat) : State :=
  { s with cp := { s.cp with tasks := s.cp.tasks.filterMap fun e =>
      let l := e.2.filter fun t => t != .own rid
      if l.isEmpty then none else some (e.1, l) } }

/-- A record freed: its generation advances, 4,095 is followed by 1 (R325, R331). -/
def State.freeRecord (s : State) (rid : Nat) : State :=
  (s.dropTask rid).modFault (ridDie rid) fun E =>
    { E with recs := tabErase E.recs (ridIdx rid),
             gens := tabPut 1 E.gens (ridIdx rid) (if E.gen (ridIdx rid) = 4095 then 1 else E.gen (ridIdx rid) + 1) }

/-- All records of the module with their identifiers. -/
def State.allRecords (s : State) : List (Nat × Record) :=
  s.eng.faults.flatMap fun e => e.2.recs.map fun r => (ridOf e.1 r.1 r.2.gen, r.2)

/-! ## Routes (R326, R327, R366) -/

/-- A route as a record takes it: the handler's entry, its target and limits; `peer` 0 for a local handler; `fw` for the
Cuset default handler. -/
structure Route where
  handler : Nat
  prio : Nat
  die : Nat
  peer : Nat
  budget : Nat
  deadline : Nat
  fw : Bool
deriving DecidableEq, Repr

/-- The route to the Cuset default handler of a die (R327). -/
def Route.default (die : Nat) : Route := ⟨0, 0, die, 0, 0, 0, true⟩

/-- A route-table entry whose fields keep the table of R326, with DIE 0xFF resolved to the subject's die; none when the
entry is invalid, breaks the table or asks for the default handler. -/
def parseRoute (b : List Byte) (die : Nat) : Option Route :=
  let f := hdrField b
  let flags := f 8 1
  if flags < 8 ∧ flags.testBit 0 ∧ !flags.testBit 2 ∧ canonical (f 0 8) ∧ f 9 1 < 8 ∧ (f 10 1 ≤ 11 ∨ f 10 1 = 0xFF) ∧
      f 11 1 = 0 ∧ f 12 2 < 4096 ∧ f 14 2 = 0 ∧ f 24 8 = 0 then
    some { handler := f 0 8, prio := f 9 1, die := if f 10 1 = 0xFF then die else f 10 1,
           peer := if flags.testBit 1 then f 12 2 else 0, budget := f 16 4, deadline := f 20 4, fw := false }
  else none

/-- Whether a route names another module: REMOTE is set (R329). -/
def routeRemote (b : List Byte) : Bool := (hdrField b 8 1).testBit 1

/-- The die partition of a context (R381). -/
def State.partOf (s : State) (ctx : Nat) : Nat := ((s.ctx ctx).map (·.part)).getD 0

/-- Whether a die is in a context's partition and not lost. -/
def State.dieUsable (s : State) (ctx die : Nat) : Bool := (s.partOf ctx).testBit die && !s.dieLost die

/-- The route table of a subject: its kernel's, else its context's; a firmware group has only its image's own (R326, R333,
R376, R388). -/
def State.routeTable (s : State) (x : Subject) : Nat :=
  let c := ((s.ctx x.ctx).map (·.routes)).getD 0
  match x.of with
  | .launch id _ _ => match tabGet s.cp.launches id with
    | some L => if L.hdr.routes = 0 then c else L.hdr.routes
    | none => c
  | _ => match s.group x.grp with
    | some G => if G.hdr.routes ≠ 0 then G.hdr.routes else if G.firmware then 0 else c
    | none => c

/-- Whether a subject's group runs in firmware mode. -/
def State.inFirmware (s : State) (x : Subject) : Bool := match s.group x.grp with | some G => G.firmware | none => false

/-- The table's entry for a cause as R327 takes it. The table of the Cuset image serves every die, whatever context stands
(R376, log 67); `again` is the second, local delivery of a record whose remote task
failed (R329). -/
def State.lookupRoute (s : State) (x : Subject) (cause : Nat) (again : Bool) : Route × Bool :=
  let dflt := (Route.default x.die, false)
  let t := s.routeTable x
  if t = 0 then dflt
  else match (if s.inFirmware x then s.fwBytes (t + 32 * cause) 32
      else (s.readRun x.asid (t + 32 * cause) 32 { r := true }).toOption) with
    | none => dflt
    | some b =>
      match parseRoute b x.die with
      | none => dflt
      | some r =>
        if (s.handlerHeader (s.inFirmware x) x.asid r.handler).any (·.fault) && (s.inFirmware x || s.dieUsable x.ctx r.die) &&
            !(routeRemote b && again) then
          (r, routeRemote b)
        else dflt

/-- The HOOK entry that acts on a cause: the lowest PRIO, then the lowest number (R355, R366). -/
def hookFor (img : List Byte) (cause : Nat) : Option Nat :=
  let act := fun i => bits (slotWord img i 0) 8 8
  let prio := fun i => bits (slotWord img i 0) 16 4
  let hs := (List.range 16).filter fun i => act i == 4 && bits (slotParam img i) 0 7 == cause
  match least (hs.map prio) with
  | none => none
  | some p => hs.find? fun i => prio i == p

/-- What a hook makes of a route (R366). -/
def State.hooked (s : State) (x : Subject) (cause : Nat) (rt : Route × Bool) : Route × Bool :=
  match hookFor s.facet.active cause with
  | none => rt
  | some i =>
    let p := slotParam s.facet.active i
    let pv := p.testBit 11
    let r := rt.1
    if p.testBit 24 then
      ({ r with fw := true, die := x.die, peer := 0, prio := if pv then bits p 8 3 else 0 }, false)
    else
      let nd := bits p 16 8
      ({ r with prio := if pv then bits p 8 3 else r.prio,
                die := if nd ≠ 0xFF && !rt.2 && !r.fw && decide (nd < 12) && s.dieUsable x.ctx nd then nd else r.die }, rt.2)

/-! ## Delivery (R328, R329) -/

/-- The deadline of a subject: TDET + DEADLINE, all ones for none (R332). -/
def deadlineOf (tdet deadline : Nat) : Nat := if deadline = 0 then 2 ^ 64 - 1 else (tdet + deadline) % 2 ^ 64

/-- The FAULTTASK packet of a record (R386). -/
def taskPacket (rid : Nat) (r : Record) : List Byte :=
  natBytes 8 7 ++ natBytes 4 rid ++ natBytes 1 r.subj.cause ++ natBytes 1 r.prio ++ natBytes 2 r.depth ++ natBytes 8 r.handler ++
    natBytes 8 r.budget ++ natBytes 8 r.tdl ++ natBytes 2 r.subj.ctx ++ natBytes 2 r.subj.asid ++ natBytes 20 0

/-- A fault task put into the slot of a class of a die. -/
def State.queueTask (s : State) (die cls : Nat) (t : Task) : State :=
  { s with cp := { s.cp with tasks := tabSet s.cp.tasks (8 * die + cls) (tabVal [] s.cp.tasks (8 * die + cls) ++ [t]) } }

/-- A record given its route, and its task put into a local slot. -/
def State.deliverLocal (s : State) (rid : Nat) (r : Route) : State :=
  ((s.modRecord rid fun R =>
    { R with prio := r.prio, tdie := r.die, peer := 0, budget := r.budget, handler := r.handler, toFirmware := r.fw,
             tdl := deadlineOf R.subj.tdet r.deadline, remote := false, queued := true })).queueTask r.die r.prio (.own rid)

/-- The record is delivered again through the local entry of REMOTE_ROUTE, once (R329). -/
def State.reroute (s : State) (rid : Nat) : State :=
  match s.record rid with
  | none => s
  | some R =>
    if R.rerouted then s
    else
      let x := { R.subj with cause := 0x53, detail := R.subj.cause }
      let s1 := (s.dropTask rid).modRecord rid fun R =>
        { R with subj := x, rerouted := true, st := .parked, hgrp := none, wasPeer := R.peer }
      s1.deliverLocal rid (s1.hooked x 0x53 (s1.lookupRoute x 0x53 true)).1

/-- A record delivered by its route: to a slot of its target die, or over the links (R328, R329, R437). -/
def State.deliver (s : State) (rid : Nat) (rt : Route × Bool) : State :=
  if !rt.2 then s.deliverLocal rid rt.1
  else
    let r := rt.1
    let s1 := s.modRecord rid fun R =>
      { R with prio := r.prio, tdie := r.die, peer := r.peer, budget := r.budget, handler := r.handler, toFirmware := false,
               tdl := deadlineOf R.subj.tdet r.deadline, remote := true, queued := false }
    match s1.record rid with
    | none => s1
    | some R =>
      match s1.startXfer r.peer 0 { kind := 8, status := 0, tid := 0, arg := 0,
                                    data := taskPacket rid R ++ natBytes 8 R.subj.ctx } (.ftask rid) with
      | some t => t
      | none => s1.reroute rid

/-! ## The end of work under KILL (R39, R331, R333, R346) -/

/-- The monitors of a wave changed. -/
def State.modMonitors (s : State) (g w : Nat) (h : Monitor → Monitor) : State :=
  { s with slices := tabMap s.slices fun _ S =>
      { S with monitors := tabMap S.monitors fun _ m => if m.grp = g ∧ m.wave = w then h m else m } }

/-- The monitors of a wave that is saved or parked belong to its saved context (R288). -/
def State.rebind (s : State) (g w : Nat) : State := s.modMonitors g w fun m => { m with rebound := true }

/-- The monitors of a wave that is killed are released (R288). -/
def State.dropMonitors (s : State) (g w : Nat) : State :=
  { s with slices := s.slices.map fun e =>
      (e.1, { e.2 with monitors := e.2.monitors.filter fun m => !(m.2.grp == g && m.2.wave == w) }) }

/-- Every live fibre of a wave exits, its unsettled entries are discarded, it runs out (R346). -/
def State.killWave (s : State) (g w : Nat) : State :=
  match s.wave g w with
  | none => s
  | some W =>
    let s1 := (s.exitFibs g w W.live).dropMonitors g w
    s1.modWave g w fun W =>
      { W with run := if W.run = .retired then .retired else .running, noUnits := false,
               sb := W.sb.filterMap fun e =>
                 if e.1 = 48 then none
                 else
                   let accs := e.2.accs.map fun a =>
                     if a.unsettled || (accessSlot e.1 && s.rests g w e.1 a.fib) then { a with st := .done, drop := true } else a
                   if accs.all (·.st == .done) then none else some (e.1, { e.2 with accs := accs }) }

/-- The tables of the copies and of the passes that a save took out of their engines: no core and no quad has these numbers
(R218, R219, R254). -/
def savedCopies : Nat := 4096
/-- See `savedCopies`. -/
def savedPasses : Nat := 4096

/-- The group that a copy belongs to, 0 for a COPY packet's. -/
def Copy.grp (C : Copy) : Nat := match C.owner with | .wave g _ _ _ => g | .packet _ _ => 0

/-- The deferred copies and passes of a group are gone. -/
def State.dropSaved (s : State) (g : Nat) : State :=
  { s with eng := { s.eng with
      copy := s.eng.copy.filterMap fun e =>
        if e.1 ≠ savedCopies then some e
        else
          let l := e.2.copies.filter fun x => x.2.grp != g
          if l.isEmpty then none else some (e.1, { e.2 with copies := l }),
      matrix := s.eng.matrix.filterMap fun e =>
        if e.1 ≠ savedPasses then some e
        else
          let l := e.2.entries.filter fun x => x.2.grp != g
          if l.isEmpty then none else some (e.1, { e.2 with entries := l }) } }

/-- A group ends: each of its waves as under KILL; one that is saved has no core to drain on, and its deferred copies and
passes go with it. -/
def State.killGroup (s : State) (g : Nat) : State :=
  match s.group g with
  | none => s
  | some G =>
    let s1 := G.waves.foldl (fun t e => t.killWave g e.1) s
    let s2 := s1.modGroup g fun H => { H with parked := false }
    match G.place with
    | .saved _ => (s2.dropSaved g).modGroup g fun H =>
        { H with waves := tabMap H.waves fun _ W => { W with sb := [], run := .retired }, deferred := [] }
    | _ => s2

/-- A group and its twin. -/
def State.pairOf (s : State) (g : Nat) : List Nat := match (s.group g).bind (·.twin) with | some (t, _) => [g, t] | none => [g]

/-- A group ends, and with it the twin of a mirror pair (R54, R346). -/
def State.killWhole (s : State) (g : Nat) : State := (s.pairOf g).foldl State.killGroup s

/-- A mirror pair ends together (R54, R346). -/
def State.killPair (s : State) (g w : Nat) : State :=
  match (s.group g).bind (·.twin) with
  | some (t, _) => (s.killWave g w).killWave t w
  | none => s.killWave g w

/-- A launch marked as failed (R346, R392). -/
def State.failLaunch (s : State) (id : Nat) : State := s.modLaunch id fun L => { L with failed := true }

/-- The launch number of a subject's group, 0 for none. -/
def State.launchOfSubject (s : State) (x : Subject) : Nat :=
  match x.of with
  | .launch id _ _ => id
  | _ => match s.group x.grp with | some G => G.launch | none => 0

/-- The subjects of the fault engines changed. -/
def State.mapSubjects (s : State) (f : Subject → Subject) : State :=
  { s with eng := { s.eng with faults := tabMap s.eng.faults fun _ E =>
      { E with recs := tabMap E.recs fun _ r => { r with subj := f r.subj }, detected := E.detected.map f,
               heldSubs := E.heldSubs.map f } } }

/-! ## Copies and passes at a disposition (R217, R253) -/

/-- A core's copy engine. -/
def State.copyEng (s : State) (c : Nat) : CopyEng := tabVal CopyEng.empty s.eng.copy c

/-- A copy engine changed. -/
def State.modCopyEng (s : State) (c : Nat) (f : CopyEng → CopyEng) : State :=
  { s with eng := { s.eng with copy := tabPut CopyEng.empty s.eng.copy c (f (s.copyEng c)) } }

/-- A copy changed. -/
def State.modCopy (s : State) (c id : Nat) (f : Copy → Copy) : State :=
  s.modCopyEng c fun E => { E with copies := tabMod E.copies id f }

/-- A segment of a copy changed. -/
def State.modSeg (s : State) (c id k : Nat) (f : Seg → Seg) : State :=
  s.modCopy c id fun C => { C with segs := C.segs.mapIdx fun i x => if i = k then f x else x }

/-- A quad's matrix engine. -/
def State.matrix (s : State) (q : Nat) : Matrix := tabVal Matrix.empty s.eng.matrix q

/-- A matrix engine changed. -/
def State.modMatrix (s : State) (q : Nat) (f : Matrix → Matrix) : State :=
  { s with eng := { s.eng with matrix := tabPut Matrix.empty s.eng.matrix q (f (s.matrix q)) } }

/-- A pass changed. -/
def State.modPass (s : State) (q e : Nat) (f : Pass → Pass) : State :=
  s.modMatrix q fun M => { M with entries := tabMod M.entries e f }

/-- Whether any pass of an instruction's tile-operation entry is still in an engine. -/
def State.passesLeft (s : State) (g w slot : Nat) : Bool :=
  s.eng.matrix.any fun m => m.2.entries.any fun p => p.2.grp == g && p.2.wave == w && p.2.slot == slot

/-- One pass of an instruction has ended: its fibre's part of the tile-operation entry is done, in both twins (R222,
R255). -/
def State.passEnded (s : State) (g w slot f : Nat) : State :=
  let s1 := s.modWave g w fun W => W.modAcc slot f fun a => { a with st := .done }
  match (s.group g).bind (·.twin), (s.wave g w).bind fun W => tabGet W.sb slot with
  | some (t, _), some e =>
    s1.modWave t w fun W =>
      match W.sb.find? fun x => x.2.age == e.age with
      | some x => W.modAcc x.1 f fun a => { a with st := .done }
      | none => W
  | _, _ => s1

/-- A segment settled by KILL: not written, its copy's `%cfail` bit is due (R217). -/
def State.killSeg (s : State) (c id k : Nat) : State :=
  (s.modSeg c id k fun x => { x with st := .done }).modCopy c id fun C => { C with failed := true }

/-- Both twins' %mxflags.KILL set (R239, R253). -/
def State.setMxKill (s : State) (g w : Nat) : State :=
  let f := fun (W : Wave) => { W with mxflags := W.mxflags ||| 0x80 }
  match (s.group g).bind (·.twin) with
  | some (t, _) => (s.modWave g w f).modWave t w f
  | none => s.modWave g w f

/-- A pass settled by KILL: its reservation is free, %mxflags.KILL set (R253). -/
def State.killPass (s : State) (q e : Nat) : State :=
  match tabGet (s.matrix q).entries e with
  | none => s
  | some p =>
    let s1 := s.modMatrix q fun M => { M with entries := tabErase M.entries e }
    (s1.setMxKill p.grp p.wave).passEnded p.grp p.wave p.slot p.fib

/-- A clasp operation settled by KILL: a push writes status 3, a pop writes 0 and a false predicate (R312). -/
def State.killClasp (s : State) (r : Req) : State :=
  let vals := match r.op with
    | .push _ _ _ => [⟨3, .n32⟩]
    | _ => [zeroReg]
  let s1 := s.modWave r.grp r.wave fun W => W.complete r.slot r.fib vals (some false)
  match (s.group r.grp).bind (·.twin), (s.wave r.grp r.wave).bind fun W => tabGet W.sb r.slot with
  | some (t, _), some e =>
    s1.modWave t r.wave fun W => match W.sb.find? fun x => x.2.age == e.age with
      | some x => W.complete x.1 r.fib vals (some false)
      | none => W
  | _, _ => s1

/-- What KILL does to a subject, its record left aside (R346). -/
def State.killSubject (s : State) (x : Subject) : State :=
  match x.of with
  | .wave | .mirror _ _ => s.killPair x.grp x.wave
  | .pass q e => s.killPass q e
  | .segment c id k => s.killSeg c id k
  | .clasp r => s.killClasp r
  | .group => s.killWhole x.grp
  | .launch _ _ _ => s

/-- Every record, held subject and detected subject of a launch's work goes, its subjects ending as under KILL (R331). -/
def State.clearSubjects (s : State) (mine : Subject → Bool) : State :=
  let rs := s.allRecords.filter fun e => mine e.2.subj
  let s1 := rs.foldl (fun t e => (t.killSubject e.2.subj).freeRecord e.1) s
  let loose := s1.eng.faults.flatMap fun e => (e.2.detected ++ e.2.heldSubs).filter mine
  let s2 := loose.foldl (fun t x => t.killSubject x) s1
  { s2 with eng := { s2.eng with faults := s2.eng.faults.filterMap fun e =>
      let E := { e.2 with detected := e.2.detected.filter fun x => !mine x, heldSubs := e.2.heldSubs.filter fun x => !mine x }
      if E = FaultEng.empty then none else some (e.1, E) } }

/-- The groups of a launch that exist. -/
def State.groupsOf (s : State) (id : Nat) : List (Nat × Group) :=
  s.groups.filter fun e => e.2.launch == id && e.2.place != .ended

/-- A launch is killed: no further group starts, every group ends, every record of its work is freed (R331). The packet
completes when the last of its waves has retired. -/
def State.killLaunch (s : State) (id : Nat) : State :=
  if id = 0 then s
  else
    let s1 := s.clearSubjects fun x => s.launchOfSubject x == id
    let gs := s1.groupsOf id
    let s2 := gs.foldl (fun t e => t.killGroup e.1) s1
    let n := (gs.filter fun e => match e.2.twin with | some (_, true) => false | _ => true).length
    let s3 := s2.modLaunch id fun L => { L with waiting := [], left := n, st := if L.st = .parked then .running else L.st }
    if n = 0 then s3.launchDone id else s3

/-- The chain of records from a handler's own record to the root (R333). -/
def State.chain (s : State) : Nat → Nat → List (Nat × Record)
  | 0, _ => []
  | n + 1, rid => match s.record rid with
    | none => []
    | some r =>
      let up := match s.group r.subj.grp with | some G => if G.origin ≠ 0 then 0 else r.parent | none => r.parent
      (rid, r) :: State.chain s n up

/-- The queue and the packet of a launch, for an event record. -/
def State.launchPkt (s : State) (id : Nat) : Nat × Nat :=
  match tabGet s.cp.launches id with | some L => (L.desc, L.pkt) | none => (0, 0)

/-- NEST_OVERFLOW: the launch at the root of the chain is killed, with every handler group and record of the chain, and the
host is told (R333, R380). Of a chain that begins with a handler of another module's record the part here is killed; that module
learns of it as of any handler that ends without SHFIN (R331, log 67). -/
def State.nestOverflow (s : State) (die : Nat) (x : Subject) : State :=
  let own := match s.group x.grp with | some G => if G.origin ≠ 0 then 0 else G.frec | none => 0
  let ch := s.chain 5 own
  let root := match ch.getLast? with | some e => s.launchOfSubject e.2.subj | none => s.launchOfSubject x
  let last := match ch.getLast? with | some e => e.2.subj.grp | none => x.grp
  let q := s.launchPkt root
  let s1 := ch.foldl (fun t e =>
    let t1 := match e.2.hgrp with | some h => t.killWhole h | none => t
    (t1.killSubject e.2.subj).freeRecord e.1) (s.killSubject x)
  let s1 := match s.group last with | some G => if G.origin ≠ 0 then s1.killWhole last else s1 | none => s1
  ((s1.failLaunch root).killLaunch root).logEvent die 0x43 x.ctx 0 q.1 q.2

/-! ## Parking (R330, R331) -/

/-- Whether a wave has drained: nothing that it sent is still out but armed monitors (R334). -/
def State.drained (s : State) (g w : Nat) : Bool :=
  match s.wave g w with
  | some W => !(W.sb.any fun e => accessSlot e.1 && e.2.accs.any fun a => a.st == .sent && !s.rests g w e.1 a.fib)
  | none => true

/-- Whether a subject is at rest, so that its record can be filled: a wave has drained (R334). -/
def State.atRest (s : State) (x : Subject) : Bool :=
  match x.of with
  | .wave => s.drained x.grp x.wave
  | .mirror _ _ =>
    s.drained x.grp x.wave && match (s.group x.grp).bind (·.twin) with | some (t, _) => s.drained t x.wave | none => true
  | _ => true

/-- The waves of a subject given a place in its course. -/
def State.markSubject (s : State) (x : Subject) (r : WaveRun) : State :=
  let mark := fun (t : State) (g : Nat) =>
    (t.modWave g x.wave fun W => if W.run = .retired then W else { W with run := r }).rebind g x.wave
  match x.of with
  | .wave => mark s x.grp
  | .mirror _ _ =>
    match (s.group x.grp).bind (·.twin) with | some (t, _) => mark (mark s x.grp) t | none => mark s x.grp
  | _ => s

/-- Whether fault engines take subjects into records: not before an activation has switched the image (R370). -/
def State.engineTakes (s : State) : Bool := match s.facet.op with | some (.activate _ _ b) => b | _ => true

/-- The group's unit moved with a save since its detection: whether it is saved, and the core it stands on (R331). -/
def State.isSaved (s : State) (g : Nat) : Bool :=
  match s.group g with | some G => (match G.place with | .saved _ => true | _ => false) | none => false

/-- A subject takes a record, which is filled and routed (R330, R331); one that finds no room is held, or overflows (R333). -/
def State.parkSubject (s : State) (die : Nat) (x : Subject) : State :=
  let hg := s.group x.grp
  let depth := match hg with | some G => G.flevel | none => 0
  let parent := match hg with | some G => if 0 < depth then G.frec else 0 | none => 0
  let E := s.faultEng die
  let free := if depth = 0 then freeFrom (E.recs.map (·.1)) 4096 0 else freeFrom (E.recs.map (·.1)) 256 4096
  if 4 ≤ depth then s.nestOverflow die x
  else if !s.engineTakes then (s.markSubject x .detached).modFault die fun E => { E with heldSubs := E.heldSubs ++ [x] }
  else match free with
    | none =>
      if depth = 0 then (s.markSubject x .detached).modFault die fun E => { E with heldSubs := E.heldSubs ++ [x] }
      else s.nestOverflow die x
    | some idx =>
      let rid := ridOf die idx (E.gen idx)
      let R : Record :=
        { gen := E.gen idx, subj := x, st := .parked, depth := depth, prio := 0, remote := false,
          dlmiss := false, parent := parent, tdl := 2 ^ 64 - 1, budget := 0, peer := 0, tdie := die, handler := 0,
          toFirmware := false, hgrp := none, queued := false, rerouted := false }
      let s1 := (s.markSubject x (.parked rid)).modFault die fun E => { E with recs := tabSet E.recs idx R }
      s1.deliver rid (s1.hooked x x.cause (s1.lookupRoute x x.cause false))

end Sys2Proof.Machine
end

