-- ==== Sys2Proof/Machine/MatrixOps.lean ====
section
/-! DEFINITION. A matrix pass: its parameter block and the checks of it (R226-R228), its operands (R229-R235), its arithmetic
(R237, R238) and the residues of its check (R240, R241). -/
namespace Sys2Proof.Machine

/-! ## The parameter block (R226, R227) -/

/-- A little-endian field of a block's words. -/
def blkField (b : List Word) (off n : Nat) : Nat := leNat (((lineBytes b).drop off).take n)

/-- A parameter block as its fields. -/
structure Block where
  fmt : Nat
  sp : Nat
  sca : Bool
  scb : Bool
  zero : Bool
  tile : Nat
  rows : Nat
  cols : Nat
  k : Nat
  asrc : Nat
  areg : Nat
  arp : Nat
  bsrc : Nat
  breg : Nat
  brp : Nat
  aaddr : Nat
  baddr : Nat
  asb : Nat
  bsb : Nat
  ass : Nat
  bss : Nat
  mrp : Nat
  maddr : Nat
deriving DecidableEq, Repr

/-- The fields of a block. -/
def blockOf (b : List Word) : Block :=
  let f := blkField b
  let op := f 0 1
  { fmt := bits op 0 2, sp := bits op 2 2, sca := op.testBit 4, scb := op.testBit 5, zero := op.testBit 6,
    tile := f 1 1, rows := f 2 1 + 1, cols := f 3 1 + 1, k := bits (f 4 4) 0 16, asrc := f 8 1, areg := f 9 1, arp := f 10 2,
    bsrc := f 12 1, breg := f 13 1, brp := f 14 2, aaddr := f 0x10 8, baddr := f 0x18 8, asb := f 0x20 8, bsb := f 0x28 8,
    ass := f 0x30 1, bss := f 0x31 1, mrp := f 0x32 2, maddr := f 0x38 8 }

/-- Elements of a word by format (R229). -/
def epw : Nat → Nat | 0 => 4 | 1 => 5 | _ => 2
/-- Products of a group by format (R227). -/
def groupSize : Nat → Nat | 0 => 4 | 1 => 8 | _ => 2
/-- Kept elements of every 12 (R227). -/
def keptOf : Nat → Nat | 1 => 4 | 2 => 6 | _ => 8

/-- Elements that a row of A stores (R234). -/
def Block.aElems (b : Block) : Nat := if b.sp = 0 then b.k else b.k * keptOf b.sp / 12
/-- Words of a row of A. -/
def Block.aWords (b : Block) : Nat := (b.aElems + epw b.fmt - 1) / epw b.fmt
/-- Words of a row of B. -/
def Block.bWords (b : Block) : Nat := (b.k + epw b.fmt - 1) / epw b.fmt

/-- One operand of a block, A or B: its source, register, pitch, address, rows and words of a row. -/
structure Operand where
  src : Nat
  reg : Nat
  rp : Nat
  addr : Nat
  rows : Nat
  words : Nat
deriving DecidableEq, Repr

/-- Operand A. -/
def Block.opA (b : Block) : Operand := ⟨b.asrc, b.areg, b.arp, b.aaddr, b.rows, b.aWords⟩
/-- Operand B. -/
def Block.opB (b : Block) : Operand := ⟨b.bsrc, b.breg, b.brp, b.baddr, b.cols, b.bWords⟩

/-- A K pair that describes a scratchpad operand (R231). -/
structure KPair where
  base : Nat
  rowp : Nat
  chp : Nat
  rot : Nat
deriving DecidableEq, Repr

/-- The fields of a K pair. -/
def kpairOf (lo hi : Word) : KPair :=
  { base := lo.toNat, rowp := bits hi.toNat 0 16, chp := bits hi.toNat 16 12, rot := bits hi.toNat 28 4 }

/-- A captured pair: A's for 0, B's for 1. -/
def capturedPair (kp : List Word) (which : Nat) : KPair := kpairOf (kp.getD (2 * which) 0) (kp.getD (2 * which + 1) 0)

/-! ## The checks (R228, R231, R233) -/

/-- Whether an operand's fields lie in R226: pitches and addresses that are not in use are zero. -/
def Operand.inRange (o : Operand) : Bool :=
  match o.src with
  | 0 => o.reg == 0 && decide (4 * o.words ≤ o.rp)
  | 1 => decide (96 ≤ o.reg) && decide (o.reg ≤ 126) && o.reg % 2 == 0 && o.rp == 0 && o.addr == 0
  | 2 => decide (o.reg + 4 * o.words ≤ 96) && o.rp == 0 && o.addr == 0
  | _ => false

/-- Whether a pair keeps R231. -/
def KPair.ok (p : KPair) : Bool :=
  bits p.base 0 21 % 64 == 0 && p.rowp % 64 == 0 && decide (64 ≤ p.rowp) && decide (p.rowp ≤ 65472)

/-- The conditions of R228 that raise ILLEGAL_OPERAND. -/
def blockShapeOk (w : List Word) (tiles : Nat) (kp : List Word) : Bool :=
  let f := blkField w
  let b := blockOf w
  let sparse := b.sp != 0
  !(f 0 1).testBit 7 && decide (b.tile < 16) && decide (b.tile < tiles) && decide (b.rows ≤ 128) && decide (b.cols ≤ 128) &&
  f 6 2 == 0 && decide (1 ≤ b.k) && b.k % (if sparse then 12 else groupSize b.fmt) == 0 &&
  !((b.asrc == 2 || b.bsrc == 2) && decide (32 < b.k)) && decide (f 0x30 1 < 16) && decide (f 0x31 1 < 16) && f 0x34 4 == 0 &&
  !((b.sca || b.scb) && decide (2 ≤ b.fmt)) && !(sparse && b.asrc == 2) &&
  b.opA.inRange && b.opB.inRange && (b.sca || b.asb == 0) && (b.scb || b.bsb == 0) &&
  (sparse || (b.mrp == 0 && b.maddr == 0)) &&
  (b.asrc != 1 || (capturedPair kp 0).ok) && (b.bsrc != 1 || (capturedPair kp 1).ok)

/-- The registers of a register operand, as V codes (R233). -/
def Operand.codes (o : Operand) : List Nat := (List.range (4 * o.words)).map (o.reg + ·)

/-- The register operands of a block. -/
def Block.regOperands (b : Block) : List Operand := [b.opA, b.opB].filter fun o => o.src == 2

/-- The packed tag of a format (R233). -/
def fmtTag : Nat → Tag | 0 => .tf8x4 | 1 => .tf6x5 | 2 => .bf16x2 | _ => .f16x2

/-- What R233 and the class of descriptor registers find: TAG_MISMATCH before WINDOW_RANGE. -/
def Wave.blockRegs (W : Wave) (b : Block) : Option Nat :=
  let outside := W.live.any fun f => b.regOperands.any fun o => o.codes.any fun v => !(W.fib f).inWindow (.v v)
  let tagBad := W.live.any fun f => b.regOperands.any fun o => o.codes.any fun v =>
    (W.fib f).inWindow (.v v) && !([Tag.b32, fmtTag b.fmt].contains (W.read f (.v v)).tag)
  let kBad := [b.opA, b.opB].any fun o => o.src == 1 &&
    !(clsAccepts .int 0 (tabVal zeroReg W.ks (o.reg - 96)).tag && clsAccepts .int 0 (tabVal zeroReg W.ks (o.reg - 95)).tag)
  if tagBad || kBad then some 0x03 else if outside then some 0x05 else none

/-- Offsets in the partition of the 64-byte blocks that an operand's unclipped rows read (R231, R232). -/
def KPair.blocks (p : KPair) (o : Operand) : List Nat :=
  (List.range ((o.words + 15) / 16)).flatMap fun c => (List.range o.rows).map fun i => bits p.base 0 21 + c * 64 * p.chp + i * p.rowp

/-- Whether a scratchpad operand's extent keeps R191. -/
def State.extentOk (s : State) (g : Nat) (G : Group) (p : KPair) (o : Operand) : Bool :=
  bits p.base 23 9 == 0 && s.isWorkCore (quadTarget G p.base) &&
    (p.blocks o).all fun off => (s.quadHolder g G (quadTarget G p.base) off 64).isSome

/-- The checks of R228 on a block that has been read; `W` is the wave where registers are still to be captured. -/
def State.blockFault (s : State) (g : Nat) (G : Group) (W : Option Wave) (w : List Word) (kp : List Word) : Option Nat :=
  let b := blockOf w
  let regs := match W with | some X => X.blockRegs b | none => none
  let addrs := (if b.asrc = 0 then [b.aaddr] else []) ++ (if b.bsrc = 0 then [b.baddr] else []) ++
    (if b.sca then [b.asb] else []) ++ (if b.scb then [b.bsb] else []) ++ (if b.sp ≠ 0 then [b.maddr] else [])
  let misaligned := (b.asrc = 0 ∧ (b.aaddr % 4 ≠ 0 ∨ b.arp % 4 ≠ 0)) ∨ (b.bsrc = 0 ∧ (b.baddr % 4 ≠ 0 ∨ b.brp % 4 ≠ 0)) ∨
    (b.sp ≠ 0 ∧ (b.maddr % 2 ≠ 0 ∨ b.mrp % 2 ≠ 0))
  if !blockShapeOk w G.hdr.tiles kp then some 0x07
  else if regs.isSome then regs
  else if !addrs.all canonical then some 0x11
  else if misaligned then some 0x12
  else if (b.asrc = 1 ∧ !s.extentOk g G (capturedPair kp 0) b.opA) ∨ (b.bsrc = 1 ∧ !s.extentOk g G (capturedPair kp 1) b.opB) then some 0x13
  else none

/-- The K pairs that a block's scratchpad sources name, as captured (R228). -/
def Wave.capturePairs (W : Wave) (b : Block) : List Word :=
  [b.opA, b.opB].flatMap fun o =>
    if o.src = 1 then [(tabVal zeroReg W.ks (o.reg - 96)).val, (tabVal zeroReg W.ks (o.reg - 95)).val] else [0, 0]

/-- The rows of a register operand, by 32 × row + word (R233). -/
def Wave.captureRegs (W : Wave) (o : Operand) : Tab Word :=
  if o.src ≠ 2 then []
  else W.live.foldl (fun t f => (List.range 4).foldl (fun t u => (List.range o.words).foldl (fun t i =>
    tabPut 0 t (32 * (4 * f + u) + i) (W.read f (.v (o.reg + u * o.words + i))).val) t) t) []

/-! ## Operands (R229-R235) -/

/-- The key of word `i` of a row. -/
def rowKey (row i : Nat) : Nat := row * 2 ^ 16 + i

/-- Where word `i` of a row of a scratchpad operand stands in its core's partition (R232). -/
def KPair.wordAt (p : KPair) (row i : Nat) : Nat :=
  bits p.base 0 21 + i / 16 * 64 * p.chp + row * p.rowp + 4 * ((i % 16 + p.rot * row) % 16)

/-- The words of an operand fetched (R230, R232, R233); a fault with its address ends the fetch. A scratchpad word that no
group holds any more is a free value (log 19). -/
def State.fetchOperand (s : State) (G : Group) (asid : Nat) (o : Operand) (p : KPair) (cap : Tab Word) :
    Except (Nat × Nat) (Tab Word) :=
  match o.src with
  | 0 =>
    (List.range o.rows).foldl (fun r i =>
      match r with
      | .error e => .error e
      | .ok t =>
        match s.readRun asid (o.addr + i * o.rp) (4 * o.words) { r := true } with
        | .error e => .error e
        | .ok bs => .ok (t ++ ((lineWords bs).mapIdx fun j w => (rowKey i j, w)))) (.ok [])
  | 1 => .ok ((List.range o.rows).flatMap fun i => (List.range o.words).map fun j =>
      (rowKey i j, (s.partWord (quadTarget G p.base) (p.wordAt i j)).getD s.freeWord))
  | _ => .ok ((List.range o.rows).flatMap fun i => (List.range o.words).map fun j => (rowKey i j, tabVal 0 cap (32 * i + j)))

/-- The metadata halfwords of the unclipped rows, by row and 12-group (R234). -/
def State.fetchMeta (s : State) (asid : Nat) (b : Block) : Except (Nat × Nat) (Tab Word) :=
  if b.sp = 0 then .ok []
  else
    (List.range b.rows).foldl (fun r i =>
      match r with
      | .error e => .error e
      | .ok t =>
        match s.readRun asid (b.maddr + i * b.mrp) (2 * (b.k / 12)) { r := true } with
        | .error e => .error e
        | .ok bs => .ok (t ++ ((List.range (b.k / 12)).map fun g => (rowKey i g, BitVec.ofNat 32 (leNat ((bs.drop (2 * g)).take 2)))))) (.ok [])

/-- The products of a row of A in order: the place of A's element in its stored row and the logical k, none for a slot
without a set bit (R234, R237). -/
def productsOf (b : Block) (meta_ : Tab Word) (row : Nat) : List (Nat × Option Nat) :=
  if b.sp = 0 then (List.range b.k).map fun k => (k, some k)
  else
    (List.range (b.k / 12)).flatMap fun g =>
      let m := (tabVal 0 meta_ (rowKey row g)).toNat
      let ks := (List.range 12).filter fun i => m.testBit i
      (List.range (keptOf b.sp)).map fun s => (g * keptOf b.sp + s, (ks[s]?).map (12 * g + ·))

/-- The scale address of an element (R235). -/
def scaleAddr (base shift k row i : Nat) : Nat :=
  (base + (row * ((k + 2 ^ shift - 1) / 2 ^ shift * 2 ^ shift) + i) / 2 ^ shift) % 2 ^ 64

/-- Neighbours that are equal left out. -/
def squeeze : List Nat → List Nat
  | [] => []
  | x :: xs => match squeeze xs with
    | [] => [x]
    | y :: ys => if x = y then y :: ys else x :: y :: ys

/-- The line addresses of the scale bytes that a pass reads: of A's and of B's, only where products are formed (R235). -/
def scaleLines (b : Block) (meta_ : Tab Word) : List Nat × List Nat :=
  let ks := fun i => (productsOf b meta_ i).filterMap (·.2)
  let used := if b.sp = 0 then List.range b.k else
    (List.range b.k).filter fun k => (List.range b.rows).any fun i => (ks i).contains k
  let lines := fun (base shift : Nat) (row : Nat) (l : List Nat) => l.map fun k => scaleAddr base shift b.k row k / 64 * 64
  (if b.sca then squeeze ((List.range b.rows).flatMap fun i => lines b.asb b.ass i (ks i)) else [],
   if b.scb then squeeze ((List.range b.cols).flatMap fun j => lines b.bsb b.bss j used) else [])

/-! ## Arithmetic (R237, R238) -/

/-- An element as it enters products: its value and the exceptions that its use raises (R238). -/
structure MxVal where
  v : FVal
  exc : Exc
deriving DecidableEq, Repr

/-- An element of a format with its scale, if it has one. -/
def mxElem (fmt level code : Nat) (scale : Option Nat) : MxVal :=
  let tapered := fun (t : TVal) => match t, scale with
    | .nar, _ | _, some 0xFF => ⟨.nan false 0, excNar⟩
    | .num s m e, some x => ⟨.num s m (e + x - 127), excNone⟩
    | .num s m e, none => ⟨.num s m e, excNone⟩
  let ieee := fun (f : FFmt) => ⟨readF f level code, excIf (isSnan f code) excInv⟩
  match fmt with
  | 0 => tapered (unpackT 7 code)
  | 1 => tapered (unpackT 5 code)
  | 2 => ieee .bf16
  | _ => ieee .f16

/-- The product of two elements. -/
def mxProduct (a b : MxVal) : MxVal :=
  match a.v, b.v with
  | .nan _ _, _ | _, .nan _ _ => ⟨.nan false 0, a.exc ||| b.exc⟩
  | .inf s, .inf t => ⟨.inf (s != t), excNone⟩
  | .inf s, .num t m _ | .num t m _, .inf s => if m = 0 then ⟨.nan false 0, excInv⟩ else ⟨.inf (s != t), excNone⟩
  | .num s m e, .num t n g => ⟨.num (s != t) (m * n) (e + g), excNone⟩

/-- The exact sum of the finite products of a group. -/
def groupDyad (ps : List MxVal) : Dyad :=
  sumDyads .rne (ps.filterMap fun p => match p.v with | .num s m e => some ⟨s, m, e⟩ | _ => none)

/-- The sum of a group of products whose finite ones sum to `d`, an exact zero being +0. A group with a NaN product is NaN, whatever
infinities stand beside it, and ∞ + −∞ is then not raised (R238, log 69). -/
def groupSum (d : Dyad) (ps : List MxVal) : MxVal :=
  let exc := ps.foldl (fun e p => e ||| p.exc) excNone
  let has := fun neg => ps.any fun p => p.v == .inf neg
  if ps.any fun p => (match p.v with | .nan _ _ => true | _ => false) then ⟨.nan false 0, exc⟩
  else if has true && has false then ⟨.nan false 0, exc ||| excInv⟩
  else if has true then ⟨.inf true, exc⟩
  else if has false then ⟨.inf false, exc⟩
  else ⟨.num (d.m != 0 && d.neg) d.m d.e, exc⟩

/-- A group sum added to an accumulator, rounded once to f32; every NaN is canonical (R237, R238). -/
def accAdd (level acc : Nat) (x : MxVal) : Nat × Exc :=
  let env : FEnv := ⟨.rne, false, level⟩
  let r : Nat × Exc := match readF .f32 level acc, x.v with
    | .nan _ _, _ | _, .nan _ _ => (canonNan .f32, excIf (isSnan .f32 acc) excInv)
    | .inf s, .inf t => if s = t then (infCode .f32 s, excNone) else (canonNan .f32, excInv)
    | .inf s, _ => (infCode .f32 s, excNone)
    | _, .inf t => (infCode .f32 t, excNone)
    | .num s m e, .num t n g => roundDyad .f32 env (sumDyads .rne [⟨s, m, e⟩, ⟨t, n, g⟩])
  (r.1, r.2 ||| x.exc)

/-- The modulus of residues (R240). -/
def resMod : Nat := 2 ^ 31 - 1

/-- The residue of a value; NaN and infinity enter as 0 (R240). -/
def resOf (v : FVal) : Nat :=
  match v with
  | .num s m e =>
    let r := m % resMod * 2 ^ (e % 31).toNat % resMod
    if s then (resMod - r) % resMod else r
  | _ => 0

/-- A list cut into runs of `n`. -/
def chunks {α : Type} (n : Nat) : Nat → List α → List (List α)
  | 0, _ => []
  | _, [] => []
  | fuel + 1, l => l.take n :: chunks n fuel (l.drop n)

/-- What the array gives for one element of a pass. -/
structure MxOut where
  row : Nat
  col : Nat
  val : Nat
  exc : Exc
  /-- the sum of the residues of its group sums -/
  res : Nat
deriving DecidableEq, Repr

/-- An element's code within an operand's words. -/
def codeAt (fmt : Nat) (t : Tab Word) (row i : Nat) : Nat :=
  let w := (tabVal 0 t (rowKey row (i / epw fmt))).toNat
  match fmt with
  | 0 => bits w (8 * (i % 4)) 8
  | 1 => bits w (6 * (i % 5)) 6
  | _ => bits w (16 * (i % 2)) 16

/-- A scale line as a pass has it: read before, else in the engine's cache (R235). -/
def Matrix.scaleLine (M : Matrix) (asid va : Nat) (p : Pass) : Option (List Byte) :=
  match tabGet p.scale (lineKey asid va) with
  | some l => some l
  | none => tabGet M.scale (lineKey asid va)

/-- A scale byte of a pass (R235). -/
def Matrix.scaleByte (M : Matrix) (asid va : Nat) (p : Pass) : Nat :=
  ((((M.scaleLine asid va p).getD [])[va % 64]?).map (·.toNat)).getD 0

/-- What the exact adder of a group produces: the sum of its finite products, or what an error puts in its place (R240). -/
def produced (err : List ArrayError) (row col group : Nat) (ps : List MxVal) : Dyad :=
  match err.find? fun e => e.row == row && e.col == col && e.group == group with
  | some e => ⟨e.neg, e.mant, e.exp⟩
  | none => groupDyad ps

/-- One output element (R229, R237) of an array with errors: `acc` is its value before the pass. -/
def mxElement (M : Matrix) (asid level : Nat) (b : Block) (p : Pass) (row col acc : Nat) (prods : List (Nat × Option Nat))
    (err : List ArrayError) : MxOut :=
  let sc := fun (on : Bool) (base shift r k : Nat) => if on then some (M.scaleByte asid (scaleAddr base shift b.k r k) p) else none
  let ps := prods.map fun x => match x.2 with
    | none => (⟨.num false 0 0, excNone⟩ : MxVal)
    | some k =>
      mxProduct (mxElem b.fmt level (codeAt b.fmt p.opA row x.1) (sc b.sca b.asb b.ass row k))
        (mxElem b.fmt level (codeAt b.fmt p.opB col k) (sc b.scb b.bsb b.bss col k))
  let sums := (chunks (groupSize b.fmt) ps.length ps).mapIdx fun g l => (produced err row col g l, l)
  let start := if b.zero then 0 else acc
  let r := sums.foldl (fun (a : Nat × Exc) x => let y := accAdd level a.1 (groupSum x.1 x.2); (y.1, a.2 ||| y.2)) (start, excNone)
  { row := row, col := col, val := r.1, exc := r.2, res := sums.foldl (fun n x => (n + resOf (.num x.1.neg x.1.m x.1.e)) % resMod) 0 }

/-- Every unclipped element of a pass, as an array with errors gives it. -/
def mxOutputs (M : Matrix) (asid level : Nat) (b : Block) (p : Pass) (T : Tile) (err : List ArrayError) : List MxOut :=
  (List.range b.rows).flatMap fun i =>
    let prods := productsOf b p.meta_ i
    (List.range b.cols).map fun j => mxElement M asid level b p i j (tabVal 0 T.elems (128 * i + j)).toNat prods err

/-! ## The residue check (R240, R241) -/

/-- The sum of residues of a row. -/
def rowRes (outs : List MxOut) (i : Nat) : Nat := (outs.filter fun o => o.row == i).foldl (fun n o => (n + o.res) % resMod) 0
/-- The sum of residues of a column. -/
def colRes (outs : List MxOut) (j : Nat) : Nat := (outs.filter fun o => o.col == j).foldl (fun n o => (n + o.res) % resMod) 0

/-- The lowest failing row or column: whether it is a column, its index and the residues of both sides (R241). Where a row and a column
disagree, the lowest row is named (log 69). The independent side is that of the operands, which an array without errors gives (R240). -/
def failing (b : Block) (array indep : List MxOut) : Option (Bool × Nat × Nat × Nat) :=
  match (List.range b.rows).find? fun i => rowRes array i != rowRes indep i with
  | some i => some (false, i, rowRes array i, rowRes indep i)
  | none => ((List.range b.cols).find? fun j => colRes array j != colRes indep j).map fun j =>
      (true, j, colRes array j, colRes indep j)

/-- Σᵢ Rᵢ of a pass. -/
def sigOf (outs : List MxOut) : Nat := outs.foldl (fun n o => (n + o.res) % resMod) 0

/-! ## Tiles and commits (R237-R243, R255) -/

/-- A tile of a group. -/
def Group.tile (G : Group) (t : Nat) : Tile := tabVal Tile.zero G.tiles t

/-- A tile of a group changed. -/
def Group.modTile (G : Group) (t : Nat) (f : Tile → Tile) : Group := { G with tiles := tabPut Tile.zero G.tiles t (f (G.tile t)) }

/-- The tile that a pass names. -/
def Pass.tile (p : Pass) : Nat := (blockOf p.blk).tile

/-- The tile that a pass accumulates into, as its engine has it. -/
def Pass.tileOf (p : Pass) (G : Group) : Tile := p.tileIn.getD (G.tile p.tile)

/-- A pass commits: its tile in both twins, the wave's registers, its reservation (R237-R243, R255). -/
def State.commitPass (s : State) (quad k : Nat) (p : Pass) (x : Staged) : State :=
  let s1 := (s.pairOf p.grp).foldl (fun t h => t.modGroup h fun G =>
    (G.modTile p.tile fun T => { tag := .f32, elems := x.elems.foldl (fun e w => tabPut 0 e w.1 w.2) T.elems }).modWave p.wave fun W =>
      { W with mxflags := W.mxflags ||| (x.exc &&& 0x5D), mxdone := W.mxdone + 1, mxsig := BitVec.ofNat 32 x.sig }) s
  (s1.modMatrix quad fun M => { M with entries := tabErase M.entries k }).passEnded p.grp p.wave p.slot p.fib

/-! ## Redirected passes at the mailbox (R253, R295) -/

/-- The request that a redirected pass makes of the mailbox slice of the quad that holds its tiles leaves its engine (R295). -/
def State.sendPass (s : State) (quad turn : Nat) (p : Pass) (G : Group) (commit : Bool) : State :=
  s.enqueue (chanId (matrixNode quad) (routerNode (48 * (quad / 54) + quad % 54 % 48)))
    { core := p.core, grp := p.grp, wave := p.wave, slot := p.slot, fib := p.fib, ctx := G.ctx, asid := G.asid, va := 0, size := 0,
      home := mailboxOf (quadOf p.core), op := .pass quad turn commit }

/-- The words of an operand as the mailbox reads them: those of a scratchpad operand (R232, R295). -/
def State.mailboxRead (s : State) (G : Group) (o : Operand) (pair : KPair) (have_ : Tab Word) : Tab Word :=
  if o.src = 1 then (s.fetchOperand G G.asid o pair []).toOption.getD have_ else have_

/-- The mailbox slice serves a redirected pass: it reads the tile and the scratchpad operands, or commits (R295). -/
def State.passAtMailbox (s : State) (quad turn : Nat) (commit : Bool) : State :=
  match (s.matrix quad).entries.find? fun e => e.2.turn == turn && e.2.redirected with
  | none => s
  | some (k, p) =>
    match s.group p.grp, commit, p.staged with
    | some _, true, some x => if p.path = .storing then s.commitPass quad k p x else s
    | some G, false, _ =>
      if p.path = .reading then
        let b := blockOf p.blk
        s.modPass quad k fun p =>
          { p with path := .read, tileIn := some (G.tile p.tile), opA := s.mailboxRead G b.opA (capturedPair p.kp 0) p.opA,
                   opB := s.mailboxRead G b.opB (capturedPair p.kp 1) p.opB }
      else s
    | _, _, _ => s

/-! ## The scale cache and the waiting room of passes (R221, R236, R254) -/

/-- The scale-cache lines of an ASID that a range overlaps leave a quad's engine (R248). -/
def State.dropScale (s : State) (quad asid lo len : Nat) : State :=
  s.modMatrix quad fun M =>
    { M with scale := M.scale.filter fun l =>
        !(l.1 / 2 ^ 50 == asid && len != 0 && decide ((l.1 % 2 ^ 50 * 64 + 63 + 2 ^ 56 - lo % 2 ^ 56) % 2 ^ 56 < len + 63)) }

/-- A launch lands on a quad: the first time, its scale cache loses the lines of the launch's address space (R236). -/
def State.landQuad (s : State) (id quad : Nat) : State :=
  match tabGet s.cp.launches id with
  | none => s
  | some L =>
    if L.quads.contains quad then s
    else (s.dropScale quad L.asid 0 (2 ^ 56)).modLaunch id fun M => { M with quads := M.quads ++ [quad] }

/-- Reservation entries that a core's groups hold (R221). -/
def State.reserved (s : State) (core : Nat) : Nat :=
  ((s.matrix (quadOf core)).entries.filter fun e => e.2.core == core).length

/-- A subject whose pass has moved to another engine's table: its record names that engine, but not a table of saved passes (R324). -/
def Subject.movedPass (x : Subject) (q e d i : Nat) (p : Pass) : Subject :=
  match x.of with
  | .pass a b =>
    if a = q ∧ b = e then
      let y := { x with of := .pass d i }
      if d = savedPasses then y
      else { y with core := p.core, tail := tabPut 0 y.tail 52 (BitVec.ofNat 32 (bits (tabVal 0 y.tail 52).toNat 0 16 + d * 2 ^ 16)) }
    else x
  | _ => x

/-- A pass moved from one engine's table to another's; its record goes with it. -/
def State.movePass (s : State) (q e d : Nat) (p : Pass) : State :=
  match freeFrom ((s.matrix d).entries.map (·.1)) ((s.matrix d).entries.length + 1) 0 with
  | none => s
  | some i =>
    ((s.modMatrix q fun M => { M with entries := tabErase M.entries e }).modMatrix d fun M =>
      { M with entries := tabSet M.entries i p }).mapSubjects fun x => x.movedPass q e d i p

/-- The least-ordered saved pass of a resident group whose core's groups hold fewer than 8 entries (R221, R254). -/
def State.passToSeat (s : State) : Option (Nat × Pass) :=
  ((s.matrix savedPasses).entries.filter fun e =>
    ((s.group e.2.grp).bind Group.core?).any fun c => decide (s.reserved c < 8)).foldl (fun r e =>
      match r with
      | some (x : Nat × Pass) => if e.2.order < x.2.order then some e else r
      | none => some e) none

/-- Passes that a restore brought back are reserved on their quad's engine in their order, each when it finds a place (R221, R254). -/
def State.seatPasses (s : State) : State :=
  (s.matrix savedPasses).entries.foldl (fun t _ =>
    match t.passToSeat with
    | some (e, p) =>
      let t1 := t.movePass savedPasses e (quadOf p.core) { p with order := t.eng.nextPass, at_ := (t.core p.core).cycles }
      { t1 with eng := { t1.eng with nextPass := t.eng.nextPass + 1 } }
    | none => t) s

end Sys2Proof.Machine
end

