-- ==== Sys2Proof/Machine/Ready.lean ====
section
/-! DEFINITION. The gate of an issuing bundle (R61, R63, R74, R76, R104, R105): readiness of each kind of instruction (R37, R182, R200,
R204, R222, R233, R266, R282), then the beginning that all meanings share, and arithmetic (R113-R116, R123). -/
namespace Sys2Proof.Machine

/-! ## Readiness -/

/-- Whether an access of this instruction holds back the fibre's later accesses (R266, R282). -/
def acquiring (i : Instr) : Bool :=
  match memForm i with
  | some m => m.act.acquires
  | none => [0xD2, 0xD3, 0xD5].contains (opcodeOf i)

/-- A guard-true fibre has an acquire outstanding: its later accesses are not ready (R282). -/
def Wave.acquirePending (W : Wave) (gt : List Nat) : Bool :=
  W.sb.any fun e => acquiring e.2.instr && e.2.accs.any fun a => a.waits && gt.contains a.fib

/-- The fibres' earlier accesses to memory have completed: a release point may issue (R266, R351). -/
def Wave.released (W : Wave) (gt : List Nat) : Bool :=
  W.sb.all fun e => !(accessSlot e.1 && !isPgreq e.2.instr && e.2.accs.any fun a => gt.contains a.fib && a.waits)

/-- Whether an instruction is a release point for its fibres' earlier accesses (R266, R249): a barrier arrival, the start of
a copy, MXGO, MXHIST, SHFIN. Other releases leave the core when their accesses may (R282). -/
def releasePoint (i : Instr) : Bool := [0x19, 0x1B, 0xB0, 0xB1, 0xB2, 0xB8, 0xBD, 0xDA].contains (opcodeOf i)

/-- Whether an instruction accesses memory or an object, and so waits for an outstanding acquire of its fibres (R282). -/
def accesses (i : Instr) : Bool := (memForm i).isSome || objectOp i

/-- The tag of a copy instruction. -/
def copyTag : Instr → Option Nat
  | .cpg2s o => some o.tag
  | .cpg2sExt o => some o.tag
  | .cps2g o => some o.tag
  | .cps2gExt o => some o.tag
  | .cpx o => some o.tag
  | .cpxExt o => some o.tag
  | _ => none

/-- Room for a bundle's copies, and its tag held by no other group of the core (R200, R204). -/
def State.copyReady (s : State) (G : Group) (g tag n : Nat) : Bool :=
  decide ((s.copyEng G.coreNo).copies.length + n ≤ 512) &&
    (s.residents G.coreNo).all fun e => e.1 == g || (tabGet e.2.tags tag).isNone

/-- Whether passes that a restore brought back to a core still wait for a place: they go ahead of every new one (R254). -/
def State.passesWait (s : State) (core : Nat) : Bool :=
  (s.matrix savedPasses).entries.any fun e => ((s.group e.2.grp).bind Group.core?) == some core

/-- Room for a bundle's passes, and no hazard on the registers that they capture of any live fibre (R222, R233, R254); a twin reserves and
captures nothing (R255). -/
def State.mxReady (s : State) (G : Group) (W : Wave) (gt : List Nat) (a : Reg) : Bool :=
  G.isTwin || decide (8 < gt.length) ||
    (decide (s.reserved G.coreNo + gt.length ≤ 8) && !s.passesWait G.coreNo &&
      gt.all fun f => (blockOf (G.scrWords (W.read f a).val.toNat 16)).regOperands.all fun o =>
        o.codes.all fun v => W.live.all fun h => !W.regHazard h ((W.fib h).dreg (.v v)))

/-- A fibre's accesses in the facet frame have completed, so that it may return (R363, log 21). -/
def Wave.frameSettled (W : Wave) (f : Nat) : Bool :=
  !(W.sb.any fun e => e.2.accs.any fun a => a.waits && a.fib == f && a.inFacet)

/-- Readiness beside operands and entries. -/
def State.opReady (s : State) (i : Instr) (G : Group) (W : Wave) (c : Issue) (gt : List Nat) : Bool :=
  gt.isEmpty ||
    ((!releasePoint i || W.released gt) && (!accesses i || !W.acquirePending gt) &&
      (match copyTag i with | some t => s.copyReady G c.grp t gt.length | none => true) &&
      (match i with
       | .mxgo o => s.mxReady G W gt o.a
       | .fctret _ => gt.all W.frameSettled
       | .fctstg _ => W.released gt && !W.acquirePending gt
       | _ => true))

/-! ## The gate -/

/-- The checks that every instruction passes before its own, in the order of R76: privilege (R74), reserved values
(R63), bad groups and M0 or P7 written (R65, R71), the window (R32), readiness (R37, R182), tags (R105). -/
def gate (i : Instr) (s : State) (G : Group) (W : Wave) (c : Issue) : Gate :=
  let o := opndsOf i
  if !opAllowed (opcodeOf i) G (W.inFacet c) then .raise { cause := 0x04, fmask := maskOf c.fibres }
  else if reservedValue i then .raise { cause := 0x06, fmask := maskOf c.fibres }
  else if illegalOperand i then .raise { cause := 0x07, fmask := maskOf c.fibres }
  else if !(c.fibres.all fun f => o.regs.all (W.fib f).inWindow) then
    .raise { cause := 0x05, fmask := maskOf (c.fibres.filter fun f => !o.regs.all (W.fib f).inWindow) }
  else if !W.hazardFree c o then .stall
  else if o.entry.any fun k => (W.freeEntry k).isNone then .stall
  else if !s.opReady i G W c (W.guardTrue c o.guard) then .stall
  else match W.tagMismatch (opcodeOf i) o c (W.guardTrue c o.guard) with
    | some r => .raise r
    | none => .go

/-- Every instruction of a bundle begins here: without an issuing bundle the model stops; the gate answers; a bundle
that is not ready leaves the state as it is; a raise takes the fault with no effect of the instruction; otherwise the
instruction's own effect follows. -/
def issueWith (i : Instr) (s : State)
    (run : Issue → Group → Wave → List Nat → Host.Outcome State Fault Refusal) : Host.Outcome State Fault Refusal :=
  match s.cur with
  | none => .fault .noBundle
  | some c =>
    match s.group c.grp with
    | none => .fault .noBundle
    | some G =>
      match tabGet G.waves c.wave with
      | none => .fault .noBundle
      | some W =>
        let gt := W.guardTrue c (opndsOf i).guard
        match gate i s G W c with
        | .raise r => .next (s.takeFault c r false (maskOf gt) .none)
        | .stall => .next s
        | .go => run c G W gt

/-! ## Arithmetic (R113-R116, R123) -/

/-- An arithmetic instruction performed in every guard-true fibre (R61, R123). -/
def execAlu (i : Instr) (lane : LaneIn → LaneOut) (s : State) : Host.Outcome State Fault Refusal :=
  issueWith i s fun c G W gt =>
    let o := opndsOf i
    let out := fun f => lane (s.laneIn G W o f)
    if gt.any fun f => trapping (W.fib f) (out f).exc != 0 then .next (s.trapAt i c W gt fun f => (out f).exc)
    else
      let W1 := (W.advance c).writeRegs gt o.dstRegs fun f => (out f).regs
      .next (s.setWave c (gt.foldl (fun X f => X.writePredFlags f o (out f)) W1))

end Sys2Proof.Machine
end

