-- ==== Sys2Proof/Machine/Control.lean ====
section
/-! DEFINITION. The meanings of control, fibre, window and special-register instructions (R126-R130, R143-R148). -/
namespace Sys2Proof.Machine

/-- The instruction ends: its wave stands as given. -/
def State.nextWave (s : State) (c : Issue) (W : Wave) : Host.Outcome State Fault Refusal := .next (s.setWave c W)

/-- NOP (R146): none. -/
def execNop (o : Form.N) (s : State) : Host.Outcome State Fault Refusal :=
  issueWith (.nop o) s fun c _ W _ => s.nextWave c (W.advance c)

/-! ## Branches (R126, R127) -/

/-- Whether a target from a register or from %lnk may be branched to (R127). -/
def targetOk (t : Addr) : Bool := canonical t.toNat && t.toNat % 4 == 0

/-- The target of a branch with an offset (R126). -/
def offTarget (c : Issue) (off : Nat) : Addr := c.pc + BitVec.ofInt 64 (4 * sx off 21)

/-- A transfer of control by the guard-true fibres, each to its own target; `link` says whether %lnk takes the return
address. A bad target raises for the wave and no fibre branches (R126, R127). -/
def execJump (i : Instr) (s : State) (link check : Bool) (target : Issue → Wave → Nat → Addr) :
    Host.Outcome State Fault Refusal :=
  issueWith i s fun c _ W gt =>
    let bad := gt.filter fun f => check && !targetOk (target c W f)
    if bad ≠ [] then s.raised c gt { cause := 0x07, fmask := maskOf bad }
    else s.nextWave c (gt.foldl (fun X f => X.modFib f fun F =>
      let F1 := if link then F.setLnk (c.pc + 4) else F
      F1.setPc (target c W f)) (W.advance c))

/-- The pair that a fibre reads from an even register. -/
def Wave.readPair (W : Wave) (f : Nat) (r : Reg) : Addr := pair (W.read f r).val (W.read f (regPlus r 1)).val

/-- BRA (R126). -/
def execBra (o : Form.B) (s : State) : Host.Outcome State Fault Refusal :=
  execJump (.bra o) s false false fun c _ _ => offTarget c o.off

/-- BRX (R126, R127). -/
def execBrx (o : Form.A1) (s : State) : Host.Outcome State Fault Refusal :=
  execJump (.brx o) s false true fun _ W f => W.readPair f o.a

/-- CALL (R126). -/
def execCall (o : Form.B) (s : State) : Host.Outcome State Fault Refusal :=
  execJump (.call o) s true false fun c _ _ => offTarget c o.off

/-- CALLX (R126, R127). -/
def execCallx (o : Form.A1) (s : State) : Host.Outcome State Fault Refusal :=
  execJump (.callx o) s true true fun _ W f => W.readPair f o.a

/-- RET (R126, R127). -/
def execRet (o : Form.N) (s : State) : Host.Outcome State Fault Refusal :=
  execJump (.ret o) s false true fun _ W f => (W.fib f).curLnk

/-! ## TRAP, YIELD, STEP (R144, R146) -/

/-- TRAP (R146, R337): the wave parks with DEBUG_BREAK, its fibres standing after the TRAP; RETRY moves them back. -/
def execTrap (o : Form.I) (s : State) : Host.Outcome State Fault Refusal :=
  issueWith (.trap o) s fun c _ W gt =>
    if gt = [] then s.nextWave c (W.advance c)
    else .next ((s.setWave c (W.advance c)).takeFault c { cause := 0x51, fmask := maskOf gt } false (maskOf gt) .onRetry)

/-- YIELD (R146): the issuing fibres are not ready until the next regroup boundary. -/
def execYield (o : Form.N) (s : State) : Host.Outcome State Fault Refusal :=
  issueWith (.yield o) s fun c G W gt =>
    let now := (s.core G.coreNo).cycles
    s.nextWave c (gt.foldl (fun X f => X.modFib f fun F => { F with wait := .yield now }) (W.advance c))

/-- STEP (R144): without the elastic flag it has no effect; with it the wave arrives and its fibres wait. -/
def execStepMark (o : Form.N) (s : State) : Host.Outcome State Fault Refusal :=
  issueWith (.stepMark o) s fun c G W gt =>
    if !G.hdr.flags.testBit 2 || G.launch == 0 || gt.isEmpty then s.nextWave c (W.advance c)
    else s.nextWave c (gt.foldl (fun X f => X.modFib f fun F => { F with wait := .step }) { (W.advance c) with stepArrived := true })

/-! ## ISYNC (R145) -/

/-- ISYNC (R145): takes a store entry whose fibres wait for their earlier stores and for the invalidation. -/
def execIsync (o : Form.AB) (s : State) : Host.Outcome State Fault Refusal :=
  issueWith (.isync o) s fun c _ W gt =>
    match W.freeEntry .store, gt with
    | _, [] => s.nextWave c (W.advance c)
    | none, _ => .next s
    | some slot, _ =>
      let accs := gt.map fun f =>
        ({ fib := f, va := W.readPair f o.a, data := [(W.read f o.b).val], st := .unsent, dst := [], pd := none, skip := 0,
           drop := false, tmo := 0, inFacet := false } : Acc)
      let W1 := (W.advance c).addEntry slot (.isync o) c.pc accs
      s.nextWave c (gt.foldl (fun X f => X.modFib f fun F => { F with wait := .isync slot }) W1)

/-! ## Fibres (R39, R128, R129) -/

/-- A fibre that FSPAWN makes in a slot (R39, R114, R128). -/
def spawned (G : Group) (entry : Addr) (v0 : Tagged) : Fibre :=
  { Fibre.empty with st := .live, pc := entry, alloc := 16 * G.hdr.units, regs := tabPut zeroReg [] 0 v0,
                     trapen := BitVec.ofNat 32 G.hdr.traps }

/-- One fibre's FSPAWN: the wave with the new fibre, and the number that D receives (R128). -/
def Wave.spawnOne (W : Wave) (G : Group) (entry : Addr) (v0 : Tagged) : Wave × Word :=
  match (List.range 32).find? fun f => !(W.fib f).isLive with
  | some k => (W.modFib k fun _ => spawned G entry v0, BitVec.ofNat 32 k)
  | none => (W, 0xFFFFFFFF)

/-- The fibres of a bundle spawn in ascending order; the numbers they receive. -/
def Wave.spawnAll (W : Wave) (G : Group) (req : List (Nat × Addr × Tagged)) : Wave × List (Nat × Word) :=
  req.foldl (fun acc r =>
    let x := acc.1.spawnOne G r.2.1 r.2.2
    (x.1, acc.2 ++ [(r.1, x.2)])) (W, [])

/-- FSPAWN (R128): live-count barriers are recounted (R47). -/
def execFspawn (o : Form.DAB) (s : State) : Host.Outcome State Fault Refusal :=
  issueWith (.fspawn o) s fun c G W gt =>
    let bad := gt.filter fun f => !targetOk (W.readPair f o.a)
    if bad ≠ [] then s.raised c gt { cause := 0x07, fmask := maskOf bad }
    else
      let r := (W.advance c).spawnAll G (gt.map fun f => (f, W.readPair f o.a, W.read f o.b))
      let W1 := r.1.writeRegs gt [o.d] fun f => [⟨tabVal 0 r.2 f, .n32⟩]
      .next ((s.setWave c W1).modGroup c.grp Group.recount)

/-- FEXIT (R129, R39, R41): each guard-true fibre ends, the others continue. -/
def execFexit (o : Form.N) (s : State) : Host.Outcome State Fault Refusal :=
  issueWith (.fexit o) s fun c _ W gt => .next ((s.setWave c (W.advance c)).exitFibs c.grp c.wave gt)

/-! ## Register windows (R34, R130) -/

/-- WGROW (R34, R130): granted at once when no request is pending and the pool holds the units; else its fibres wait. -/
def execWgrow (o : Form.I) (s : State) : Host.Outcome State Fault Refusal :=
  issueWith (.wgrow o) s fun c G W gt =>
    let bad := gt.filter fun f => decide (480 < (W.fib f).alloc + 16 * o.imm)
    if bad ≠ [] then s.raised c gt { cause := 0x05, fmask := maskOf bad }
    else if gt = [] then s.nextWave c (W.advance c)
    else
      let need := gt.foldl (fun n f => n + growNeed G.hdr.units o.imm (W.fib f)) 0
      let core := G.coreNo
      if (s.core core).grow.isEmpty && decide (need ≤ s.poolFree core) then s.nextWave c ((W.advance c).grow o.imm gt)
      else
        let W1 := gt.foldl (fun X f => X.modFib f fun F => { F with wait := .wgrow o.imm c.pc }) (W.advance c)
        .next ((s.setWave c W1).modCore core fun C =>
          { C with grow := C.grow ++ [{ grp := c.grp, wave := c.wave, fibres := gt, need := need, n := o.imm }] })

/-- A fibre's allocation without its top registers: they are lost, and so is what a load still has to write there (R33). -/
def Wave.shrink (W : Wave) (f n : Nat) : Wave :=
  let a := (W.fib f).alloc - 16 * n
  let W1 := W.modFib f fun F => { F with alloc := a, regs := F.regs.filter fun e => decide (e.1 < a) }
  { W1 with sb := tabMap W1.sb fun _ e => e.modAcc f fun x =>
      { x with dst := x.dst.map fun d => match d with | .v i => if a ≤ i then .v 480 else d | _ => d } }

/-- WSHRINK (R130, R34): units above the slot's reservation return to the pool. -/
def execWshrink (o : Form.I) (s : State) : Host.Outcome State Fault Refusal :=
  issueWith (.wshrink o) s fun c G W gt =>
    let bad := gt.filter fun f => decide ((W.fib f).alloc < (W.fib f).base + 16 + 16 * o.imm)
    if bad ≠ [] then s.raised c gt { cause := 0x05, fmask := maskOf bad }
    else
      let back := gt.foldl (fun n f => n + min o.imm ((W.fib f).beyond G.hdr.units)) 0
      .next ((s.setWave c (gt.foldl (fun X f => X.shrink f o.imm) (W.advance c))).giveBack c.grp back)

/-- The window base after WMOVE. -/
def movedBase (F : Fibre) (imm : Nat) : Int := F.base + 16 * sx imm 14

/-- WMOVE (R130). -/
def execWmove (o : Form.I) (s : State) : Host.Outcome State Fault Refusal :=
  issueWith (.wmove o) s fun c _ W gt =>
    let bad := gt.filter fun f =>
      decide (movedBase (W.fib f) o.imm < 0) || decide (((W.fib f).alloc : Int) - 16 < movedBase (W.fib f) o.imm)
    if bad ≠ [] then s.raised c gt { cause := 0x05, fmask := maskOf bad }
    else s.nextWave c (gt.foldl (fun X f => X.modFib f fun F => { F with base := (movedBase F o.imm).toNat }) (W.advance c))

/-! ## WAITC (R143) -/

/-- WAITC (R143): the fibres wait; `State.settle` lets go on those whose counts are met. -/
def execWaitc (o : Form.Waitc) (s : State) : Host.Outcome State Fault Refusal :=
  issueWith (.waitc o) s fun c _ W gt =>
    s.nextWave c (gt.foldl (fun X f => X.modFib f fun F => { F with wait := .waitc o.nl o.ns o.nc o.nt }) (W.advance c))

/-! ## Special registers (R147, R148, R205, R239, R347, R372, R401) -/

/-- Bits of the copy tags that a group holds and that a condition picks. -/
def Group.tagBits (G : Group) (p : HeldTag → Bool) : Nat := G.tags.foldl (fun n e => if p e.2 then n + 2 ^ e.1 else n) 0

/-- Groups of the launch of a group: %ngrp (R148, R394). -/
def State.ngrp (s : State) (G : Group) : Nat :=
  match s.launchOf G with
  | some L => if L.hdr.flags.testBit 2 then L.groups * L.joined.length else L.groups
  | none => 1

/-- Dies that hold the groups of the launch: %ldies (R401). -/
def State.ldies (s : State) (G : Group) : Nat := match s.launchOf G with | some L => L.joined.length | none => 1

/-- The logical core of a core: %lcore (R401). -/
def State.lcore (s : State) (core : Nat) : Nat :=
  ((List.range 36).find? fun k => (s.workCores (dieOf core))[k]? == some core).getD 0xFFFFFFFF

/-- %felapsed of a fibre in facet context (R372). -/
def State.felapsed (s : State) (G : Group) (x : FacetCtx) : Nat := (s.core G.coreNo).cycles - x.entry

/-- The address of the image's data area: %fdata (R372). -/
def State.fdata (s : State) : Nat :=
  if imgField s.facet.active 0x24 4 = 0 then 0 else facetOrigin + imgField s.facet.active 0x20 4

/-- The value of a special register for a fibre, and its tag (R148). -/
def State.special (s : State) (G : Group) (w : Nat) (W : Wave) (f n : Nat) : Nat × Tag :=
  let F := W.fib f
  let C := s.core G.coreNo
  match n with
  | 0x000 => (f, .n32)
  | 0x001 => (w, .n32)
  | 0x002 => (G.gid, .n32)
  | 0x003 => (G.coreNo, .n32)
  | 0x004 => (quadOf G.coreNo, .n32)
  | 0x005 => (G.die, .n32)
  | 0x006 => (F.base + F.alloc * 2 ^ 16, .b32)
  | 0x007 => (C.regg + C.scrg * 2 ^ 8 + C.accg * 2 ^ 16, .b32)
  | 0x008 => (F.curFlags.toNat, .b32)
  | 0x009 => (F.curTrapen.toNat, .b32)
  | 0x00A => (s.levelOf G F, .n32)
  | 0x00B => (match F.facet with | some x => x.lnk.toNat + facetOrigin | none => F.lnk.toNat, .b32)
  | 0x00C => (G.tagBits (·.done), .b32)
  | 0x00D => (s.ticks, .n32)
  | 0x00E => (match s.launchOf G with | some L => L.step | none => 0, .n32)
  | 0x00F => (G.hdr.fibres, .n32)
  | 0x010 => (s.ngrp G, .n32)
  | 0x040 => (G.tagBits (·.fail), .b32)
  | 0x041 => (G.tagBits fun _ => true, .b32)
  | 0x060 => (W.mxflags.toNat, .b32)
  | 0x061 => (W.mxdone.toNat, .n32)
  | 0x062 => (W.mxsig.toNat, .n32)
  | 0x0A0 => (G.frec, .n32)
  | 0x0A1 => (G.fcause, .n32)
  | 0x0A2 => (G.flevel, .n32)
  | 0x0A3 => (G.budget.getD 0xFFFFFFFF, .n32)
  | 0x0C0 => (match F.facet with | some _ => F.pc.toNat | none => 0, .b32)
  | 0x0C1 => (match F.facet with | some x => x.slot | none => 0, .n32)
  | 0x0C2 => (match F.facet with | some _ => G.hdr.level | none => 0, .n32)
  | 0x0C3 => (match F.facet with | some _ => s.fdata | none => 0, .b32)
  | 0x0C4 => (match F.facet with | some x => s.felapsed G x | none => 0, .n32)
  | 0x0C5 => (imgField s.facet.active 8 4, .n32)
  | 0x0E0 => (s.lcore G.coreNo, .n32)
  | 0x0E1 => (s.ldies G, .n32)
  | 0x0E2 => (if G.rejoin then 1 else 0, .n32)
  | _ => (0, .b32)

/-- The registers that GETS writes: one, or a pair for a 64-bit register. -/
def specialWords (n : Nat) (x : Nat × Tag) : List Tagged :=
  if specialIs64 n then [⟨BitVec.ofNat 32 x.1, x.2⟩, ⟨BitVec.ofNat 32 (x.1 / 2 ^ 32), x.2⟩] else [⟨BitVec.ofNat 32 x.1, x.2⟩]

/-- GETS (R147): reading %ctags with a bit set observes a completion and is an acquire (R214). -/
def execGets (o : Form.DI) (s : State) : Host.Outcome State Fault Refusal :=
  issueWith (.gets o) s fun c G W gt =>
    let W1 := (W.advance c).writeRegs gt ((List.range (specialRegs o.imm)).map (regPlus o.d)) fun f =>
      specialWords o.imm (s.special G c.wave W f o.imm)
    let s1 := s.setWave c W1
    .next (if o.imm = 0x00C ∧ gt ≠ [] ∧ G.tagBits (·.done) ≠ 0 then s1.acquire G.coreNo else s1)

/-- Tags of a group after done or fail bits are cleared: a tag with no copy left and a clear bit is free (R204, R205). -/
def clearTags (done : Bool) (v : Nat) (t : Tab HeldTag) : Tab HeldTag :=
  t.filterMap fun e =>
    let x := if v.testBit e.1 then (if done then { e.2 with done := false } else { e.2 with fail := false }) else e.2
    if x.count = 0 ∧ !x.done then none else some (e.1, x)

/-- What a write of %ctags or %cfail clears: not the bits that a completion set in the same core cycle, which are set after it
(R205). -/
def Group.clears (G : Group) (done : Bool) (v : Addr) : Nat :=
  (v &&& ~~~(BitVec.ofNat 64 (G.tagBits fun h => if done then h.recent else h.recentFail))).toNat

/-- A special register written by one fibre. -/
def Wave.setSpecial (W : Wave) (f n : Nat) (lo hi : Word) : Wave :=
  match n with
  | 0x008 => W.modFib f fun F => F.setFlags lo
  | 0x009 => W.modFib f fun F => F.setTrapen lo
  | 0x00B => W.modFib f fun F => F.setLnk (pair lo hi)
  | 0x060 => { W with mxflags := lo &&& 0xDD }
  | _ => W

/-- SETS (R147): %ctags and %cfail clear the bits written as 1, a twin's with its own (R205). -/
def execSets (o : Form.DI) (s : State) : Host.Outcome State Fault Refusal :=
  issueWith (.sets o) s fun c _ W gt =>
    let lo := fun f => (W.read f o.d).val
    let hi := fun f => if specialIs64 o.imm then (W.read f (regPlus o.d 1)).val else 0
    let s1 := s.setWave c (gt.foldl (fun X f => X.setSpecial f o.imm (lo f) (hi f)) (W.advance c))
    .next (if o.imm = 0x00C ∨ o.imm = 0x040 then
        s1.modGroup c.grp fun G =>
          { G with tags := gt.foldl (fun t f => clearTags (o.imm == 0x00C) (G.clears (o.imm == 0x00C) (pair (lo f) (hi f))) t) G.tags }
      else s1)

end Sys2Proof.Machine
end

