-- ==== Sys2Proof/Machine/Convert.lean ====
section
/-! DEFINITION. The meanings of conversions, packing and tags (R171-R178): each performs its lane in every guard-true fibre. -/
namespace Sys2Proof.Machine

/-- CVT (R172). -/
def execCvt (o : Form.Cvt) (s : State) : Host.Outcome State Fault Refusal := execAlu (.cvt o) (laneCvt o) s

/-- PACK_TF8 (R174). -/
def execPackTf8 (o : Form.DAB) (s : State) : Host.Outcome State Fault Refusal := execAlu (.packTf8 o) lanePackTf8 s

/-- PACK_TF6 (R174). -/
def execPackTf6 (o : Form.DAB) (s : State) : Host.Outcome State Fault Refusal := execAlu (.packTf6 o) lanePackTf6 s

/-- PACK_F16 (R173). -/
def execPackF16 (o : Form.DAB) (s : State) : Host.Outcome State Fault Refusal := execAlu (.packF16 o) lanePackF16 s

/-- PACK_BF16 (R173). -/
def execPackBf16 (o : Form.DAB) (s : State) : Host.Outcome State Fault Refusal := execAlu (.packBf16 o) lanePackBf16 s

/-- UNPK_TF8 (R175). -/
def execUnpkTf8 (o : Form.DAI) (s : State) : Host.Outcome State Fault Refusal := execAlu (.unpkTf8 o) (laneUnpkTf8 o) s

/-- UNPK_TF6 (R175). -/
def execUnpkTf6 (o : Form.DAI) (s : State) : Host.Outcome State Fault Refusal := execAlu (.unpkTf6 o) (laneUnpkTf6 o) s

/-- UNPK_F16 (R175). -/
def execUnpkF16 (o : Form.DAI) (s : State) : Host.Outcome State Fault Refusal := execAlu (.unpkF16 o) (laneUnpkF16 o) s

/-- UNPK_BF16 (R175). -/
def execUnpkBf16 (o : Form.DAI) (s : State) : Host.Outcome State Fault Refusal := execAlu (.unpkBf16 o) (laneUnpkBf16 o) s

/-- SCALE (R176). -/
def execScale (o : Form.DAB) (s : State) : Host.Outcome State Fault Refusal := execAlu (.scale o) laneScale s

/-- RETAG (R178). -/
def execRetag (o : Form.Retag) (s : State) : Host.Outcome State Fault Refusal := execAlu (.retag o) (laneRetag o) s

end Sys2Proof.Machine
end

