-- ==== Sys2Proof/Machine/Masks.lean ====
section
/-! DEFINITION. The meanings of mask instructions, collectives and barriers (R131-R142, R177). -/
namespace Sys2Proof.Machine

/-! ## Mask registers (R131-R133) -/

/-- MJOIN (R131). -/
def execMjoin (o : Form.M1) (s : State) : Host.Outcome State Fault Refusal :=
  issueWith (.mjoin o) s fun c _ W gt => s.nextWave c ((W.advance c).setMask o.md (W.mask o.md ||| maskOf gt))

/-- MLEAVE (R131). -/
def execMleave (o : Form.M1) (s : State) : Host.Outcome State Fault Refusal :=
  issueWith (.mleave o) s fun c _ W gt => s.nextWave c ((W.advance c).setMask o.md (W.mask o.md &&& ~~~(maskOf gt)))

/-- MWAITM (R133): the guard-true fibres wait; `State.settle` releases them when every live member is among them. -/
def execMwaitm (o : Form.M1) (s : State) : Host.Outcome State Fault Refusal :=
  issueWith (.mwaitm o) s fun c _ W gt =>
    s.nextWave c (gt.foldl (fun X f => X.modFib f fun F => { F with wait := .mwaitm o.md c.pc }) (W.advance c))

/-- The result of a mask operation (R131). -/
def maskOp (op : Nat) (a b : Word) : Word :=
  match op with
  | 0 => a &&& b
  | 1 => a ||| b
  | 2 => a ^^^ b
  | 3 => a &&& ~~~b
  | _ => a

/-- MLOG (R131): acts once, when a fibre's guard is true. -/
def execMlog (o : Form.Mlog) (s : State) : Host.Outcome State Fault Refusal :=
  issueWith (.mlog o) s fun c _ W gt =>
    let W1 := W.advance c
    s.nextWave c (if gt = [] then W1 else W1.setMask o.md (maskOp o.op (W.mask o.ma) (W.mask o.mb)))

/-- MRD (R131). -/
def execMrd (o : Form.Mrd) (s : State) : Host.Outcome State Fault Refusal :=
  issueWith (.mrd o) s fun c _ W gt => s.nextWave c ((W.advance c).writeRegs gt [o.d] fun _ => [⟨W.mask o.ma, .b32⟩])

/-- MWR (R131): A of the highest-numbered guard-true fibre. -/
def execMwr (o : Form.Mwr) (s : State) : Host.Outcome State Fault Refusal :=
  issueWith (.mwr o) s fun c _ W gt =>
    let W1 := W.advance c
    s.nextWave c (match highest gt with
      | some f => W1.setMask o.md (W.read f o.a).val
      | none => W1)

/-! ## Collectives (R134-R136, R177) -/

/-- Every fibre of the bundle arrives at a collective over a mask, whatever its guard (R134). -/
def execColl (i : Instr) (s : State) (k : Collective) (mask : Nat) (pa : Option Nat) : Host.Outcome State Fault Refusal :=
  issueWith i s fun c _ W gt =>
    let o := opndsOf i
    let arrive := fun (X : Wave) (f : Nat) => X.modFib f fun F =>
      { F with wait := .coll k mask c.pc (gt.contains f) (o.srcRegs.map (W.read f))
                 (match pa with | some p => (W.fib f).pred p | none => false) (o.dstRegs.map (W.fib f).dreg) }
    s.nextWave c (c.fibres.foldl arrive (W.advance c))

/-- SHFL (R135). -/
def execShfl (o : Form.Shfl) (s : State) : Host.Outcome State Fault Refusal :=
  execColl (.shfl o) s (.shfl o.pd) o.ma none

/-- VOTE (R136). -/
def execVote (o : Form.Vote) (s : State) : Host.Outcome State Fault Refusal :=
  execColl (.vote o) s (.vote o.op o.pd) o.ma (some o.pa)

/-- BALLOT (R136). -/
def execBallot (o : Form.Ballot) (s : State) : Host.Outcome State Fault Refusal :=
  execColl (.ballot o) s .ballot o.ma (some o.pa)

/-- SCHIST (R177): a collective over M0. -/
def execSchist (o : Form.DAB) (s : State) : Host.Outcome State Fault Refusal := execColl (.schist o) s .schist 0 none

/-! ## Barriers (R138-R142) -/

/-- A barrier instruction: refused under R139; its effect otherwise. A bundle without a guard-true fibre goes on. -/
def execBar (i : Instr) (s : State) (scope id : Nat) (conf : Bool)
    (run : Issue → Group → Wave → List Nat → Host.Outcome State Fault Refusal) : Host.Outcome State Fault Refusal :=
  issueWith i s fun c G W gt =>
    if gt = [] then s.nextWave c (W.advance c)
    else if !s.barrierOk G scope id conf then s.raised c gt { cause := 0x07, fmask := maskOf gt }
    else run c G W gt

/-- BARA (R141): the token is the phase of the arrival. -/
def execBara (o : Form.Bara) (s : State) : Host.Outcome State Fault Refusal :=
  execBar (.bara o) s o.scope o.id false fun c G W gt =>
    let W1 := if o.token = 1 then
        (W.advance c).writeRegs gt [o.a] fun _ => [⟨BitVec.ofNat 32 (s.arrivalPhase G o.scope o.id), .n32⟩]
      else W.advance c
    .next ((s.setWave c W1).arrive c.grp G c.wave o.scope o.id gt.length)

/-- BARW (R141): a fibre waits while PHASE is its token's. -/
def execBarw (o : Form.BarA) (s : State) : Host.Outcome State Fault Refusal :=
  execBar (.barw o) s o.scope o.id false fun c _ W gt =>
    s.nextWave c (gt.foldl (fun X f => X.modFib f fun F =>
      { F with wait := .barrier o.scope o.id (bits (W.read f o.a).val.toNat 0 1) }) (W.advance c))

/-- BARS (R141): the arrival and the wait for its phase. -/
def execBars (o : Form.Bar) (s : State) : Host.Outcome State Fault Refusal :=
  execBar (.bars o) s o.scope o.id false fun c G W gt =>
    let W1 := gt.foldl (fun X f => X.modFib f fun F =>
      { F with wait := .barrier o.scope o.id (s.arrivalPhase G o.scope o.id) }) (W.advance c)
    .next ((s.setWave c W1).arrive c.grp G c.wave o.scope o.id gt.length)

/-- Whether a configuration pair keeps R140. -/
def barcOk (scope : Nat) (lo hi : Word) : Bool :=
  let exp := bits lo.toNat 0 16
  let live := lo.toNat.testBit 16
  bits lo.toNat 17 15 == 0 && bits hi.toNat 16 16 == 0 && (live || bits hi.toNat 0 16 == 0) &&
  (if scope = 0 then live || (decide (1 ≤ exp) && decide (exp ≤ 512)) else !live && decide (1 ≤ exp))

/-- BARC (R140): the configuration of the highest-numbered guard-true fibre. -/
def execBarc (o : Form.BarA) (s : State) : Host.Outcome State Fault Refusal :=
  execBar (.barc o) s o.scope o.id true fun c G W gt =>
    let f := (highest gt).getD 0
    let lo := (W.read f o.a).val
    let hi := (W.read f (regPlus o.a 1)).val
    if !barcOk o.scope lo hi then s.raised c gt { cause := 0x07, fmask := maskOf [f] }
    else
      let s1 := s.setWave c (W.advance c)
      let exp := bits lo.toNat 0 16
      .next (if o.scope = 0 then s1.configCore c.grp o.id exp (lo.toNat.testBit 16) (bits hi.toNat 0 16)
        else match s.wideKey G o.scope o.id with
          | some k => s1.configWide k (k % 16) o.scope exp
          | none => s1)

end Sys2Proof.Machine
end

