-- ==== Sys2Proof/Machine/MemInstr.lean ====
section
/-! DEFINITION. The meanings of memory instructions: loads, stores, windows, PGREQ, atomics, acquire loads, release
stores, fences and MWAIT (R179-R194, R278-R287, R421). -/
namespace Sys2Proof.Machine

/-! ## Addresses and the checks at issue (R181, R190-R192, R421) -/

/-- The address that a fibre forms (R181). -/
def MemForm.ea (m : MemForm) (W : Wave) (f : Nat) : Addr :=
  match m.space with
  | .virt => W.readPair f m.a + BitVec.ofInt 64 (sx m.off 32)
  | _ => BitVec.ofNat 64 ((W.read f m.a).val + BitVec.ofInt 32 (sx m.off 32)).toNat

/-- First byte of the private region (R421). -/
def priv0 : Nat := 0xFF80000000000000

/-- Whether an access lies in the private region and ends beyond the context's mapped part of it (R421). -/
def State.privBeyond (s : State) (ctx va size : Nat) : Bool :=
  decide (priv0 ≤ va) && decide (va < priv0 + 2 ^ 40) && decide (priv0 + 65536 * tabVal 0 s.xl.privhw ctx < va + size)

/-- Whether a scratchpad or window access lies in range (R190-R192). -/
def State.inRange (s : State) (g : Nat) (G : Group) (sp : Space) (va size : Nat) : Bool :=
  match sp with
  | .virt => true
  | .own => decide (va + size ≤ G.hdr.scr)
  | .quad => bits va 23 9 == 0 && s.isWorkCore (quadTarget G va) &&
      (s.quadHolder g G (quadTarget G va) (bits va 0 21) size).isSome
  | .neigh => G.hdr.neigh && G.launch != 0 && bits va 21 3 == 0 && bits va 29 3 == 0 &&
      decide (bits va 24 5 < G.hdr.rows * G.hdr.cols) && decide (bits va 0 21 + size ≤ G.hdr.scr)

/-- What the checks at issue find of one fibre's address: PROTECTION, ALIGNMENT, SCRATCH_RANGE, PRIV_HIGH_WATER (R181,
R279, R421). -/
def State.addrFault (s : State) (g : Nat) (G : Group) (sp : Space) (va size : Nat) : Option Nat :=
  if sp = .virt ∧ !canonical va then some 0x11
  else if va % size ≠ 0 then some 0x12
  else if !s.inRange g G sp va size then some 0x13
  else if sp = .virt ∧ s.privBeyond G.ctx va size then some 0x15
  else none

/-- The early fault of a memory instruction, if any: the lowest cause among the fibres (R181). -/
def State.memFault (s : State) (g : Nat) (G : Group) (m : MemForm) (gt : List Nat) (ea : Nat → Addr) : Option Raise :=
  let res := fun f => s.addrFault g G m.space (ea f).toNat m.size
  match least (gt.filterMap res) with
  | none => none
  | some cause =>
    let fs := gt.filter fun f => res f == some cause
    some { cause := cause, fmask := maskOf fs, va := ((fs.head?.map fun f => (ea f).toNat).getD 0) }

/-! ## Entries -/

/-- The destinations of a fibre's access: a K register takes the value of the highest guard-true fibre only (R26). -/
def Wave.accDst (W : Wave) (o : Opnds) (gt : List Nat) (f : Nat) : List DReg :=
  let ds := o.dstRegs.map (W.fib f).dreg
  if ds.any DReg.isK && highest gt != some f then [] else ds

/-- The data words of a fibre's access: its source registers after the address. -/
def Wave.accData (W : Wave) (o : Opnds) (f : Nat) : List Word :=
  (o.srcs.drop 1).flatMap fun x => (regRun x.reg x.n).map fun r => (W.read f r).val

/-- One fibre's access as it is formed at issue. -/
def Wave.newAcc (W : Wave) (c : Issue) (o : Opnds) (gt : List Nat) (f : Nat) (va : Addr) (st : AccState) : Acc :=
  { fib := f, va := va, data := W.accData o f, st := st, dst := W.accDst o gt f, pd := o.pdst, skip := 0, drop := false,
    tmo := 0, inFacet := W.inFacet c }

/-- What tells one page from another: the address of its leaf entry, or the 64 KiB of an address that no leaf maps (R413). -/
def State.pageKey (s : State) (asid va : Nat) : Nat × Nat :=
  match s.walk asid va with
  | .found e => (1, e.at_)
  | .absent _ at_ => (1, at_)
  | _ => (0, va % 2 ^ 56 / 65536)

/-- The fibres whose accesses are made: all, but one for each location of a store (R193) and one for each page of a PGREQ (R189). -/
def State.memFibres (s : State) (asid : Nat) (m : MemForm) (gt : List Nat) (ea : Nat → Addr) : List Nat :=
  if m.act.stores then gt.filter fun f => !(gt.any fun h => decide (f < h) && ea h == ea f)
  else if m.act = .pgreq then
    gt.filter fun f => !(gt.any fun h => decide (h < f) && s.pageKey asid (ea h).toNat == s.pageKey asid (ea f).toNat)
  else gt

/-- A core keeps no copy of the words of an access in its L1: of a synchronising one from its issue on (R263), nor a twin of what its
primary accesses (log 22). -/
def State.forget (s : State) (G : Group) (va size : Nat) : State :=
  (touched va size).foldl (fun t w => t.skipFill G.coreNo G.asid (va % 2 ^ 56 / 64) w)
    (s.modCore G.coreNo fun C => C.l1DropAll (lineKey G.asid va) (touched va size))

/-- A memory instruction: refused at issue as R181 says; else it takes its entry with one access for each fibre that makes one, and its fibres go on, or wait in the case of MWAIT. -/
def execMem (i : Instr) (s : State) : Host.Outcome State Fault Refusal :=
  issueWith i s fun c G W gt =>
    let o := opndsOf i
    match memForm i, o.entry.bind W.freeEntry with
    | some m, some slot =>
      let ea := m.ea W
      match s.memFault c.grp G m gt ea with
      | some r => s.raised c gt r
      | none =>
        if gt = [] then s.nextWave c (W.advance c)
        else
          let makes := s.memFibres G.asid m gt ea
          let mk := fun f =>
            let silent := twinSilent i G && (s.scrTarget c.grp G m (ea f).toNat).isNone
            let a := W.newAcc c o gt f (ea f) (if !makes.contains f then .done else if silent then .sent else .unsent)
            match m.act with
            | .load _ _ nf | .narrow _ _ nf => { a with pd := if nf then some 6 else none }
            | .mwait => { a with tmo := s.ticks }
            | _ => a
          let accs := gt.map mk
          let W1 := (W.advance c).addEntry slot i c.pc accs
          let W2 := if m.act = .mwait then
              gt.foldl (fun X f => X.modFib f fun F => { F with wait := .mwait slot }) W1
            else W1
          let s1 := (accs.filter Acc.waits).foldl (fun t a => t.scrAccess i c.grp c.wave slot W.nextAge G W2 m a) (s.setWave c W2)
          .next (if (twinSilent i G || m.act.synchronises) && m.space == .virt then accs.foldl (fun t a => t.forget G a.va.toNat m.size) s1 else s1)
    | _, _ => .next s

/-! ## The instructions -/

/-- LD (R179-R183). -/
def execLd (o : Form.Mem) (s : State) : Host.Outcome State Fault Refusal := execMem (.ld o) s

/-- LD_OFF (R179-R183). -/
def execLdOff (o : Form.MemOff) (s : State) : Host.Outcome State Fault Refusal := execMem (.ldOff o) s

/-- LD_INV (R187). -/
def execLdInv (o : Form.Mem) (s : State) : Host.Outcome State Fault Refusal := execMem (.ldInv o) s

/-- LD_INV_OFF (R187). -/
def execLdInvOff (o : Form.MemOff) (s : State) : Host.Outcome State Fault Refusal := execMem (.ldInvOff o) s

/-- LD_NF (R188). -/
def execLdNf (o : Form.Mem) (s : State) : Host.Outcome State Fault Refusal := execMem (.ldNf o) s

/-- LD_NF_OFF (R188). -/
def execLdNfOff (o : Form.MemOff) (s : State) : Host.Outcome State Fault Refusal := execMem (.ldNfOff o) s

/-- LD_INV_NF (R187, R188). -/
def execLdInvNf (o : Form.Mem) (s : State) : Host.Outcome State Fault Refusal := execMem (.ldInvNf o) s

/-- LD_INV_NF_OFF (R187, R188). -/
def execLdInvNfOff (o : Form.MemOff) (s : State) : Host.Outcome State Fault Refusal := execMem (.ldInvNfOff o) s

/-- ST (R182, R184). -/
def execSt (o : Form.Mem) (s : State) : Host.Outcome State Fault Refusal := execMem (.st o) s

/-- ST_OFF (R182, R184). -/
def execStOff (o : Form.MemOff) (s : State) : Host.Outcome State Fault Refusal := execMem (.stOff o) s

/-- LDB (R186). -/
def execLdb (o : Form.Mem) (s : State) : Host.Outcome State Fault Refusal := execMem (.ldb o) s

/-- LDB_OFF (R186). -/
def execLdbOff (o : Form.MemOff) (s : State) : Host.Outcome State Fault Refusal := execMem (.ldbOff o) s

/-- LDB_INV (R186, R187). -/
def execLdbInv (o : Form.Mem) (s : State) : Host.Outcome State Fault Refusal := execMem (.ldbInv o) s

/-- LDB_INV_OFF (R186, R187). -/
def execLdbInvOff (o : Form.MemOff) (s : State) : Host.Outcome State Fault Refusal := execMem (.ldbInvOff o) s

/-- LDB_NF (R186, R188). -/
def execLdbNf (o : Form.Mem) (s : State) : Host.Outcome State Fault Refusal := execMem (.ldbNf o) s

/-- LDB_NF_OFF (R186, R188). -/
def execLdbNfOff (o : Form.MemOff) (s : State) : Host.Outcome State Fault Refusal := execMem (.ldbNfOff o) s

/-- STB (R186). -/
def execStb (o : Form.Mem) (s : State) : Host.Outcome State Fault Refusal := execMem (.stb o) s

/-- STB_OFF (R186). -/
def execStbOff (o : Form.MemOff) (s : State) : Host.Outcome State Fault Refusal := execMem (.stbOff o) s

/-- PGREQ (R189, R420). -/
def execPgreq (o : Form.A1) (s : State) : Host.Outcome State Fault Refusal := execMem (.pgreq o) s

/-- PGREQ_OFF (R189, R420). -/
def execPgreqOff (o : Form.A1Off) (s : State) : Host.Outcome State Fault Refusal := execMem (.pgreqOff o) s

/-- LDS (R190). -/
def execLds (o : Form.Mem) (s : State) : Host.Outcome State Fault Refusal := execMem (.lds o) s

/-- LDS_OFF (R190). -/
def execLdsOff (o : Form.MemOff) (s : State) : Host.Outcome State Fault Refusal := execMem (.ldsOff o) s

/-- STS (R190). -/
def execSts (o : Form.Mem) (s : State) : Host.Outcome State Fault Refusal := execMem (.sts o) s

/-- STS_OFF (R190). -/
def execStsOff (o : Form.MemOff) (s : State) : Host.Outcome State Fault Refusal := execMem (.stsOff o) s

/-- LDQ (R191). -/
def execLdq (o : Form.Mem) (s : State) : Host.Outcome State Fault Refusal := execMem (.ldq o) s

/-- LDQ_OFF (R191). -/
def execLdqOff (o : Form.MemOff) (s : State) : Host.Outcome State Fault Refusal := execMem (.ldqOff o) s

/-- STQ (R191). -/
def execStq (o : Form.Mem) (s : State) : Host.Outcome State Fault Refusal := execMem (.stq o) s

/-- STQ_OFF (R191). -/
def execStqOff (o : Form.MemOff) (s : State) : Host.Outcome State Fault Refusal := execMem (.stqOff o) s

/-- LDNW (R192, R295). -/
def execLdnw (o : Form.Mem) (s : State) : Host.Outcome State Fault Refusal := execMem (.ldnw o) s

/-- LDNW_OFF (R192, R295). -/
def execLdnwOff (o : Form.MemOff) (s : State) : Host.Outcome State Fault Refusal := execMem (.ldnwOff o) s

/-- STNW (R192, R295). -/
def execStnw (o : Form.Mem) (s : State) : Host.Outcome State Fault Refusal := execMem (.stnw o) s

/-- STNW_OFF (R192, R295). -/
def execStnwOff (o : Form.MemOff) (s : State) : Host.Outcome State Fault Refusal := execMem (.stnwOff o) s

/-- ATADD (R278-R283). -/
def execAtadd (o : Form.At) (s : State) : Host.Outcome State Fault Refusal := execMem (.atadd o) s

/-- ATMIN_I32 (R278-R283). -/
def execAtminI32 (o : Form.At) (s : State) : Host.Outcome State Fault Refusal := execMem (.atminI32 o) s

/-- ATMIN_N32 (R278-R283). -/
def execAtminN32 (o : Form.At) (s : State) : Host.Outcome State Fault Refusal := execMem (.atminN32 o) s

/-- ATMAX_I32 (R278-R283). -/
def execAtmaxI32 (o : Form.At) (s : State) : Host.Outcome State Fault Refusal := execMem (.atmaxI32 o) s

/-- ATMAX_N32 (R278-R283). -/
def execAtmaxN32 (o : Form.At) (s : State) : Host.Outcome State Fault Refusal := execMem (.atmaxN32 o) s

/-- ATAND (R278-R283). -/
def execAtand (o : Form.At) (s : State) : Host.Outcome State Fault Refusal := execMem (.atand o) s

/-- ATOR (R278-R283). -/
def execAtor (o : Form.At) (s : State) : Host.Outcome State Fault Refusal := execMem (.ator o) s

/-- ATXOR (R278-R283). -/
def execAtxor (o : Form.At) (s : State) : Host.Outcome State Fault Refusal := execMem (.atxor o) s

/-- ATXCHG (R278-R283). -/
def execAtxchg (o : Form.At) (s : State) : Host.Outcome State Fault Refusal := execMem (.atxchg o) s

/-- ATCAS (R278-R283). -/
def execAtcas (o : Form.At3) (s : State) : Host.Outcome State Fault Refusal := execMem (.atcas o) s

/-- ATADD_B64 (R278-R283). -/
def execAtaddB64 (o : Form.At) (s : State) : Host.Outcome State Fault Refusal := execMem (.ataddB64 o) s

/-- ATCAS_B64 (R278-R283). -/
def execAtcasB64 (o : Form.At3) (s : State) : Host.Outcome State Fault Refusal := execMem (.atcasB64 o) s

/-- REDADD_F32 (R278-R283). -/
def execRedaddF32 (o : Form.Red) (s : State) : Host.Outcome State Fault Refusal := execMem (.redaddF32 o) s

/-- REDADD_BF16X2 (R278-R283). -/
def execRedaddBf16x2 (o : Form.Red) (s : State) : Host.Outcome State Fault Refusal := execMem (.redaddBf16x2 o) s

/-- LD_ACQ (R284). -/
def execLdAcq (o : Form.Mem) (s : State) : Host.Outcome State Fault Refusal := execMem (.ldAcq o) s

/-- LD_ACQ_OFF (R284). -/
def execLdAcqOff (o : Form.MemOff) (s : State) : Host.Outcome State Fault Refusal := execMem (.ldAcqOff o) s

/-- ST_REL (R284). -/
def execStRel (o : Form.Mem) (s : State) : Host.Outcome State Fault Refusal := execMem (.stRel o) s

/-- ST_REL_OFF (R284). -/
def execStRelOff (o : Form.MemOff) (s : State) : Host.Outcome State Fault Refusal := execMem (.stRelOff o) s

/-- MWAIT (R286). -/
def execMwait (o : Form.DABC) (s : State) : Host.Outcome State Fault Refusal := execMem (.mwait o) s

/-- Whether an instruction reads memory as a FENCE.acq means it: a load or a synchronising read, of a reduction's and an OBJDROP's
too; no CLPUSH, which writes, and no PGREQ (R267, R285). -/
def readsMemory (i : Instr) : Bool :=
  match memForm i with
  | some m => (match m.act with | .store | .narrowStore | .storeRel | .pgreq => false | _ => true)
  | none => [0xD2, 0xD3, 0xD5].contains (opcodeOf i)

/-- The entries of a fibre that a fence waits for, by age (R285). -/
def Wave.fenced (W : Wave) (kind f : Nat) : List Nat :=
  (W.sb.filter fun e => accessSlot e.1 && !isPgreq e.2.instr && (kind != 0 || readsMemory e.2.instr) &&
    e.2.accs.any fun a => a.fib == f && a.waits).map (·.2.age)

/-- FENCE (R285): the guard-true fibres wait for their earlier loads and synchronising reads, or for all of their earlier
accesses; the acquire invalidation is part of the release. -/
def execFence (o : Form.Fence) (s : State) : Host.Outcome State Fault Refusal :=
  issueWith (.fence o) s fun c _ W gt =>
    s.nextWave c (gt.foldl (fun X f => X.modFib f fun F => { F with wait := .fence o.kind (W.fenced o.kind f) }) (W.advance c))

end Sys2Proof.Machine
end

