-- ==== Sys2Proof/Machine/CopyInstr.lean ====
section
/-! DEFINITION. The meanings of copy instructions, queue fences and tag waits (R200-R215). -/
namespace Sys2Proof.Machine

/-- A copy instruction's operands beside its registers: opcode, tag, queue, barrier. -/
structure CopyForm where
  op : Nat
  tag : Nat
  queue : Nat
  bar : Option (Nat × Nat)
  a : Reg
  b : Reg
deriving DecidableEq, Repr

/-- The form without a second word: queue 0, no barrier (R207). -/
def CopyForm.short (op : Nat) (o : Form.Cp) : CopyForm := ⟨op, o.tag, 0, none, o.a, o.b⟩

/-- The form with its copy extension (R69, R81). -/
def CopyForm.long (op : Nat) (o : Form.CpExt) : CopyForm :=
  ⟨op, o.tag, o.queue, if o.bar = 1 then some (o.scope, o.id) else none, o.a, o.b⟩

/-- One fibre's source, destination and length (R207). -/
structure CopyArgs where
  src : Nat
  dst : Nat
  len : Nat
deriving DecidableEq, Repr

/-- A fibre's copy operands: a scratchpad side is the even register of its pair. -/
def CopyForm.args (k : CopyForm) (W : Wave) (f : Nat) : CopyArgs :=
  { src := if k.op = 0xB1 then (W.read f k.b).val.toNat else (W.readPair f k.b).toNat,
    dst := if k.op = 0xB0 then (W.read f k.a).val.toNat else (W.readPair f k.a).toNat,
    len := (W.read f (regPlus k.b 2)).val.toNat }

/-- The lowest cause that the checks of R208 find for one copy. -/
def copyFault (G : Group) (op : Nat) (x : CopyArgs) : Option Nat :=
  let globals := (if op = 0xB0 then [] else [x.dst]) ++ (if op = 0xB1 then [] else [x.src])
  let scr := (if op = 0xB0 then [x.dst] else []) ++ (if op = 0xB1 then [x.src] else [])
  least ((if x.len % 4 ≠ 0 then [0x12] else []) ++ (if globals.all canonical then [] else [0x11]) ++
    (if (globals ++ scr).all (· % 4 == 0) then [] else [0x12]) ++
    (if scr.all fun o => decide (o + x.len ≤ G.hdr.scr) then [] else [0x13]))

/-- A tag from which `n` copies start (R204). -/
def Group.startTag (G : Group) (t n : Nat) : Group :=
  { G with tags := tabSet G.tags t { count := ((tabGet G.tags t).map (·.count)).getD 0 + n, done := false, fail := false,
                                      recent := false, recentFail := false } }

/-- A copy put into its table and at the end of its queue. -/
def CopyEng.start (E : CopyEng) (id : Nat) (x : Copy) : CopyEng :=
  { copies := tabSet E.copies id x, queues := tabSet E.queues x.queue (tabVal [] E.queues x.queue ++ [.copy id]) }

/-- A copy started on a core's engine under a number of its own. -/
def State.startCopy (s : State) (core : Nat) (x : Copy) : State :=
  let s1 := s.modCopyEng core fun E => E.start s.eng.nextCopy x
  { s1 with eng := { s1.eng with nextCopy := s.eng.nextCopy + 1 } }

/-- A copy instruction (R200, R204, R207, R208): its entry, its tag, and one copy for each guard-true fibre in ascending
order; a twin's copies are its primary's (R53, R210). -/
def execCopy (i : Instr) (k : CopyForm) (s : State) : Host.Outcome State Fault Refusal :=
  issueWith i s fun c G W gt =>
    let o := opndsOf i
    let res := fun f => copyFault G k.op (k.args W f)
    match W.freeEntry .copy, least (gt.filterMap res) with
    | none, _ => .next s
    | some slot, bad =>
      if gt = [] then s.nextWave c (W.advance c)
      else if match k.bar with | some b => !s.barrierOk G b.1 b.2 false | none => false then
        s.raised c gt { cause := 0x07, fmask := maskOf gt }
      else match bad with
        | some cause => s.raised c gt { cause := cause, fmask := maskOf (gt.filter fun f => res f == some cause) }
        | none =>
          let accs := gt.map fun f => W.newAcc c o gt f 0 .sent
          let s1 := s.setWave c ((W.advance c).addEntry slot i c.pc accs)
          let s2 := s1.modGroup c.grp fun G => G.startTag k.tag gt.length
          .next (match G.twin with
            | some (_, true) => s2
            | _ => gt.foldl (fun t f =>
                let x := k.args W f
                t.startCopy G.coreNo
                  { owner := .wave c.grp c.wave slot f, op := k.op, tag := k.tag, queue := k.queue, asid := G.asid, ctx := G.ctx,
                    src := x.src, dst := x.dst, len := x.len, bar := k.bar, begun := false, segs := [], failed := false }) s2)

/-- CPG2S with queue 0 (R207). -/
def execCpg2s (o : Form.Cp) (s : State) : Host.Outcome State Fault Refusal := execCopy (.cpg2s o) (.short 0xB0 o) s
/-- CPG2S with its extension (R207). -/
def execCpg2sExt (o : Form.CpExt) (s : State) : Host.Outcome State Fault Refusal := execCopy (.cpg2sExt o) (.long 0xB0 o) s
/-- CPS2G with queue 0 (R207). -/
def execCps2g (o : Form.Cp) (s : State) : Host.Outcome State Fault Refusal := execCopy (.cps2g o) (.short 0xB1 o) s
/-- CPS2G with its extension (R207). -/
def execCps2gExt (o : Form.CpExt) (s : State) : Host.Outcome State Fault Refusal := execCopy (.cps2gExt o) (.long 0xB1 o) s
/-- CPX with queue 0 (R207). -/
def execCpx (o : Form.Cp) (s : State) : Host.Outcome State Fault Refusal := execCopy (.cpx o) (.short 0xB2 o) s
/-- CPX with its extension (R207). -/
def execCpxExt (o : Form.CpExt) (s : State) : Host.Outcome State Fault Refusal := execCopy (.cpxExt o) (.long 0xB2 o) s

/-- The copies that stand in a queue. -/
def queueCopies (l : List QItem) : List Nat := l.filterMap fun x => match x with | .copy id => some id | .fence _ => none

/-- A fence put behind the last copy of each queue of a mask (R211). -/
def CopyEng.fence (E : CopyEng) (qm : Nat) : CopyEng :=
  let qs := (List.range 4).filter fun q => qm.testBit q
  let ahead := qs.flatMap fun q => queueCopies (tabVal [] E.queues q)
  { E with queues := qs.foldl (fun t q => tabSet t q (tabVal [] t q ++ [.fence ahead])) E.queues }

/-- CPFENCE (R211): acts once, on the engine that performs the group's copies. -/
def execCpfence (o : Form.Qm) (s : State) : Host.Outcome State Fault Refusal :=
  issueWith (.cpfence o) s fun c G W gt =>
    let s1 := s.setWave c (W.advance c)
    .next (if gt = [] then s1
      else match G.twin with
        | some (_, true) => s1
        | _ => s1.modCopyEng G.coreNo fun E => E.fence o.qm)

/-- TWANY (R212). -/
def execTwany (o : Form.DA) (s : State) : Host.Outcome State Fault Refusal :=
  issueWith (.twany o) s fun c _ W gt =>
    let mask := fun f => (W.readPair f o.a).toNat
    let bad := gt.filter fun f => mask f == 0
    if bad ≠ [] then s.raised c gt { cause := 0x07, fmask := maskOf bad }
    else s.nextWave c (gt.foldl (fun X f => X.modFib f fun F => { F with wait := .twany (mask f) [(W.fib f).dreg o.d] }) (W.advance c))

/-- TWALL (R212). -/
def execTwall (o : Form.A1) (s : State) : Host.Outcome State Fault Refusal :=
  issueWith (.twall o) s fun c _ W gt =>
    s.nextWave c (gt.foldl (fun X f => X.modFib f fun F => { F with wait := .twall (W.readPair f o.a).toNat }) (W.advance c))

/-- TFIRST (R212): each fibre searches after the clears of the fibres before it; a tag found is an acquire (R214). -/
def execTfirst (o : Form.DA) (s : State) : Host.Outcome State Fault Refusal :=
  issueWith (.tfirst o) s fun c G W gt =>
    let r := gt.foldl (fun (acc : Group × List (Nat × Nat)) f =>
      match lowBit 64 (acc.1.ctags &&& (W.readPair f o.a).toNat) with
      | some t => ({ acc.1 with tags := clearTags true (2 ^ t) acc.1.tags }, acc.2 ++ [(f, t)])
      | none => acc) (G, [])
    let W1 := (W.advance c).writeRegs gt [o.d] fun f =>
      [⟨BitVec.ofNat 32 (((r.2.find? fun e => e.1 == f).map (·.2)).getD 0xFFFFFFFF), .n32⟩]
    let s1 := (s.setWave c W1).modGroup c.grp fun G => { G with tags := r.1.tags }
    .next (if r.2 = [] then s1 else s1.acquire G.coreNo)

end Sys2Proof.Machine
end

