-- ==== Sys2Proof/Machine/SliceOps.lean ====
section
/-! DEFINITION. What a home slice does with a request (R260-R264, R278-R281, R286, R334, R418, R419). -/
namespace Sys2Proof.Machine

/-! ## Operations (R278, R281) -/

/-- A reduction's f32 or bf16 addition: rounded to nearest even, every NaN canonical (R281). -/
def redAdd (f : FFmt) (level old v : Nat) : Nat :=
  let r := (faddF f ⟨.rne, false, level⟩ old v).1
  if isNan f r then canonNan f else r

/-- The word that a reduction leaves. -/
def redWord (bf : Bool) (level : Nat) (old v : Word) : Word :=
  if bf then
    pack16 (redAdd .bf16 level (lane16 old 0) (lane16 v 0)) (redAdd .bf16 level (lane16 old 1) (lane16 v 1))
  else BitVec.ofNat 32 (redAdd .f32 level old.toNat v.toNat)

/-- The value that an atomic leaves, if it writes (R278). -/
def atomNew (op old b c : Nat) : Option Nat :=
  match op with
  | 0xC0 => some ((old + b) % 2 ^ 32)
  | 0xC1 => some (if sx old 32 ≤ sx b 32 then old else b)
  | 0xC2 => some (min old b)
  | 0xC3 => some (if sx old 32 ≤ sx b 32 then b else old)
  | 0xC4 => some (max old b)
  | 0xC5 => some (old &&& b)
  | 0xC6 => some (old ||| b)
  | 0xC7 => some (old ^^^ b)
  | 0xC8 => some b
  | 0xC9 | 0xCB => if old = b then some c else none
  | 0xCA => some ((old + b) % 2 ^ 64)
  | _ => none

/-- What a request makes of the bytes of its location, and what answers it; none for no write. -/
def Req.effect (r : Req) (old : List Byte) : Option (List Byte) × MsgBody :=
  match r.op with
  | .store data _ => (some data, .ack false)
  | .atom op b c => ((atomNew op (leNat old) b c).map (natBytes r.size), .value (lineWords old))
  | .red bf v level => (some (natBytes 4 (redWord bf level (BitVec.ofNat 32 (leNat old)) v).toNat), .ack false)
  | .loadAcq => (none, .data old none false)
  | _ => (none, .data old none false)

/-- Whether a request is a plain store or ST.rel, so that its core takes ownership (R264). -/
def Req.owns (r : Req) : Bool := match r.op with | .store _ _ => true | _ => false

/-- What a request needs of its page (R414, R415, R419). -/
def Req.need (r : Req) : Need :=
  match r.op with
  | .load _ _ => { r := true, remote := true }
  | .store _ rel => { w := true, remote := !rel }
  | .atom _ _ _ => { r := true, w := true }
  | .red _ _ _ => { w := true }
  | _ => { r := true }

/-! ## Answers -/

/-- The answer to a request posted to its core by its home slice. -/
def State.reply (s : State) (r : Req) (b : MsgBody) : State := s.post { respond r b with src := some r.home }

/-- A late fault answers a request; the page of an `.nf` load that is not resident is no fault (R183, R188). -/
def State.refuse (s : State) (r : Req) (cause : Nat) : State :=
  s.reply r (match r.op, cause with
    | .load _ true, 0x10 => .absent
    | _, _ => .fault cause)

/-- Whether an older access of the same fibre to a common word has faulted, so that the slice returns this one unapplied
(R334 step 4). -/
def State.behindFault (s : State) (r : Req) : Bool :=
  match s.wave r.grp r.wave with
  | none => false
  | some W =>
    match tabGet W.sb r.slot with
    | none => false
    | some e => W.sb.any fun x =>
        accessSlot x.1 && decide (x.2.age < e.age) && x.2.accs.any fun a =>
          a.fib == r.fib && a.va.toNat / 64 == r.va / 64 && s.hasFailed r.grp r.wave x.1 a &&
            ((touched a.va.toNat (match memForm x.2.instr with | some f => f.size | none => 4)).any
              (touched r.va r.size).contains)

/-! ## A line of the home slice (R263, R264, R286) -/

/-- The device time at which an MWAIT times out, 0 for none: operand C after the issue (R286, R287). -/
def Acc.timeout (a : Acc) : Nat := if a.data.getD 1 0 = 0 then 0 else a.tmo + (a.data.getD 1 0).toNat

/-- The MWAIT access of a request: its operands, and whether its fibre is gone. -/
def State.mwaitAcc (s : State) (r : Req) : Option Acc := (s.wave r.grp r.wave).bind fun W => W.acc r.slot r.fib

/-- MWAIT at the slice: it answers at once, or arms a monitor in the same step (R286). `asid` and `word` name the word. -/
def State.mwaitAt (s : State) (h asid word : Nat) (r : Req) (expect v : Word) : State :=
  match s.mwaitAcc r with
  | none => s
  | some a =>
    if v ≠ expect ∨ a.drop ∨ 256 ≤ (s.slice h).monitors.length then s.reply r (.value [v])
    else
      let m : Monitor :=
        { asid := asid, va := word, grp := r.grp, wave := r.wave, fib := r.fib, slot := r.slot, core := r.core, ctx := r.ctx,
          tmo := a.timeout, rebound := false }
      s.modSlice h fun S => match tabFree S.monitors 0 256 with
        | some i => { S with monitors := tabSet S.monitors i m }
        | none => S

/-- The owner of a word after a write of a request, and whom it is revoked from (R264). -/
def ownerAfter (r : Req) (ans : MsgBody) (o : Option Owner) : Option Owner × Option Nat :=
  match o with
  | some (.core c) =>
    if r.owns ∧ c = r.core then (some (.core c), none)
    else (some (.revoke c (some (r, ans)) (if r.owns then some r.core else none)), some c)
  | _ => (if r.owns then some (.core r.core) else none, none)

/-- A write of a request applied to a line of its home slice: owners move, revokes leave, monitors fire, and the answer
leaves unless a revoke holds it. -/
def State.writeAt (s : State) (h key : Nat) (l : SLine) (r : Req) (bs : List Byte) (ans : MsgBody) : State :=
  let ws := linePut l.words (r.va % 64) bs
  let ts := touched r.va bs.length
  let moves := ts.map fun w => (w, ownerAfter r ans (tabGet l.owners w))
  let owners := moves.foldl (fun o m => match m.2.1 with
    | some x => tabSet o m.1 x
    | none => tabErase o m.1) l.owners
  let s1 := s.modSlice h fun S => { S with lines := tabSet S.lines key { l with words := ws, dirty := true, owners := owners } }
  let line := r.va % 2 ^ 56 / 64
  let s2 := moves.foldl (fun t m => match m.2.2 with
    | some c => t.post { core := c, grp := 0, wave := 0, slot := 0, fib := 0, asid := r.asid, line := line, body := .revoke m.1, src := some h }
    | none => t) s1
  let s3 := s2.fireAll h r.asid r.va ws ts
  if moves.any fun m => m.2.2.isSome then s3 else s3.reply r ans

/-- The owned acknowledgement of a store (R264): that of one or two bytes brings the word as it now stands, of which the core may hold
older bytes (R265, log 10). -/
def Req.ownedAck (r : Req) (ws : List Word) : MsgBody := if r.size < 4 then .ackWord (ws.getD (r.va % 64 / 4) 0) else .ack true

/-- A request applied to a line of its home slice (R263, R264, R280, R286). -/
def State.applyLine (s : State) (h key : Nat) (l : SLine) (r : Req) : State :=
  let old := lineGet l.words (r.va % 64) r.size
  match r.op with
  | .load inv _ => s.reply r (.data old (some l.words) inv)
  | .mwait expect => s.mwaitAt h r.asid (r.va % 2 ^ 56) r expect (BitVec.ofNat 32 (leNat old))
  | _ =>
    match r.effect old with
    | (none, ans) => s.reply r ans
    | (some bs, ans) => s.writeAt h key l r bs (match r.op with | .store _ _ => r.ownedAck (linePut l.words (r.va % 64) bs) | _ => ans)

/-- A request applied to physical bytes of the slice-only class, at their PA home slice (R263, R264, R418). -/
def State.applyPhys (s : State) (pa : Nat) (r : Req) : State :=
  let old := s.paBytes pa r.size
  match r.op with
  | .mwait expect => s.mwaitAt (paHome pa) physAsid pa r expect (BitVec.ofNat 32 (leNat old))
  | _ =>
    match r.effect old with
    | (none, ans) => s.reply r ans
    | (some bs, ans) => (s.writePhys pa bs).reply r ans

/-! ## Peer modules (R419, R433, R434, R453) -/

/-- Whether the partition of a context may map a peer (R453). -/
def State.peerOk (s : State) (ctx dev : Nat) : Bool :=
  (tabVal [] s.host.peers (((s.ctx ctx).map (·.part)).getD 0)).contains dev

/-- Whether an access to a peer meets a word that a narrow store has read there and not yet written (log 57). -/
def State.wordHeld (s : State) (dev pa n : Nat) : Bool :=
  s.links.xfers.any fun e => match e.2.of with
    | .merge _ => e.2.dev == dev && decide (pa / 4 ≤ bits e.2.body.arg 0 48 / 4) && decide (bits e.2.body.arg 0 48 / 4 ≤ (pa + n - 1) / 4)
    | _ => false

/-- A plain access to a page of a peer module leaves through a port, or faults (R419, R434). Records carry whole words (R433): a
narrow store reads its word first (log 57). -/
def State.sendRemote (s : State) (dev pa : Nat) (r : Req) : State :=
  if !s.peerOk r.ctx dev then s.refuse r 0x11
  else
    let read : Rec := { kind := 1, status := 0, tid := 0, arg := pa / 4 * 4 + ((pa % 4 + r.size + 3) / 4 - 1) * 2 ^ 48, data := [] }
    let x : Rec × XferOf := match r.op with
      | .store data _ => if data.length % 4 = 0 then ({ kind := 2, status := 0, tid := 0, arg := pa, data := data }, .access r) else (read, .merge r)
      | _ => (read, .access r)
    match s.startXfer dev (pa / 1024) x.1 x.2 with
    | some t => t
    | none => s.refuse r 0x35

/-! ## Neighbourhood windows at the mailbox (R192, R295) -/

/-- Free bytes for a read whose result nothing states (log 23). -/
def State.freeBytes (s : State) : Nat → State × List Byte
  | 0 => (s, [])
  | n + 1 =>
    let r := State.freeBytes s.drawn n
    (r.1, natBytes 4 s.freeWord.toNat ++ r.2)

/-- A window access performed by the mailbox on the target's partition. -/
def State.applyWindow (s : State) (r : Req) : State :=
  let off := bits r.va 0 21
  let live := fun t => match s.group t with | some T => if T.place = Place.ended then none else some T | none => none
  match r.op with
  | .nwStore t data =>
    (match live t with
     | some _ => s.modGroup t fun T => T.putScr off (lineWords data)
     | none => s).reply r (.ack false)
  | .nwLoad t =>
    match live t with
    | some T => s.reply r (.data (lineBytes (T.scrWords off (r.size / 4))) none false)
    | none =>
      let x := s.freeBytes (r.size / 4)
      x.1.reply r (.data x.2 none false)
  | _ => s

/-! ## Requests at the slice (R261, R262) -/

/-- The line that a miss-table entry serves. -/
def Slice.missOf (S : Slice) (asid line : Nat) : Option (Nat × Miss) :=
  S.miss.find? fun e => e.2.asid == asid && e.2.line == line

/-- Whether a slice can put a request into its miss table (R262). -/
def Slice.takesMiss (S : Slice) (asid line : Nat) : Bool :=
  match S.missOf asid line with
  | some e => decide (e.2.reqs.length < 8)
  | none => decide (S.miss.length < 64)

/-- A request put into the miss table: merged, or in a new entry (R262). -/
def Slice.miss1 (S : Slice) (r : Req) (st : MissState) : Slice :=
  let line := r.va % 2 ^ 56 / 64
  match S.missOf r.asid line with
  | some e => { S with miss := tabSet S.miss e.1 { e.2 with reqs := e.2.reqs ++ [r] } }
  | none => match tabFree S.miss 0 64 with
    | some i => { S with miss := tabSet S.miss i { asid := r.asid, line := line, reqs := [r], st := st } }
    | none => S

/-- How a slice takes a request to virtual memory. -/
inductive Take where
  /-- it is performed or answered now -/
  | now (s : State)
  /-- it waits in the miss table -/
  | miss (st : MissState)
deriving DecidableEq, Repr

/-- Whether a request must not be applied before one that waits in the slice: they have a word in common, or are operations of one
atomic instruction, this one the higher fibre's (R262, R268, R280). -/
def Req.behind (r q : Req) : Bool :=
  let rmw := fun (o : ReqOp) => match o with | .atom _ _ _ | .red _ _ _ => true | _ => false
  (q.asid == r.asid && q.va % 2 ^ 56 / 64 == r.va % 2 ^ 56 / 64 && (touched q.va q.size).any (touched r.va r.size).contains) ||
    (rmw r.op && rmw q.op && q.grp == r.grp && q.wave == r.wave && q.slot == r.slot && decide (q.fib < r.fib))

/-- How far the translation of a request that waits at a slice has come. -/
def Slice.waitState (S : Slice) (key : Nat) : MissState :=
  match tabGet S.lines key, tabGet S.fwd key with
  | some l, _ => .ready l.leaf
  | none, some l => .ready l
  | none, none => .lookup

/-- A request to a line that the slice holds, or knows by a forward tag, or misses; `ahead` are the requests that wait in the slice and
came before it. `ecc` strikes the slice's data. -/
def State.takeVirt (s : State) (h : Nat) (r : Req) (ecc : Bool) (ahead : List Req) : Take :=
  let key := lineKey r.asid r.va
  let S := s.slice h
  if ahead.any r.behind then .miss (S.waitState key)
  else match tabGet S.lines key with
  | some l =>
    if l.revoking (touched r.va r.size) then .miss (.ready l.leaf)
    else if s.behindFault r then .now (s.reply r .returned)
    else match s.leafFault r.need l.leaf (l.leaf.pa + r.va % 64) with
      | some c => .now (s.refuse r c)
      | none => if ecc then .now (s.refuse r 0x31) else .now (s.applyLine h key l r)
  | none =>
    match tabGet S.fwd key with
    | none => .miss .lookup
    | some l =>
      let pa := l.pa + r.va % 64
      if s.behindFault r then .now (s.reply r .returned)
      else match s.leafFault r.need l pa with
        | some c => .now (s.refuse r c)
        | none =>
          if l.peer ≠ 0 then if s.wordHeld l.peer pa r.size then .miss (.ready l) else .now (s.sendRemote l.peer pa r)
          else match tabGet (s.slice (paHome pa)).plines (pa / 64) with
            | some _ => if ecc then .now (s.refuse r 0x31) else .now (s.applyPhys pa r)
            | none => .miss (.ready l)

end Sys2Proof.Machine
end

