-- ==== Sys2Proof/Machine/CopyEvents.lean ====
section
/-! DEFINITION. What the copy engines do: the beginning of copies, their segments and their completion (R200-R217), and what a save
and a restore do with copies (R218, R219). -/
namespace Sys2Proof.Machine

/-! ## Copies -/

/-- A copy is complete when all of its segments are (R201). -/
def Copy.complete (C : Copy) : Bool := C.begun && C.segs.all fun x => x.st == .done

/-- Whether a copy has started and not completed, wherever it stands. -/
def State.copyOpen (s : State) (id : Nat) : Bool :=
  s.eng.copy.any fun e => match tabGet e.2.copies id with | some C => !C.complete | none => false

/-- Whether a copy reads or writes its group's scratchpad. -/
def Copy.scratch (C : Copy) : Bool := C.op == 0xB0 || C.op == 0xB1

/-- The segments of a copy (R201), from an offset on. -/
def cutSegs (src dst len : Nat) : Nat → Nat → List Seg
  | 0, _ => []
  | n + 1, off =>
    if len ≤ off then []
    else
      let k := min (len - off) (min (1024 - (src + off) % 1024) (1024 - (dst + off) % 1024))
      { off := off, len := k, src := (src + off) % 2 ^ 64, dst := (dst + off) % 2 ^ 64, st := .waiting } ::
        cutSegs src dst len n (off + k)

/-- The copy of a queue that may begin: every copy ahead of it in the queue, and every one ahead of a fence before it, has
completed (R202, R211). -/
def State.nextCopy (s : State) (c : Nat) : List QItem → Option Nat
  | [] => none
  | .copy id :: rest =>
    match tabGet (s.copyEng c).copies id with
    | none => State.nextCopy s c rest
    | some C => if !C.begun then some id else if C.complete then State.nextCopy s c rest else none
  | .fence ahead :: rest => if ahead.any s.copyOpen then none else State.nextCopy s c rest

/-- Whether a copy's scratchpad is there to be read or written: its group is resident; where the work has not begun, not on its way out
either (R218, R219). -/
def State.scratchThere (s : State) (C : Copy) (begun : Bool) : Bool :=
  !C.scratch || match s.group C.grp with
    | some G => (match G.place with | .core _ => true | .saving _ => begun | _ => false)
    | none => false

/-- A segment that has begun and not ended (R200, R218). -/
def Seg.underWay (g : Seg) : Bool := match g.st with | .sent | .here | .written | .remote => true | .waiting | .parked | .done => false

/-- Whether a segment that reads or writes a group's scratchpad has begun and not ended (R218). -/
def State.scratchBusy (s : State) (g : Nat) : Bool :=
  s.eng.copy.any fun e => e.2.copies.any fun c => c.2.scratch && c.2.grp == g && c.2.segs.any Seg.underWay

/-- The segments that the copy engine of a core has under way, of which it keeps up to 64 (08). -/
def State.segsUnderWay (s : State) (core : Nat) : Nat :=
  (s.eng.copy.flatMap fun e => e.2.copies.flatMap fun c => c.2.segs.filter fun g => g.underWay && g.engine e.1 == core).length

/-- COPY_BEGIN (R201, R202, R211). -/
def execCopyBegin (core queue : Nat) (s : State) : Host.Outcome State Fault Refusal :=
  match s.nextCopy core (tabVal [] (s.copyEng core).queues queue) with
  | none => .next s
  | some id =>
    match tabGet (s.copyEng core).copies id with
    | none => .next s
    | some C =>
      if !s.scratchThere C false ∨ s.dieClock (dieOf core) = 3 then .next s
      else .next (s.modCopy core id fun C => { C with begun := true, segs := cutSegs C.src C.dst C.len (C.len / 256 + 4) 0 })

/-! ## Segments (R209, R216) -/

/-- The last words of a segment's record (R324). -/
def segTail (core : Nat) (C : Copy) (g : Seg) : Tab Word :=
  ([half' g.src 0, half' g.src 1, half' g.dst 0, half' g.dst 1, g.off, g.len + C.tag * 2 ^ 16 + C.queue * 2 ^ 24,
    g.engine core + C.op * 2 ^ 16, C.len].mapIdx fun i v => (32 + i, BitVec.ofNat 32 v)).filter fun e => e.2 != 0
where
  /-- Half `i` of a 64-bit value. -/
  half' (v i : Nat) : Nat := if i = 0 then v % 2 ^ 32 else v / 2 ^ 32 % 2 ^ 32

/-- A segment that faults is parked alone (R216). A segment lies in one page on each side (R201), so the first address of the faulting
page that it touched is where that side of it begins (R350). -/
def State.parkSeg (s : State) (core id k cause va : Nat) : State :=
  match tabGet (s.copyEng core).copies id with
  | none => s
  | some C =>
    match C.segs[k]? with
    | none => s
    | some g =>
      let w : Nat × Nat × Nat := match C.owner with | .wave a b c _ => (a, b, c) | .packet _ _ => (0, 0, 0)
      let e := (s.wave w.1 w.2.1).bind fun W => tabGet W.sb w.2.2
      let words := (e.bind fun e => encode e.instr).getD (0, none)
      let fib := match C.owner with | .wave _ _ _ f => maskOf [f] | .packet _ _ => 0
      let x : Subject :=
        { of := .segment core id k, cause := cause, late := false, die := dieOf (g.engine core), ctx := C.ctx, asid := C.asid,
          gid := ((s.group C.grp).map (·.gid)).getD 0, grp := C.grp, wave := w.2.1, core := g.engine core,
          fpc := (e.map (·.pc.toNat)).getD 0, va := va, tdet := s.ticks, fmask := fib,
          gmask := fib, w0 := words.1, w1 := words.2.getD 0, exc := [],
          detail := 0, bundle := 0, len := 0, move := .none, tail := segTail core C g }
      (s.modSeg core id k fun g => { g with st := .parked }).detect (dieOf (g.engine core)) x

/-- What an engine's access to one side of a copy asks of the page (R208, R414). -/
def Copy.need (C : Copy) (write : Bool) : Need := { r := !write, w := write, remote := C.op == 0xB2 }

/-- Whether a run of a global side waits for a revoke (R262). -/
def State.runBusy (s : State) (asid va len : Nat) : Bool := (pieces (len / 64 + 2) va len).any fun p => s.homeBusy asid p.1 p.2

/-- The words of a segment written at its destination, or sent to the peer that holds it (R209, R210, R438). -/
def State.segStore (s : State) (core id k : Nat) (C : Copy) (g : Seg) (bs : List Byte) : State :=
  let done := fun (t : State) => t.modSeg core id k fun x => { x with st := .done }
  if C.op = 0xB0 then done ((s.pairOf C.grp).foldl (fun t h => t.modGroup h fun G => G.putScr g.dst (lineWords bs)) s)
  else if !canonical g.dst then s.parkSeg core id k 0x11 g.dst
  else match s.locate C.asid g.dst (C.need true) with
    | .peer dev pa =>
      if !s.peerOk C.ctx dev then s.parkSeg core id k 0x11 g.dst
      else match s.startXfer dev (pa / 1024) { kind := 2, status := 0, tid := 0, arg := pa, data := bs } (.segWrite core id k) with
        | some t => t.modSeg core id k fun x => { x with st := .remote }
        | none => s.parkSeg core id k 0x35 g.dst
    | _ => match s.writeRun C.asid g.dst bs (C.need true) with
      | .ok t => if t.runBusy C.asid g.dst g.len then t.modSeg core id k fun x => { x with st := .written } else done t
      | .error (c, _) => s.parkSeg core id k c g.dst

/-- A segment's words read at its source and written, or the segment parked; from a peer the read goes over the link (R209,
R216, R438). `ecc` not 0 says that the global source's data have an uncorrectable error at byte `ecc - 1`. -/
def State.segMove (s : State) (core id k ecc : Nat) (C : Copy) (g : Seg) : State :=
  if C.op = 0xB1 then
    s.segStore core id k C g (match s.group C.grp with | some G => lineBytes (G.scrWords g.src (g.len / 4)) | none => [])
  else if !canonical g.src then s.parkSeg core id k 0x11 g.src
  else match s.locate C.asid g.src (C.need false) with
    | .peer dev pa =>
      if !s.peerOk C.ctx dev then s.parkSeg core id k 0x11 g.src
      else match s.startXfer dev (pa / 1024) { kind := 1, status := 0, tid := 0, arg := pa + (g.len / 4 - 1) * 2 ^ 48, data := [] }
          (.segRead core id k) with
        | some t => t.modSeg core id k fun x => { x with st := .remote }
        | none => s.parkSeg core id k 0x35 g.src
    | _ => match s.readRun C.asid g.src g.len (C.need false) with
      | .error (c, _) => s.parkSeg core id k c g.src
      | .ok bs =>
        if 0 < ecc ∧ ecc ≤ g.len then s.drawn.parkSeg core id k (s.eccAt C.asid (g.src + ecc - 1)) g.src
        else s.segStore core id k C g bs

/-- A segment begins: its request leaves the engine that performs it, on that engine's channel, for the home slice of its global side
(R9, R15, R201). -/
def State.segBegin (s : State) (core id k : Nat) (C : Copy) (g : Seg) : State :=
  let e := g.engine core
  let va := if C.op = 0xB1 then g.dst else g.src
  (s.modSeg core id k fun x => { x with st := .sent }).enqueue (chanId (copyNode e) (routerNode (routerOfCore e)))
    { core := e, grp := 0, wave := 0, slot := 0, fib := 0, ctx := C.ctx, asid := C.asid, va := va, size := g.len,
      home := vaHome C.asid va, op := .seg core id k }

/-- SEGMENT_COMPLETE (R200, R201, R209, R216): a segment begins where its engine has fewer than 64 under way; at its slice its words move,
each read and written once; it is done when its write is acknowledged (R264). -/
def execSegmentComplete (core copy seg ecc : Nat) (s : State) : Host.Outcome State Fault Refusal :=
  match tabGet (s.copyEng core).copies copy with
  | none => .next s
  | some C =>
    match C.segs[seg]? with
    | none => .next s
    | some g =>
      match g.st with
      | .waiting =>
        if !s.scratchThere C false ∨ 64 ≤ s.segsUnderWay (g.engine core) ∨ s.dieClock (dieOf (g.engine core)) = 3 then .next s else .next (s.segBegin core copy seg C g)
      | .here =>
        if !s.scratchThere C true then .next s
        else if (C.op ≠ 0xB1 ∧ s.runBusy C.asid g.src g.len) ∨ (C.op ≠ 0xB0 ∧ s.runBusy C.asid g.dst g.len) then .next s
        else .next (s.segMove core copy seg ecc C g)
      | .written =>
        if s.runBusy C.asid g.dst g.len then .next s else .next (s.modSeg core copy seg fun x => { x with st := .done })
      | _ => .next s

/-! ## Completion (R203-R205, R210, R215) -/

/-- A copy naming a tag has completed (R204). -/
def Group.endTag (G : Group) (t : Nat) (failed : Bool) : Group :=
  { G with tags := tabMod G.tags t fun h =>
      { count := h.count - 1, done := h.done || h.count == 1, fail := h.fail || failed, recent := h.recent || h.count == 1,
        recentFail := h.recentFail || failed } }

/-- What the completion of a group's copy does for each twin (R203, R204, R210): its tag, its core barrier, its fibre's part of the
copy entry. -/
def State.copyEnds (s : State) (g : Nat) (C : Copy) (w age f : Nat) : State :=
  let s1 := s.modGroup g fun G => G.endTag C.tag C.failed
  let s2 := s1.modWave g w fun W => match W.sb.find? fun e => e.2.age == age with
    | some e => W.modAcc e.1 f fun a => { a with st := .done }
    | none => W
  match C.bar with
  | some (0, id) => s2.arriveCore g id 1
  | _ => s2

/-- A completed copy leaves its engine, or the saved contexts, with all of its effects together (R203, R388). -/
def State.finishCopy (s : State) (c id : Nat) (C : Copy) : State :=
  let s0 := s.modCopyEng c fun E =>
    { copies := tabErase E.copies id,
      queues := E.queues.filterMap fun q =>
        let l := q.2.filter fun x => x != .copy id
        if l.isEmpty then none else some (q.1, l) }
  match C.owner with
  | .packet die slot =>
    match ((s0.qslot (slotKey die slot)).begun.find? fun b => b.fl == .copy id) with
    | some b => s0.endPacket (slotKey die slot) b.idx .dec
    | none => s0
  | .wave g w slot f =>
    match s0.group g, ((s0.wave g w).bind fun W => tabGet W.sb slot) with
    | some G, some e =>
      let s1 := (s0.pairOf g).foldl (fun t h => t.copyEnds h C w e.age f) s0
      match C.bar with
      | some (sc, bid) => if sc = 0 then s1 else s1.arriveCopy g G sc bid
      | none => s1
    | _, _ => s0

/-- A subject after its copy has moved to another table: a record tells the engine that performs the segment from now on, but not of
a table of saved copies (R324). -/
def Subject.movedSeg (x : Subject) (c d id : Nat) (C : Copy) : Subject :=
  match x.of with
  | .segment a i k =>
    if a = c ∧ i = id then
      let y := { x with of := .segment d i k }
      if d = savedCopies ∨ (C.segs[k]?).any (·.on.isSome) then y
      else { y with core := d, tail := tabPut 0 y.tail 38 (BitVec.ofNat 32 (d + C.op * 2 ^ 16)) }
    else x
  | _ => x

/-- A copy from table `c` put into table `d`; its parked segments go with it. A segment that a REDIRECT gave to another core's engine stays
with that engine (log 73). -/
def State.arriveCopyAt (s : State) (c d id : Nat) (C : Copy) : State :=
  (s.modCopyEng d fun E => { E with copies := tabSet E.copies id C }).mapSubjects fun x => x.movedSeg c d id C

/-- A copy moved from one table to another, out of its queue; its parked segments go with it. -/
def State.moveCopy (s : State) (c d id : Nat) (C : Copy) : State :=
  let s1 := s.modCopyEng c fun E =>
    { copies := tabErase E.copies id,
      queues := E.queues.filterMap fun q =>
        let l := q.2.filter fun x => x != .copy id
        if l.isEmpty then none else some (q.1, l) }
  s1.arriveCopyAt c d id C

/-- Fences that hold nothing back any more leave the queues of an engine. -/
def State.dropFences (s : State) (c : Nat) : State :=
  s.modCopyEng c fun E =>
    { E with queues := E.queues.filterMap fun q =>
        let l := q.2.filter fun x => match x with | .fence ahead => ahead.any s.copyOpen | .copy _ => true
        if l.isEmpty then none else some (q.1, l) }

/-- COPY_COMPLETION (R203): while the copy's group is saved, the completion is recorded in its saved context (R219). -/
def execCopyCompletion (core copy : Nat) (s : State) : Host.Outcome State Fault Refusal :=
  match tabGet (s.copyEng core).copies copy with
  | none => .next s
  | some C =>
    if !C.complete ∨ core = savedCopies then .next s
    else if s.isSaved C.grp then .next ((s.moveCopy core savedCopies copy C).dropFences core)
    else .next ((s.finishCopy core copy C).dropFences core)

/-! ## Saves and restores (R218, R219) -/

/-- The copies of a group that a save defers, given those found so far: a queue's copies not begun that stand behind one of
them, or behind a fence that waits for one. -/
def CopyEng.behind (E : CopyEng) (g : Nat) (found : List Nat) : List Nat :=
  (E.queues.flatMap fun q =>
    (q.2.foldl (fun (acc : Bool × List Nat) x =>
      match x with
      | .fence ahead => (acc.1 || ahead.any found.contains, acc.2)
      | .copy id =>
        if found.contains id then (true, acc.2)
        else match tabGet E.copies id with
          | some C => if acc.1 && C.grp == g && !C.begun then (true, acc.2 ++ [id]) else acc
          | none => acc) (false, [])).2)

/-- Every copy of a group that a save defers (R218). A `CPG2S` or `CPS2G` copy whose only segments left are parked has none to defer, and
stays in its engine and queue (R219, log 39). -/
def CopyEng.deferred (E : CopyEng) (g : Nat) : List Nat :=
  let own := (E.copies.filter fun e => e.2.grp == g && e.2.scratch &&
    (!e.2.begun || e.2.segs.any fun x => x.st == .waiting)).map (·.1)
  E.copies.foldl (fun l _ => l ++ (E.behind g l).filter fun id => !l.contains id) own

/-- The copies that a queued copy waits for: those ahead of the fences before it, and its own group's ahead of it that stay. -/
def CopyEng.waitsOf (E : CopyEng) (g : Nat) (moved : List Nat) (l : List QItem) (id : Nat) : List Nat :=
  ((l.takeWhile fun x => x != .copy id).flatMap fun x => match x with
    | .fence ahead => ahead
    | .copy j => match tabGet E.copies j with
      | some C => if C.grp = g ∧ !moved.contains j then [j] else []
      | none => []).filter fun j => j != id

/-- What a queue's part of a group's saved context holds, in order: its deferred copies, each behind a fence for what it waits for, and the
fences that stand behind a copy of the group (R211, R218). -/
def CopyEng.savedQueue (E : CopyEng) (g : Nat) (moved : List Nat) (l : List QItem) : List QItem :=
  let mine := fun j => match tabGet E.copies j with | some C => C.grp == g | none => false
  l.flatMap fun x => match x with
    | .copy id => if moved.contains id then [.fence (E.waitsOf g moved l id), .copy id] else []
    | .fence ahead => if ahead.any mine then [.fence ahead] else []

/-- A group's copies deferred into its saved context (R218). -/
def State.deferCopies (s : State) (g c : Nat) : State :=
  let E := s.copyEng c
  let ids := E.deferred g
  let order := E.queues.flatMap fun q => (E.savedQueue g ids q.2).map fun x => (q.1, x)
  let s1 := s.modGroup g fun G => { G with deferred := order }
  ids.foldl (fun t id => match tabGet (t.copyEng c).copies id with
    | some C => t.moveCopy c savedCopies id C
    | none => t) s1

/-- The saved items of a queue put into it on the engine of the new core: behind what has begun there and what they wait for, ahead of
everything else (R219). -/
def queueBack (E : CopyEng) (l items : List QItem) : List QItem :=
  let waits := items.flatMap fun x => match x with | .fence ahead => ahead | .copy _ => []
  let first := fun x => match x with
    | .copy j => waits.contains j || (match tabGet E.copies j with | some C => C.begun | none => false)
    | .fence _ => false
  let n := (l.mapIdx fun i x => if first x then i + 1 else 0).foldl max 0
  l.take n ++ items ++ l.drop n

/-- The saved items of a queue that still matter: its copies, and what its fences still wait for (R219). -/
def State.stillSaved (s : State) (items : List QItem) : List QItem :=
  items.filterMap fun x => match x with
    | .copy id => if (tabGet (s.copyEng savedCopies).copies id).isSome then some (.copy id) else none
    | .fence ahead => if ahead.any s.copyOpen then some (.fence (ahead.filter s.copyOpen)) else none

/-- What a restore does with a group's copies: recorded completions take effect, deferred copies go to the new core's engine, and the
fences behind them (R219). -/
def State.replayCopies (s : State) (g c : Nat) : State :=
  match s.group g with
  | none => s
  | some G =>
    let s1 := (List.range 4).foldl (fun t q =>
      let items := t.stillSaved ((G.deferred.filter fun x => x.1 == q).map (·.2))
      if items.isEmpty then t
      else t.modCopyEng c fun E => { E with queues := tabSet E.queues q (queueBack E (tabVal [] E.queues q) items) }) s
    let s2 := G.deferred.foldl (fun t x => match x.2 with
      | .copy id => (match tabGet (t.copyEng savedCopies).copies id with
        | some C => (t.modCopyEng savedCopies fun E => { E with copies := tabErase E.copies id }).arriveCopyAt savedCopies c id C
        | none => t)
      | .fence _ => t) s1
    let s3 := s2.modGroup g fun G => { G with deferred := [] }
    (s3.copyEng savedCopies).copies.foldl (fun t e => if e.2.grp = g then t.finishCopy savedCopies e.1 e.2 else t) s3

end Sys2Proof.Machine
end

