-- ==== Sys2Proof/Machine/FacetOps.lean ====
section
/-! DEFINITION. What facet slots do (R354-R366): causes, replacement sequences, the facet frame. -/
namespace Sys2Proof.Machine

/-- The cause that a TRAP slot or a routine's return word gives is delivered as this (R358, R363). -/
def facetCause (cause : Nat) : Nat := if cause = 0 ∨ cause = 0x43 ∨ 0x60 ≤ cause then 0x5F else cause

/-! ## REWRITE (R359) -/

/-- The replacement words of a slot for a matched word: RCNT of them, with the operand fields of the matched word where
KEEP asks for them. -/
def replacementWords (img : List Byte) (slot w0 : Nat) : List Nat :=
  let p := slotParam img slot
  (List.range (bits p 0 3)).map fun i =>
    let r := slotWord img slot (4 + i)
    if p.testBit (4 + i) then r / 2 ^ 24 * 2 ^ 24 + bits w0 0 24 else r

/-- Words decoded as instructions in order: the instructions, or the cause of the first that does not decode. -/
def decodeAll : List Nat → Except Nat (List Instr)
  | [] => .ok []
  | w0 :: rest =>
    if w0 = 0 then .error 0x02
    else if w0 = 0xFFFFFFFF ∨ !assigned (bits w0 24 8) then .error 0x01
    else if hasTwoWords w0 then
      match rest with
      | [] => .error 0x06
      | w1 :: more =>
        match decodeWords w0 w1, decodeAll more with
        | .error _, _ => .error 0x06
        | .ok _, .error e => .error e
        | .ok i, .ok is => .ok (i :: is)
    else
      match decodeWords w0 0, decodeAll rest with
      | .error _, _ => .error 0x06
      | .ok _, .error e => .error e
      | .ok i, .ok is => .ok (i :: is)

/-- The cause that decoding raises for one replacement instruction of a bundle, beside those of its words (R76). -/
def Wave.decodeCause (W : Wave) (G : Group) (c : Issue) (i : Instr) : Option Nat :=
  if !opAllowed (opcodeOf i) G false then some 0x04
  else if reservedValue i then some 0x06
  else if illegalOperand i then some 0x07
  else if !(c.fibres.all fun f => (opndsOf i).regs.all (W.fib f).inWindow) then some 0x05
  else none

/-- The sequence of a slot for a bundle, or the cause for which it parks at decode. Where several words have one, undefined words, opcodes and
reserved bits of all words come first, then the other causes word by word (R359, log 74). -/
def rewriteSeq (img : List Byte) (slot : Nat) (G : Group) (W : Wave) (c : Issue) : Except Nat (List Instr) :=
  match decodeAll (replacementWords img slot c.w0) with
  | .error e => .error e
  | .ok is => match is.findSome? (W.decodeCause G c) with
    | some e => .error e
    | none => .ok is

/-- No word of the sequence meets a hazard of an instruction that issued before it (R37, R182). -/
def rewriteReady (img : List Byte) (slot : Nat) (G : Group) (W : Wave) (c : Issue) : Bool :=
  match rewriteSeq img slot G W c with
  | .error _ => true
  | .ok is => is.all fun i => W.hazardFree c (opndsOf i)

/-- How a sequence stops before its end: the word, what it raises, the fibres in which it does, the wave as that word
found it, and whether it is a trap. -/
structure SeqStop where
  at_ : Instr
  raise : Raise
  gt : List Nat
  wave : Wave
  late : Bool
deriving DecidableEq, Repr

/-- One replacement instruction performed on the wave (R61, R105, R113-R116). -/
def State.seqStep (s : State) (G : Group) (c : Issue) (i : Instr) (W : Wave) : Except SeqStop Wave :=
  let o := opndsOf i
  let gt := W.guardTrue c o.guard
  match W.tagMismatch (opcodeOf i) o c gt, laneOf i with
  | some r, _ => .error ⟨i, r, gt, W, false⟩
  | none, none => .ok W
  | none, some lane =>
    let out := fun f => lane (s.laneIn G W o f)
    let all := gt.foldl (fun e f => e ||| trapping (W.fib f) (out f).exc) 0
    match trapCause all with
    | some cause =>
      let bad := gt.filter fun f => trapping (W.fib f) (out f).exc != 0
      .error ⟨i, { cause := cause, fmask := maskOf bad,
                   exc := gt.filterMap fun f => if (out f).exc = 0 then none else some (f, (out f).exc.toNat) }, gt, W, true⟩
    | none => .ok (gt.foldl (fun X f => X.writePredFlags f o (out f)) (W.writeRegs gt o.dstRegs fun f => (out f).regs))

/-- The sequence performed on the wave. -/
def State.runSeq (s : State) (G : Group) (c : Issue) : List Instr → Wave → Except SeqStop Wave
  | [], W => .ok W
  | i :: is, W =>
    match s.seqStep G c i W with
    | .error x => .error x
    | .ok X => State.runSeq s G c is X

/-- The unsettled execution entry of a sequence that stopped: it serves the handler as information only, and is dropped
without a write whatever its SETTLE holds. -/
def SeqStop.entry (x : SeqStop) (slot : Nat) (c : Issue) (W : Wave) : Entry :=
  let accs := (bitsOf x.raise.fmask).map fun f =>
    { fib := f, va := 0, data := captured x.wave (opndsOf x.at_) f, st := .faulted x.raise.cause, dst := [], pd := none,
      skip := 0, drop := false, tmo := 0, inFacet := false }
  { instr := .facetRewrite slot, pc := c.pc, age := W.nextAge, accs := accs, faulted := true, settle := 0 }

/-! ## EMULATE (R360, R361) -/

/-- The operand fields that a frame copies, V0 to V2: w0[13:7], w0[6:0], w0[20:14]. -/
def frameRegs (w0 : Nat) : List Reg := [regOf (bits w0 7 7), regOf (bits w0 0 7), regOf (bits w0 14 7)]

/-- The registers that the entry copies carry no hazard. -/
def Wave.entryReady (W : Wave) (c : Issue) (w0 : Nat) : Bool :=
  W.hazardFree c { guard := 7, srcs := (frameRegs w0).map (fun r => ⟨r, 1, .any⟩), preads := List.range 7 }

/-- The frame state that a fibre enters with. -/
def Wave.enterFrame (W : Wave) (img : List Byte) (slot : Nat) (c : Issue) (cycle f : Nat) : Wave :=
  let F := W.fib f
  let rs := frameRegs c.w0
  let ok := rs.map F.inWindow
  let copy := rs.map fun r => if F.inWindow r then W.read f r else zeroReg
  let valid := (List.range 3).foldl (fun n i => if ok.getD i false then n + 2 ^ i else n) 0
  let w1 := if hasTwoWords c.w0 then c.w1 else 0
  let word := fun (n : Nat) => (⟨BitVec.ofNat 32 n, .b32⟩ : Tagged)
  let vs := copy ++ [word c.w0, word w1, ⟨F.flags, .b32⟩, ⟨BitVec.ofNat 32 valid, .n32⟩]
  let regs := (vs.mapIdx fun i v => (i, v)).foldl (fun t e => tabPut zeroReg t e.1 e.2) []
  W.modFib f fun F =>
    { F with facet := some (
        { slot := slot, pc := BitVec.ofNat 64 (slotParam img slot), w0 := c.w0, w1 := w1, entry := cycle, regs := regs,
          ks := [], preds := F.preds, flags := 0, trapen := BitVec.ofNat 32 (routineTraps img slot), lnk := 0 } : FacetCtx) }

/-! ## FCTRET (R363) -/

/-- The return word of a fibre: the frame's V7. -/
def FacetCtx.ret (x : FacetCtx) : Nat := (tabVal zeroReg x.regs 7).val.toNat

/-- A fibre's writes on return, and its continuation after the emulated instruction. -/
def Wave.returnFib (W : Wave) (f : Nat) : Wave :=
  match (W.fib f).facet with
  | none => W
  | some x =>
    let out := W.modFib f fun F => { F with facet := none }
    let F := out.fib f
    let r := regOf (bits x.w0 14 7)
    let W1 := if x.ret.testBit 0 && F.inWindow r then out.put f (F.dreg r) (tabVal zeroReg x.regs 2) else out
    W1.modFib f fun F =>
      let F1 := if x.ret.testBit 1 then { F with preds := x.preds ||| 0x80 } else F
      let F2 := if x.ret.testBit 2 then F1.setFlags (tabVal zeroReg x.regs 5).val else F1
      { F2 with pc := F2.pc + (if hasTwoWords x.w0 then 8 else 4) }

/-- The longest time that a fibre may stay in facet context, in core cycles: ELIM (R367). -/
def facetLimit (img : List Byte) : Nat := imgField img 0x14 4

end Sys2Proof.Machine
end

