-- ==== Sys2Proof/Machine/Fetch.lean ====
section
/-! DEFINITION. Fetch and decode in the order of R76, facet matching (R355, R356), and which fibres a regroup boundary finds ready
(R37). -/
namespace Sys2Proof.Machine

/-! ## Facet matching (R355) -/

/-- The ACTION of a slot of an image: 0 empty, 1 TRAP, 2 REWRITE, 3 EMULATE, 4 HOOK (R367). -/
def slotAction (img : List Byte) (i : Nat) : Nat := bits (slotWord img i 0) 8 8
/-- The PRIO of a slot. -/
def slotPrio (img : List Byte) (i : Nat) : Nat := bits (slotWord img i 0) 16 4

/-- Whether a slot of an image matches a first word at a level and mode (R355). -/
def slotMatches (img : List Byte) (i w0 level : Nat) (firmware : Bool) : Bool :=
  let h := slotWord img i 0
  (bits h 8 8 == 1 || bits h 8 8 == 2 || bits h 8 8 == 3) && bits w0 24 8 == bits h 0 8 &&
  ((bits w0 0 24) &&& (slotWord img i 1)) == slotWord img i 2 && (bits h 24 8).testBit level &&
  (!firmware || (bits h 24 8).testBit 3)

/-- The slot that `facet_match` answers: lowest PRIO, then lowest number (R355). -/
def facetMatch (img : List Byte) (w0 level : Nat) (firmware : Bool) : Option Nat :=
  let ms := (List.range 16).filter fun i => slotMatches img i w0 level firmware
  match least (ms.map (slotPrio img)) with
  | none => none
  | some p => ms.find? fun i => slotPrio img i == p

/-! ## Fetch and decode (R76) -/

/-- What decoding at a program counter gives: a cause, or the step that the word stands for. -/
inductive Fetched where
  | raise (c : Issue) (r : Raise)
  | run (c : Issue) (i : Instr)
deriving DecidableEq, Repr

/-- An instruction word at a program counter; in facet context, of the active image (R362), in firmware mode, of the Cuset image
where that stands (R376). -/
def State.wordAt (s : State) (core : Nat) (G : Group) (facet : Bool) (pc : Addr) : Except Nat Nat :=
  if facet then .ok (imgField s.facet.active pc.toNat 4)
  else if G.firmware then
    match s.fwBytes pc.toNat 4 with
    | some bs => .ok (leNat bs)
    | none => s.fetchWord core G.asid pc.toNat
  else s.fetchWord core G.asid pc.toNat

/-- The step that a slot's action stands for (R358-R360). -/
def slotStep (img : List Byte) (i : Nat) : Instr :=
  match slotAction img i with
  | 1 => .facetTrap i
  | 2 => .facetRewrite i
  | _ => .facetEmulateEntry i

/-- Decoding in the order of R76, for a bundle of a wave at its program counter. A fetch fault has read no first word: what its
record holds of it is a free value (log 63). -/
def State.decodeAt (s : State) (core g w : Nat) (G : Group) (W : Wave) (fs : List Nat) : Fetched :=
  let pc := (W.fib (fs.headD 0)).curPc
  let facet := (W.fib (fs.headD 0)).facet.isSome
  let at_ := fun w0 w1 => ({ grp := g, wave := w, fibres := fs, pc := pc, w0 := w0, w1 := w1 } : Issue)
  match s.wordAt core G facet pc with
  | .error e => .raise { at_ 0 0 with w0 := s.freeWord.toNat } { cause := e, va := pc.toNat }
  | .ok w0 =>
    if w0 = 0 ∨ w0 = 0xFFFFFFFF then .run (at_ w0 0) (.nonInstructionWord w0)
    else
      let m := if facet then none else facetMatch s.facet.active w0 G.hdr.level G.firmware
      let op := bits w0 24 8
      if m.isNone ∧ !assigned op then .run (at_ w0 0) (.nonInstructionWord w0)
      else if m.isNone ∧ !opAllowed op G facet then .raise (at_ w0 0) { cause := 0x04 }
      else match (if hasTwoWords w0 then s.wordAt core G facet (pc + 4) else .ok 0) with
        | .error e => .raise (at_ w0 0) { cause := e, va := (pc + 4).toNat }
        | .ok w1 =>
          match m with
          | some i => .run (at_ w0 w1) (slotStep s.facet.active i)
          | none =>
            match decodeWords w0 w1 with
            | .ok i => .run (at_ w0 w1) i
            | .error _ => .raise (at_ w0 w1) { cause := 0x06 }

/-- Whether a fibre's next instruction is free of scoreboard hazards, as a regroup boundary asks of it (R37). -/
def State.fibReady (s : State) (core g w : Nat) (G : Group) (W : Wave) (f : Nat) : Bool :=
  match s.decodeAt core g w G W [f] with
  | .raise _ _ => true
  | .run c i =>
    match i with
    | .facetEmulateEntry _ => W.entryReady c c.w0
    | .facetRewrite slot => rewriteReady s.facet.active slot G W c
    | .nonInstructionWord _ | .facetTrap _ => true
    | _ => W.hazardFree c (opndsOf i)

end Sys2Proof.Machine
end

