-- ==== Sys2Proof/Machine/MatrixInstr.lean ====
section
/-! DEFINITION. The meanings of matrix instructions (R222-R233, R245-R250, R255). -/
namespace Sys2Proof.Machine

/-- What one fibre gives MXGO: the block's words and the K pairs that it names. -/
def Wave.blockFor (W : Wave) (G : Group) (a : Reg) (f : Nat) : List Word × List Word :=
  let w := G.scrWords (W.read f a).val.toNat 16
  (w, W.capturePairs (blockOf w))

/-- The lowest cause that R228 finds for one fibre. -/
def State.mxgoFault (s : State) (g : Nat) (G : Group) (W : Wave) (a : Reg) (f : Nat) : Option Nat :=
  let o := (W.read f a).val.toNat
  if o % 64 ≠ 0 then some 0x12
  else if G.hdr.scr < o + 64 then some 0x13
  else s.blockFault g G (some W) (W.blockFor G a f).1 (W.blockFor G a f).2

/-- A pass put into the lowest free entry of a reservation table (R221, R222). -/
def Matrix.reserve (M : Matrix) (p : Pass) : Matrix :=
  match freeFrom (M.entries.map (·.1)) 64 0 with
  | some e => { M with entries := tabSet M.entries e p }
  | none => M

/-- A new pass reserved on a quad's engine, with its number (R222). -/
def State.reservePass (s : State) (quad : Nat) (p : Pass) : State :=
  let s1 := s.modMatrix quad fun M => M.reserve { p with order := s.eng.nextPass, at_ := (s.core p.core).cycles }
  { s1 with eng := { s1.eng with nextPass := s.eng.nextPass + 1 } }

/-- MXGO (R222, R226, R228): its entry and one pass for each guard-true fibre in ascending order, with what it captures. -/
def execMxgo (o : Form.A1) (s : State) : Host.Outcome State Fault Refusal :=
  issueWith (.mxgo o) s fun c G W gt =>
    let res := fun f => s.mxgoFault c.grp G W o.a f
    match W.freeEntry .tile, least (gt.filterMap res) with
    | none, _ => .next s
    | some slot, bad =>
      if gt = [] then s.nextWave c (W.advance c)
      else if 8 < gt.length then s.raised c gt { cause := 0x07, fmask := maskOf gt }
      else match bad with
        | some cause => s.raised c gt { cause := cause, fmask := maskOf (gt.filter fun f => res f == some cause) }
        | none =>
          let accs := gt.map fun f => W.newAcc c (opndsOf (.mxgo o)) gt f 0 .sent
          let s1 := s.setWave c ((W.advance c).addEntry slot (.mxgo o) c.pc accs)
          .next (if G.isTwin then s1
            else gt.foldl (fun t f =>
              let x := W.blockFor G o.a f
              let b := blockOf x.1
              t.reservePass (quadOf G.coreNo)
                { grp := c.grp, wave := c.wave, slot := slot, fib := f, core := G.coreNo, blk := x.1, kp := x.2,
                  capA := W.captureRegs b.opA, capB := W.captureRegs b.opB, order := 0, turn := 0, passedOver := 0, st := .reserved,
                  redirected := false, late := false, opA := [], opB := [], meta_ := [], staged := none }) s1)

/-- A tile operation that completes later: its entry with one part for each of the listed fibres and the words it needs;
`then_` is what else its issue does. -/
def execTileOp (i : Instr) (s : State) (bad : Group → Wave → Nat → Option Nat) (fibs : Wave → List Nat → List Nat)
    (data : Wave → Nat → List Word) (then_ : Issue → Group → Nat → List Acc → State → State) :
    Host.Outcome State Fault Refusal :=
  issueWith i s fun c G W gt =>
    match W.freeEntry .tile, least (gt.filterMap (bad G W)) with
    | none, _ => .next s
    | some _, some cause => s.raised c gt { cause := cause, fmask := maskOf (gt.filter fun f => bad G W f == some cause) }
    | some slot, none =>
      if gt = [] then s.nextWave c (W.advance c)
      else
        let accs := (fibs W gt).map fun f => { W.newAcc c (opndsOf i) gt f 0 .sent with data := data W f }
        .next (then_ c G slot accs (s.setWave c ((W.advance c).addEntry slot i c.pc accs)))

/-- No further effect at issue. -/
def noMore (_ : Issue) (_ : Group) (_ : Nat) (_ : List Acc) (s : State) : State := s

/-- MXCLR (R246): acts once for the bundle. -/
def execMxclr (o : Form.Tm) (s : State) : Host.Outcome State Fault Refusal :=
  execTileOp (.mxclr o) s (fun G _ _ => if o.tm < 2 ^ G.hdr.tiles then none else some 0x07) (fun _ gt => gt.take 1)
    (fun _ _ => [BitVec.ofNat 32 o.tm]) noMore

/-- Whether an index of MXRD and MXWR breaks R247. -/
def indexBad (G : Group) (x : Word) : Option Nat :=
  if bits x.toNat 0 2 = 0 ∧ bits x.toNat 18 14 = 0 ∧ bits x.toNat 14 4 < G.hdr.tiles then none else some 0x07

/-- MXRD (R247). -/
def execMxrd (o : Form.DA) (s : State) : Host.Outcome State Fault Refusal :=
  execTileOp (.mxrd o) s (fun G W f => indexBad G (W.read f o.a).val) (fun _ gt => gt) (fun W f => [(W.read f o.a).val]) noMore

/-- MXWR (R247): of fibres that name the same elements only the highest-numbered writes (R193). -/
def execMxwr (o : Form.AB) (s : State) : Host.Outcome State Fault Refusal :=
  execTileOp (.mxwr o) s (fun G W f => indexBad G (W.read f o.a).val)
    (fun W gt => gt.filter fun f => !(gt.any fun h => decide (f < h) && (W.read h o.a).val == (W.read f o.a).val))
    (fun W f => (W.read f o.a).val :: (regRun o.b 4).map fun r => (W.read f r).val) noMore

/-- MXSC (R248). -/
def execMxsc (o : Form.AB) (s : State) : Host.Outcome State Fault Refusal :=
  execTileOp (.mxsc o) s (fun _ _ _ => none) (fun _ gt => gt)
    (fun W f => [loWord (W.readPair f o.a), hiWord (W.readPair f o.a), (W.read f o.b).val]) noMore

/-- What the checks of R249 find for one fibre. -/
def histBad (G : Group) (off ctl : Word) : Option Nat :=
  if bits ctl.toNat 25 7 ≠ 0 then some 0x07
  else if off.toNat % 4 ≠ 0 then some 0x12
  else if G.hdr.scr < off.toNat + 4 * (bits ctl.toNat 0 16 + 1) then some 0x13
  else none

/-- MXHIST (R249): one request for each guard-true fibre, in ascending order. -/
def execMxhist (o : Form.DAB) (s : State) : Host.Outcome State Fault Refusal :=
  execTileOp (.mxhist o) s (fun G W f => histBad G (W.read f o.a).val (W.read f o.b).val) (fun _ gt => gt)
    (fun W f => [(W.read f o.a).val, (W.read f o.b).val])
    fun c G slot accs t =>
      if G.isTwin then t
      else t.modMatrix (quadOf G.coreNo) fun M =>
        { M with hist := M.hist ++ accs.map fun a =>
            { grp := c.grp, wave := c.wave, slot := slot, fib := a.fib, off := (a.data.getD 0 0).toNat, ctl := a.data.getD 1 0 } }

/-- The tile operations of a group in flight that issued before the current core cycle, as wave and issue number (R250). -/
def Group.tileOps (G : Group) : List (Nat × Nat) :=
  G.waves.flatMap fun e =>
    (e.2.sb.filter fun x => decide (40 ≤ x.1) && decide (x.1 < 48) && decide (x.2.age < e.2.ageMark)).map fun x => (e.1, x.2.age)

/-- MXWAIT (R250). -/
def execMxwait (o : Form.N) (s : State) : Host.Outcome State Fault Refusal :=
  issueWith (.mxwait o) s fun c G W gt =>
    s.nextWave c (gt.foldl (fun X f => X.modFib f fun F => { F with wait := .tile G.tileOps }) (W.advance c))

end Sys2Proof.Machine
end

