-- ==== Sys2Proof/Machine/ObjInstr.lean ====
section
/-! DEFINITION. The meanings of object instructions (R300, R301, R309, R313-R316). -/
namespace Sys2Proof.Machine

/-- Whether a descriptor keeps R300. -/
def descOk (d : Word) : Bool :=
  let n := d.toNat
  decide (bits n 0 2 < 3) && bits n 2 6 == 0 && bits n 14 2 == 0 && bits n 21 11 == 0 &&
    !(bits n 0 2 == 2 && bits n 8 6 != 0) && decide (4 ≤ bits n 16 5) && decide (bits n 16 5 ≤ 20)

/-- What R314 finds of one fibre's registration. -/
def regBad (ra : Addr) (d : Word) : Option Nat :=
  if !canonical ra.toNat then some 0x11 else if ra.toNat % 64 ≠ 0 then some 0x12 else if !descOk d then some 0x07 else none

/-- What R309 finds of a handle. -/
def handleBad (asid : Nat) (h : Addr) : Option Nat :=
  let lo := (loWord h).toNat
  let hi := (hiWord h).toNat
  if h = 0 ∨ lo.testBit 15 ∨ bits hi 22 10 ≠ 0 ∨ bits lo 7 2 = 3 then some 0x07
  else if bits hi 0 16 ≠ asid then some 0x11
  else none

/-- An object instruction: refused at issue with the lowest cause; else its entry with one operation for each guard-true
fibre, which leave the core in ascending fibre number (R308); the twin of a pair makes none (R312). -/
def execObj (i : Instr) (s : State) (a : Reg) (bad : Group → Wave → Nat → Option Nat) : Host.Outcome State Fault Refusal :=
  issueWith i s fun c G W gt =>
    let o := opndsOf i
    match o.entry.bind W.freeEntry, least (gt.filterMap (bad G W)) with
    | none, _ => .next s
    | some _, some cause =>
      let fs := gt.filter fun f => bad G W f == some cause
      s.raised c gt { cause := cause, fmask := maskOf fs, va := (fs.head?.map fun f => (W.readPair f a).toNat).getD 0 }
    | some slot, none =>
      if gt = [] then s.nextWave c (W.advance c)
      else
        let accs := gt.map fun f => W.newAcc c o gt f (W.readPair f a) (if twinSilent i G then .sent else .unsent)
        s.nextWave c ((W.advance c).addEntry slot i c.pc accs)

/-- OBJREG (R314). -/
def execObjreg (o : Form.DABx) (s : State) : Host.Outcome State Fault Refusal :=
  execObj (.objreg o) s o.a fun _ W f => regBad (W.readPair f o.a) (W.read f o.b).val

/-- OBJDROP (R309, R316). -/
def execObjdrop (o : Form.A1) (s : State) : Host.Outcome State Fault Refusal :=
  execObj (.objdrop o) s o.a fun G W f => handleBad G.asid (W.readPair f o.a)

/-- CLPUSH (R309, R315). -/
def execClpush (o : Form.DAB) (s : State) : Host.Outcome State Fault Refusal :=
  execObj (.clpush o) s o.a fun G W f => handleBad G.asid (W.readPair f o.a)

/-- CLPOP (R309, R315). -/
def execClpop (o : Form.Clpop) (s : State) : Host.Outcome State Fault Refusal :=
  execObj (.clpop o) s o.a fun G W f => handleBad G.asid (W.readPair f o.a)

end Sys2Proof.Machine
end

