-- ==== Sys2Proof/Machine/FlushOps.lean ====
section
/-! DEFINITION. Lines written back and invalidated (R261, R264, R302, R417), and the registration and dropping of queue objects at
their home slice (R299-R303, R310, R314, R316). -/
namespace Sys2Proof.Machine

/-! ## Lines that leave the caches (R261, R417) -/

/-- A dirty line's words written to its physical line. -/
def State.writeBack (s : State) (l : SLine) : State :=
  if l.dirty then { s with mem := memPutBytes s.mem l.leaf.pa (lineBytes l.words) } else s

/-- The victims in the acceptance buffers are written to their tiers, in order of arrival (R261). -/
def State.drainAccept (s : State) : State :=
  s.slices.foldl (fun t e =>
    if e.2.accept.isEmpty then t
    else e.2.accept.foldl (fun u x => u.writeBack x.2) (t.modSlice e.1 fun S => { S with accept := [] })) s

/-- No L1 holds a line, and no fill on its way takes a word of it. -/
def State.dropL1 (s : State) (asid line : Nat) : State :=
  { s with
    cores := s.cores.filterMap fun e =>
      let C := { e.2 with l1 := tabErase e.2.l1 (asid * 2 ^ 50 + line) }
      if C = Core.empty then none else some (e.1, C),
    groups := tabMap s.groups fun _ G =>
      if G.asid = asid then
        { G with waves := tabMap G.waves fun _ W =>
            { W with sb := tabMap W.sb fun _ e =>
                { e with accs := e.accs.map fun a =>
                    if a.va.toNat % 2 ^ 56 / 64 == line then { a with skip := 0xFFFF } else a } } }
      else G,
    msgs := s.msgs.map fun (m : Msg) =>
      if m.asid = asid ∧ m.line = line then
        match m.body with
        | .ack true | .ackWord _ => { m with body := .ack false }
        | _ => m
      else m }

/-- The answers that revokes of a line hold leave now. -/
def State.releaseHeld (s : State) (l : SLine) : State :=
  let hs := l.owners.filterMap fun o => match o.2 with | .revoke _ (some x) _ => some x | _ => none
  hs.dedup.foldl (fun t x => t.reply x.1 x.2.unowned) s

/-- A line of virtual memory leaves its slice and every L1; requests that wait for it are translated anew. -/
def State.flushLine (s : State) (h key : Nat) : State :=
  let asid := key / 2 ^ 50
  let line := key % 2 ^ 50
  match tabGet (s.slice h).lines key with
  | none => s
  | some l =>
    (((s.writeBack l).releaseHeld l).modSlice h fun S =>
      { S with lines := tabErase S.lines key,
               miss := tabMap S.miss fun _ m => if m.asid = asid ∧ m.line = line then { m with st := .lookup } else m }).dropL1
      asid line

/-- A line of the slice-only class leaves its PA home slice. -/
def State.flushPhys (s : State) (line : Nat) : State :=
  let h := paHome (64 * line)
  match tabGet (s.slice h).plines line with
  | none => s
  | some l => (s.modSlice h fun S => { S with plines := tabErase S.plines line }).writeBack l

/-- Every line, forward tag and L1 word of an ASID whose line number satisfies a test leaves; the lines behind the forward tags
of the slice-only class leave too. -/
def State.flushWhere (s : State) (asid : Nat) (p : Nat → Bool) : State :=
  let mine := fun key => key / 2 ^ 50 == asid && p (key % 2 ^ 50)
  let ls := s.slices.flatMap fun e => (e.2.lines.filter fun l => mine l.1).map fun l => (e.1, l.1)
  let fs := s.slices.flatMap fun e => e.2.fwd.filter fun l => mine l.1
  let s1 := ls.foldl (fun t e => t.flushLine e.1 e.2) s
  let s2 := fs.foldl (fun t f => if f.2.peer = 0 then t.flushPhys (f.2.pa / 64) else t) s1
  let s3 : State := { s2 with slices := s2.slices.map fun (e : Nat × Slice) =>
    (e.1, { e.2 with fwd := e.2.fwd.filter fun l => !mine l.1,
                     miss := tabMap e.2.miss fun _ m => if m.asid = asid ∧ p m.line then { m with st := .lookup } else m }) }
  let keys := s3.cores.flatMap fun e => (e.2.l1.filter fun l => mine l.1).map fun l => l.1 % 2 ^ 50
  keys.dedup.foldl (fun t line => t.dropL1 asid line) s3

/-- The leaves of an ASID whose page satisfies a test leave every TLB. -/
def State.dropLeaves (s : State) (asid : Nat) (p : TlbEntry → Bool) : State :=
  { s with xl := { s.xl with tlbs := s.xl.tlbs.filterMap fun e =>
      let l := e.2.filter fun x => !(x.asid == asid && p x)
      if l.isEmpty then none else some (e.1, l) } }

/-! ## Queue objects (R299-R302) -/

/-- A handle's words (R301). -/
def mkHandle (home slot gen asid desc : Nat) : List Word :=
  [BitVec.ofNat 32 (home + bits desc 0 2 * 2 ^ 7 + bits desc 8 6 * 2 ^ 9 + gen * 2 ^ 16),
   BitVec.ofNat 32 (asid + slot * 2 ^ 16)]

/-- GEN of a handle. -/
def handleGen (lo : Word) : Nat := bits lo.toNat 16 16

/-- An object-table entry of a slice. -/
def Slice.obj (S : Slice) (i : Nat) : ObjEntry := tabVal ObjEntry.free S.objs i

/-- An object-table entry changed. -/
def State.modObj (s : State) (h i : Nat) (f : ObjEntry → ObjEntry) : State :=
  s.modSlice h fun S => { S with objs := tabPut ObjEntry.free S.objs i (f (S.obj i)) }

/-- What the translation engine finds of one page of a region: its leaf, or the cause (R302 step 4, R314). -/
def State.regionPage (s : State) (asid va : Nat) : Except Nat TlbEntry :=
  match s.walk asid va with
  | .absent _ _ => .error 0x10
  | .found e =>
    if e.leaf.w && e.leaf.peer == 0 && !e.leaf.sliceOnly && !s.heldFrame (e.pa va) && inTier (e.pa va) then .ok e else .error 0x11
  | _ => .error 0x11

/-- The 64 KiB pieces of the page that a leaf maps, as virtual and physical addresses. -/
def TlbEntry.granules (e : TlbEntry) : List (Nat × Nat) :=
  (List.range (2 ^ (pageShift e.size - 16))).map fun i => (e.va + 65536 * i, e.leaf.pa + 65536 * i)

/-- The pages of a region as an object will hold them, or the first cause found. -/
def State.regionFrames (s : State) (asid va size : Nat) : Except Nat (List (Nat × Nat)) :=
  let first := va % 2 ^ 56 / 65536
  let last := (va % 2 ^ 56 + size - 1) / 65536
  (List.range (last - first + 1)).foldl (fun (r : Except Nat (List (Nat × Nat))) i =>
    match r with
    | .error c => .error c
    | .ok fs => match s.regionPage asid (65536 * (first + i)) with
      | .error c => .error c
      | .ok e => .ok (fs ++ e.granules.filter fun g => !fs.contains g)) (.ok [])

/-- The bytes of a region of `2 ^ capl` elements (R300). -/
def regionBytes (capl : Nat) : Nat := 64 + 4 * 2 ^ capl

/-- Generation-table writes to every router, which travel from the home slice as request-class entries (R303). -/
def State.tellRouters (s : State) (home slot gen : Nat) (valid : Bool) (op : Nat) : State :=
  (List.range 96).foldl (fun t r => t.enqueue (chanId (sliceNode home) (routerNode (routerOfSlice home)))
    { core := 0, grp := 0, wave := 0, slot := 0, fib := 0, ctx := 0, asid := 0, va := 0, size := 0, home := 128 + r,
      op := .gen { router := r, home := home, slot := slot, gen := gen, valid := valid, op := op } }) s

/-- The registration of a region at its home slice (R302). -/
def State.register (s : State) (k : Nat) (o : ObjOp) : State :=
  let r := o.req
  let h := o.home
  let gone := fun (t : State) => { t with mesh := { t.mesh with objOps := tabErase t.mesh.objOps k } }
  match r.op with
  | .objreg d =>
    let desc := d.toNat
    match freeFrom (((s.slice h).objs.filter fun e => e.2.used).map (·.1)) 64 0 with
    | none => (gone s).reply r (.value [0, 0])
    | some i =>
      match s.regionFrames r.asid r.va (regionBytes (bits desc 16 5)) with
      | .error c => (gone s).reply r (.fault c)
      | .ok frames =>
        let page := fun line => frames.any fun f => f.1 / 65536 == line * 64 / 65536
        let s1 := (s.flushWhere r.asid page).dropLeaves r.asid fun e => frames.any fun f =>
          decide (e.va ≤ f.1) && decide (f.1 < e.va + 2 ^ pageShift e.size)
        let gen := ((s.slice h).obj i).gen
        let s2 := s1.modObj h i fun e =>
          { gen := e.gen, used := true, kind := bits desc 0 2, win := bits desc 8 6, cap := 2 ^ bits desc 16 5, count := 0,
            head := 0, asid := r.asid, region := r.va, frames := frames, slots := [] }
        let s3 := { s2 with mesh := { s2.mesh with objOps := (tabSet s2.mesh.objOps k
          { o with slot := i, left := 96, started := true, handle := mkHandle h i gen r.asid desc }) } }
        s3.tellRouters h i gen true k
  | _ => gone s

/-- The physical address of a byte of an object's region. -/
def ObjEntry.at_ (e : ObjEntry) (off : Nat) : Nat :=
  let va := e.region % 2 ^ 56 + off
  match e.frames.find? fun f => f.1 / 65536 == va / 65536 with
  | some f => f.2 + va % 65536
  | none => 0

/-- Count, head and every slot that the object has written go into its region (R300, R310). -/
def State.objBack (s : State) (e : ObjEntry) : State :=
  let put := fun (t : State) (off : Nat) (bs : List Byte) => t.writePhys (e.at_ off) bs
  let s1 := put (put s 0 (natBytes 4 e.count ++ natBytes 4 e.head)) 8 (List.replicate 56 0)
  e.slots.foldl (fun t x => put t (64 + 4 * x.1) (natBytes 4 x.2.toNat)) s1

/-- Whether a handle names an entry in use of its generation, and of its address space: no handle reaches an object of another one (R307,
R309). -/
def Slice.live (S : Slice) (lo hi : Word) : Bool :=
  let e := S.obj (handleSlot hi)
  e.used && e.gen == handleGen lo && e.asid == bits hi.toNat 0 16

/-- OBJDROP at the home slice: step 1, and the writes of step 2 (R310). The pages stay held until step 3: the operation keeps what
the entry held. -/
def State.dropObj (s : State) (r : Req) (lo hi : Word) : State :=
  let h := r.home
  let i := handleSlot hi
  if !(s.slice h).live lo hi then s.reply r (.fault 0x14)
  else
    let k := (tabFree s.mesh.objOps 0 (s.mesh.objOps.length + 1)).getD 0
    let s1 := s.modObj h i fun e => { ObjEntry.free with gen := if e.gen = 0xFFFF then 1 else e.gen + 1 }
    let s2 := { s1 with mesh := { s1.mesh with objOps := (tabSet s1.mesh.objOps k
      { req := r, home := h, slot := i, left := 96, drop := true, handle := [], waits := [], started := true,
        old := some ((s.slice h).obj i) }) } }
    s2.tellRouters h i (handleGen lo) false k

/-! ## Requests on their way -/

/-- Every request that a channel carries or a miss table holds. -/
def State.inFlight (s : State) : List Req :=
  (s.chans.flatMap fun e =>
    e.2.queue ++ (e.2.window.filter fun w => w.st != .acked).map (·.req) ++ e.2.buf.map (·.req)) ++
  s.slices.flatMap fun e => e.2.miss.flatMap fun m => m.2.reqs

/-- An OBJREG reaches its home slice: it waits for the accesses to its region that are already on their way (R302 step 5). -/
def State.takeRegister (s : State) (r : Req) (d : Word) : State :=
  let lo := r.va % 2 ^ 56 / 65536
  let hi := (r.va % 2 ^ 56 + regionBytes (bits d.toNat 16 5) - 1) / 65536
  let ws := s.inFlight.filter fun q => q.asid == r.asid && q != r && decide (lo ≤ q.va % 2 ^ 56 / 65536) &&
    decide (q.va % 2 ^ 56 / 65536 ≤ hi) && (match q.op with | .objreg _ | .objdrop _ _ | .gen _ | .push _ _ _ | .pop _ _ | .pass _ _ _ => false | _ => true)
  let k := (tabFree s.mesh.objOps 0 (s.mesh.objOps.length + 1)).getD 0
  { s with mesh := { s.mesh with objOps := (tabSet s.mesh.objOps k
      { req := r, home := r.home, slot := 0, left := 0, drop := false, handle := [], waits := ws, started := false, old := none }) } }

/-- Registrations whose region's earlier accesses have reached their homes go on. -/
def State.startObjects (s : State) : State :=
  s.mesh.objOps.foldl (fun t e =>
    if e.2.started then t
    else if e.2.waits.any t.inFlight.contains then t
    else t.register e.1 e.2) s

end Sys2Proof.Machine
end

