-- ==== Sys2Proof/Machine/QueueOps.lean ====
section
/-! DEFINITION. Queue descriptors and packets as they are read (R382, R386), the mapping of queues (R384), and the queues that wait
for a slot (R385). -/
namespace Sys2Proof.Machine

/-! ## Descriptors (R382) -/

/-- Whether the 64 bytes of a descriptor keep R382, for a queue on a die: its context exists and uses the die (R381), its
vector lies in the range of the function that serves the context (R427). -/
def State.descOk (s : State) (desc die : Nat) (b : List Byte) : Bool :=
  let f := hdrField b
  let ctx := f 0x22 2
  desc % 64 == 0 && canonical (f 0 8) && f 0 8 % 64 == 0 && decide (4 ≤ f 0x20 1) && decide (f 0x20 1 ≤ 16) &&
  decide (f 0x21 1 < 8) && decide (ctx < 4096) && decide (f 0x26 1 ≤ 100) && zeroAt b [(0x28, 24)] &&
  match s.ctx ctx with
  | some c => c.part.testBit die && vecOk (s.boundFn ctx) (f 0x24 2)
  | none => false

/-- The slot of a queue as its descriptor gives it: STATE 2 lasts until system software has written STATE 0 (R382, R389). -/
def State.slotFrom (s : State) (desc : Nat) (b : List Byte) (borrowed : Bool) : QSlot :=
  let f := hdrField b
  let ctx := f 0x22 2
  { st := .mapped, desc := desc, ctx := ctx, asid := ((s.ctx ctx).map (·.asid)).getD 0, cls := f 0x21 1, ring := f 0 8,
    log2 := f 0x20 1, vec := f 0x24 2, coal := f 0x26 1, wr := f 8 8, rd := f 0x10 8, done := f 0x18 8,
    qstate := if f 0x27 1 = 2 ∨ (f 0x27 1 = 3 ∧ s.cp.aborted.contains (desc, ctx)) then 2 else 0, begun := [], mappedAt := s.ticks, borrowed := borrowed, op := none }

/-! ## What packets hold (R386) -/

/-- The signals that a BARRIER names. -/
def barrierSignals (p : List Byte) : List Nat :=
  ((List.range 8).map fun i => signExt56 (pkt p (8 + 7 * i) 7)).filter (· != 0)

/-- The descriptors and counts that a QFENCE names. -/
def qfenceWaits (p : List Byte) : List (Nat × Nat) :=
  ((List.range 3).map fun i => (pkt p (8 + 16 * i) 8, pkt p (16 + 16 * i) 8)).filter fun e => e.1 != 0

/-! ## Mapping (R384) -/

/-- A packet between DONE and RD of a queue that is mapped again: what it still does. A BARRIER or QFENCE there has not
completed, since it waited for every earlier packet; a LAUNCH has its launch; every other one is complete. -/
def State.begunAgain (s : State) (k n : Nat) : Begun :=
  let q := s.qslot k
  let p := (s.packet k n).getD []
  let fl : Flight := match pktType p with
    | 1 => match s.cp.launches.find? fun e => e.2.die == k / 64 && e.2.desc == q.desc && e.2.pkt == n &&
          e.2.st != .done && e.2.st != .refused with
      | some e => .launch e.1
      | none => .finished
    | 2 => .barrier (barrierSignals p)
    | 5 => .qfence (qfenceWaits p)
    | _ => .finished
  { idx := n, compl := pktCompl p, irq := pktIrq p, fl := fl }

/-- A queue takes a slot: its begun packets go on, launches that ended meanwhile complete, an aborted queue's announced
packets are discarded (R384, R389, R402). Its launches are reached through the die of the new slot. -/
def State.mapQueue (s : State) (k : Nat) (q : QSlot) : State :=
  let s0 : State := { s with cp := { s.cp with launches := tabMap s.cp.launches fun _ L =>
    if L.desc = q.desc ∧ L.asid = q.asid then { L with die := k / 64 } else L } }
  let s1 := s0.modSlot k fun _ => q
  let s2 := s1.modSlot k fun q => { q with begun := (List.range (q.rd - q.done)).map fun i => s1.begunAgain k (q.done + i) }
  let other := fun (e : Nat × Nat) => e.1 != q.desc || e.2 != q.ctx
  let s3 := { s2 with cp := { s2.cp with seen := s2.cp.seen.filter other, aborted := s2.cp.aborted.filter other } }
  let ended := s3.cp.launches.filter fun e => e.2.die == k / 64 && e.2.desc == q.desc && e.2.st == .saved && e.2.left == 0
  let s4 := ended.foldl (fun t e => t.launchDone e.1) s3
  let s5 := s4.syncDesc k
  if q.qstate = 2 then s5.abortQueue k else s5

/-- The number of user slots of a die that a class holds. -/
def State.classSlots (s : State) (die cls : Nat) : List (Nat × QSlot) :=
  s.cp.slots.filter fun e => e.1 / 64 == die && decide (e.1 % 64 < 56) && e.2.st != .free && e.2.cls == cls

/-- A class at or above its minimum takes a slot as a borrowed one (R385). -/
def State.borrows (s : State) (die cls : Nat) : Bool :=
  decide (tabVal 7 s.cp.slotMin cls ≤ (s.classSlots die cls).length)

/-! ## Queues that wait (R383, R385) -/

/-- The descriptor of a queue that waits for a slot of a die: one that its context's address space gives, keeps R382 for this die and
names that context. -/
def State.waitingDesc (s : State) (die : Nat) (w : Nat × Nat) : Option (List Byte) :=
  match s.ctx w.2 with
  | some c =>
    (match s.readRun c.asid w.1 64 { r := true } with
     | .ok b => if s.descOk w.1 die b && hdrField b 0x22 2 == w.2 then some b else none
     | .error _ => none)
  | none => none

/-- The class of a queue that waits for a slot of a die. -/
def State.waitingClass (s : State) (die : Nat) (w : Nat × Nat) : Option Nat := (s.waitingDesc die w).map fun b => hdrField b 0x21 1

/-- Whether a queue of a class waits for a slot of a die. -/
def State.classWaits (s : State) (die cls : Nat) : Bool := s.cp.seen.any fun w => s.waitingClass die w == some cls

/-- Whether a class holds fewer slots of a die than its `SLOTMIN`. -/
def State.belowMin (s : State) (die cls : Nat) : Bool := decide ((s.classSlots die cls).length < tabVal 7 s.cp.slotMin cls)

/-- The queue that takes a free slot of a die: the longest-waiting one of the class that the slot was freed for, else that of the
classes below their minimum, else the longest-waiting one of any (R385). -/
def State.nextWaiting (s : State) (die : Nat) (heir : Option Nat) : Option (Nat × Nat) :=
  let of := fun (f : Nat → Bool) => s.cp.seen.find? fun w => match s.waitingClass die w with
    | some c => f c
    | none => false
  [fun c => heir == some c, s.belowMin die, fun _ => true].findSome? of

/-- How many more slots of a die a class below its minimum is to be freed: it has so many queues that wait and slots to its minimum, less
those that are being unmapped for it (R385). -/
def State.slotsDue (s : State) (die cls : Nat) : Nat :=
  min (s.cp.seen.filter fun w => s.waitingClass die w == some cls).length
      (tabVal 7 s.cp.slotMin cls - (s.classSlots die cls).length) -
    (s.cp.slots.filter fun e => e.1 / 64 == die && e.2.st == .unmapping && e.2.heir == some cls).length

/-- Cuset maps the queue whose turn it is on a free slot (R384, R385). -/
def State.assignSlot (s : State) (k : Nat) (heir : Option Nat) : State :=
  match s.nextWaiting (k / 64) heir with
  | none => s
  | some w => match s.waitingDesc (k / 64) w with
    | none => s
    | some b => s.mapQueue k (s.slotFrom w.1 b (s.borrows (k / 64) (hdrField b 0x21 1)))

end Sys2Proof.Machine
end

