-- ==== Sys2Proof/Machine/StateAccess.lean ====
section
/-! DEFINITION. State access to a parked subject (R324, R335, R342-R345), the dispositions (R36, R217, R253, R312, R332, R336,
R337, R341, R346, R395) and the sending of state accesses (R345, R437). -/
namespace Sys2Proof.Machine

/-! ## Words of a record (R324) -/

/-- KIND of a subject. -/
def SubjectOf.kind : SubjectOf → Nat
  | .wave => 0 | .mirror _ _ => 1 | .pass _ _ => 2 | .segment _ _ _ => 3 | .clasp _ => 4 | .group => 5 | .launch _ _ _ => 6

/-- STATE of a record as it reads. -/
def RecState.code : RecState → Nat | .parked => 1 | .handling => 2 | .settling => 3

/-- Word `i` of a 64-bit value in two words, the low one first. -/
def half (v i : Nat) : Nat := if i = 0 then v % 2 ^ 32 else v / 2 ^ 32

/-- Unsettled entries of a wave, as bits (R324 UNSET). -/
def Wave.unset (W : Wave) : Nat :=
  W.sb.foldl (fun n e => if e.2.pend ≠ 0 then n + 2 ^ e.1 else n) 0

/-- The wave of a subject. -/
def State.subjectWave (s : State) (x : Subject) : Option Wave := s.wave x.grp x.wave

/-- A word of a record (R324). -/
def State.recWord (s : State) (rid : Nat) (R : Record) (i : Nat) : Nat :=
  let x := R.subj
  let k := x.of.kind
  let saved := s.isSaved x.grp
  let slot := match s.subjectWave x with | some W => if k ≤ 2 then W.slot else 0 | none => 0
  let core := if saved then 0xFFFF else if k = 3 then x.core else match s.group x.grp with | some G => G.coreNo | none => x.core
  match i with
  | 0 => rid
  | 1 => x.cause + k * 2 ^ 8 + R.st.code * 2 ^ 16 +
      (R.depth + (if x.late then 4 else 0) + (if saved then 8 else 0) + (if R.remote then 16 else 0) +
        (if R.dlmiss then 32 else 0)) * 2 ^ 24
  | 2 => x.ctx + x.asid * 2 ^ 16
  | 3 => x.gid
  | 4 => slot + R.prio * 2 ^ 8 + core * 2 ^ 16
  | 5 => R.parent
  | 6 => half x.fpc 0
  | 7 => half x.fpc 1
  | 8 => half x.va 0
  | 9 => half x.va 1
  | 10 => half x.tdet 0
  | 11 => half x.tdet 1
  | 12 => half R.tdl 0
  | 13 => half R.tdl 1
  | 14 => R.budget
  | 15 => R.peer + R.tdie * 2 ^ 12
  | 16 => x.fmask.toNat
  | 17 => x.gmask.toNat
  | 18 => x.w0
  | 19 => x.w1
  | 28 => x.detail
  | _ =>
    if 20 ≤ i ∧ i < 28 then
      (List.range 4).foldl (fun n j => n + tabVal 0 x.exc (4 * (i - 20) + j) * 2 ^ (8 * j)) 0
    else if k ≤ 1 then
      match i, x.of with
      | 32, _ => match s.subjectWave x with | some W => half W.unset 0 | none => 0
      | 33, _ => match s.subjectWave x with | some W => half W.unset 1 | none => 0
      | 34, .mirror a _ => a.toNat
      | 35, .mirror _ b => b.toNat
      | 36, .mirror _ _ => match (s.group x.grp).bind (·.twin) with
        | some (t, _) => match s.group t with | some T => T.coreNo | none => 0
        | none => 0
      | _, _ => 0
    else (tabVal 0 x.tail i).toNat

/-- Whether SHWR may write a word of a record (R324). -/
def recWritable (k i : Nat) : Bool :=
  i == 12 || i == 13 || (match k with
    | 2 => decide (32 ≤ i) && decide (i < 52)
    | 3 => decide (32 ≤ i) && decide (i < 36)
    | 4 => decide (32 ≤ i) && decide (i < 35)
    | 5 => i == 32
    | _ => false)

/-- A word of a record written, if it may be. -/
def Record.putWord (R : Record) (i : Nat) (v : Word) : Record :=
  if !recWritable R.subj.of.kind i then R
  else if i = 12 then { R with tdl := v.toNat + R.tdl / 2 ^ 32 * 2 ^ 32 }
  else if i = 13 then { R with tdl := R.tdl % 2 ^ 32 + v.toNat * 2 ^ 32 }
  else { R with subj := { R.subj with tail := tabPut 0 R.subj.tail i v } }

/-! ## Scoreboard words (R335) -/

/-- AGE of an entry: how many outstanding entries of the wave are older. -/
def Wave.ageRank (W : Wave) (age : Nat) : Nat := (W.sb.filter fun e => decide (e.2.age < age)).length

/-- CLASS of an entry number. -/
def entryClass (ent : Nat) : Nat := if ent < 16 then 0 else if ent < 32 then 1 else 3

/-- A word of an entry's descriptor. -/
def Wave.descWord (W : Wave) (ent i : Nat) : Nat :=
  match tabGet W.sb ent with
  | none => if i = 0 then entryClass ent + ent % 16 * 4 else 0
  | some e =>
    match i with
    | 0 => entryClass ent + ent % 16 * 4 + (if e.faulted then 64 else 0) + 128 + e.settle * 2 ^ 8 + W.ageRank e.age * 2 ^ 16
    | 1 => e.pend.toNat
    | 2 => half e.pc.toNat 0
    | _ => half e.pc.toNat 1

/-- A word of an entry's descriptor written: SETTLE, or bits of PEND cleared. -/
def Entry.putDesc (e : Entry) (i : Nat) (v : Word) : Entry :=
  match i with
  | 0 => { e with settle := bits v.toNat 8 2 }
  | 1 => { e with accs := e.accs.map fun a => if a.unsettled && !v.getLsbD a.fib then { a with st := .done } else a }
  | _ => e

/-- The address and data words of a fibre's access. -/
def Wave.accWord (W : Wave) (ent fib space i : Nat) : Nat :=
  match W.acc ent fib with
  | none => 0
  | some a => if space = 2 then half a.va.toNat i else (a.data.getD i 0).toNat

/-- A 64-bit address with one of its words replaced. -/
def putHalf (va : Addr) (i : Nat) (v : Word) : Addr := if i = 0 then pair v (hiWord va) else pair (loWord va) v

/-- The address or a data word of a fibre's access written. -/
def Acc.putWord (a : Acc) (space i : Nat) (v : Word) : Acc :=
  if space = 2 then { a with va := putHalf a.va i v } else { a with data := a.data.set i v }

/-! ## Registers (R344) -/

/-- The wait state of a fibre as software and the TAP read it (R344, and the fibre record of the TAP). -/
def waitWord (F : Fibre) : Nat :=
  let fired := if F.fired then 2 ^ 19 else 0
  match F.wait with
  | .none | .yield _ => fired
  | .mwaitm m _ | .coll _ m _ _ _ _ _ => 1 + m * 16 + fired
  | .barrier sc id _ => 2 + sc * 2 ^ 8 + id * 2 ^ 11 + fired
  | .step => 2 + fired
  | .wgrow _ _ => 3 + fired
  | .mwait _ => 4 + fired
  | .waitc _ _ _ _ | .isync _ => 5 + fired
  | .twany _ _ | .twall _ => 6 + fired
  | .tile _ => 7 + fired
  | .fence _ _ => 8 + fired

/-- The register selector's fields (R344). -/
structure RegSel where
  idx : Nat
  fib : Nat
  cls : Nat
  twin : Bool
  tagw : Bool
  tag : Nat
  wave : Nat
  rsv : Nat
deriving DecidableEq, Repr

/-- A selector word as its fields. -/
def regSel (v : Word) : RegSel :=
  let n := v.toNat
  { idx := bits n 0 9, fib := bits n 9 5, cls := bits n 14 3, twin := n.testBit 17, tagw := n.testBit 18, tag := bits n 19 4,
    wave := bits n 23 4, rsv := bits n 27 5 }

/-- The group and wave that a selector names in a subject; none when it breaks the table. -/
def State.selWave (s : State) (x : Subject) (r : RegSel) : Option (Nat × Nat) :=
  match x.of with
  | .wave => if r.twin ∨ r.wave ≠ 0 then none else some (x.grp, x.wave)
  | .mirror _ _ =>
    if r.wave ≠ 0 then none
    else if r.twin then (s.group x.grp).bind fun G => G.twin.map fun t => (t.1, x.wave)
    else some (x.grp, x.wave)
  | .group =>
    if r.twin then none
    else (s.group x.grp).bind fun G => (G.waves.find? fun e => e.2.slot == r.wave).map fun e => (x.grp, e.1)
  | _ => none

/-- Whether a selector's index lies in what the fibre has (R344). -/
def selOk (F : Fibre) (r : RegSel) : Bool :=
  r.rsv == 0 && match r.cls with
  | 0 => decide (r.idx < 128) && (decide (96 ≤ r.idx) || decide (F.base + r.idx < F.alloc))
  | 1 => decide (r.idx < 480) && decide (r.idx < F.alloc)
  | 2 => r.idx == 0
  | 3 => decide (r.idx < 12)
  | 4 => specialAssigned r.idx
  | 5 => specialAssigned r.idx && specialIs64 r.idx
  | 6 => decide (r.idx < 3)
  | _ => false

/-- A register as SHRG reads it. -/
def State.selRead (s : State) (G : Group) (w : Nat) (W : Wave) (r : RegSel) : Tagged :=
  let F := W.fib r.fib
  let word := fun n => (⟨BitVec.ofNat 32 n, .b32⟩ : Tagged)
  match r.cls with
  | 0 => if 96 ≤ r.idx then tabVal zeroReg W.ks (r.idx - 96) else W.get r.fib (.v (F.base + r.idx))
  | 1 => W.get r.fib (.v r.idx)
  | 2 => word F.preds.toNat
  | 3 => ⟨W.mask r.idx, .b32⟩
  | 4 => let x := s.special G w W r.fib r.idx; ⟨BitVec.ofNat 32 x.1, x.2⟩
  | 5 => let x := s.special G w W r.fib r.idx; ⟨BitVec.ofNat 32 (x.1 / 2 ^ 32), x.2⟩
  | _ => word (if r.idx = 2 then waitWord F else half F.pc.toNat r.idx)

/-- Whether SHWG may write what a selector names with a value; a TAG of 13 to 15 is refused whatever the class (R102, R344). -/
def selWritable (F : Fibre) (r : RegSel) (v : Word) : Bool :=
  (!r.tagw || (tagOf r.tag).isSome) && match r.cls with
  | 3 => r.idx != 0
  | 4 => if r.idx = 6 then v.toNat % 16 == 0 && decide (v.toNat + 16 ≤ F.alloc) else specialWritable r.idx
  | 5 => specialWritable r.idx
  | 6 => decide (r.idx < 2) && targetOk (putHalf F.pc r.idx v)
  | _ => true

/-- A register written by SHWG. -/
def Wave.selWrite (W : Wave) (r : RegSel) (t : Tagged) : Wave :=
  let F := W.fib r.fib
  let v : Tagged := if r.tagw then ⟨t.val, (tagOf r.tag).getD t.tag⟩ else t
  match r.cls with
  | 0 => if 96 ≤ r.idx then { W with ks := tabPut zeroReg W.ks (r.idx - 96) v } else W.put r.fib (.v (F.base + r.idx)) v
  | 1 => W.put r.fib (.v r.idx) v
  | 2 => W.modFib r.fib fun F => { F with preds := t.val.setWidth 8 ||| 0x80 }
  | 3 => W.setMask r.idx t.val
  | 4 =>
    if r.idx = 6 then W.modFib r.fib fun F => { F with base := t.val.toNat }
    else W.setSpecial r.fib r.idx t.val (hiWord F.lnk)
  | 5 => W.setSpecial r.fib r.idx (loWord F.lnk) t.val
  | _ => W.modFib r.fib fun F => { F with pc := putHalf F.pc r.idx t.val }

/-! ## The accesses (R342, R344, R345) -/

/-- One state access at the fault engine: the state after it and what it reads, or a cause. `op` is 0 SHRD, 1 SHWR, 2 SHRG,
3 SHWG. -/
def State.stateAccess (s : State) (op rid : Nat) (R : Record) (sel : Word) (v : Tagged) : Except Nat (State × Tagged) :=
  let x := R.subj
  let k := x.of.kind
  if op < 2 then
    let n := sel.toNat
    let i := bits n 0 6
    let ent := bits n 6 6
    let fib := bits n 12 5
    let sp := bits n 17 3
    if bits n 20 12 ≠ 0 ∨ 3 < sp then .error 0x07
    else if sp = 0 then
      if op = 0 then .ok (s, ⟨BitVec.ofNat 32 (s.recWord rid R i), .b32⟩)
      else .ok (s.modRecord rid fun R => R.putWord i v.val, zeroReg)
    else if 1 < k ∨ 48 < ent ∨ (31 < ent ∧ ent < 48) ∨ (sp = 1 ∧ 3 < i) ∨ (sp = 2 ∧ 1 < i) ∨ (sp = 3 ∧ 7 < i) then .error 0x07
    else match s.wave x.grp x.wave with
      | none => .ok (s, zeroReg)
      | some W =>
        if op = 0 then
          .ok (s, ⟨BitVec.ofNat 32 (if sp = 1 then W.descWord ent i else W.accWord ent fib sp i), .b32⟩)
        else if sp = 1 ∧ i = 0 ∧ bits v.val.toNat 8 2 = 3 then .error 0x07
        else
          .ok (s.modWave x.grp x.wave fun W =>
            { W with sb := tabMod W.sb ent fun e =>
                if sp = 1 then e.putDesc i v.val else e.modAcc fib fun a => a.putWord sp i v.val }, zeroReg)
  else
    let r := regSel sel
    match s.selWave x r with
    | none => .error 0x07
    | some (g, w) =>
      match s.group g, s.wave g w with
      | some G, some W =>
        if !selOk (W.fib r.fib) r then .error 0x07
        else if op = 2 then .ok (s, s.selRead G w W r)
        else if !selWritable (W.fib r.fib) r v.val then .error 0x07
        else
          let s1 := s.modWave g w fun W => W.selWrite r v
          if (r.cls = 4 ∨ r.cls = 5) ∧ (r.idx = 0x00C ∨ r.idx = 0x040) then
            let m := if r.cls = 4 then v.val.toNat else v.val.toNat * 2 ^ 32
            .ok (s1.modGroup g fun G => { G with tags := clearTags (r.idx == 0x00C) (G.clears (r.idx == 0x00C) (BitVec.ofNat 64 m)) G.tags }, zeroReg)
          else .ok (s1, zeroReg)
      | _, _ => .error 0x07

/-- The record that a group of this module may reach by a RID (R342): its own task's, or in firmware mode any of its die. A record
that took the index of a freed one belongs to another task. -/
def State.reachable (s : State) (G : Group) (rid : Nat) : Except Nat Record :=
  let own := ridDie rid == ridDie G.frec && ridIdx rid == ridIdx G.frec && G.frec != 0
  let fw := G.firmware && ridDie rid == G.die
  if !(own || fw) then .error 0x11
  else match s.record rid with
    | none => .error 0x45
    | some R => if !fw && rid != G.frec then .error 0x11 else if R.st = .settling then .error 0x45 else .ok R

/-! ## Waves that run again (R36, R288, R336, R337, R340, R341) -/

/-- A monitor that fired while its wave was saved or parked: the MWAIT completes with the word as it is now (R288). -/
def State.firedMwait (s : State) (g w : Nat) (G : Group) (f : Nat) : State :=
  match s.wave g w with
  | none => s
  | some W =>
    match (W.fib f).wait with
    | .mwait slot =>
      let va := ((W.acc slot f).map (·.va.toNat)).getD 0
      let s0 := s.modFib g w f fun F => { F with fired := false }
      match s.homeRead G.asid va 4 { r := true } with
      | .ok bs => s0.modWave g w fun W => W.complete slot f [⟨BitVec.ofNat 32 (leNat bs), .b32⟩] none
      | .error c => s0.lateFault g w slot f c
    | _ => s.modFib g w f fun F => { F with fired := false }

/-- A wave's monitors are its own again on the core where it stands, and fired ones complete (R288). -/
def State.unbind (s : State) (g w : Nat) : State :=
  match s.group g, s.wave g w with
  | some G, some W =>
    match G.core? with
    | none => s
    | some c =>
      let s1 := s.modMonitors g w fun m => { m with rebound := false, core := c }
      W.live.foldl (fun t f => if (W.fib f).fired then t.firedMwait g w G f else t) s1
  | _, _ => s

/-- One unsettled access settled by SETTLE (R336): 0 due to be performed afresh, 1 supplied, 2 discarded. What a pair makes once is
settled for both twins (R341). A tile operation is performed afresh by its unit. -/
def State.settleAcc (s : State) (g w slot settle : Nat) (a : Acc) : State :=
  match settle with
  | 0 => s.modWave g w fun W => W.modAcc slot a.fib fun a => { a with st := if accessSlot slot then .unsent else .sent }
  | 1 => s.completeAcc g w slot a.fib [] none
  | _ => s.completeAcc g w slot a.fib (a.dst.map fun _ => zeroReg) (some false)

/-- An MXHIST whose read met an error asks its unit again (R249, log 42). -/
def State.askHist (s : State) (g w slot : Nat) (G : Group) (e : Entry) : State :=
  match e.instr with
  | .mxhist _ => s.modMatrix (quadOf G.coreNo) fun M =>
      { M with hist := M.hist ++ (e.accs.filter Acc.unsettled).map fun a =>
          { grp := g, wave := w, slot := slot, fib := a.fib, off := (a.data.getD 0 0).toNat, ctl := a.data.getD 1 0 } }
  | _ => s

/-- The execution entry settled: recomputed, its destinations taken as they are, or written with 0 (R336). -/
def State.settleExec (s : State) (g w : Nat) (G : Group) (W : Wave) (e : Entry) : State :=
  if e.settle = 0 ∧ (laneOf e.instr).isSome then s.recompute g w G W e
  else s.modWave g w fun X =>
    let X1 := if e.settle = 2 then (e.accs.filter Acc.unsettled).foldl (fun Y a =>
        (Y.putAll a.fib a.dst (a.dst.map fun _ => zeroReg)).modFib a.fib fun F =>
          match a.pd with | some p => F.setPred p false | none => F) X else X
    { X1 with sb := tabErase X1.sb 48 }

/-- The unsettled accesses of an entry settled by its SETTLE (R336). -/
def State.settleEntry (s : State) (g w slot : Nat) (G : Group) (W : Wave) (e : Entry) : State :=
  if slot = 48 then s.settleExec g w G W e
  else
    let s1 := (e.accs.filter Acc.unsettled).foldl (fun t a => t.settleAcc g w slot e.settle a)
      (if slot < 32 then s else s.askHist g w slot G e)
    s1.modWave g w fun W => { W with sb := tabMod W.sb slot fun e => { e with faulted := false, settle := 0 } }

/-- Whether an entry of a wave is yet to be settled (R336). -/
def State.unsettledEntry (s : State) (g w : Nat) (e : Nat × Entry) : Bool :=
  if accessSlot e.1 then e.2.accs.any fun a => a.waits && !s.rests g w e.1 a.fib else e.2.accs.any Acc.unsettled

/-- The unsettled entries of a resident wave settled one after the other in ascending AGE; one whose accesses are performed afresh holds
those after it until they have completed, and the wave issues nothing before all are settled (R336, R340). -/
def State.settleWave (s : State) (g w : Nat) : Nat → State
  | 0 => s
  | n + 1 =>
    match s.group g, s.wave g w with
    | some G, some W =>
      if !(W.settling && sends G W) then s
      else match W.byAge.find? (s.unsettledEntry g w) with
        | none => s.modWave g w fun W => { W with settling := false }
        | some (slot, e) =>
          if e.accs.any Acc.unsettled then
            let t := s.settleEntry g w slot G W e
            if slot < 32 ∧ e.settle = 0 then t else State.settleWave t g w n
          else s
    | _, _ => s

/-- Every wave that settles. -/
def State.settleWaves (s : State) : State :=
  s.groups.foldl (fun t e => e.2.waves.foldl (fun u x => if x.2.settling then u.settleWave e.1 x.1 50 else u) t) s

/-- The unsettled entries of a wave are to be settled and the wave runs again, its bundles formed afresh (R59, R336, R337). A part that
the handler cleared from PEND counts as supplied (R336). -/
def State.resumeWave (s : State) (g w : Nat) : State :=
  match s.wave g w with
  | none => s
  | some W =>
    (W.sb.foldl (fun t e => if accessSlot e.1 then
        (e.2.accs.filter fun a => a.st == .done).foldl (fun u a => u.completeAcc g w e.1 a.fib [] none) t else t) s).modWave g w fun W =>
      { W with run := .running, settling := true, bundles := [], sb := W.sb.filter fun e => e.2.accs.any Acc.waits }

/-- A wave that was parked runs again: its entries settle (R336); where its group is resident this is an acquire (R266). -/
def State.wakeWave (s : State) (g w : Nat) : State :=
  let s1 := (s.resumeWave g w).unbind g w
  match (s1.group g).bind Group.core? with
  | some c => s1.acquire c
  | none => s1

/-- A wave subject, or both twins of a pair, run again (R336, R337, R341). -/
def State.wakeSubject (s : State) (x : Subject) (retry : Bool) : State :=
  let one := fun (t : State) (g : Nat) =>
    let t1 := if retry then t.forceRetry g x.wave else t
    (t1.movePcs { x with grp := g } retry).wakeWave g x.wave
  match x.of, (s.group x.grp).bind (·.twin) with
  | .mirror _ _, some (t, _) => one (one s x.grp) t
  | _, _ => one s x.grp

/-- Whether a WGROW request of a wave parked by R35 can never fit: it exceeds the register partition of every core that the
wave may land on, which is the greater of its header's own and that of the core where it stands (R36, log 66). -/
def State.neverFits (s : State) (x : Subject) : Bool :=
  match s.group x.grp, s.wave x.grp x.wave with
  | some G, some W =>
    let fs := (bitsOf x.gmask).filter fun f => (W.fib f).isLive
    let need := fs.foldl (fun n f => n + growNeed G.hdr.units (bits x.w0 0 14) (W.fib f)) 0
    decide (256 * max G.hdr.partition.1 (match G.core? with | some c => (s.core c).regg | none => 0) < need)
  | _, _ => false

/-! ## Dispositions (R346) -/

/-- Where a REDIRECT of a wave or pair may lead (R341, R346). -/
def State.redirectOk (s : State) (x : Subject) (G : Group) (c : Nat) : Bool :=
  let quadBars := match s.launchOf G with | some L => L.want.headD 0 != 0 | none => false
  s.isWorkCore c && dieOf c == G.die && (!quadBars || quadOf c == quadOf x.core) &&
    !(decide (0 < G.hdr.tiles) && s.mxBad (quadOf c)) &&
    (match x.of with | .mirror _ _ => (quadLocal c == 0 || quadLocal c == 2) && s.isWorkCore (twinCore c) | _ => true)

/-- A group is to be saved: its pre-emption is requested (R338). -/
def State.startSave (s : State) (g : Nat) : State := s.modGroup g fun G => { G with preempt := true }

/-- A group pinned to a core for its next restore, its twin to the twin core. -/
def State.pin (s : State) (g c : Nat) : State :=
  (s.pairOf g).foldl (fun t h => t.modGroup h fun H => { H with pinned := some (match H.twin with | some (_, true) => twinCore c | _ => c) }) s

/-- A pass that is to run again (R253): with the block and pairs that the record holds, on the engine that a REDIRECT names, where the
launch lands if it never has (R236); the checks of R228 are made before it runs. -/
def State.rerunPass (s : State) (x : Subject) (q e : Nat) (target : Option Nat) : State :=
  match tabGet (s.matrix q).entries e with
  | none => s
  | some p =>
    let p1 :=
      { p.dropped with st := .reserved, recheck := true, blk := (List.range 16).map fun i => tabVal 0 x.tail (32 + i),
                       kp := (List.range 4).map fun i => tabVal 0 x.tail (48 + i) }
    match target with
    | none => s.modPass q e fun _ => p1
    | some t =>
      let s0 := match s.group p.grp with | some G => s.landQuad G.launch t | none => s
      let s1 := s0.modMatrix q fun M => { M with entries := tabErase M.entries e }
      s1.modMatrix t fun M => { M with entries := (tabSet M.entries ((freeFrom (M.entries.map (·.1)) (M.entries.length + 1) 0).getD 0)
        { p1 with redirected := t != quadOf p.core }) }

/-- A segment that runs again, from the addresses that the record holds, and on the copy engine of the core that a REDIRECT names
(R217, R346). A handler may have patched a scratchpad offset to one that is not a multiple of 4 or lies beyond the group's scratchpad: words
are those of the offset rounded down, reads beyond give 0 and writes beyond reach nothing (log 73). -/
def State.rerunSeg (s : State) (x : Subject) (c id k : Nat) (target : Option Nat) : State :=
  let w := fun i => (tabVal 0 x.tail i).toNat
  s.modSeg c id k fun g =>
    { g with src := w 32 + w 33 * 2 ^ 32, dst := w 34 + w 35 * 2 ^ 32, st := .waiting, on := target <|> g.on }

/-- A clasp operation sent again, with the handle and value given (R312). -/
def State.resendClasp (s : State) (r : Req) (lo hi val : Word) : State :=
  s.modWave r.grp r.wave fun W => W.modAcc r.slot r.fib fun a =>
    { a with va := pair lo hi, data := match r.op with | .push _ _ _ => [val] | _ => a.data, st := .unsent }

/-- A group that was parked as a whole runs again (R332). -/
def State.resumeGroup (s : State) (x : Subject) : State :=
  let grant := (tabVal 0 x.tail 32).toNat
  (s.pairOf x.grp).foldl (fun t g =>
    let t1 := t.modGroup g fun G =>
      { G with parked := false,
               budget := if x.cause = 0x41 then G.budget.map fun _ => if grant = 0 then G.grant else grant else G.budget }
    match (t1.group g).bind Group.core? with
    | some c => t1.acquire c
    | none => t1) s

/-- A group of a lost die: it stands nowhere, and what its engines held for it is gone. -/
def State.strand (s : State) (g : Nat) : State :=
  let s1 := { s with eng := { s.eng with
    copy := tabMap s.eng.copy fun _ E =>
      { copies := E.copies.filter fun c => c.2.grp != g,
        queues := tabMap E.queues fun _ q => q.filter fun x => match x with
          | .copy id => (match tabGet E.copies id with | some C => C.grp != g | none => true)
          | .fence _ => true },
    matrix := tabMap s.eng.matrix fun _ M => { M with entries := M.entries.filter fun p => p.2.grp != g, hist := M.hist.filter fun r => r.grp != g } } }
  s1.modGroup g fun G => match G.core? with
    | some c => { G with place := .saved c, preempt := false }
    | none => G

/-- A launch that has groups on a lost die: its other groups are pre-empted, and it parks as one subject (R395). -/
def State.loseLaunch (s : State) (id die : Nat) : State :=
  match tabGet s.cp.launches id with
  | none => s
  | some L =>
    let gs := s.groupsOf id
    let here := gs.filter fun e => e.2.die == die
    let dies := (gs.map (·.2.die) ++ L.joined).filter fun d => d != die && !s.dieLost d
    let holder := (least dies).getD (((List.range 12).find? fun d => !s.dieLost d).getD 0)
    let mine := fun (x : Subject) => x.die == die && s.launchOfSubject x == id
    let s1 := here.foldl (fun t e => t.strand e.1) s
    let s2 := (gs.filter fun e => e.2.die != die).foldl (fun t e => t.startSave e.1) s1
    let s3 : State := { s2 with eng := { s2.eng with faults := tabMap s2.eng.faults fun _ E =>
      { E with detected := E.detected.filter fun x => !mine x, heldSubs := E.heldSubs.filter fun x => !mine x } } }
    let s4 := (s3.allRecords.filter fun e => mine e.2.subj).foldl (fun t e => t.freeRecord e.1) s3
    let x : Subject :=
      { of := .launch id L.step die, cause := 0x44, late := false, die := holder, ctx := L.ctx, asid := L.asid, gid := 0, grp := 0,
        wave := 0, core := 0xFFFF, fpc := 0, va := 0, tdet := s.ticks, fmask := 0, gmask := 0, w0 := 0, w1 := 0, exc := [], detail := 0,
        bundle := 0, len := 0, move := .none,
        tail := ([(32, BitVec.ofNat 32 L.step), (33, BitVec.ofNat 32 die)] : Tab Word).filter fun e => e.2 != 0 }
    (s4.modLaunch id fun M => { M with st := .parked }).detect holder x

/-- The dies that may replace a lost one for a launch: the lowest spare first, then the lowest free die of its partition
(R395). -/
def State.replacement (s : State) (L : Launch) : Option Nat :=
  let fits := fun d => !s.dieLost d && !(s.placeList d L.hdr).isEmpty && (!L.hdr.neigh || (s.dealRect L.hdr [d] true).isSome)
  let free := fun d => !(s.groups.any fun e => e.2.place != .ended && e.2.die == d && !e.2.firmware)
  match ((List.range 12).filter fun d => s.cp.spareDies.contains d && fits d).head? with
  | some d => some d
  | none => (L.dies.filter fun d => fits d && free d && !L.joined.contains d && !s.cp.spareDies.contains d).head?

/-- Fresh groups in the place of those that a lost die held and that had not ended, on the new die's placement list, or in a
neighbourhood's rectangle there (R393, R395; log 46). -/
def State.relaunch (s : State) (id lost new : Nat) (gids : List Nat) : State :=
  match tabGet s.cp.launches id with
  | none => s
  | some L =>
    let l := s.placeList new L.hdr
    let blocks :=
      if L.hdr.neigh then (((s.dealRect L.hdr [new] true).getD []).filter fun x => gids.contains x.gid).map fun x => { x with rejoin := true }
      else (List.range gids.length).filterMap fun i =>
        match gids[i]?, l[i % l.length]? with
        | some g, some c => some ({ gid := g, core := c, twin := if L.hdr.mirror then some (twinCore c) else none, rejoin := true } : Dealt)
        | _, _ => none
    s.modLaunch id fun L => { L with st := .running, waiting := (L.waiting.filter fun x => dieOf x.core != lost) ++ blocks,
                                     joined := L.joined.map fun d => if d = lost then new else d, subs := L.subs ++ [new] }

/-- A launch that has lost a further die parks for that one. -/
def State.loseMore (s : State) (id : Nat) : State :=
  let dealt := match tabGet s.cp.launches id with | some L => L.waiting.map fun x => dieOf x.core | none => []
  match ((s.groupsOf id).map (·.2.die) ++ dealt).find? s.dieLost with
  | some d => s.loseLaunch id d
  | none => s

/-- RESUME or RETRY of a launch that a lost die parked; none without a replacement die (R395). Under RETRY every group starts again:
those that are saved, those that wait, and those that have completed, each where it was dealt. -/
def State.rejoinLaunch (s : State) (id lost : Nat) (retry : Bool) : Option State :=
  match tabGet s.cp.launches id with
  | none => some s
  | some L =>
    match s.replacement L with
    | none => none
    | some new =>
      let gs := (s.groupsOf id).filter fun e => match e.2.twin with | some (_, true) => false | _ => true
      let gone := gs.filter fun e => e.2.die == lost
      let rest := gs.filter fun e => e.2.die != lost
      let drop := fun (t : State) (l : List (Nat × Group)) => l.foldl (fun u e =>
        (u.pairOf e.1).foldl (fun v h => (v.dropSaved h).modGroup h fun H =>
          { H with place := .ended, waves := [], scratch := [], tiles := [], bars := [], tags := [], deferred := [] }) u) t
      let s1 := drop s gone
      let ended := if retry then L.dealt.filter fun x => !((gs.any fun e => e.2.gid == x.gid) || L.waiting.any fun y => y.gid == x.gid) else []
      let there := ended.filter fun x => dieOf x.core == lost
      let s2 := s1.relaunch id lost new
        (gone.map (·.2.gid) ++ (L.waiting.filter fun x => dieOf x.core == lost).map (·.gid) ++ there.map (·.gid))
      if retry then
        let again := fun (x : Dealt) => { x with rejoin := true }
        let homes := rest.map fun e =>
          let home := match e.2.place with | .saved c => c | _ => e.2.coreNo
          ({ gid := e.2.gid, core := home, twin := e.2.twin.map (fun _ => twinCore home), rejoin := true } : Dealt)
        some ((drop s2 rest).modLaunch id fun L =>
          { L with waiting := L.waiting.map again ++ homes ++ (ended.filter fun x => dieOf x.core != lost).map again,
                   left := L.left + ended.length })
      else some (rest.foldl (fun t e => (t.pairOf e.1).foldl (fun u h => u.modGroup h fun H => { H with preempt := false }) t) s2)

/-- A disposition carried out: 0 RESUME, 1 RETRY, 2 REDIRECT to a target, 3 KILL, with `.fail`; none where the target or the
disposition is refused (R346). The record is freed when it is carried out. -/
def State.dispose (s : State) (rid : Nat) (R : Record) (disp : Nat) (fail : Bool) (lo hi : Word) : Option State :=
  let x := R.subj
  let t := bits lo.toNat 0 9
  let free := fun (u : State) => u.freeRecord rid
  if disp = 3 then
    let id := s.launchOfSubject x
    let s1 := free (s.killSubject x)
    match x.of with
    | .launch _ _ _ => some ((if fail then s1.failLaunch id else s1).killLaunch id)
    | _ => some (if fail then s1.failLaunch id else s1)
  else match x.of with
    | .wave | .mirror _ _ =>
      if disp = 2 then
        match s.group x.grp with
        | none => none
        | some G =>
          if !s.redirectOk x G t then none
          else
            let s1 := (s.pin x.grp t).wakeSubject x false
            if s.isSaved x.grp then some (free s1)
            else some (((s.pairOf x.grp).foldl (fun u g => u.startSave g) (s.pin x.grp t)).modRecord rid
              fun R => { R with st := .settling })
      else
        let s1 := free (s.wakeSubject x (disp == 1))
        if x.cause = 0x40 ∧ s.neverFits x then some ((s1.stopPair x.grp x.wave).detect x.die { x with tdet := s.ticks }) else some s1
    | .pass q e =>
      if disp = 2 then
        if 107 < lo.toNat ∨ s.mxBad lo.toNat ∨ s.dieLost (lo.toNat / 9) then none
        else some (free (s.rerunPass x q e (some lo.toNat)))
      else some (free (s.rerunPass x q e none))
    | .segment c id k =>
      if disp = 2 ∧ (431 < lo.toNat ∨ !s.isWorkCore lo.toNat) then none else some (free (s.rerunSeg x c id k (if disp = 2 then some lo.toNat else none)))
    | .clasp r =>
      let w := fun i => tabVal 0 x.tail i
      if disp = 2 then some (free (s.resendClasp r lo hi (w 34))) else some (free (s.resendClasp r (w 32) (w 33) (w 34)))
    | .group => if disp = 2 then none else some (free (s.resumeGroup x))
    | .launch id _ die => if disp = 2 then none else (s.rejoinLaunch id die (disp == 1)).map fun t => (free t).loseMore id

/-! ## Sending (R345, R346, R437) -/

/-- A state-access instruction's kind as a PROXY record numbers it. -/
def stateOp (i : Instr) : Option Nat :=
  match i with
  | .shrd _ => some 0
  | .shwr _ => some 1
  | .shrg _ => some 2
  | .shwg _ => some 3
  | .shfin _ => some 4
  | _ => none

/-- A state access performed at a fault engine of this module for a group, or the cause of its late fault. -/
def State.performAccess (s : State) (G : Group) (op : Nat) (a : Acc) : Except Nat (State × Tagged) :=
  let w := fun i => a.data.getD i 0
  let rid := (w 0).toNat
  match s.reachable G rid with
  | .error c => .error c
  | .ok R =>
    if op = 4 then
      match s.dispose rid R (bits (w 1).toNat 0 2) ((w 1).toNat.testBit 2) (w 2) (w 3) with
      | some t => .ok (t, zeroReg)
      | none => .error 0x07
    else s.stateAccess op rid R (w 1) ⟨w 2, (tagOf (w 3).toNat).getD .b32⟩

/-- The PROXY record of a state access (R433). -/
def proxyRec (op : Nat) (a : Acc) : Rec :=
  let w := fun i => natBytes 4 (a.data.getD i 0).toNat
  { kind := 9, status := 0, tid := 0, arg := (a.data.getD 0 0).toNat + op * 2 ^ 32,
    data := w 1 ++ w 2 ++ (if op = 4 then w 3 else natBytes 4 0) ++ natBytes 4 0 }

/-- A state access leaves its core: for a record of this module it is performed at once, for a remote one it travels to the
origin (R437), which cannot tell one handler of a module from another: the RID is compared with the task's own here (R342). -/
def State.sendState (s : State) (g w slot f : Nat) : State :=
  match s.group g, s.wave g w with
  | some G, some W =>
    match tabGet W.sb slot, W.acc slot f with
    | some e, some a =>
      match stateOp e.instr with
      | none => s
      | some op =>
        if a.st != .unsent || !s.settledBefore g w W e.age then s
        else if G.origin ≠ 0 then
          let rid := (a.data.getD 0 0).toNat
          if rid ≠ G.frec then s.lateFault g w slot f (if ridDie rid = ridDie G.frec ∧ ridIdx rid = ridIdx G.frec then 0x45 else 0x11)
          else match s.startXfer G.origin 0 (proxyRec op a) (.proxy g w slot f) with
          | some t => t.markSent g w slot f
          | none => s.lateFault g w slot f 0x35
        else match s.performAccess G op a with
          | .error c => s.lateFault g w slot f c
          | .ok (t, v) => t.modWave g w fun W => W.complete slot f [v] none
    | _, _ => s
  | _, _ => s

/-- The state accesses of every running wave that are due. -/
def State.pumpState (s : State) : State :=
  s.groups.foldl (fun t e => e.2.waves.foldl (fun u x =>
    if sends e.2 x.2 then
      x.2.byAge.foldl (fun v y =>
        if (stateOp y.2.instr).isSome then y.2.accs.foldl (fun z a => if a.st == .unsent then z.sendState e.1 x.1 y.1 a.fib else z) v
        else v) u
    else u) t) s

end Sys2Proof.Machine
end

