-- ==== Sys2Proof/Machine/Settle.lean ====
section
/-! DEFINITION. What follows a step in the same instant: the end of waves, groups and handlers (R42, R331), completed steps of
elastic launches (R144, R394), released waits and bundles (R37), slot changes (R384), activation (R370), spare dies (R377). -/
namespace Sys2Proof.Machine

/-! ## Waves and groups that end (R42, R331) -/

/-- A wave that has no live fibre and no outstanding entry retires (R42). -/
def Wave.retire (W : Wave) : Wave :=
  if W.run = .running ∧ W.live = [] ∧ W.sb = [] then { W with run := .retired } else W

/-- The waves of a group that retire now (R42). -/
def Group.retiring (G : Group) : List Wave := (G.liveWaves.map (·.2)).filter fun W => W.retire.run == .retired

/-- What is left of a group whose last wave has retired. -/
def Group.finish (G : Group) : Group :=
  { G with place := .ended, waves := [], scratch := [], tiles := [], bars := [], tags := [], deferred := [], pinned := none }

/-- A handler group that ends without an accepted SHFIN, while its record is HANDLING: KILL with FAIL (R331); a handler of another module's record sends
that disposition to it (R437). -/
def State.handlerGone (s : State) (g : Nat) (G : Group) : State :=
  if G.origin ≠ 0 then
    (s.startXfer G.origin 0 { kind := 9, status := 0, tid := 0, arg := G.frec + 4 * 2 ^ 32,
                              data := natBytes 16 7 } (.proxy g 0 0 0)).getD s
  else match s.record G.frec with
    | some R =>
      if R.hgrp = some g ∧ R.st = .handling then
        let s1 := (s.killSubject R.subj).freeRecord G.frec
        let id := s.launchOfSubject R.subj
        match R.subj.of with
        | .launch id _ _ => (s1.failLaunch id).killLaunch id
        | _ => s1.failLaunch id
      else s
    | none => s

/-- Waves that have nothing left retire, and their units return to the pool (R34, R42); a group whose last wave has retired ends, and
its launch with its last group. -/
def State.retireGroup (s : State) (g : Nat) : State :=
  match s.group g with
  | none => s
  | some G =>
    match G.place with
    | .ended => s
    | _ =>
      let G1 := { G with waves := tabMap G.waves fun _ W => W.retire }
      let s0 := s.giveBack g (G.retiring.foldl (fun n W => n + W.units G.hdr.units) 0)
      if G1.waves.all fun e => e.2.run == .retired then
        let s1 := s0.modGroup g fun _ => G1.finish
        let s2 := if G.frec = 0 then s1 else s1.handlerGone g G
        if G.isTwin || G.launch == 0 then s2 else s2.groupLeft G.launch
      else s0.modGroup g fun _ => G1

/-- Every group tested. -/
def State.retireAll (s : State) : State := s.groups.foldl (fun t e => t.retireGroup e.1) s

/-! ## Steps of an elastic launch (R144, R394) -/

/-- A new group of a launch (R391): K0 and K1 are ARG. -/
def newGroupOf (id : Nat) (L : Launch) (x : Dealt) : NewGroup :=
  { launch := id, gid := x.gid, ctx := L.ctx, asid := L.asid, cls := L.cls, hdr := L.hdr, entry := L.entry,
    ks := [⟨BitVec.ofNat 32 L.arg, .b32⟩, ⟨BitVec.ofNat 32 (L.arg / 2 ^ 32), .b32⟩], rejoin := x.rejoin,
    nslot := if L.hdr.neigh then x.gid else 0 }

/-- Whether some dealt groups all have room now (R29). -/
def State.roomForAll (s : State) (id : Nat) (L : Launch) (ds : List Dealt) : Bool :=
  (ds.foldl (fun (r : Option State) x => r.bind fun t => t.startGroup x.core x.twin (newGroupOf id L x)) (some s)).isSome

/-- The dies of an elastic launch that are available to join. -/
def State.joinable (s : State) (id : Nat) (L : Launch) : List Nat :=
  L.dies.filter fun d => !L.joined.contains d && s.takesGroups d &&
    !(s.placeList d L.hdr).isEmpty && s.roomForAll id L (s.dealBlock L.hdr 0 L.groups d true)

/-- Groups of the last-joined dies end, so that at most `target` dies are left (R394). -/
def State.withdraw (s : State) (id : Nat) (target : Nat) : State :=
  match tabGet s.cp.launches id with
  | none => s
  | some L =>
    let gone := L.joined.drop target
    let gs := (s.groupsOf id).filter fun e => gone.contains e.2.die
    let s1 := gs.foldl (fun t e => t.killGroup e.1) s
    s1.modLaunch id fun L => { L with joined := L.joined.take target, dealt := L.dealt.filter fun x => !gone.contains (dieOf x.core) }

/-- Dies join until the target is met; their groups wait to be admitted (R392, R394). -/
def State.joinDies (s : State) (id : Nat) (target : Nat) : State :=
  match tabGet s.cp.launches id with
  | none => s
  | some L =>
    let new := (s.joinable id L).take (target - L.joined.length)
    let blocks := new.mapIdx fun i d => s.dealBlock L.hdr ((L.joined.length + i) * L.groups) L.groups d true
    s.modLaunch id fun L =>
      { L with joined := L.joined ++ new, waiting := L.waiting ++ blocks.flatten, left := L.left + new.length * L.groups }

/-- The waits at a step end. -/
def Wave.stepOver (W : Wave) : Wave :=
  Wave.noteReleased
    { W with stepArrived := false,
             fibres := tabMap W.fibres fun _ (F : Fibre) => if F.wait = Wait.step then { F with wait := .none } else F }
    (W.live.filter fun f => (W.fib f).wait == .step)

/-- A launch's step completes when every one of its waves has arrived or retired (R144). -/
def State.stepLaunch (s : State) (id : Nat) : State :=
  match tabGet s.cp.launches id with
  | none => s
  | some L =>
    let ws := (s.groupsOf id).flatMap fun e => e.2.waves
    if L.hdr.elastic ∧ L.st = .running ∧ L.waiting = [] ∧ (ws.any fun w => w.2.stepArrived) ∧
        (ws.all fun w => w.2.stepArrived || w.2.run == .retired) then
      let s1 := s.modLaunch id fun L => { L with step := L.step + 1 }
      let s2 := (s1.withdraw id L.target).joinDies id L.target
      (s2.groupsOf id).foldl (fun t e => t.modGroup e.1 fun G => { G with waves := tabMap G.waves fun _ W => W.stepOver }) s2
    else s

/-- Every elastic launch tested. -/
def State.stepAll (s : State) : State := s.cp.launches.foldl (fun t e => t.stepLaunch e.1) s

/-! ## Saved and resident launches (R384, R392) -/

/-- Whether every group of a launch that exists is saved. -/
def State.allSaved (s : State) (id : Nat) : Bool :=
  (s.groupsOf id).all fun e => match e.2.place with | .saved _ => true | _ => false

/-- Whether an activation has begun and not yet switched the image (R370). -/
def State.switching (s : State) : Bool := match s.facet.op with | some (.activate _ _ false) => true | _ => false

/-- Whether a saved group may be restored: its queue is mapped and its launch not parked, and no activation is saving the
groups (R370, R384, R395). A handler group has no queue. -/
def State.restorable (s : State) (G : Group) : Bool :=
  !s.switching && match s.launchOf G with
  | none => true
  | some L =>
    L.st != .parked && match s.slotOfDesc L.die L.desc with
    | some k => (s.qslot k).st == .mapped
    | none => false

/-- Whether no group of a launch is saved, or on its way to it. -/
def State.allResident (s : State) (id : Nat) : Bool :=
  (s.groupsOf id).all fun e => match e.2.place with | .core _ => !e.2.preempt | _ => false

/-- The launches of a queue that have not ended. -/
def State.launchesOfSlot (s : State) (k : Nat) : List Nat :=
  (s.cp.launches.filter fun e => e.2.die == k / 64 && e.2.desc == (s.qslot k).desc &&
    (e.2.st == .running || e.2.st == .saved || e.2.st == .parked)).map (·.1)

/-- The state of a launch follows its groups (R392). -/
def State.launchStates (s : State) : State :=
  s.cp.launches.foldl (fun t e =>
    if (e.2.st = .running ∨ e.2.st = .saved) ∧ (t.groupsOf e.1) ≠ [] then
      t.modLaunch e.1 fun L => { L with st := if t.allSaved e.1 then .saved else .running }
    else t) s

/-- A firmware instruction answered: its status reaches D (R369, R370, R396). -/
def State.answerOp (s : State) (o : SlotOp) (status : Nat) : State :=
  s.modWave o.grp o.wave fun W => W.complete o.entry o.fib [⟨BitVec.ofNat 32 status, .n32⟩] none

/-- A slot's change completes: HELD and MAPPED answer their PREEMPT, UNMAPPING becomes FREE, its descriptor holding RD, DONE and STATE
(R384). A queue in STATE 2 that is unmapped with saved launches stays in it, though its descriptor shows STATE 3 (R389). A slot that a
QUNMAP freed answers it; one that Cuset freed goes to a queue that waits, and its own queue waits again while it has packets to do
(R385). -/
def State.slotDone (s : State) (k : Nat) : State :=
  let q := s.qslot k
  let ls := s.launchesOfSlot k
  let saved := ls.all s.allSaved
  match q.st, q.op with
  | .held, some o => if saved then (s.modSlot k fun q => { q with op := none }).answerOp o 0 else s
  | .mapped, some o => if ls.all s.allResident then (s.modSlot k fun q => { q with op := none }).answerOp o 0 else s
  | .unmapping, o =>
    if saved && !(q.begun.any fun b => match b.fl with | .copy _ | .ending _ _ | .told => true | _ => false) then
      let st := if ls ≠ [] then 3 else if q.qstate = 2 then 2 else 0
      let s1 := s.writeDesc k st
      let s2 : State := { s1 with cp := { s1.cp with
        slots := tabErase s1.cp.slots k,
        aborted := if st = 3 ∧ q.qstate = 2 then s1.cp.aborted ++ [(q.desc, q.ctx)] else s1.cp.aborted } }
      match o with
      | some x => s2.answerOp x 0
      | none =>
        let s3 := s2.assignSlot k q.heir
        if q.done < q.wr then { s3 with cp := { s3.cp with seen := s3.cp.seen ++ [(q.desc, q.ctx)] } } else s3
    else s
  | _, _ => s

/-- Every slot tested. -/
def State.slotsDone (s : State) : State := s.cp.slots.foldl (fun t e => t.slotDone e.1) s

/-! ## Activation of a facet image (R370) -/

/-- Whether a group stands as an activation needs it: saved or ended before the switch, resident or ended after it. -/
def State.switchReady (s : State) (switched : Bool) (g : Nat) : Bool :=
  match s.group g with
  | none => true
  | some G => match G.place with
    | .ended => true
    | .saved _ => !switched || !s.restorable G
    | .core _ => switched && !G.preempt
    | .saving _ => false

/-- Whether some wave still owns a facet frame: an activation waits for its fibres to leave it (R365). -/
def State.frameOwned (s : State) : Bool := s.cores.any fun e => e.2.frame.isSome && !s.dieLost (dieOf e.1)

/-- An activation goes on: the image is switched when every group is saved and no frame is owned; when all are back the staged image
is consumed and D written (R365, R370). -/
def State.activation (s : State) : State :=
  match s.facet.op with
  | some (.activate o gs false) =>
    if !s.frameOwned && gs.all fun e => s.switchReady false e.1 then
      { s with facet := { s.facet with active := s.facet.staged, op := some (.activate o gs true) } }
    else s
  | some (.activate o gs true) =>
    if gs.all fun e => s.switchReady true e.1 then
      State.answerOp { s with facet := { s.facet with staged := [], op := none } } o 0
    else s
  | _ => s

/-! ## Spare dies (R377) -/

/-- Dies named in SPARES become spare once they host no group; others are spare no more. -/
def State.spareUpdate (s : State) : State :=
  let hosts := fun d => s.groups.any fun e => e.2.place != .ended && e.2.die == d && !e.2.firmware
  let l := (List.range 12).filter fun d => s.cp.spares.testBit d && (s.cp.spareDies.contains d || !hosts d)
  if l = s.cp.spareDies then s else { s with cp := { s.cp with spareDies := l } }

/-! ## Waves that come back after a register-pool deadlock (R36) -/

/-- A running wave without its units re-enters when the pool holds its whole allocation (R36). -/
def State.reenter (s : State) : State :=
  s.groups.foldl (fun t e => match e.2.place with
    | .core c => e.2.waves.foldl (fun u w =>
        if w.2.noUnits ∧ w.2.run = .running ∧ Wave.units { w.2 with noUnits := false } e.2.hdr.units ≤ u.poolFree c then
          u.modWave e.1 w.1 fun W => { W with noUnits := false }
        else u) t
    | _ => t) s

/-! ## The whole (R37, R42, R133, R142) -/

/-- The waits of every wave tested, and its bundles formed. -/
def State.releaseAll (s : State) : State :=
  s.groups.foldl (fun t e => e.2.waves.foldl (fun u w => u.releaseWave e.1 w.1) t) s

/-- The bundles of every wave. -/
def State.rebundleAll (s : State) : State :=
  { s with groups := tabMap s.groups fun _ G => { G with waves := tabMap G.waves fun _ W => W.rebundle } }

/-- What follows every step: the accesses of a wave that a disposition woke leave before it issues (R336). Nothing follows while every clock is stopped (R448). Between steps no bundle issues. -/
def State.settle (s : State) : State :=
  if s.pw.frozen then { s with cur := none } else
  let t := s.drainAccept.settleWaves.pump.pumpState.pump.forwardAll.startObjects.seatPasses.retireAll.stepAll.releaseAll.reenter
  { t.endings.launchStates.slotsDone.activation.rebundleAll.spareUpdate with cur := none }

end Sys2Proof.Machine
end

