-- ==== Sys2Proof/Machine/Issue.lean ====
section
/-! DEFINITION. The issue unit: readiness and the arbiter (R37, R43-R45, R52, R58, R360), mirror signatures (R53), and the turns that
no instruction makes (log 1). -/
namespace Sys2Proof.Machine

/-! ## Readiness (R37, R45, R58, R360, R370) -/

/-- Whether an instruction accesses memory outside its core (R45). -/
def outsideCore (i : Instr) : Bool :=
  match memForm i with
  | some f => f.space != .own
  | none => [0x0A, 0xB0, 0xB1, 0xB2, 0xB8, 0xD2, 0xD3, 0xD4, 0xD5].contains (opcodeOf i)

/-- Whether a wave owns its core's facet frame (R360). -/
def State.ownsFrame (s : State) (g w : Nat) (G : Group) : Bool :=
  match G.core? with
  | some c => (s.core c).frame == some (g, w)
  | none => false

/-- Whether a stop is asked of a group's waves: a pre-emption, or for firmware an activation that has not switched the image yet
(R338, R365, R370). -/
def State.stopAsked (s : State) (G : Group) : Bool :=
  (G.firmware && !s.engineTakes) || match G.place with | .core _ => G.preempt | _ => true

/-- Whether a wave may issue at all: its unsettled entries are settled (R336), its group is on a core and neither parked, saved nor stopped for a save or an
activation, and it runs with its registers. The owner of the facet frame stops only once none of its fibres is in the frame (R365). -/
def State.waveRuns (s : State) (g w : Nat) (G : Group) (W : Wave) : Bool :=
  W.run == .running && !W.settling && !W.noUnits && !G.parked && !s.dieLost G.die && G.core?.isSome && (!s.stopAsked G || s.ownsFrame g w G) &&
    !(G.firmware && s.fw.stopping)

/-- Whether a bundle's next step is free to issue as far as it can be told before its operands are read. -/
def State.stepReady (s : State) (core g w : Nat) (G : Group) (W : Wave) (x : Fetched) : Bool :=
  match x with
  | .raise _ _ => true
  | .run c i =>
    match i with
    | .facetEmulateEntry _ =>
      let mine := match (s.core core).frame with | some o => o == (g, w) | none => true
      mine && !s.stopAsked G && W.entryReady c c.w0
    | .facetRewrite slot => rewriteReady s.facet.active slot G W c
    | .nonInstructionWord _ | .facetTrap _ => true
    | _ => !(G.held && outsideCore i) && gate i s G W c != .stall

/-- The bundle of a wave with what it decodes to, if it is offered. -/
def State.offered (s : State) (g w k : Nat) : Option Fetched :=
  match s.group g, s.wave g w with
  | some G, some W =>
    match G.core?, W.bundles[k]? with
    | some core, some (f :: fs) =>
      let x := s.decodeAt core g w G W (f :: fs)
      if (f :: fs).all (fun h => !W.letGo.contains h) && s.waveRuns g w G W &&
          s.stepReady core g w G W x then some x else none
    | _, _ => none
  | _, _ => none

/-- Whether a wave has its place in its core's cycle: fewer than two have issued, and not this one (R43); a stopped die has no
cycle (R445). -/
def State.slotFree (s : State) (core g w : Nat) : Bool :=
  s.dieClock (dieOf core) != 3 && decide ((s.core core).issued.length < 2) && !(s.core core).issued.contains (g, w)

/-! ## Mirror pairs (R52, R53) -/

/-- Whether an instruction is a compared one (R53, R255). -/
def compared (i : Instr) : Bool :=
  match memForm i with
  | some f => (match f.act with
    | .store | .narrowStore | .storeRel | .atom _ _ _ | .red _ _ => true
    | _ => false)
  | none => [0x19, 0x1B, 0xB0, 0xB1, 0xB2, 0xB8, 0xB9, 0xBB, 0xBC, 0xBD, 0xD2, 0xD3, 0xD4, 0xD5].contains (opcodeOf i)

/-- The fibres whose address and data a compared instruction's signature covers: those that store, arrive, or start (R53). -/
def signedFibres (i : Instr) (W : Wave) (c : Issue) : List Nat :=
  let gt := W.guardTrue c (opndsOf i).guard
  match memForm i with
  | some m => if m.act.stores then gt.filter fun f => !(gt.any fun h => decide (f < h) && m.ea W h == m.ea W f) else gt
  | none => gt

/-- The words of the source operands of a fibre that an instruction reads: of a scratchpad operand its even register (R207). -/
def Opnds.readWords (o : Opnds) (W : Wave) (f : Nat) : List Nat :=
  o.srcs.flatMap fun x => (List.range (if x.cls = .lowInt then 1 else x.n)).map fun j => (W.read f (regPlus x.reg j)).val.toNat

/-- The address and data that a fibre gives a compared instruction, as words: for an access the address it forms and what it
stores, of a narrow store its byte or halfword; else what names the place that the instruction acts on, a barrier or a tag, and its operands (R53, log 66). -/
def signedWords (i : Instr) (W : Wave) (f : Nat) : List Nat :=
  let o := opndsOf i
  match memForm i with
  | some m =>
    let va := (m.ea W f).toNat
    [va % 2 ^ 32, va / 2 ^ 32] ++ (W.accData o f).map fun w => if m.act == .narrowStore then w.toNat % 2 ^ (8 * m.size) else w.toNat
  | none =>
    (match i with
     | .bara x => [x.scope, x.id]
     | .bars x => [x.scope, x.id]
     | .cpg2sExt x => [x.tag, x.queue, x.bar, x.scope, x.id]
     | .cps2gExt x => [x.tag, x.queue, x.bar, x.scope, x.id]
     | .cpxExt x => [x.tag, x.queue, x.bar, x.scope, x.id]
     | _ => match copyTag i with | some t => [t] | none => []) ++ o.readWords W f

/-- The signature of a compared instruction: the CRC-32C over the opcode and, fibre by fibre, the fibre's number, its address and its
data (R53, log 66). -/
def signature (i : Instr) (W : Wave) (c : Issue) : Word :=
  crc32c (natBytes 4 (opcodeOf i) ++
    (signedFibres i W c).flatMap fun f => (f :: signedWords i W f).flatMap (natBytes 4))

/-- The bundle that a twin issues with a primary's: the same fibres, else its first (R52). -/
def Wave.twinBundle (W : Wave) (fs : List Nat) : Nat :=
  match (List.range W.bundles.length).find? fun k => W.bundles[k]? == some fs with
  | some k => k
  | none => 0

/-! ## What one turn does -/

/-- The steps that a turn performs, each with its issuing bundle; several for a mirror pair. -/
inductive Chosen where
  /-- the turn changes the state and performs nothing -/
  | idle (s : State)
  | perform (s : State) (i : Instr) (c : Option Issue)
  /-- a mirror pair: the primary's step and the twin's -/
  | both (s : State) (i : Instr) (c : Issue) (j : Instr) (d : Issue)
  /-- a mirror pair that does not pass: what each twin decodes, and whether their signatures differ -/
  | clash (s : State) (x y : Fetched) (low : Option State)
  /-- the bundle's instruction reads its operands with an uncorrectable error in some fibres -/
  | struck (s : State) (i : Instr) (c : Issue) (fibres : Word)
  /-- a read of a tile, or of a histogram's block, meets an uncorrectable error -/
  | tile (s : State) (x : Strike)
deriving DecidableEq, Repr

/-- The lines of a fetch are in the instruction cache from now on (R145, R263). -/
def State.fetched (s : State) (core : Nat) (G : Group) (c : Issue) (facet : Bool) : State :=
  if facet then s
  else
    let s1 := s.fillIcache core G.asid c.pc.toNat
    if hasTwoWords c.w0 then s1.fillIcache core G.asid (c.pc + 4).toNat else s1

/-- The group's budget runs from its first issue (R332). -/
def State.started (s : State) (g : Nat) : State := s.modGroup g fun G => { G with started := true }

/-- The issue of an offered bundle of a group without a twin. -/
def State.issueOne (s : State) (core g w : Nat) (G : Group) (x : Fetched) : Chosen :=
  match x with
  | .raise c r => .idle ((s.drawn.started g).decodeFault c r .none)
  | .run c i =>
    match s.wave g w with
    | some W => .perform ((s.started g).fetched core G c (W.inFacet c)) i (some c)
    | none => .idle s

/-- A mirror mismatch: neither twin's effects leave its core, both park as one subject with the two signatures (R54). -/
def State.mismatch (s : State) (c : Issue) (gmask : Word) (a b : Word) : State :=
  match s.group c.grp, s.wave c.grp c.wave with
  | some G, some W =>
    let x := s.waveSubject G c.grp W c { cause := 0x38, fmask := gmask } false gmask .none
    (s.stopPair c.grp c.wave).detect G.die { x with of := .mirror a b }
  | _, _ => s

/-- The issue of an offered bundle of a mirror pair with its twin's, in one cycle of both cores (R52-R54). Where a twin's decoding raises a
cause or the signatures differ, the pair parks with the lowest of the causes that strike it (R323). -/
def State.issuePair (s : State) (core tcore g t w : Nat) (G T : Group) (x y : Fetched) : Chosen :=
  match x, y with
  | .raise _ _, _ => .clash ((s.started g).started t) x y none
  | _, .raise _ _ => .clash ((s.started g).started t) x y none
  | .run c i, .run d j =>
    match s.wave g w, s.wave t w with
    | some W, some V =>
      let a := if compared i then some (signature i W c) else none
      let b := if compared j then some (signature j V d) else none
      if a ≠ b then
        .clash ((s.started g).started t) x y (some (s.mismatch c (maskOf (W.guardTrue c (opndsOf i).guard)) (a.getD 0) (b.getD 0)))
      else
        let s1 := (((s.started g).started t).fetched core G c (W.inFacet c)).fetched tcore T d (V.inFacet d)
        .both s1 i c j d
    | _, _ => .idle s

/-- The issue of a bundle as it was fetched, if its core's cycle has a slot for it; of a mirror pair, if the twin's is offered too. -/
def State.issueFetched (s : State) (g w k : Nat) (G : Group) (x : Fetched) : Chosen :=
  match G.core?, G.twin with
  | some core, none => if s.slotFree core g w then s.issueOne core g w G x else .idle s
  | some core, some (t, false) =>
    match s.group t, s.wave t w, s.wave g w with
    | some T, some V, some W =>
      match T.core?, s.offered t w (V.twinBundle ((W.bundles[k]?).getD [])) with
      | some tc, some y =>
        if s.slotFree core g w && s.slotFree tc t w then s.issuePair core tc g t w G T x y else .idle s
      | _, _ => .idle s
    | _, _, _ => .idle s
  | _, _ => .idle s

/-- The issue of a bundle, if it is offered and its core's cycle has a slot for it. -/
def State.issueTurn (s : State) (g w k : Nat) : Chosen :=
  match s.group g, s.offered g w k with
  | some G, some x => s.issueFetched g w k G x
  | _, _ => .idle s

/-- Whether a fibre's fetch reads its word beyond the instruction cache. -/
def State.fetchesHome (s : State) (G : Group) (F : Fibre) : Bool :=
  F.facet.isNone && !(G.firmware && (s.fwBytes F.curPc.toNat 4).isSome) &&
    (tabGet (s.core G.coreNo).icache (lineKey G.asid F.curPc.toNat)).isNone

/-- A fetch whose word an uncorrectable error strikes: a cause that its translation raises stands before it (R76, R415). -/
def Fetched.struck (x : Fetched) (w0 cause pc : Nat) : Fetched :=
  let hit := fun (c : Issue) => Fetched.raise { c with w0 := w0, w1 := 0 } { cause := cause, va := pc }
  match x with
  | .raise c r => if (r.cause = 0x10 ∨ r.cause = 0x11) ∧ r.va = pc then x else hit c
  | .run c _ => hit c

/-! ## The arbiter (R43, R44) -/

/-- Lexicographic order of keys. -/
def keysBelow : List Nat → List Nat → Bool
  | a :: as, b :: bs => a < b || (a == b && keysBelow as bs)
  | _, _ => false

/-- What a wave ranks a bundle by: the cycle since which its longest-ready fibre has been ready, and its lowest fibre (R43). -/
def Wave.bundleRank (W : Wave) (now : Nat) (b : List Nat) : List Nat :=
  [b.foldl (fun m f => min m ((tabGet W.ready f).getD now)) now, b.headD 0]

/-- The bundle of the least rank. -/
def bestBundle : List (List Nat × Nat) → Option (List Nat × Nat)
  | [] => none
  | x :: xs => match bestBundle xs with
    | none => some x
    | some y => if keysBelow y.1 x.1 then some y else some x

/-- The core cycle of a group's core. -/
def State.cycleOf (s : State) (g : Nat) : Nat := (((s.group g).bind Group.core?).map fun c => (s.core c).cycles).getD 0

/-- The bundle that a wave offers: of its ready bundles, the one whose longest-ready fibre has been ready longest (R43). -/
def State.waveOffer (s : State) (g w : Nat) : Option Nat :=
  match s.wave g w with
  | some W => (bestBundle ((List.range W.bundles.length).filterMap fun k =>
      if (s.offered g w k).isSome then some (W.bundleRank (s.cycleOf g) ((W.bundles[k]?).getD []), k) else none)).map (·.2)
  | none => none

/-- The cycles since which the fibres of the ready bundles of a wave have been ready, at the end of cycle `now` (R37, R43). -/
def State.readyAt (s : State) (g w : Nat) (W : Wave) (now : Nat) : Tab Nat :=
  (List.range W.bundles.length).foldl (fun t k =>
    if (s.offered g w k).isSome then
      ((W.bundles[k]?).getD []).foldl (fun t f => tabSet t f ((tabGet W.ready f).getD now)) t
    else t) []

/-- The starvation counter that a wave ranks by: of a mirror pair the greater of both (R52). -/
def State.starveOf (s : State) (G : Group) (w : Nat) (W : Wave) : Nat :=
  match G.twin.bind fun t => s.wave t.1 w with
  | some V => max W.starve V.starve
  | none => W.starve

/-- The keys by which the arbiter ranks an offered wave, the least first (R43, R52). -/
def rankKeys (s : State) (g : Nat) (G : Group) (w : Nat) (W : Wave) : List Nat :=
  let mirror := match G.twin with | some (t, _) => (s.waveOffer t w).isSome | none => false
  let n := s.starveOf G w W
  [if 64 ≤ n then 0 else 1, if 64 ≤ n then 2 ^ 32 - n else 0, G.cls, if mirror then 0 else 1, W.admitted, W.slot, g]

/-- An offer: its keys, its group and wave, and its bundle. -/
abbrev Offer := List Nat × Nat × Nat × Nat

/-- The offered waves of a core that have not issued in this cycle, with their keys and bundles. -/
def State.coreOffers (s : State) (core : Nat) : List Offer :=
  (s.residents core).flatMap fun e => e.2.liveWaves.filterMap fun x =>
    if s.slotFree core e.1 x.1 then (s.waveOffer e.1 x.1).map fun k => (rankKeys s e.1 e.2 x.1 x.2, e.1, x.1, k) else none

/-- The highest-ranked offer. -/
def bestOffer : List Offer → Option Offer
  | [] => none
  | x :: xs => match bestOffer xs with
    | none => some x
    | some y => if keysBelow y.1 x.1 then some y else some x

/-- Offers from the highest rank down. -/
def rankedOffers : Nat → List Offer → List Offer
  | 0, _ => []
  | n + 1, l => match bestOffer l with
    | none => []
    | some x => x :: rankedOffers n (l.erase x)

/-- The offers of a core from the highest rank down (R43). -/
def State.ranked (s : State) (core : Nat) : List Offer :=
  let l := s.coreOffers core
  rankedOffers l.length l

/-- Whether a core's arbiter grants a wave: it is among the highest-ranked, as many as the core's cycle has issue slots left
(R43). -/
def State.granted (s : State) (core g w : Nat) : Bool :=
  ((s.ranked core).take (2 - (s.core core).issued.length)).any fun x => x.2.1 == g && x.2.2.1 == w

/-- The bundle that a mirror pair offers on both cores: its primary's, while its twin's is offered too (R52). -/
def State.pairOffer (s : State) (p t w : Nat) : Option Nat :=
  match s.waveOffer p w, s.wave p w, s.wave t w with
  | some k, some W, some V => if (s.offered t w (V.twinBundle ((W.bundles[k]?).getD []))).isSome then some k else none
  | _, _, _ => none

/-- Whether an offer can be issued: that of a mirror pair only if the other twin's core grants the other twin too, and both twins
offer the bundle (R52). -/
def State.grantable? (s : State) (x : Offer) : Bool :=
  match (s.group x.2.1).bind (·.twin) with
  | none => true
  | some (t, b) => (s.pairOffer (if b then t else x.2.1) (if b then x.2.1 else t) x.2.2.1).isSome &&
    match (s.group t).bind Group.core? with
    | some tc => s.granted tc t x.2.2.1
    | none => false

/-- The issue that a core's arbiter grants: the highest-ranked offer; a mirror bundle that either core's ranking leaves out gives
way to the next (R43, R52). -/
def State.slotOffer (s : State) (core : Nat) : Option Offer := (s.ranked core).find? s.grantable?

/-- The turn of a core's arbiter. A pair issues as its primary. -/
def State.slotTurn (s : State) (core : Nat) : Chosen :=
  match s.slotOffer core with
  | none => .idle s
  | some (_, g, w, k) =>
    match (s.group g).bind (·.twin) with
    | some (p, true) => s.issueTurn p w ((s.waveOffer p w).getD 0)
    | _ => s.issueTurn g w k

/-- Whether the arbiter of a group's core grants a bundle of it now (R43). -/
def State.grants (s : State) (g w k : Nat) : Bool :=
  match (s.group g).bind Group.core? with
  | some core => (match s.slotOffer core with | some x => x.2 == (g, w, k) | none => false)
  | none => false

/-- What the end of a core cycle makes of what a group notes of the cycle: barriers with an event are tested (R142), and completed
tags are no longer recent (R205). -/
def Group.endCycle (G : Group) : Group :=
  { G.testBars with tags := tabMap G.tags fun _ h => { h with recent := false, recentFail := false } }

/-- What the end of a core cycle makes of a wave: fibres let go in it are ready from now on (R37), and what issued in it is earlier
(R250). -/
def Wave.endCycle (W : Wave) : Wave := { W with letGo := [], ageMark := W.nextAge }

/-- The end of a core's cycle: starvation counters and the cycle count move, fibres that became ready are noted as such (R43,
R44), barriers are tested (R142), and units given up are free (R34). -/
def State.cycleEnd (s : State) (core : Nat) : State :=
  if s.dieClock (dieOf core) = 3 then s else
  let done := (s.core core).issued
  let now := (s.core core).cycles
  let s1 := (s.residents core).foldl (fun t e => e.2.liveWaves.foldl (fun u x =>
    u.modWave e.1 x.1 fun W =>
      let r := s.readyAt e.1 x.1 W now
      Wave.endCycle
        (if done.contains (e.1, x.1) then { W with starve := 0, ready := r }
         else if e.2.held then { W with ready := r }
         else if r.isEmpty then { W with starve := 0, ready := r }
         else { W with starve := W.starve + 1, ready := r })) (t.modGroup e.1 Group.endCycle)) s
  s1.modCore core fun C => { C with cycles := C.cycles + 1, issued := [], freed := 0 }

/-- Time passes; budgets of handler groups that are resident and have issued run (R332). -/
def State.elapse (s : State) (n : Nat) : State :=
  let s0 := { s with now := s.now + n }
  let s1 := s0.addOccupancy (s0.meshCycles - s.meshCycles)
  let d := s1.ticks - s.ticks
  if d = 0 then s1
  else
    { s1 with groups := tabMap s1.groups fun _ G =>
        match G.budget with
        | some b => if G.started && G.core?.isSome then { G with budget := some (b - d) } else G
        | none => G }

/-! ## Turns that the agenda does not name (log 1) -/

/-- Whether a step of the opcode table is performed by an engine or the outside world, and not by an issuing bundle. -/
def isEvent (i : Instr) : Bool :=
  opcodeOf i == 0 && match i with
    | .nonInstructionWord _ | .facetTrap _ | .facetRewrite _ | .facetEmulateEntry _ => false
    | _ => true

/-- Units of time of a core cycle in the state of the core's die: 1.3, 1.0 or 0.65 GHz, none where the clock is stopped (R445). -/
def State.corePeriod (s : State) (core : Nat) : Nat :=
  match s.dieClock (dieOf core) with
  | 0 => 20
  | 1 => 26
  | 2 => 40
  | _ => 0

/-- Whether a core cycle ends within the next 20 units of time. -/
def State.cycleEnds (s : State) (core : Nat) : Bool :=
  let p := s.corePeriod core
  p != 0 && s.now / p != (s.now + 20) / p

/-- What happens with an empty agenda when no step is due: the first core whose arbiter has an offer issues; else 20 units of time pass,
the cycle of a die at full clock, with the core cycles that end in them. -/
def State.idleTurn (s : State) : Chosen :=
  match s.cores.find? fun e => (s.slotOffer e.1).isSome with
  | some e => s.slotTurn e.1
  | none => .idle (State.elapse (s.cores.foldl (fun t e => if s.cycleEnds e.1 then t.cycleEnd e.1 else t) s) 20)

/-! ## Uncorrectable errors of a core (R321, R322, log 42) -/

/-- Whether a message answers a scratchpad or window read, with the words as they still stand: an error that strikes the read strikes it
before any later store (R194). -/
def State.readsPool (s : State) (m : Msg) : Bool :=
  match s.group m.grp, s.wave m.grp m.wave, m.body with
  | some G, some W, .data bs none _ =>
    (match (tabGet W.sb m.slot).bind fun e => memForm e.instr, W.acc m.slot m.fib with
     | some f, some a => f.space != .virt && match s.scrPlace m.grp G f a.va.toNat with
       | some (t, off) => (s.group t).any fun T => lineBytes (T.scrWords off (f.size / 4)) == bs
       | none => false
     | _, _ => false)
  | _, _, _ => false

/-- An uncorrectable error: a line of an L1 or of an instruction cache is dropped and filled again when it is asked for, with no cause
(R322); a bundle whose operands are struck parks its wave as it issues, and a load of the scratchpad ends in a late fault, both with
ECC_POOL (R183, R321). -/
def State.strike (s : State) (x : Strike) : Chosen :=
  match x with
  | .l1 core key => .idle (s.modCore core fun C => { C with l1 := tabErase C.l1 key })
  | .icache core key => .idle (s.modCore core fun C => { C with icache := tabErase C.icache key })
  | .fetch g w k =>
    match s.group g, s.wave g w, s.offered g w k with
    | some G, some W, some y =>
      let f := ((W.bundles[k]?).getD []).headD 0
      if s.grants g w k && s.fetchesHome G (W.fib f) then
        s.drawn.issueFetched g w k G (y.struck s.freeWord.toNat (s.eccAt G.asid (W.fib f).curPc.toNat) (W.fib f).curPc.toNat)
      else .idle s
    | _, _, _ => .idle s
  | .window k => .idle { s with msgs := s.msgs.mapIdx fun i m => if i = k && s.readsPool m then { m with body := .fault 0x30 } else m }
  | .pass _ | .tiles _ _ _ _ => .tile s x
  | .operand g w k fibres =>
    match s.group g, s.offered g w k with
    | some _, some (.run c i) => if s.grants g w k then .struck s i c (fibres &&& maskOf c.fibres) else .idle s
    | _, _ => .idle s

/-- What a turn chooses. -/
def State.chosen (s : State) (t : Turn) : Chosen :=
  match t with
  | .event i => if isEvent i then .perform s i none else .idle s
  | .slot core => s.slotTurn core
  | .issue g w k => if s.grants g w k then s.issueTurn g w k else .idle s
  | .cycleEnd core => .idle (s.cycleEnd core)
  | .elapse n => .idle (s.elapse n)
  | .ecc x => s.strike x
  | .resident k frame fill => .idle (s.makeResident k frame fill)

/-- Whether a turn may act while the module is frozen: the TAP, the release and a cold reset (R448, R449, R451). -/
def actsFrozen (t : Turn) : Bool :=
  match t with
  | .event .freezeRelease | .event .tapIdcode | .event .tapBypass | .event .coldReset | .event (.tapScanout _) => true
  | _ => false

/-- The state while a step performs an instruction: its bundle issues. -/
def State.issuing (s : State) (c : Option Issue) : State := { s with cur := c }

/-- A wave that has issued has used a slot of its core's cycle, and its bundle may be ready again from the next cycle on (R43). -/
def State.usedSlot (s : State) (c : Issue) : State :=
  match (s.group c.grp).bind Group.core? with
  | some core =>
    let next := (s.core core).cycles + 1
    (s.modWave c.grp c.wave fun W => { W with ready := c.fibres.foldl (fun t f => tabSet t f next) W.ready }).modCore core fun C =>
      { C with issued := C.issued ++ [(c.grp, c.wave)] }
  | none => s

/-- After an instruction's own effect: no bundle issues any more, and the wave of one that did has used its slot, whatever the
effect was (R45). -/
def State.issuedAs (after : State) (c : Option Issue) : State :=
  let t := { after with cur := none }
  match c with
  | some x => t.usedSlot x
  | none => t

/-- Whether a twin's instruction is still ready after its primary's effect (R52). -/
def State.twinReady (s : State) (j : Instr) (d : Issue) : Bool :=
  match s.group d.grp, s.wave d.grp d.wave with
  | some T, some V => match T.core? with
    | some tc => s.stepReady tc d.grp d.wave T V (.run d j)
    | none => false
  | _, _ => false

/-- Whether the twin's step is still to be performed: its wave runs. -/
def State.twinGoes (s : State) (d : Issue) : Bool :=
  match s.wave d.grp d.wave with | some V => V.run == .running | none => false

/-- A machine held by FREEZE lets no turn act but those of the TAP. -/
def State.turnsTo (s : State) (t : Turn) (rest : List Turn) : Chosen :=
  let s1 := { s with agenda := rest }
  if s.pw.frozen && !actsFrozen t then .idle s1 else s1.chosen t

end Sys2Proof.Machine
end

