-- ==== Sys2Proof/Machine/FacetInstr.lean ====
section
/-! DEFINITION. The meanings of words that facet slots or no instruction own (R75, R357-R361), of the routine's return and
limit (R363, R364), and of the instructions that stage, activate and read patch images (R367-R371). -/
namespace Sys2Proof.Machine

/-- A step that a bundle performs without operands of its own: without an issuing bundle the model stops. -/
def bundleStep (s : State) (run : Issue → Group → Wave → Host.Outcome State Fault Refusal) :
    Host.Outcome State Fault Refusal :=
  match s.cur with
  | none => .fault .noBundle
  | some c =>
    match s.group c.grp with
    | none => .fault .noBundle
    | some G =>
      match tabGet G.waves c.wave with
      | none => .fault .noBundle
      | some W => run c G W

/-- NON_INSTRUCTION_WORD (R75). -/
def execNonInstructionWord (w : Nat) (s : State) : Host.Outcome State Fault Refusal :=
  bundleStep s fun c _ _ => .next (s.decodeFault c { cause := if w = 0 then 0x02 else 0x01 } .none)

/-- FACET_TRAP (R358). -/
def execFacetTrap (slot : Nat) (s : State) : Host.Outcome State Fault Refusal :=
  bundleStep s fun c _ _ =>
    let p := bits (slotParam s.facet.active slot) 0 7
    let cause := if p = 0 ∨ 0x60 ≤ p then 0x5F else p
    .next (s.decodeFault c { cause := cause, detail := if cause = 0x50 then slot else 0 } .onResume)

/-- FACET_REWRITE (R359). -/
def execFacetRewrite (slot : Nat) (s : State) : Host.Outcome State Fault Refusal :=
  bundleStep s fun c G W =>
    match rewriteSeq s.facet.active slot G W c with
    | .error cause => .next (s.decodeFault c { cause := cause } .none)
    | .ok is =>
      if !(is.all fun i => W.hazardFree c (opndsOf i)) then .next s
      else match s.runSeq G c is W with
        | .ok X => .next (s.setWave c (X.advance c))
        | .error x =>
          let W1 := { W with sb := tabSet W.sb 48 (x.entry slot c W), nextAge := W.nextAge + 1 }
          .next ((s.setWave c W1).takeFault c x.raise x.late (maskOf x.gt) .none)

/-- FACET_EMULATE_ENTRY (R360, R361). -/
def execFacetEmulateEntry (slot : Nat) (s : State) : Host.Outcome State Fault Refusal :=
  bundleStep s fun c G W =>
    let gt := W.guardTrue c (bits c.w0 21 3)
    let free := match (s.core G.coreNo).frame with | some o => o == (c.grp, c.wave) | none => true
    if gt = [] then .next (s.setWave c (W.advance c))
    else if !free || !W.entryReady c c.w0 then .next s
    else
      let out := { c with fibres := c.fibres.filter fun f => !gt.contains f }
      let cycle := (s.core G.coreNo).cycles
      let W1 := gt.foldl (fun X f => X.enterFrame s.facet.active slot c cycle f) (W.advance out)
      .next ((s.setWave c W1).modCore G.coreNo fun C => { C with frame := some (c.grp, c.wave) })

/-- EMULATION_LIMIT (R364): enabled when a fibre of a running wave has been in facet context for ELIM core cycles. -/
def execEmulationLimit (grp wave : Nat) (s : State) : Host.Outcome State Fault Refusal :=
  match s.group grp, s.wave grp wave with
  | some G, some W =>
    let late := W.live.filter fun f => match (W.fib f).facet with
      | some x => decide (facetLimit s.facet.active ≤ s.felapsed G x)
      | none => false
    match late, W.run with
    | f :: fs, .running =>
      let slot := match (W.fib f).facet with | some x => x.slot | none => 0
      let c : Issue := { grp := grp, wave := wave, fibres := f :: fs, pc := (W.fib f).pc, w0 := 0, w1 := 0 }
      .next (s.takeFault c { cause := 0x50, fmask := maskOf (f :: fs), detail := slot } false (maskOf (f :: fs)) .none)
    | _, _ => .next s
  | _, _ => .next s

/-- FCTRET (R363). -/
def execFctret (o : Form.N) (s : State) : Host.Outcome State Fault Refusal :=
  issueWith (.fctret o) s fun c G W gt =>
    let cause := fun f => match (W.fib f).facet with | some x => bits x.ret 8 7 | none => 0
    match least ((gt.map cause).filter (· != 0)) with
    | some k =>
      let bad := gt.filter fun f => cause f == k
      let slot := (bad.findSome? fun f => (W.fib f).facet.map (·.slot)).getD 0
      .next (s.takeFault { c with fibres := bad }
        { cause := facetCause k, fmask := maskOf bad, detail := if k = 0x50 then slot else 0 } false (maskOf gt) .none)
    | none =>
      let rest := { c with fibres := c.fibres.filter fun f => !gt.contains f }
      .next ((s.setWave c (gt.foldl (fun X f => X.returnFib f) (W.advance rest))).freeFrame G.coreNo)

/-! ## Patch images (R367, R368) -/

/-- Whether `n` bytes of an image from an offset are zero. -/
def imgZero (img : List Byte) (off n : Nat) : Bool := ((img.drop off).take n).all (· == 0)

/-- The fields before the slot table, and where the areas lie. -/
def imageLayoutOk (img : List Byte) (len : Nat) : Bool :=
  let f := imgField img
  let code := f 0x18 4
  let codeEnd := code + f 0x1C 4
  let data := f 0x20 4
  let dataLen := f 0x24 4
  f 0x0C 4 == len && len % 64 == 0 && decide (1600 ≤ len) && decide (len ≤ 1048576) && f 8 4 != 0 &&
  decide (f 0x10 2 ≤ 16) && imgZero img 0x12 2 && decide (256 ≤ f 0x14 4) && decide (f 0x14 4 ≤ 1048576) &&
  code % 64 == 0 && decide (0x440 ≤ code) && f 0x1C 4 % 64 == 0 && decide (codeEnd ≤ len - 512) &&
  (if dataLen = 0 then data == 0 else data % 64 == 0 && decide (codeEnd ≤ data) && decide (data + dataLen ≤ len - 512)) &&
  imgZero img 0x28 24

/-- The words of a REWRITE slot, with the two-word instructions among them: each opcode allowed, no instruction running
past the end, KEEP on first words only. -/
def rewriteWordsOk (keep : Nat) : Nat → List Nat → Bool
  | _, [] => true
  | i, w :: rest =>
    let op := bits w 24 8
    let ok := ((0x20 ≤ op && op ≤ 0x5A) || (0x60 ≤ op && op ≤ 0x9B)) && op != 0x99
    if hasTwoWords w then
      match rest with
      | [] => false
      | _ :: more => ok && !keep.testBit (i + 1) && rewriteWordsOk keep (i + 2) more
    else ok && rewriteWordsOk keep (i + 1) rest

/-- A REWRITE slot keeps R367 and R368. -/
def rewriteSlotOk (img : List Byte) (i : Nat) : Bool :=
  let p := slotParam img i
  let n := bits p 0 3
  let keep := bits p 4 4
  let w := fun k => slotWord img i (4 + k)
  decide (1 ≤ n) && decide (n ≤ 4) && p == n + keep * 16 && decide (keep < 2 ^ n) &&
    rewriteWordsOk keep 0 ((List.range n).map w) && ((List.range 4).all fun k => decide (k < n) || w k == 0)

/-- An EMULATE slot's routine keeps R368: its entry in the code area, its header as R92 and the frame require. -/
def routineOk (img : List Byte) (i : Nat) : Bool :=
  let p := slotParam img i
  let code := imgField img 0x18 4
  let bs := (img.drop (p - 64)).take 64
  decide (code + 64 ≤ p) && decide (p < code + imgField img 0x1C 4) && p % 4 == 0 && hdrField bs 28 4 == p - code &&
  match parseHeader bs p .patch with
  | some h => h.roles.testBit 2 && h.units == 1 && h.scratch == 0 && h.tiles == 0 && h.barriers == 0 && h.flags == 0 &&
      h.minDies == 0 && h.maxDies == 0 && h.rows == 0 && h.cols == 0 && hdrField bs 40 4 == 0
  | none => false

/-- One entry of the slot table keeps R367 and R368. -/
def slotEntryOk (img : List Byte) (i : Nat) : Bool :=
  let base := 0x40 + 64 * i
  let f := fun off n => imgField img (base + off) n
  let p := slotParam img i
  let opc := f 0 1
  if decide (imgField img 0x10 2 ≤ i) || f 1 1 == 0 then imgZero img base 64
  else
    decide (f 2 1 < 16) && decide (f 3 1 < 16) && bits (f 3 1) 0 3 != 0 && decide (f 4 4 < 2 ^ 24) && decide (f 8 4 < 2 ^ 24) &&
    (f 8 4 &&& f 4 4) == f 8 4 && imgZero img (base + 0x20) 32 && (f 1 1 == 2 || imgZero img (base + 0x10) 16) &&
    (f 1 1 == 4 || !((0xD6 ≤ opc && opc ≤ 0xDA) || (0xE0 ≤ opc && opc ≤ 0xE6))) &&
    (match f 1 1 with
     | 1 => decide (p < 128) && p != 0x43
     | 2 => rewriteSlotOk img i
     | 3 => routineOk img i
     | 4 => opc == 0 && f 4 4 == 0 && f 8 4 == 0 && bits p 7 1 == 0 && bits p 12 4 == 0 && bits p 25 7 == 0 &&
         bits p 0 7 != 0 && bits p 0 7 != 0x43 && decide (bits p 0 7 < 0x60)
     | _ => false)

/-- The status that the verifier gives an image of `len` bytes (R368). -/
def verifyImage (active img : List Byte) (len : Nat) : Nat :=
  if !(img.take 4 == [0x45, 0x54, 0x46, 0x49] && imgField img 4 2 == 1 && imgField img 6 2 == 0x0102) then 2
  else if !(imageLayoutOk img len && (List.range 16).all (slotEntryOk img)) then 3
  else if !Config.patchSigned img then 4
  else if imgField img 8 4 ≤ imgField active 8 4 then 5
  else 0

/-- A firmware instruction that acts once, for the highest-numbered guard-true fibre: its entry is taken, and `act`
follows, given the entry as it will be answered. -/
def execOnce (i : Instr) (s : State) (act : Issue → Group → Wave → Nat → State → SlotOp → State) :
    Host.Outcome State Fault Refusal :=
  issueWith i s fun c G W gt =>
    let o := opndsOf i
    match o.entry.bind W.freeEntry, highest gt with
    | none, _ => .next s
    | some _, none => s.nextWave c (W.advance c)
    | some slot, some f =>
      let s1 := s.setWave c ((W.advance c).addEntry slot i c.pc [W.newAcc c o gt f 0 .sent])
      .next (act c G W f s1 { core := G.coreNo, grp := c.grp, wave := c.wave, entry := slot, fib := f })

/-- The bytes of an image as plain loads of the fibre read them: from the running Cuset image as firmware's loads do (log 24), else at
their homes; none where a load of one of them would fault, at a non-canonical address too (R181, R368). Its earlier stores have
completed and no acquire of it is outstanding when the instruction issues, so the homes hold what its loads see (R268, R282). -/
def State.loadRun (s : State) (G : Group) (va len : Nat) : Option (List Byte) :=
  (pieces (len / 64 + 2) va len).foldl (fun r p =>
    r.bind fun bs =>
      if !canonical p.1 then none
      else match (if G.firmware then s.fwBytes p.1 p.2 else none) with
        | some more => some (bs ++ more)
        | none => (s.homeRead G.asid p.1 p.2 { r := true }).toOption.map (bs ++ ·)) (some [])

/-- FCTSTG (R369): BUSY is answered at once; the image is copied now and its status answered when verification is done. -/
def execFctstg (o : Form.DAB) (s : State) : Host.Outcome State Fault Refusal :=
  execOnce (.fctstg o) s fun _ G W f t op =>
    let len := (W.read f o.b).val.toNat
    match t.facet.op with
    | some _ => t.answerOp op 1
    | none =>
      match t.loadRun G (W.readPair f o.a).toNat len with
      | none => { t with facet := { t.facet with op := some (.stage op [] 6) } }
      | some img => { t with facet := { t.facet with op := some (.stage op img (verifyImage t.facet.active img len)) } }

/-- PATCH_VERIFICATION_DONE (R369): enabled while a staging is in progress. -/
def execPatchVerificationDone (s : State) : Host.Outcome State Fault Refusal :=
  match s.facet.op with
  | some (.stage op img status) =>
    .next (State.answerOp { s with facet := { s.facet with staged := if status = 0 then img else [], op := none } } op status)
  | _ => .next s

/-- FCTACT (R370): every resident group of the module but firmware's is to be saved; the rest follows as the saves end. -/
def execFctact (o : Form.DA) (s : State) : Host.Outcome State Fault Refusal :=
  execOnce (.fctact o) s fun _ _ W f t op =>
    match t.facet.op with
    | some _ => t.answerOp op 1
    | none =>
      if t.facet.staged = [] ∨ imgField t.facet.staged 8 4 ≠ (W.read f o.a).val.toNat then t.answerOp op 2
      else
        let gs := t.groups.filterMap fun e => if e.2.firmware then none else e.2.core?.map fun c => (e.1, c)
        let t1 := gs.foldl (fun u e => u.modGroup e.1 fun G => { G with preempt := true, pinned := some (G.pinned.getD e.2) }) t
        { t1 with facet := { t1.facet with op := some (.activate op gs false) } }

/-- FCTRD (R371). -/
def execFctrd (o : Form.DA) (s : State) : Host.Outcome State Fault Refusal :=
  issueWith (.fctrd o) s fun c _ W gt =>
    let bad := gt.filter fun f => (W.read f o.a).val.toNat / 512 != 0
    if bad ≠ [] then s.raised c gt { cause := 0x07, fmask := maskOf bad }
    else
      s.nextWave c ((W.advance c).writeRegs gt [o.d] fun f =>
        let a := (W.read f o.a).val.toNat
        [⟨BitVec.ofNat 32 (slotWord (if a.testBit 8 then s.facet.staged else s.facet.active) (bits a 0 4) (bits a 4 4)), .b32⟩])

end Sys2Proof.Machine
end

