-- ==== Sys2Proof/Machine/QueueInstr.lean ====
section
/-! DEFINITION. The unmapping of queues (R384) and the meanings of the queue instructions (R396). -/
namespace Sys2Proof.Machine

/-! ## Unmapping (R384) -/

/-- The groups of a slot's launches are to be saved (R384). -/
def State.saveSlot (s : State) (k : Nat) : State :=
  (s.launchesOfSlot k).foldl (fun t id => (t.groupsOf id).foldl (fun u e => u.startSave e.1) t) s

/-- A slot is to be unmapped; `op` is the instruction that asked for it, `heir` the class that Cuset frees it for (R384, R385). -/
def State.unmapSlot (s : State) (k : Nat) (op : Option SlotOp) (heir : Option Nat) : State :=
  (s.modSlot k fun q => { q with st := .unmapping, op := op, heir := heir }).saveSlot k

/-! ## The instructions (R396) -/

/-- The address space in which a queue's descriptor address stands: that of the context that rang its doorbell, else that
of the instruction's wave (log 15). -/
def State.descAsid (s : State) (asid desc : Nat) : Nat :=
  match s.cp.seen.find? fun e => e.1 == desc with
  | some e => ((s.ctx e.2).map (·.asid)).getD asid
  | none => asid

/-- QMAP (R396); a descriptor that another slot of the die holds answers 1 (log 75). -/
def execQmap (o : Form.DAB) (s : State) : Host.Outcome State Fault Refusal :=
  execOnce (.qmap o) s fun _ G W f t op =>
    let n := (W.read f o.b).val.toNat
    let desc := (W.readPair f o.a).toNat
    let k := slotKey G.die n
    if 56 ≤ n then t.answerOp op 2
    else if (t.qslot k).st ≠ .free ∨ (t.slotOfDesc G.die desc).isSome then t.answerOp op 1
    else
      match t.readRun (t.descAsid G.asid desc) desc 64 { r := true } with
      | .error _ => t.answerOp op 4
      | .ok b =>
        if !t.descOk desc G.die b then t.answerOp op 3
        else (t.mapQueue k (t.slotFrom desc b (t.borrows G.die (hdrField b 0x21 1)))).answerOp op 0

/-- QUNMAP (R396): it completes when the slot is FREE. -/
def execQunmap (o : Form.DA) (s : State) : Host.Outcome State Fault Refusal :=
  execOnce (.qunmap o) s fun _ G W f t op =>
    let n := (W.read f o.a).val.toNat
    let q := t.qslot (slotKey G.die n)
    if 56 ≤ n then t.answerOp op 2
    else if (q.st ≠ .mapped ∧ q.st ≠ .held) ∨ q.op.isSome then t.answerOp op 1
    else t.unmapSlot (slotKey G.die n) (some op) none

/-- PREEMPT (R396): it completes when the saves or restores are done; a B that is neither 0 nor 1 answers 1 (log 75). -/
def execPreempt (o : Form.DAB) (s : State) : Host.Outcome State Fault Refusal :=
  execOnce (.preempt o) s fun _ G W f t op =>
    let n := (W.read f o.a).val.toNat
    let k := slotKey G.die n
    let q := t.qslot k
    let how := (W.read f o.b).val.toNat
    if 56 ≤ n then t.answerOp op 2
    else if q.op.isSome then t.answerOp op 1
    else if how = 0 ∧ q.st = .mapped then (t.modSlot k fun q => { q with st := .held, op := some op }).saveSlot k
    else if how = 1 ∧ q.st = .held then t.modSlot k fun q => { q with st := .mapped, op := some op }
    else t.answerOp op 1

end Sys2Proof.Machine
end

