-- ==== Sys2Proof/Machine/CoreEvents.lean ====
section
/-! DEFINITION. What a core's own units do: regroup boundaries (R37), the register pool (R34-R36), completions of loads and
stores (R182, R183, R188, R263, R265, R282), ISYNC (R145), pre-emption requests (R338). -/
namespace Sys2Proof.Machine

/-- REGROUP_BOUNDARY (R37): enabled in core cycles whose count is a multiple of 4. -/
def execRegroupBoundary (core : Nat) (s : State) : Host.Outcome State Fault Refusal :=
  if (s.core core).cycles % 4 ≠ 0 then .next s
  else .next ((s.residents core).foldl (fun t e => t.modGroup e.1 fun G =>
    { G with waves := tabMap G.waves fun w W =>
        if W.run = .running then W.regroup (s.core core).cycles (s.fibReady core e.1 w G W) else W }) s)

/-! ## The register pool (R34, R35) -/

/-- Whether a wave takes part in the test of R35: it is resident and neither parked nor being saved. -/
def takesPart (G : Group) (W : Wave) : Bool :=
  W.run == .running && !W.noUnits && !G.parked && match G.place with | .core _ => true | _ => false

/-- Whether a wave is waiting in WGROW (R35); a fibre at STEP waits in the barrier wait state (R144). -/
def Wave.waitsGrow (W : Wave) : Bool :=
  (W.live.any fun f => match (W.fib f).wait with | .wgrow _ _ => true | _ => false) &&
  W.live.all fun f => match (W.fib f).wait with
    | .wgrow _ _ | .mwaitm _ _ | .coll _ _ _ _ _ _ _ | .barrier _ _ _ | .step => true
    | _ => false

/-- The fibres of a request that still wait for it. -/
def GrowReq.waiting (r : GrowReq) (W : Wave) : List Nat :=
  r.fibres.filter fun f => match (W.fib f).wait with | .wgrow n _ => (W.fib f).isLive && n == r.n | _ => false

/-- The pending requests of a core with their fibres and units, oldest first; those of waves that do not run now are passed
over. -/
def State.pendingGrow (s : State) (core : Nat) : List (GrowReq × List Nat × Nat) :=
  (s.core core).grow.filterMap fun r =>
    match s.group r.grp, s.wave r.grp r.wave with
    | some G, some W =>
      let fs := r.waiting W
      if G.core? == some core && takesPart G W && !fs.isEmpty then
        some (r, fs, fs.foldl (fun n f => n + growNeed G.hdr.units r.n (W.fib f)) 0)
      else none
    | _, _ => none

/-- Every wave that takes part on a core is waiting in WGROW, and there is one. -/
def State.allGrow (s : State) (core : Nat) : Bool :=
  let ws := (s.residents core).flatMap fun e => (e.2.liveWaves.filter fun w => takesPart e.2 w.2).map (·.2)
  !ws.isEmpty && ws.all Wave.waitsGrow

/-- The request that may be granted now: the oldest, if it fits; in the case of R34 step 4, the oldest that fits. -/
def State.grantable (s : State) (core : Nat) : Option (GrowReq × List Nat × Nat) :=
  match s.pendingGrow core with
  | [] => none
  | x :: xs =>
    if x.2.2 ≤ s.poolFree core then some x
    else if s.allGrow core then xs.find? fun y => decide (y.2.2 ≤ s.poolFree core)
    else none

/-- Requests of a core that no fibre waits for any more are gone. -/
def State.pruneGrow (s : State) (core : Nat) : State :=
  s.modCore core fun C => { C with grow := C.grow.filter fun r => match s.wave r.grp r.wave with
    | some W => !(r.waiting W).isEmpty
    | none => false }

/-- WGROW_GRANT (R34). -/
def execWgrowGrant (core : Nat) (s : State) : Host.Outcome State Fault Refusal :=
  match s.grantable core with
  | none => .next s
  | some (r, fs, _) =>
    let s1 := s.modWave r.grp r.wave fun W =>
      (fs.foldl (fun X f => X.modFib f fun F => { F with wait := .none }) (W.grow r.n fs)).noteReleased fs
    .next (s1.pruneGrow core)

/-- The order in which R35 chooses a wave: class, admission time, wave slot, the greatest first. -/
def growRank (e : Nat × Group) (w : Nat × Wave) : List Nat := [e.2.cls, w.2.admitted, w.2.slot, e.1]

/-- The greatest of a list by rank. -/
def greatestBy {α : Type} (rank : α → List Nat) : List α → Option α
  | [] => none
  | x :: xs => match greatestBy rank xs with
    | none => some x
    | some y => if keysBelow (rank y) (rank x) then some x else some y

/-- The fibres of a wave that wait in WGROW stand at that instruction again, so that it executes afresh. -/
def Wave.undoGrow (W : Wave) : Wave :=
  W.live.foldl (fun X f => match (X.fib f).wait with
    | .wgrow _ a => X.modFib f fun F => { F with pc := a, wait := .none }
    | _ => X) W

/-- REG_POOL_DEADLOCK (R35): one wave parks, its register units return to the pool. Of a mirror pair only the chosen core's wave
gives its units up. A core cycle in which units were freed, free only from the next one on (R34), makes no test, so that one wave
parks and R34 is applied again before another may (log 66). -/
def execRegPoolDeadlock (core : Nat) (s : State) : Host.Outcome State Fault Refusal :=
  let ps := s.pendingGrow core
  if decide (0 < (s.core core).freed) || !s.allGrow core || ps.any fun x => decide (x.2.2 ≤ s.poolFree core) then .next s
  else
    let cands := (s.residents core).flatMap fun e => (e.2.liveWaves.filter fun w => takesPart e.2 w.2).map fun w => (e, w)
    match greatestBy (fun x => growRank x.1 x.2) cands with
    | none => .next s
    | some ((g, G), (w, W)) =>
      let fs := W.live.filter fun f => match (W.fib f).wait with | .wgrow _ _ => true | _ => false
      let at_ := match fs with | f :: _ => (match (W.fib f).wait with | .wgrow _ a => a | _ => 0) | [] => 0
      let w0 := match s.fetchWord core G.asid at_.toNat with | .ok v => v | .error _ => 0
      let c : Issue := { grp := g, wave := w, fibres := fs, pc := at_, w0 := w0, w1 := 0 }
      let s1 := ((s.giveBack g (W.units G.hdr.units)).pairOf g).foldl (fun t h => t.modWave h w Wave.undoGrow)
        (s.giveBack g (W.units G.hdr.units))
      let s2 := s1.takeFault c { cause := 0x40, fmask := maskOf fs } false (maskOf fs) .none
      .next ((s2.modWave g w fun W => { W with noUnits := true }).pruneGrow core)

/-! ## Completions (R182, R183, R188, R263, R265) -/

/-- A message may be taken only if no earlier one of the same sender or of the same line travels to the same core, and its way back is
open (R15, R293, R447). -/
def State.msgAt (s : State) (k : Nat) : Option Msg :=
  match s.msgs[k]? with
  | none => none
  | some m =>
    if (s.msgs.take k).any fun x => x.core == m.core && ((x.asid == m.asid && x.line == m.line) || (x.src == m.src && m.src.isSome)) then none
    else if m.src.all (s.wayOpen · m.core) then some m
    else none

/-- A message taken. -/
def State.tookMsg (s : State) (k : Nat) : State := { s with msgs := s.msgs.eraseIdx k }

/-- The cores that make the acquire invalidation when an access of a group completes: its own, and the twin's where the pair makes the
access once (R53, R266). -/
def State.acquireFor (s : State) (g core : Nat) (i : Instr) : State :=
  let t := s.acquire core
  match (s.group g).bind (·.twin) with
  | some (p, false) => if suppressedInTwin i then (match (s.group p).bind Group.core? with | some c => t.acquire c | none => t) else t
  | _ => t

/-- The line of a load's data goes into the core's L1: its words but those that a store, a revoke or an acquire has passed since
the load issued become VALID; a word that is VALID already takes the newer data unless it is OWNED (R268, log 64). An `.inv` load marks
the line; a plain load clears the mark, and words that it does not bring and the core does not own leave a marked line with it (R263,
R265, log 64). -/
def Core.fill (C : Core) (key : Nat) (ws : List Word) (inv : Bool) (skip : Nat) : Core :=
  let old := (tabGet C.l1 key).getD { inv := inv, valid := 0, owned := 0, words := List.replicate 16 0 }
  let take := fun i => !(old.valid.testBit i && old.owned.testBit i) && !skip.testBit i
  let keeps := fun i => old.valid.testBit i && (!old.inv || inv || old.owned.testBit i)
  let l : L1Line :=
    { inv := inv, valid := (List.range 16).foldl (fun v i => if take i || keeps i then v ||| 2 ^ i else v) 0, owned := old.owned,
      words := (List.range 16).map fun i => if take i then ws.getD i 0 else old.words.getD i 0 }
  if l.valid = 0 then { C with l1 := tabErase C.l1 key } else { C with l1 := tabSet C.l1 key l }

/-- A load's data complete one fibre's access; `.acq` reads are acquire points (R266, R282). -/
def State.loadData (s : State) (m : Msg) (victim : Nat) : State :=
  match s.wave m.grp m.wave with
  | none => s
  | some W =>
    match tabGet W.sb m.slot, W.acc m.slot m.fib with
    | some e, some a =>
      let done := fun (t : State) (bs : List Byte) (p : Option Bool) =>
        let vals := match memForm e.instr with | some f => loadValues f.act bs | none => (lineWords bs).map fun w => ⟨w, .b32⟩
        let u := t.completeAcc m.grp m.wave m.slot m.fib vals p
        if acquiring e.instr then u.acquireFor m.grp m.core e.instr else u
      match m.body with
      | .data bs line inv =>
        let key := m.asid * 2 ^ 50 + m.line
        let t := match line with
          | some ws => s.modCore m.core fun C =>
              Core.fill (if victim ≠ key then { C with l1 := tabErase C.l1 victim } else C) key ws inv a.skip
          | none => s
        done t bs (some true)
      | .value ws => done s (lineBytes ws) none
      | .absent => s.completeAcc m.grp m.wave m.slot m.fib (match memForm e.instr with
          | some f => loadValues f.act (List.replicate f.size 0)
          | none => []) (some false)
      | .popped v =>
        let t := s.completeAcc m.grp m.wave m.slot m.fib [⟨v.getD 0, .b32⟩] (some v.isSome)
        if v.isSome then t.acquireFor m.grp m.core e.instr else t
      | .status code => s.completeAcc m.grp m.wave m.slot m.fib [⟨BitVec.ofNat 32 code, .n32⟩] none
      | .resident => s.completeAcc m.grp m.wave m.slot m.fib [] none
      | .fault cause => s.lateFault m.grp m.wave m.slot m.fib cause
      | .returned => s.modWave m.grp m.wave fun W => W.modAcc m.slot m.fib fun a => { a with st := .returned }
      | .ack _ | .ackWord _ => s.completeAcc m.grp m.wave m.slot m.fib [] none
      | .revoke _ => s
    | _, _ => s

/-- Whether a message is a response to an access of a load entry, and no revoke. -/
def Msg.isLoad (m : Msg) : Bool := decide (m.slot < 16) && match m.body with | .revoke _ => false | _ => true

/-- Whether a message is a response to an access of a store entry, and no revoke. -/
def Msg.isStore (m : Msg) : Bool := decide (16 ≤ m.slot) && match m.body with | .revoke _ => false | _ => true

/-- LOAD_COMPLETE (R182): message `k` is a load's response; `victim` is the L1 line that gives way to its line. -/
def execLoadComplete (k victim : Nat) (s : State) : Host.Outcome State Fault Refusal :=
  match s.msgAt k with
  | some m => if m.isLoad then .next ((s.tookMsg k).loadData m victim) else .next s
  | none => .next s

/-- An owned ACK makes the words of a store that are VALID in the L1 OWNED (R265). -/
def Core.own (C : Core) (key va size : Nat) : Core :=
  { C with l1 := tabMod C.l1 key fun l =>
      { l with owned := (touched va size).foldl (fun o w => if l.valid.testBit w then o ||| 2 ^ w else o) l.owned } }

/-- The bytes of a word as an owned ACK brings it: the slice's, but those that accesses of the core on their way to the line write, which
the L1 has of them (log 10). -/
def ackedWord (old new : Word) (word : Nat) (onWay : List (Nat × Nat)) : Word :=
  BitVec.ofNat 32 (leNat ((List.range 4).map fun b =>
    let at_ := 4 * word + b
    let mine := onWay.any fun x => decide (x.1 % 64 ≤ at_) && decide (at_ < x.1 % 64 + x.2)
    ((natBytes 4 (if mine then old else new).toNat).getD b 0)))

/-- The owned ACK of a store of one or two bytes makes its word, if it is VALID in the L1, OWNED as the slice has it (R265, log 10). -/
def Core.ownWord (C : Core) (key va : Nat) (new : Word) (onWay : List (Nat × Nat)) : Core :=
  let i := va % 64 / 4
  { C with l1 := tabMod C.l1 key fun l =>
      if l.valid.testBit i then
        { l with owned := l.owned ||| 2 ^ i, words := l.words.mapIdx fun j v => if j = i then ackedWord v new i onWay else v }
      else l }

/-- A store that was not performed leaves no word in the core's L1 (R183, R334). -/
def State.unstore (s : State) (m : Msg) (e : Entry) (a : Acc) : State :=
  match memForm e.instr with
  | some f => if f.act.stores then
      s.modCore m.core fun C => C.l1DropAll (m.asid * 2 ^ 50 + m.line) (touched a.va.toNat f.size) else s
  | none => s

/-- The answer to an access of a store entry (R182). -/
def State.storeAnswer (s : State) (m : Msg) : State :=
  match s.wave m.grp m.wave with
  | none => s
  | some W =>
    match tabGet W.sb m.slot, W.acc m.slot m.fib with
    | some e, some a =>
      match m.body with
      | .fault cause => (s.unstore m e a).lateFault m.grp m.wave m.slot m.fib cause
      | .returned => (s.unstore m e a).modWave m.grp m.wave fun W => W.modAcc m.slot m.fib fun a => { a with st := .returned }
      | .ack true =>
        let size := match memForm e.instr with | some f => f.size | none => 4
        let t := s.modCore m.core fun C => C.own (m.asid * 2 ^ 50 + m.line) a.va.toNat size
        t.completeAcc m.grp m.wave m.slot m.fib [] none
      | .ackWord v =>
        let t := s.completeAcc m.grp m.wave m.slot m.fib [] none
        t.modCore m.core fun C => C.ownWord (m.asid * 2 ^ 50 + m.line) a.va.toNat v (t.writesOnWay m.core m.asid m.line)
      | _ =>
        let t := s.completeAcc m.grp m.wave m.slot m.fib [] none
        if acquiring e.instr then t.acquireFor m.grp m.core e.instr else t
    | _, _ => s

/-- STORE_COMPLETE (R182): message `k` is a store's, a reduction's or a drop's response. -/
def execStoreComplete (k : Nat) (s : State) : Host.Outcome State Fault Refusal :=
  match s.msgAt k with
  | some m => if m.isStore then .next ((s.tookMsg k).storeAnswer m) else .next s
  | none => .next s

/-! ## ISYNC (R145) -/

/-- Whether every earlier store, atomic and reduction of a fibre has completed. -/
def Wave.writesDone (W : Wave) (age f : Nat) : Bool :=
  (W.olderWaits age f).all fun x => match memForm x.1.instr with
    | some m => (match m.act with
      | .store | .narrowStore | .storeRel | .atom _ _ _ | .red _ _ => false
      | _ => true)
    | none => true

/-- Whether a line of an instruction cache overlaps a range under an ASID; a range of no bytes overlaps none (R145). -/
def icacheHit (asid va len key : Nat) : Bool :=
  let line := key % 2 ^ 50 * 64
  decide (0 < len) && key / 2 ^ 50 == asid && decide (line < va % 2 ^ 56 + len) && decide (va % 2 ^ 56 < line + 64)

/-- Instruction-cache lines of every core that overlap a range go. -/
def State.dropIcache (s : State) (asid va len : Nat) : State :=
  { s with cores := s.cores.filterMap fun e =>
      let C := { e.2 with icache := e.2.icache.filter fun l => !icacheHit asid va len l.1 }
      if C = Core.empty then none else some (e.1, C) }

/-- ISYNC_COMPLETE (R145): enabled once every earlier store of its fibres has completed. -/
def execIsyncComplete (grp wave slot : Nat) (s : State) : Host.Outcome State Fault Refusal :=
  match s.group grp, s.wave grp wave with
  | some G, some W =>
    match tabGet W.sb slot with
    | some e =>
      match e.instr with
      | .isync _ =>
        if G.core?.isNone || W.run != .running || !(e.accs.all fun a => W.writesDone e.age a.fib) then .next s
        else
          let s1 := e.accs.foldl (fun t a => t.dropIcache G.asid a.va.toNat ((a.data.getD 0 0).toNat)) s
          .next (e.accs.foldl (fun t a => t.completeAcc grp wave slot a.fib [] none) s1)
      | _ => .next s
    | none => .next s
  | _, _ => .next s

/-- PREEMPT_REQUEST (R338): the waves of a group and its twin stop at their next issue slots and drain. A wave with fibres
in facet context stops once they have returned (R365). A firmware group is not pre-empted. -/
def execPreemptRequest (grp : Nat) (s : State) : Host.Outcome State Fault Refusal :=
  .next ((s.pairOf grp).foldl (fun t g => t.modGroup g fun G =>
    match G.place with
    | .core c => if G.firmware then G else { G with place := .saving c, preempt := true }
    | _ => G) s)

end Sys2Proof.Machine
end

