-- ==== Sys2Proof/Machine/MatrixEvents.lean ====
section
/-! DEFINITION. What the matrix engines do: the grant of passes, their fetch, check and commit (R223-R225, R230-R243, R252), the other
tile operations (R246-R249), and what a save and a restore do with passes (R254). -/
namespace Sys2Proof.Machine

/-! ## Eligibility (R223-R225) -/

/-- The passes of the module that stand in an engine, with quad and entry. -/
def State.passes (s : State) : List (Nat × Nat × Pass) :=
  s.eng.matrix.flatMap fun m => if m.1 = savedPasses then [] else m.2.entries.map fun p => (m.1, p.1, p.2)

/-- A pass is granted and has neither committed nor been discarded. -/
def Pass.holds (p : Pass) : Bool := p.st == .granted || p.st == .committing

/-- Whether a pass is eligible for a grant (R223, R254). -/
def State.passEligible (s : State) (p : Pass) : Bool :=
  p.st == .reserved &&
  (match s.group p.grp with | some G => (match G.place with | .core _ => true | _ => false) | none => false) &&
  s.passes.all fun x =>
    let q := x.2.2
    !(q.grp == p.grp && q.wave == p.wave && decide (q.order < p.order) && q.st == .reserved) &&
    !(q.grp == p.grp && q.tile == p.tile && q.holds) &&
    !(q.grp == p.grp && q.wave == p.wave && decide (q.order < p.order) && q.tile == p.tile && q.st == .parked)

/-- The rank of a pass: smaller numbers first (R224). Reservations of one core cycle are equally early. -/
def State.passRank (s : State) (p : Pass) : List Nat :=
  [if 64 ≤ p.passedOver then 0 else 1, if 64 ≤ p.passedOver then 2 ^ 32 - p.passedOver else 0,
   ((s.group p.grp).map (·.cls)).getD 8, p.at_, quadLocal p.core, p.order]

/-- The highest-ranked of an engine's eligible passes. -/
def State.bestPass (s : State) : List (Nat × Pass) → Option (Nat × Pass)
  | [] => none
  | x :: xs => match State.bestPass s xs with
    | none => some x
    | some y => if keysBelow (s.passRank y.2) (s.passRank x.2) then some y else some x

/-! ## The grant and the fetch (R224, R230-R234, R242, R252) -/

/-- A pass that faults is parked alone; `which` is the faulting read, `more` the words that TILE_RESIDUE adds (R252, R324). -/
def State.parkPass (s : State) (q e cause va which : Nat) (more : List Nat) : State :=
  match tabGet (s.matrix q).entries e with
  | none => s
  | some p =>
    let W := s.wave p.grp p.wave
    let ent := W.bind fun W => tabGet W.sb p.slot
    let words := (ent.bind fun e => encode e.instr).getD (0, none)
    let G := s.group p.grp
    let last := [p.tile + which * 2 ^ 8 + q * 2 ^ 16] ++ more
    let tail := (p.blk.take 16 ++ p.kp.take 4 ++ last.map (BitVec.ofNat 32)).mapIdx fun i v => (32 + i, v)
    let x : Subject :=
      { of := .pass q e, cause := cause, late := false, die := dieOf p.core, ctx := (G.map (·.ctx)).getD 0,
        asid := (G.map (·.asid)).getD 0, gid := (G.map (·.gid)).getD 0, grp := p.grp, wave := p.wave, core := p.core,
        fpc := (ent.map (·.pc.toNat)).getD 0, va := va, tdet := s.ticks, fmask := maskOf [p.fib],
        gmask := (ent.map fun e => maskOf (e.accs.map (·.fib))).getD 0, w0 := words.1, w1 := words.2.getD 0, exc := [],
        detail := 0, bundle := 0, len := 0, move := .none, tail := tail.filter fun t => t.2 != 0 }
    (s.modPass q e fun p => { p.dropped with st := .parked }).detect (dieOf p.core) x

/-- The lines' pieces that a memory operand reads. -/
def Operand.runs (o : Operand) : List (Nat × Nat) :=
  if o.src = 0 then (List.range o.rows).flatMap fun i => pieces (o.words / 16 + 3) (o.addr + i * o.rp) (4 * o.words) else []

/-- The pieces that a block's metadata reads. -/
def Block.metaRuns (b : Block) : List (Nat × Nat) :=
  if b.sp = 0 then [] else (List.range b.rows).flatMap fun i => pieces (b.k / 12 + 3) (b.maddr + i * b.mrp) (2 * (b.k / 12))

/-- Whether the home slice holds a line: the read of it is on time (R242). -/
def State.lineHeld (s : State) (asid va : Nat) : Bool :=
  match s.locate asid va { r := true } with
  | .line _ _ => true
  | .phys pa _ => (tabGet (s.slice (paHome pa)).plines (pa / 64)).isSome
  | _ => true

/-- The cause of an error that strikes an operand's data (R252): a core's pool for a scratchpad operand, a register operand's
captured data among it. -/
def State.operandEcc (s : State) (asid va : Nat) (o : Operand) : Nat × Nat := if o.src = 0 then (s.eccAt asid va, va) else (0x30, 0)

/-- The operands of a pass fetched, or the cause, the address and which read faulted: of several the first of A, B and metadata; scales
are read after all of them (R252, log 69). -/
def State.fetchPass (s : State) (G : Group) (p : Pass) (ecc : Option (Nat × Nat)) :
    Except (Nat × Nat × Nat) (Tab Word × Tab Word × Tab Word) :=
  let b := blockOf p.blk
  let err := fun (o : Operand) (which : Nat) => match ecc with
    | some (w, va) => if w = which then some (s.operandEcc G.asid va o) else none
    | none => none
  match s.fetchOperand G G.asid b.opA (capturedPair p.kp 0) p.capA, err b.opA 0 with
  | .error (c, va), _ => .error (c, va, 0)
  | .ok _, some (c, va) => .error (c, va, 0)
  | .ok a, none =>
    match s.fetchOperand G G.asid b.opB (capturedPair p.kp 1) p.capB, err b.opB 1 with
    | .error (c, va), _ => .error (c, va, 1)
    | .ok _, some (c, va) => .error (c, va, 1)
    | .ok bb, none =>
      match s.fetchMeta G.asid b, err { b.opA with src := 0 } 4 with
      | .error (c, va), _ => .error (c, va, 4)
      | .ok _, some (c, va) => .error (c, va, 4)
      | .ok m, none => .ok (a, bb, m)

/-! ## Scales and late items (R235, R236, R242) -/

/-- The pass of an engine in a state that was granted first. -/
def Matrix.oldest (M : Matrix) (ok : Pass → Bool) : Option (Nat × Pass) :=
  (M.entries.filter fun e => ok e.2).foldl (fun (r : Option (Nat × Pass)) e =>
    match r with
    | some x => if e.2.turn < x.2.turn then some e else r
    | none => some e) none

/-- The scale lines of a granted pass that neither it nor the engine's cache has, with the read they belong to: 2 A scale, 3 B scale. -/
def Matrix.scaleMisses (M : Matrix) (asid : Nat) (p : Pass) : List (Nat × Nat) :=
  let l := scaleLines (blockOf p.blk) p.meta_
  (l.1.map (fun va => (va, 2)) ++ l.2.map (fun va => (va, 3))).filter fun x => (M.scaleLine asid x.1 p).isNone

/-- The ASID of a pass's group. -/
def State.passAsid (s : State) (p : Pass) : Nat := ((s.group p.grp).map (·.asid)).getD 0

/-- The pass granted first, if it misses a scale line. -/
def State.scaleLate (s : State) (quad : Nat) : Option (Nat × Pass) :=
  ((s.matrix quad).oldest fun p => p.st == .granted).filter fun e => !((s.matrix quad).scaleMisses (s.passAsid e.2) e.2).isEmpty

/-- Whether an engine's clock runs: its die is not in state 3 (R445). -/
def State.mxRuns (s : State) (quad : Nat) : Bool := s.dieClock (quad / 9) != 3

/-- A late item stalls the whole engine: a word or a tile read that is on its way, or a scale line that the pass in the array misses
(R242). -/
def State.mxStalled (s : State) (quad : Nat) : Bool := ((s.matrix quad).entries.any fun e => e.2.late) || (s.scaleLate quad).isSome

/-- Lines that a scale cache holds (09). -/
def scaleCap : Nat := 256

/-- A line put into a scale cache, in the place of the line that `victim` picks if the cache is full. -/
def Matrix.fillScale (M : Matrix) (key victim : Nat) (bs : List Byte) : Matrix :=
  let l := if M.scale.length < scaleCap then M.scale else M.scale.eraseIdx (victim % M.scale.length)
  { M with scale := tabSet l key bs }

/-- SCALE_LINE_FILL (R235): the line that the first granted pass misses comes from its home slice into the cache and to the pass. A fault
is recorded with the line's address (R252, log 69). -/
def execScaleLineFill (quad victim : Nat) (ecc : Bool) (s : State) : Host.Outcome State Fault Refusal :=
  match (s.scaleLate quad).filter fun _ => s.mxRuns quad with
  | none => .next s
  | some (k, p) =>
    let asid := s.passAsid p
    match (s.matrix quad).scaleMisses asid p with
    | [] => .next s
    | (va, which) :: _ =>
      if s.homeBusy asid va 64 then .next s
      else match s.homeRead asid va 64 { r := true } with
        | .error c => .next (s.parkPass quad k c va which [])
        | .ok bs =>
          if ecc then .next (s.drawn.parkPass quad k (s.eccAt asid va) va which [])
          else .next ((s.modMatrix quad fun M => M.fillScale (lineKey asid va) victim bs).modPass quad k fun p =>
            { p with scale := tabSet p.scale (lineKey asid va) bs })

/-! ## The grant (R224) -/

/-- A power command that gates a quad's engine and has not taken effect yet: the engine grants nothing more (R446). -/
def State.gatePending (s : State) (quad : Nat) : Bool :=
  match s.pw.cmd with
  | some v => !s.pw.applied && bits v 0 2 == 1 && bits v 8 8 == quad && bits v 16 2 == 1
  | none => false

/-- What the checks of R228 find of a pass that a disposition let run again, before it makes any read (R253). -/
def State.recheckPass (s : State) (G : Group) (p : Pass) : Option Nat :=
  if p.recheck then s.blockFault p.grp G none p.blk p.kp else none

/-- PASS_GRANT (R224): the best eligible pass is granted and its operands are fetched. A pass that faults is parked. The engine holds
one pass in each of fetch, array and check; a late item stops every stage (R242). The tile and the scratchpad operands of a redirected
pass are asked for at the mailbox slice (R295). `ecc` names an operand, 0 A, 1 B, 4 metadata, and
an address whose data have an uncorrectable error. -/
def execPassGrant (quad : Nat) (ecc : Option (Nat × Nat)) (s : State) : Host.Outcome State Fault Refusal :=
  let M := s.matrix quad
  let can := M.entries.filter fun e => s.passEligible e.2
  if M.gated ∨ s.gatePending quad ∨ !s.mxRuns quad ∨ s.mxStalled quad ∨ 3 ≤ (M.entries.filter fun e => e.2.st == .granted).length ∨ 108 ≤ quad then .next s
  else match s.bestPass can with
    | none => .next s
    | some (k, p) =>
      match s.group p.grp with
      | none => .next s
      | some G =>
        let b := blockOf p.blk
        let runs := b.opA.runs ++ b.opB.runs ++ b.metaRuns
        if runs.any fun r => s.homeBusy G.asid r.1 r.2 then .next s
        else
          let s1 := s.modMatrix quad fun M =>
            { M with entries := tabMap M.entries fun j q =>
                if j ≠ k ∧ (can.any fun e => e.1 == j) then { q with passedOver := q.passedOver + 1 } else q }
          let s2 := { s1 with eng := { s1.eng with nextPass := s.eng.nextPass + 1 } }
          match s.recheckPass G p, s2.fetchPass G p ecc with
          | some c, _ => .next (s2.parkPass quad k c 0 5 [])
          | none, .error (c, va, which) => .next (s2.drawn.parkPass quad k c va which [])
          | none, .ok (a, bb, m) =>
            let late := p.redirected || runs.any fun r => !s.lineHeld G.asid r.1
            let s3 := s2.modPass quad k fun p =>
              { p with st := .granted, turn := s.eng.nextPass, passedOver := 0, late := late, opA := a, opB := bb, meta_ := m,
                       recheck := false, path := if p.redirected then .reading else .direct, tileIn := none }
            .next (if p.redirected then s3.sendPass quad s.eng.nextPass p G false else s3)

/-- LATE_ITEM_ARRIVAL (R242): the late item of the pass granted first arrives, of a redirected pass after the mailbox has served its
read (R295). -/
def execLateItemArrival (quad : Nat) (s : State) : Host.Outcome State Fault Refusal :=
  match (s.matrix quad).oldest (·.late) with
  | some (k, p) => if p.path = .reading ∨ !s.mxRuns quad then .next s else .next (s.modPass quad k fun p => { p with late := false })
  | none => .next s

/-! ## Check and commit (R237-R241, R243, R255) -/

/-- PASS_RESIDUE_CHECK (R237-R241): the oldest granted pass, its operands and scales at hand, is computed and checked; `err` are the
errors of the array. -/
def execPassResidueCheck (quad : Nat) (err : List ArrayError) (s : State) : Host.Outcome State Fault Refusal :=
  let M := s.matrix quad
  match M.oldest fun p => p.st == .granted with
  | none => .next s
  | some (k, p) =>
    match s.group p.grp with
    | none => .next s
    | some G =>
      if s.mxStalled quad ∨ !s.mxRuns quad then .next s
      else
        let b := blockOf p.blk
        let outs := mxOutputs M G.asid G.hdr.level b p (p.tileOf G)
        let array := outs err
        match failing b array (outs []) with
        | some (col, i, ra, re) => .next (s.parkPass quad k 0x39 0 5 [(if col then 128 else 0) + i, ra, re])
        | none =>
          let st : Staged :=
            { elems := array.map fun o => (128 * o.row + o.col, BitVec.ofNat 32 o.val),
              exc := array.foldl (fun e o => e ||| o.exc) excNone, sig := sigOf array }
          .next (s.modPass quad k fun p => { p with st := .committing, staged := some st })

/-- PASS_COMMIT_DONE (R243): the oldest checked pass commits; a redirected one sends its values to the mailbox slice, which writes them
(R295). -/
def execPassCommitDone (quad : Nat) (s : State) : Host.Outcome State Fault Refusal :=
  let M := s.matrix quad
  match M.oldest fun p => p.st == .committing && p.path != .storing with
  | none => .next s
  | some (k, p) =>
    match p.staged, s.group p.grp with
    | some x, some G =>
      if s.mxStalled quad ∨ !s.mxRuns quad then .next s
      else if p.redirected then .next ((s.modPass quad k fun p => { p with path := .storing }).sendPass quad p.turn p G true)
      else .next (s.commitPass quad k p x)
    | _, _ => .next s

/-! ## The other tile operations (R225, R246-R249) -/

/-- The tile that an index of MXRD or MXWR names (R247). -/
def indexTile (w : Word) : Nat := bits w.toNat 14 4

/-- The tiles that a tile-operation entry names: of a primary's MXGO, those of its passes. -/
def State.entryTiles (s : State) (g w slot : Nat) (e : Entry) : List Nat :=
  match e.instr with
  | .mxgo _ => (s.eng.matrix.flatMap fun m => m.2.entries.filterMap fun p =>
      if p.2.grp = g ∧ p.2.wave = w ∧ p.2.slot = slot then some p.2.tile else none)
  | .mxclr o => (List.range 16).filter fun t => o.tm.testBit t
  | .mxrd _ | .mxwr _ => e.accs.map fun a => indexTile (a.data.getD 0 0)
  | _ => []

/-- The primary of a group's pair, the group itself without a twin. -/
def primaryOf (g : Nat) (G : Group) : Nat := match G.twin with | some (p, true) => p | _ => g

/-- Whether an earlier tile operation of the wave names one of the tiles; MXGO entries of a twin are its primary's. -/
def State.earlierTile (s : State) (g w : Nat) (G : Group) (W : Wave) (age : Nat) (ts : List Nat) : Bool :=
  W.sb.any fun e =>
    decide (40 ≤ e.1) && decide (e.1 < 48) && decide (e.2.age < age) &&
    let p := primaryOf g G
    let slot := ((s.wave p w).bind fun X => (X.sb.find? fun y => y.2.age == e.2.age).map (·.1)).getD e.1
    (s.entryTiles p w slot e.2).any ts.contains

/-- Whether a pass holds an operation on tiles: MXRD during the commit only (R225). -/
def State.tileHeld (s : State) (g : Nat) (reads : Bool) (ts : List Nat) : Bool :=
  s.passes.any fun x => x.2.2.grp == g && ts.contains x.2.2.tile && (if reads then x.2.2.st == .committing else x.2.2.holds)

/-- The four elements that an index names. -/
def Tile.four (T : Tile) (w : Word) : List Tagged :=
  (List.range 4).map fun i => ⟨tabVal 0 T.elems (128 * bits w.toNat 7 7 + bits w.toNat 0 7 + i), T.tag⟩

/-- An entry's parts all done in a wave and, for an operation that the primary performs for both, in its twin's. -/
def State.endTileOp (s : State) (g w age : Nat) : State :=
  (s.pairOf g).foldl (fun t h => t.modWave h w fun W => match W.sb.find? fun e => e.2.age == age with
    | some e => e.2.accs.foldl (fun X a => X.modAcc e.1 a.fib fun a => { a with st := .done }) W
    | none => W) s

/-- What MXCLR, MXWR and MXSC do to the twins' tiles and to the quad (R246-R248, R255). -/
def State.tileEffect (s : State) (g : Nat) (G : Group) (e : Entry) : State :=
  let both := fun (f : Group → Group) => (s.pairOf g).foldl (fun t h => t.modGroup h f) s
  match e.instr with
  | .mxclr o => both fun G => ((List.range 16).filter fun t => o.tm.testBit t).foldl (fun H t => H.modTile t fun _ => ⟨.f32, []⟩) G
  | .mxwr _ => both fun G => e.accs.foldl (fun H a =>
      let i := a.data.getD 0 0
      H.modTile (indexTile i) fun T =>
        { tag := .f32, elems := ((List.range 4).foldl (fun t j =>
            tabPut 0 t (128 * bits i.toNat 7 7 + bits i.toNat 0 7 + j) (a.data.getD (1 + j) 0)) T.elems) }) G
  | .mxsc _ => e.accs.foldl (fun t a =>
      t.dropScale (quadOf G.coreNo) G.asid (pair (a.data.getD 0 0) (a.data.getD 1 0)).toNat (a.data.getD 2 0).toNat) s
  | _ => s

/-- TILE_OPERATION_COMPLETE (R225, R245-R248): each twin's MXRD reads its own tiles, the others act once, for the primary (R255). -/
def execTileOperationComplete (grp wave slot : Nat) (s : State) : Host.Outcome State Fault Refusal :=
  match s.group grp, s.wave grp wave with
  | some G, some W =>
    match tabGet W.sb slot, G.core? with
    | some e, some _ =>
      if slot < 40 ∨ 48 ≤ slot ∨ !s.mxRuns (quadOf G.coreNo) then .next s
      else
        let ts := s.entryTiles grp wave slot e
        match e.instr with
        | .mxrd _ =>
          if s.earlierTile grp wave G W e.age ts ∨ s.tileHeld (primaryOf grp G) true ts then .next s
          else .next (s.modWave grp wave fun W =>
            (e.accs.filter fun a => a.st == .sent).foldl (fun X a => X.complete slot a.fib ((G.tile (indexTile (a.data.getD 0 0))).four (a.data.getD 0 0)) none) W)
        | .mxclr _ | .mxwr _ | .mxsc _ =>
          if G.isTwin ∨ s.earlierTile grp wave G W e.age ts ∨ s.tileHeld grp false ts then .next s
          else .next ((s.tileEffect grp G e).endTileOp grp wave e.age)
        | _ => .next s
    | _, _ => .next s
  | _, _ => .next s

/-- The scale that the histogram unit chooses for a block of words (R249). -/
def histScale (vs : List Word) (ctl : Word) (level : Nat) : Nat :=
  let xs := vs.filterMap fun v => f32Log v level
  let mx : Int := if ctl.getLsbD 24 then 8 else 12
  match kthLargest xs (xs.length * bits ctl.toNat 16 8 / 256) with
  | none => 127
  | some t => (min (max (t + 1 - mx + 127) 0) 254).toNat

/-- MXHIST_SERVE (R249): the unit serves its oldest request, reading the block now; both twins receive the scale (R255). -/
def execMxhistServe (quad : Nat) (s : State) : Host.Outcome State Fault Refusal :=
  match if s.mxRuns quad then (s.matrix quad).hist else [] with
  | [] => .next s
  | r :: rest =>
    let s1 := s.modMatrix quad fun M => { M with hist := rest }
    match s.group r.grp, (s.wave r.grp r.wave).bind fun W => tabGet W.sb r.slot with
    | some G, some e =>
      let v := histScale (G.scrWords r.off (bits r.ctl.toNat 0 16 + 1)) r.ctl G.hdr.level
      .next ((s.pairOf r.grp).foldl (fun t h => t.modWave h r.wave fun W => match W.sb.find? fun x => x.2.age == e.age with
        | some x => W.complete x.1 r.fib [⟨BitVec.ofNat 32 v, .e8x4⟩] none
        | none => W) s1)
    | _, _ => .next s1

/-! ## Uncorrectable errors of tiles (R12, R252, R321, log 42) -/

/-- A tile is read with an uncorrectable error: the pass that the engine checks next parks alone; an MXRD, or an MXHIST that the unit
serves next, ends in a late fault of the fibre, all with ECC_POOL. -/
def State.strikeTile (s : State) (x : Strike) : State :=
  match x with
  | .pass quad => match (s.matrix quad).oldest fun p => p.st == .granted with
    | some (k, _) => if s.mxStalled quad ∨ !s.mxRuns quad then s else s.parkPass quad k 0x30 0 5 []
    | none => s
  | .tiles g w slot f => match s.group g, s.wave g w with
    | some G, some W => match tabGet W.sb slot, W.acc slot f with
      | some e, some a =>
        if a.st ≠ .sent ∨ !s.mxRuns (quadOf G.coreNo) then s
        else match e.instr with
          | .mxrd _ =>
            let ts := s.entryTiles g w slot e
            if s.earlierTile g w G W e.age ts ∨ s.tileHeld (primaryOf g G) true ts then s else s.lateFault g w slot f 0x30
          | .mxhist _ => match (s.matrix (quadOf G.coreNo)).hist with
            | r :: rest =>
              if r.grp = g ∧ r.wave = w ∧ r.slot = slot ∧ r.fib = f then
                (s.modMatrix (quadOf G.coreNo) fun M => { M with hist := rest }).lateFault g w slot f 0x30
              else s
            | [] => s
          | _ => s
      | _, _ => s
    | _, _ => s
  | _ => s

/-! ## Saves and restores (R254) -/

/-- What the engines do with a group's passes at its save (R254): checked ones commit, the others but parked ones are withdrawn;
requests to the histogram unit leave it. -/
def State.withdrawPasses (s : State) (g : Nat) : State :=
  let s1 := s.passes.foldl (fun t x =>
    let p := x.2.2
    if p.grp ≠ g then t
    else match p.st, p.staged with
      | .committing, some y => t.commitPass x.1 x.2.1 p y
      | .parked, _ => t
      | _, _ => t.movePass x.1 x.2.1 savedPasses
          { p.dropped with st := .reserved, passedOver := 0 }) s
  { s1 with eng := { s1.eng with matrix := s1.eng.matrix.filterMap fun m =>
      let M := { m.2 with hist := m.2.hist.filter fun r => r.grp != g }
      if M = Matrix.empty then none else some (m.1, M) } }

/-- The requests of a wave's unserved MXHIST entries, in their order of issue. -/
def Wave.histReqs (W : Wave) (g w : Nat) : List HistReq :=
  W.byAge.flatMap fun e => match e.2.instr with
    | .mxhist _ => (e.2.accs.filter fun a => a.st == .sent).map fun a =>
        { grp := g, wave := w, slot := e.1, fib := a.fib, off := (a.data.getD 0 0).toNat, ctl := a.data.getD 1 0 }
    | _ => []

/-- A pass that stays on the engine that a REDIRECT named while its group was saved (R253). -/
def Pass.staysOn (p : Pass) : Bool := p.redirected && p.st == .reserved

/-- What the engines do with a group's passes at its restore on a core (R254): all of them, parked ones too, wait to be reserved on that
core's quad, in their order, ahead of any new one; those that a REDIRECT gave another engine while the group was saved run there
(R253). -/
def State.replayPasses (s : State) (g c : Nat) : State :=
  match s.group g with
  | none => s
  | some G =>
    let mine := fun (p : Pass) => { p with core := c, redirected := false }
    let s0 : State := { s with eng := { s.eng with matrix := tabMap s.eng.matrix fun q M =>
      { M with entries := tabMap M.entries fun _ p =>
          if p.grp = g ∧ q ≠ savedPasses ∧ p.staysOn then { p with core := c, redirected := q != quadOf c } else p } } }
    let s1 := s.passes.foldl (fun t x =>
      if x.2.2.grp ≠ g ∨ x.2.2.staysOn then t else t.movePass x.1 x.2.1 savedPasses x.2.2) s0
    let s2 := s1.modMatrix savedPasses fun M => { M with entries := tabMap M.entries fun _ p => if p.grp = g then mine p else p }
    if G.isTwin then s2
    else s2.modMatrix (quadOf c) fun M => { M with hist := M.hist ++ G.waves.flatMap fun e => e.2.histReqs g e.1 }

end Sys2Proof.Machine
end

