-- ==== Sys2Proof/Machine/FaultEvents.lean ====
section
/-! DEFINITION. What the fault engines do: the parking of subjects (R330, R331), fault tasks and the Cuset default handler (R327,
R328, R380, R421), deadlines and budgets (R331, R332). -/
namespace Sys2Proof.Machine

/-! ## Parking (R330, R331) -/

/-- Whether a detected subject is still there to be parked. -/
def State.subjectStands (s : State) (x : Subject) : Bool :=
  match x.of with
  | .wave | .mirror _ _ => (match s.wave x.grp x.wave with | some W => W.run == .draining | none => false)
  | .pass q e => (match tabGet (s.matrix q).entries e with | some p => p.st == .parked | none => false)
  | .segment c id k =>
    (match (tabGet (s.copyEng c).copies id).bind fun C => C.segs[k]? with | some g => g.st == .parked | none => false)
  | .clasp _ => true
  | .group => (match s.group x.grp with | some G => G.parked | none => false)
  | .launch id _ _ => (tabGet s.cp.launches id).isSome

/-- Depth of a subject's record: the handler level of its group (R333). -/
def State.depthOf (s : State) (x : Subject) : Nat := ((s.group x.grp).map (·.flevel)).getD 0

/-- Whether a subject of depth 0 is held when it is detected: the main pool has no free record, or others are held (R330). -/
def State.mainFull (s : State) (die : Nat) : Bool :=
  (freeFrom ((s.faultEng die).recs.map (·.1)) 4096 0).isNone || (s.faultEng die).heldSubs.any fun y => s.depthOf y == 0

/-- SUBJECT_PARK (R331): the fault engine takes the first detected subject that is at rest. Where the main pool has no free record,
the first one detected of depth 0 is held, at rest or not, so that held subjects stand in the order of their detection (R330). -/
def execSubjectPark (die : Nat) (s : State) : Host.Outcome State Fault Refusal :=
  let full := s.mainFull die
  match (s.faultEng die).detected.find? fun x => (full && s.depthOf x == 0) || s.atRest x with
  | none => .next s
  | some x =>
    let s1 := s.modFault die fun E => { E with detected := E.detected.erase x }
    if !s.subjectStands x then .next s1
    else if s.depthOf x = 0 ∧ full = true then
      .next ((s1.markSubject x .detached).modFault die fun E => { E with heldSubs := E.heldSubs ++ [x] })
    else .next (s1.parkSubject die x)

/-- HELD_SUBJECT_RECORD (R330): the subject held longest takes a record that is free, once it is at rest (R334). -/
def execHeldSubjectRecord (die : Nat) (s : State) : Host.Outcome State Fault Refusal :=
  let E := s.faultEng die
  match E.heldSubs with
  | [] => .next s
  | x :: rest =>
    if !s.engineTakes ∨ !s.atRest x ∨ (s.depthOf x = 0 ∧ (freeFrom (E.recs.map (·.1)) 4096 0).isNone) then .next s
    else .next ((s.modFault die fun E => { E with heldSubs := rest }).parkSubject die x)

/-! ## Private memory (R421) -/

/-- The private high-water mark of a context raised, in units of 64 KiB (R417, R421). -/
def State.setMark (s : State) (ctx v : Nat) : State := { s with xl := { s.xl with privhw := tabPut 0 s.xl.privhw ctx v } }

/-- The mark of a context raised and the pages up to it mapped by the entries that Cuset writes; none where these leave a page below the
mark unmapped, for want of memory (R421, log 44). -/
def State.growPrivate (s : State) (ctx asid mark : Nat) (maps : List TableWrite) : Option State :=
  let t := s.mapPages maps
  let old := tabVal 0 s.xl.privhw ctx
  if t.runMapped asid (priv0 + 65536 * old) (mark - old) then some (t.setMark ctx mark) else none

/-- The bytes that the faulting instruction of a record accesses (R421). -/
def Subject.accessSize (x : Subject) : Nat :=
  match decodeWords x.w0 x.w1 with
  | .ok i => ((memForm i).map (·.size)).getD 1
  | .error _ => 1

/-! ## The Cuset default handler (R380) -/

/-- KILL with FAIL, and the event (R380). -/
def State.defaultKill (s : State) (rid : Nat) (R : Record) : State :=
  let q := s.launchPkt (s.launchOfSubject R.subj)
  let s1 := (s.dispose rid R 3 true 0 0).getD s
  s1.logEvent R.subj.die R.subj.cause R.subj.ctx rid q.1 q.2

/-- The default handler acts on a record by its cause (R380). For an absent page that has a backing tag it asks Cuset's own unit for the
page (R420), and the record waits until the page is resident. A private page that the mark comes to cover is mapped by `maps`; where these
do not reach, memory has run out (R421). -/
def State.defaultHandler (s : State) (rid : Nat) (R : Record) (maps : List TableWrite) : State :=
  let x := R.subj
  match x.cause with
  | 0x10 =>
    match s.walk x.asid x.va with
    | .absent tag at_ => if tag = 0 then s.defaultKill rid R else s.askPage x.die x.asid x.va at_
    | _ => (s.dispose rid R 1 false 0 0).getD s
  | 0x15 =>
    let top := x.va + x.accessSize - priv0
    let mark := min 0xFFFFFF (max (2 * tabVal 0 s.xl.privhw x.ctx) ((top + 65535) / 65536))
    if 65536 * mark < top then s.defaultKill rid R
    else match s.growPrivate x.ctx x.asid mark maps with
      | some t => (t.dispose rid R 0 false 0 0).getD s
      | none => s.defaultKill rid R
  | _ => s.defaultKill rid R

/-! ## Fault tasks (R328) -/

/-- The key of a fault task within its class: TDL, TDET, RID, and before them those moved to the head of class 0 (R328, R331). A
remote task carries no TDET. -/
def State.taskKey (s : State) (t : Task) : List Nat :=
  match t with
  | .own rid => match s.record rid with
    | some R => if R.dlmiss then [0] else [1, R.tdl, R.subj.tdet, rid]
    | none => [0]
  | .remote _ _ p late => if late then [0] else [1, pkt p 0x20 8, 0, pkt p 8 4]

/-- Whether the default handler has asked for the page of a record and waits for it to become resident; other tasks go on meanwhile (R380, R420). -/
def State.waitsForPage (s : State) (t : Task) : Bool :=
  match t with
  | .own rid =>
    (match s.record rid with
     | some R => R.toFirmware && R.st == .parked && R.subj.cause == 0x10 && (match s.walk R.subj.asid R.subj.va with
       | .absent tag at_ => tag != 0 && s.xl.resids.any fun q => q.at_ == at_
       | _ => false)
     | none => false)
  | .remote _ _ _ _ => false

/-- The next task of a class slot; of tasks moved to its head the last one moved stands first. -/
def State.nextTask (s : State) : List Task → Option Task
  | [] => none
  | t :: ts =>
    if s.waitsForPage t then State.nextTask s ts
    else match State.nextTask s ts with
      | none => some t
      | some u => if keysBelow (s.taskKey u) (s.taskKey t) then some u else some t

/-- A task leaves its class slot. -/
def State.takeTask (s : State) (die cls : Nat) (t : Task) : State :=
  let l := (tabVal [] s.cp.tasks (8 * die + cls)).erase t
  { s with cp := { s.cp with tasks := if l.isEmpty then tabErase s.cp.tasks (8 * die + cls) else tabSet s.cp.tasks (8 * die + cls) l } }

/-- What a handler group is besides its header (R328, R332). -/
def handlerGroup (h : Header) (handler rid cause depth budget ctx asid cls origin : Nat) : NewGroup :=
  { launch := 0, gid := 0, ctx := ctx, asid := asid, cls := cls, hdr := h, entry := handler,
    ks := [⟨BitVec.ofNat 32 rid, .n32⟩, ⟨BitVec.ofNat 32 cause, .n32⟩], frec := rid, fcause := cause, flevel := depth + 1,
    origin := origin, budget := if budget = 0 then none else some budget }

/-- A handler group admitted to a core, or a pair, of a die's placement list where it fits (R29, R328); one in firmware mode to the
die's firmware core (R376). -/
def State.admitHandler (s : State) (die core : Nat) (n : NewGroup) : Option State :=
  if !(if n.firmware then s.isFwCore core && dieOf core == die && !n.hdr.mirror else (s.placeList die n.hdr).contains core) then none
  else if n.hdr.mirror then (s.startGroup core (some (twinCore core)) n).map fun t => (t.firstOn core n.asid).firstOn (twinCore core) n.asid
  else (s.startGroup core none n).map fun t => t.firstOn core n.asid

/-- The disposition KILL with FAIL sent to a remote record's origin (R331, R437). -/
def State.proxyKill (s : State) (dev rid g : Nat) : State :=
  (s.startXfer dev 0 { kind := 9, status := 0, tid := 0, arg := rid + 4 * 2 ^ 32, data := natBytes 16 7 } (.proxy g 0 0 0)).getD s

/-- A record's task starts its handler, on `core`; one whose handler is no longer there goes to the default handler (R327). -/
def State.startOwn (s : State) (die cls core rid : Nat) (R : Record) : State :=
  let fw := s.inFirmware R.subj
  match (s.handlerHeader fw R.subj.asid R.handler).filter (·.fault) with
  | none => (s.dropTask rid).deliverLocal rid (Route.default R.subj.die)
  | some h =>
    match s.admitHandler die core { handlerGroup h R.handler rid R.subj.cause R.depth R.budget R.subj.ctx R.subj.asid cls 0 with
          firmware := fw && h.roles.testBit 3 } with
    | none => s
    | some t => (t.dropTask rid).modRecord rid fun R => { R with st := .handling, hgrp := some s.nextGroup, queued := false }

/-- A remote task starts its handler in the context that it is bound to (R437). -/
def State.startRemote (s : State) (die cls core dev ctx : Nat) (p : List Byte) (late : Bool) : State :=
  let asid := ((s.ctx ctx).map (·.asid)).getD 0
  let rid := pkt p 8 4
  match (s.readHeader asid (pkt p 0x10 8)).filter (·.fault) with
  | none => (s.takeTask die cls (.remote dev ctx p late)).proxyKill dev rid 0
  | some h =>
    match s.admitHandler die core
        (handlerGroup h (pkt p 0x10 8) rid (pkt p 0x0C 1) (pkt p 0x0E 1) (pkt p 0x18 4) ctx asid cls dev) with
    | none => s
    | some t => (t.modGroup s.nextGroup fun G => { G with tdl := pkt p 0x20 8 }).takeTask die cls (.remote dev ctx p late)

/-! ## Deadlines and budgets (R331, R332) -/

/-- A handler group parks as a whole, as a subject of KIND 5 (R331). -/
def State.parkGroup (s : State) (g cause : Nat) : State :=
  match s.group g with
  | none => s
  | some G =>
    let x : Subject :=
      { of := .group, cause := cause, late := false, die := G.die, ctx := G.ctx, asid := G.asid, gid := G.gid, grp := g, wave := 0,
        core := G.coreNo, fpc := 0, va := 0, tdet := s.ticks, fmask := 0, gmask := 0, w0 := 0, w1 := 0, exc := [], detail := 0,
        bundle := 0, len := 0, move := .none, tail := [] }
    ((s.pairOf g).foldl (fun t h => t.modGroup h fun H => { H with parked := true }) s).detect G.die x

/-- A group whose budget has run out and that is not parked for it. -/
def spent (G : Group) : Bool := G.budget == some 0 && !G.parked && G.place != .ended

/-- The deadline of a handler group of another module's record, which its task carried here (R328, R331). -/
def State.remoteDeadline (s : State) (rid : Nat) : State :=
  match s.groups.find? fun e =>
      e.2.origin != 0 && e.2.frec == rid && !e.2.isTwin && e.2.place != .ended && !e.2.parked && decide (e.2.tdl ≤ s.ticks) with
  | some (g, G) => (s.modGroup g fun G => { G with tdl := 2 ^ 64 - 1 }).parkGroup g (if spent G then 0x41 else 0x42)
  | none => s

/-- A task of another module's record whose deadline has passed moves to the head of class 0 of its die (R331). -/
def State.remoteToHead (s : State) (rid : Nat) : Option State :=
  s.cp.tasks.findSome? fun e => e.2.findSome? fun t => match t with
    | .remote dev ctx p false =>
      if pkt p 8 4 = rid ∧ pkt p 0x20 8 ≠ 2 ^ 64 - 1 ∧ pkt p 0x20 8 ≤ s.ticks then
        let s1 := s.takeTask (e.1 / 8) (e.1 % 8) t
        let k := 8 * (e.1 / 8)
        some { s1 with cp := { s1.cp with tasks := tabSet s1.cp.tasks k (.remote dev ctx p true :: tabVal [] s1.cp.tasks k) } }
      else none
    | _ => none

/-- The handler group of a record parks for its deadline, for its budget if that ran out as well (R332); the cause waits while the
group is parked already (R323). -/
def State.missDeadline (s : State) (rid : Nat) (R : Record) : State :=
  match R.hgrp.bind fun g => (s.group g).map fun G => (g, G) with
  | none => s
  | some (g, G) =>
    if G.parked then s.modRecord rid fun R => { R with owed := true }
    else (s.modRecord rid fun R => { R with owed := false }).parkGroup g (if spent G then 0x41 else 0x42)

/-- TASK_DEADLINE (R331): before its handler starts, a task moves to the head of class 0; a running handler parks. The record of a
remote task is another module's, and its number may be that of a record here: its task and its handler group here know the deadline
from the packet, and are served where no record of this module waits for the event. -/
def execTaskDeadline (rid : Nat) (s : State) : Host.Outcome State Fault Refusal :=
  let remote := (s.remoteToHead rid).getD (s.remoteDeadline rid)
  match s.record rid with
  | none => .next remote
  | some R =>
    if R.owed ∧ R.st = .handling then .next (if (R.hgrp.bind s.group).any (·.parked) then remote else s.missDeadline rid R)
    else if R.dlmiss ∨ R.tdl = 2 ^ 64 - 1 ∨ s.ticks < R.tdl ∨ R.st = .settling then .next remote
    else
      let s1 := s.modRecord rid fun R => { R with dlmiss := true }
      match R.st with
      | .parked =>
        if !R.queued then .next s1
        else
          let s2 := s1.dropTask rid
          let k := 8 * R.tdie
          .next { s2 with cp := { s2.cp with tasks := tabSet s2.cp.tasks k (.own rid :: tabVal [] s2.cp.tasks k) } }
      | .handling => .next (s1.missDeadline rid R)
      | .settling => .next remote

/-- BUDGET_EXPIRED (R332): the handler group of a record has used its budget. -/
def execBudgetExpired (rid : Nat) (s : State) : Host.Outcome State Fault Refusal :=
  match s.groups.find? fun e => e.2.frec == rid && rid != 0 && spent e.2 && !(match e.2.twin with | some (_, t) => t | none => false) with
  | none => .next s
  | some (g, _) => .next (s.parkGroup g 0x41)

end Sys2Proof.Machine
end

