-- ==== Sys2Proof/Machine/Float.lean ====
section
/-! DEFINITION. The meanings of floating-point arithmetic (R159-R169): each performs its lane in every guard-true fibre. -/
namespace Sys2Proof.Machine

/-- FADD_F32 (R161). -/
def execFaddF32 (o : Form.DAB) (s : State) : Host.Outcome State Fault Refusal := execAlu (.faddF32 o) laneFaddF32 s

/-- FSUB_F32 (R161). -/
def execFsubF32 (o : Form.DAB) (s : State) : Host.Outcome State Fault Refusal := execAlu (.fsubF32 o) laneFsubF32 s

/-- FMUL_F32 (R161). -/
def execFmulF32 (o : Form.DAB) (s : State) : Host.Outcome State Fault Refusal := execAlu (.fmulF32 o) laneFmulF32 s

/-- FFMA_F32 (R161). -/
def execFfmaF32 (o : Form.DAB) (s : State) : Host.Outcome State Fault Refusal := execAlu (.ffmaF32 o) laneFfmaF32 s

/-- FMIN_F32 (R163). -/
def execFminF32 (o : Form.DAB) (s : State) : Host.Outcome State Fault Refusal := execAlu (.fminF32 o) laneFminF32 s

/-- FMAX_F32 (R163). -/
def execFmaxF32 (o : Form.DAB) (s : State) : Host.Outcome State Fault Refusal := execAlu (.fmaxF32 o) laneFmaxF32 s

/-- FABS_F32 (R164). -/
def execFabsF32 (o : Form.DA) (s : State) : Host.Outcome State Fault Refusal := execAlu (.fabsF32 o) laneFabsF32 s

/-- FNEG_F32 (R164). -/
def execFnegF32 (o : Form.DA) (s : State) : Host.Outcome State Fault Refusal := execAlu (.fnegF32 o) laneFnegF32 s

/-- FCMP_F32 (R165). -/
def execFcmpF32 (o : Form.C) (s : State) : Host.Outcome State Fault Refusal := execAlu (.fcmpF32 o) (laneFcmpF32 o) s

/-- FRCP_F32 (R161). -/
def execFrcpF32 (o : Form.DA) (s : State) : Host.Outcome State Fault Refusal := execAlu (.frcpF32 o) laneFrcpF32 s

/-- FRSQ_F32 (R161). -/
def execFrsqF32 (o : Form.DA) (s : State) : Host.Outcome State Fault Refusal := execAlu (.frsqF32 o) laneFrsqF32 s

/-- FSQRT_F32 (R161). -/
def execFsqrtF32 (o : Form.DA) (s : State) : Host.Outcome State Fault Refusal := execAlu (.fsqrtF32 o) laneFsqrtF32 s

/-- FEXP2_F32 (R166). -/
def execFexp2F32 (o : Form.DA) (s : State) : Host.Outcome State Fault Refusal := execAlu (.fexp2F32 o) laneFexp2F32 s

/-- FLOG2_F32 (R166). -/
def execFlog2F32 (o : Form.DA) (s : State) : Host.Outcome State Fault Refusal := execAlu (.flog2F32 o) laneFlog2F32 s

/-- FSIN_F32 (R166). -/
def execFsinF32 (o : Form.DA) (s : State) : Host.Outcome State Fault Refusal := execAlu (.fsinF32 o) laneFsinF32 s

/-- FCOS_F32 (R166). -/
def execFcosF32 (o : Form.DA) (s : State) : Host.Outcome State Fault Refusal := execAlu (.fcosF32 o) laneFcosF32 s

/-- FADD_F32_LONG (R161). -/
def execFaddF32Long (o : Form.Fp2) (s : State) : Host.Outcome State Fault Refusal := execAlu (.faddF32Long o) (laneFaddF32Long o) s

/-- FSUB_F32_LONG (R161). -/
def execFsubF32Long (o : Form.Fp2) (s : State) : Host.Outcome State Fault Refusal := execAlu (.fsubF32Long o) (laneFsubF32Long o) s

/-- FMUL_F32_LONG (R161). -/
def execFmulF32Long (o : Form.Fp2) (s : State) : Host.Outcome State Fault Refusal := execAlu (.fmulF32Long o) (laneFmulF32Long o) s

/-- FFMA_F32_LONG (R161). -/
def execFfmaF32Long (o : Form.Fp3) (s : State) : Host.Outcome State Fault Refusal := execAlu (.ffmaF32Long o) (laneFfmaF32Long o) s

/-- FDIV_F32 (R161). -/
def execFdivF32 (o : Form.Fp2) (s : State) : Host.Outcome State Fault Refusal := execAlu (.fdivF32 o) (laneFdivF32 o) s

/-- FRCP_F32_LONG (R161). -/
def execFrcpF32Long (o : Form.Fp1) (s : State) : Host.Outcome State Fault Refusal := execAlu (.frcpF32Long o) (laneFrcpF32Long o) s

/-- FRSQ_F32_LONG (R161). -/
def execFrsqF32Long (o : Form.Fp1) (s : State) : Host.Outcome State Fault Refusal := execAlu (.frsqF32Long o) (laneFrsqF32Long o) s

/-- FSQRT_F32_LONG (R161). -/
def execFsqrtF32Long (o : Form.Fp1) (s : State) : Host.Outcome State Fault Refusal := execAlu (.fsqrtF32Long o) (laneFsqrtF32Long o) s

/-- FADD_F64 (R167). -/
def execFaddF64 (o : Form.Fp2) (s : State) : Host.Outcome State Fault Refusal := execAlu (.faddF64 o) (laneFaddF64 o) s

/-- FMUL_F64 (R167). -/
def execFmulF64 (o : Form.Fp2) (s : State) : Host.Outcome State Fault Refusal := execAlu (.fmulF64 o) (laneFmulF64 o) s

/-- FFMA_F64 (R167). -/
def execFfmaF64 (o : Form.Fp3) (s : State) : Host.Outcome State Fault Refusal := execAlu (.ffmaF64 o) (laneFfmaF64 o) s

/-- FDIV_F64 (R167). -/
def execFdivF64 (o : Form.Fp2) (s : State) : Host.Outcome State Fault Refusal := execAlu (.fdivF64 o) (laneFdivF64 o) s

/-- FSQRT_F64 (R167). -/
def execFsqrtF64 (o : Form.Fp1) (s : State) : Host.Outcome State Fault Refusal := execAlu (.fsqrtF64 o) (laneFsqrtF64 o) s

/-- FMIN_F64 (R167). -/
def execFminF64 (o : Form.DAB) (s : State) : Host.Outcome State Fault Refusal := execAlu (.fminF64 o) laneFminF64 s

/-- FMAX_F64 (R167). -/
def execFmaxF64 (o : Form.DAB) (s : State) : Host.Outcome State Fault Refusal := execAlu (.fmaxF64 o) laneFmaxF64 s

/-- FCMP_F64 (R165). -/
def execFcmpF64 (o : Form.C) (s : State) : Host.Outcome State Fault Refusal := execAlu (.fcmpF64 o) (laneFcmpF64 o) s

/-- FADD_F16X2 (R168). -/
def execFaddF16x2 (o : Form.Fp2) (s : State) : Host.Outcome State Fault Refusal := execAlu (.faddF16x2 o) (laneFaddF16x2 o) s

/-- FMUL_F16X2 (R168). -/
def execFmulF16x2 (o : Form.Fp2) (s : State) : Host.Outcome State Fault Refusal := execAlu (.fmulF16x2 o) (laneFmulF16x2 o) s

/-- FFMA_F16X2 (R168). -/
def execFfmaF16x2 (o : Form.Fp3) (s : State) : Host.Outcome State Fault Refusal := execAlu (.ffmaF16x2 o) (laneFfmaF16x2 o) s

/-- FADD_BF16X2 (R168). -/
def execFaddBf16x2 (o : Form.Fp2) (s : State) : Host.Outcome State Fault Refusal := execAlu (.faddBf16x2 o) (laneFaddBf16x2 o) s

/-- FMUL_BF16X2 (R168). -/
def execFmulBf16x2 (o : Form.Fp2) (s : State) : Host.Outcome State Fault Refusal := execAlu (.fmulBf16x2 o) (laneFmulBf16x2 o) s

/-- FFMA_BF16X2 (R168). -/
def execFfmaBf16x2 (o : Form.Fp3) (s : State) : Host.Outcome State Fault Refusal := execAlu (.ffmaBf16x2 o) (laneFfmaBf16x2 o) s

/-- FDOT_F16X2 (R169). -/
def execFdotF16x2 (o : Form.Fp3) (s : State) : Host.Outcome State Fault Refusal := execAlu (.fdotF16x2 o) (laneFdotF16x2 o) s

/-- FDOT_BF16X2 (R169). -/
def execFdotBf16x2 (o : Form.Fp3) (s : State) : Host.Outcome State Fault Refusal := execAlu (.fdotBf16x2 o) (laneFdotBf16x2 o) s

end Sys2Proof.Machine
end

