-- ==== Sys2Proof/Machine/GroupEvents.lean ====
section
/-! DEFINITION. Saves and restores of groups (R58, R59, R206, R218, R219, R254, R288, R338-R340), and the admission of a launch's
groups (R29, R30, R391-R394). -/
namespace Sys2Proof.Machine

/-! ## Saves (R338) -/

/-- Whether a group has drained: no channel carries an entry of it, no wave has an access out, stands in facet context, or waits to be
parked, no segment that reads or writes its scratchpad is under way, and no checked pass on another quad's engine has yet to commit through its
mailbox (R20, R218, R254, R295, R338, R365). -/
def State.saveReady (s : State) (g : Nat) : Bool :=
  match s.group g with
  | some G => (match G.place with | .saving _ => true | _ => false) && !s.carries g && !s.scratchBusy g &&
      !(s.passes.any fun x => x.2.2.grp == g && x.2.2.redirected && x.2.2.st == .committing) &&
      G.waves.all fun e => e.2.run != .draining && s.drained g e.1 && e.2.live.all fun f => (e.2.fib f).facet.isNone
  | none => false

/-- A drained group leaves its core: its monitors belong to its saved context, no request of it waits in the core's register
pool. -/
def State.putAway (s : State) (g : Nat) : State :=
  match s.group g with
  | none => s
  | some G =>
    let c := G.coreNo
    let s1 := G.waves.foldl (fun t e => t.rebind g e.1) s
    (s1.modGroup g fun H => { H with place := .saved c, preempt := false, held := false, heldLast := false }).modCore c fun C =>
      { C with grow := C.grow.filter fun r => r.grp != g }

/-- GROUP_SAVE (R338): the engines put the group's work aside, then its state leaves the core. A mirror pair is saved with its
primary. -/
def execGroupSave (grp : Nat) (s : State) : Host.Outcome State Fault Refusal :=
  match s.group grp with
  | none => .next s
  | some G =>
    if G.isTwin ∨ !((s.pairOf grp).all s.saveReady) then .next s
    else
      let s1 := (s.deferCopies grp G.coreNo).withdrawPasses grp
      .next (((s.pairOf grp).foldl (fun t g => t.putAway g) s1).dropFences G.coreNo)

/-! ## Restores (R340) -/

/-- The waves that a group, or a pair, still has. -/
def State.keptWaves (s : State) (g : Nat) : List Nat :=
  ((s.pairOf g).flatMap fun h => match s.group h with | some H => H.liveWaves.map (·.1) | none => []).dedup

/-- Register units of a group as it was saved (R29, R34). -/
def Group.units (G : Group) : Nat := G.liveWaves.foldl (fun n e => n + e.2.units G.hdr.units) 0

/-- Where a saved group lands on a core, if it has room there (R29, R206): the base of its scratchpad. -/
def State.roomBack (s : State) (g c : Nat) (G : Group) : Option Nat :=
  s.roomFor c G.hdr (s.keptWaves g).length G.units (G.tags.map (·.1))

/-- Whether a saved group may come back to a core, or to a pair by its primary: on its own die, where its launch may stand, and on the
core that a REDIRECT named and nowhere else (R27, R340, R341, R346). -/
def State.mayReturn (s : State) (G : Group) (c : Nat) : Bool :=
  match G.place with
  | .saved last =>
    let d := dieOf last
    (s.placeList d G.hdr).contains c && !s.dieLost d && (G.pinned.isNone || G.pinned == some c) && s.restorable G &&
      match s.launchOf G with
      | some L => L.want.headD 0 == 0 || quadOf c == quadOf last
      | none => true
  | _ => false

/-- The fibres of a wave that wait in WGROW, as requests of the new core: those that share a PC and a window base together (R34,
R58, R59). -/
def Wave.growReqs (W : Wave) (g w units : Nat) : List GrowReq :=
  let fs := W.live.filter fun f => match (W.fib f).wait with | .wgrow _ _ => true | _ => false
  (W.splitBy 32 fs).filterMap fun l => match (W.fib (l.headD 0)).wait with
    | .wgrow n _ => some { grp := g, wave := w, fibres := l, need := l.foldl (fun k f => k + growNeed units n (W.fib f)) 0, n := n }
    | _ => none

/-- A group's state written back to a core: new wave slots, bundles of the fibres that share a PC and a window base (R59). -/
def State.putBack (s : State) (g c base : Nat) (kept slots : List Nat) : State :=
  match s.group g with
  | none => s
  | some G =>
    let ws := tabMap G.waves fun w W =>
      if W.run = .retired then W
      else
        { W with slot := match (List.range kept.length).find? fun i => kept[i]? == some w with
                   | some i => slots.getD i 0
                   | none => W.slot,
                 fibres := tabMap W.fibres fun _ F => match F.wait with | .yield _ => { F with wait := .yield 0 } | _ => F,
                 settling := true, letGo := [], ageMark := W.nextAge, bundles := W.splitBy 32 ((List.range 32).filter fun f => (W.fib f).bundled), ready := [] }
    let H := { G with place := .core c, scrBase := base, pinned := none, preempt := false, waves := ws }
    ((s.partFor c G.hdr).modGroup g fun _ => H).modCore c fun C =>
      { C with grow := C.grow ++ H.waves.flatMap fun e => e.2.growReqs g e.1 G.hdr.units }

/-- A saved group, or pair, back on a core: its state written back, if it has room there. -/
def State.seat (s : State) (g c : Nat) : Option State :=
  match s.group g with
  | none => none
  | some G =>
    if !s.mayReturn G c then none
    else
      let kept := s.keptWaves g
      match G.twin, s.roomBack g c G with
      | _, none => none
      | none, some base => some (s.putBack g c base kept ((s.freeSlots c).take kept.length))
      | some (t, _), some base =>
        let tc := twinCore c
        match s.group t, s.pairSlots c tc kept.length with
        | some T, some slots =>
          match s.roomBack t tc T with
          | some tbase => some ((s.putBack g c base kept slots).putBack t tc tbase kept slots)
          | none => none
        | _, _ => none

/-- The subjects of a group whose REDIRECT waited for this restore run again, and their records are free (R346). -/
def State.redirected (s : State) (g : Nat) : State :=
  s.allRecords.foldl (fun t e =>
    if e.2.st = .settling ∧ e.2.subj.grp = g then (t.wakeSubject e.2.subj false).freeRecord e.1 else t) s

/-- What follows the write-back of a group (R340): its launch lands on the quad (R236), its copies and passes, its fired monitors, its unsettled entries; a resume is an
acquire (R266). Accesses due afresh leave the core in the same step (R336). -/
def State.resumed (s : State) (g : Nat) : State :=
  match s.group g with
  | none => s
  | some G =>
    let c := G.coreNo
    let s1 := if G.isTwin then s else ((s.landQuad G.launch (quadOf c)).replayCopies g c).replayPasses g c
    let s2 := G.liveWaves.foldl (fun t e => if e.2.run = .running then t.unbind g e.1 else t) s1
    (s2.acquire c).redirected g

/-- Groups of a launch that come back together: every saved one of a gang, neighbourhood or elastic launch whose groups are all
saved (R392). -/
def State.comesWith (s : State) (g : Nat) (G : Group) : List Nat :=
  match s.launchOf G with
  | some L =>
    if L.hdr.together ∧ s.allSaved G.launch then
      ((s.groupsOf G.launch).filter fun e => e.1 != g && !e.2.isTwin).map (·.1)
    else []
  | none => []

/-- One more group of a launch seated: on the core that a REDIRECT named, else the one it left, else the first that takes it. -/
def State.seatAny (s : State) (g : Nat) : Option State :=
  match s.group g with
  | none => none
  | some G => match G.place with
    | .saved last => (last :: s.placeList (dieOf last) G.hdr).findSome? fun c => s.seat g c
    | _ => none

/-! ## Admission (R391-R394) -/

/-- Instruction-cache lines of one core that overlap a range go (R94, R392). -/
def State.dropCode (s : State) (c asid va len : Nat) : State :=
  s.modCore c fun C => { C with icache := C.icache.filter fun l => !icacheHit asid va len l.1 }

/-- The cores of a dealt group. -/
def Dealt.cores (x : Dealt) : List Nat := x.core :: x.twin.toList

/-- The code range of a launch invalidated on the cores that groups are dealt to (R94, R392). -/
def State.freshCode (s : State) (L : Launch) (ds : List Dealt) : State :=
  (ds.flatMap Dealt.cores).dedup.foldl (fun t c => t.dropCode c L.asid L.entry L.hdr.codeSize) s

/-- What a launch wants of each network, given the cores dealt to it: network, how many, how many there are (R392). -/
def Launch.wants (L : Launch) (cores : List Nat) : List (Nat × Nat × Nat) :=
  let w := fun i => L.want.getD i 0
  (((cores.map quadOf).dedup.map fun q => (quadNet q, w 0, 16)) ++ ((cores.map dieOf).dedup.map fun d => (dieNet d, w 1, 16)) ++
    [(pkgNet, w 2, 8), (podNet, w 3, 4)]).filter fun x => x.2.1 != 0

/-- The free barriers of a network. -/
def State.freeBars (s : State) (net n : Nat) : List Nat := (List.range n).filter fun i => (s.wbar (barKey net i)).owner.isNone

/-- A launch is allotted the barriers that it wants on some networks and does not have yet, or none of them if one network lacks them
(R392). -/
def State.allotBars (s : State) (id : Nat) (L : Launch) (cores : List Nat) : Option State :=
  let ws := (L.wants cores).filter fun x => (tabGet L.allot x.1).isNone
  if !(ws.all fun x => decide (x.2.1 ≤ (s.freeBars x.1 x.2.2).length)) then none
  else some (ws.foldl (fun t x =>
    let bars := (s.freeBars x.1 x.2.2).take x.2.1
    (bars.foldl (fun u i => u.modWbar (barKey x.1 i) fun b => { b with owner := some id }) t).modLaunch id fun L =>
      { L with allot := tabSet L.allot x.1 bars }) s)

/-- The first group of a launch on a core (R266), and on a quad (R236). -/
def State.landOn (s : State) (id : Nat) (L : Launch) (c : Nat) : State :=
  if L.landed.contains c then s
  else ((s.landQuad id (quadOf c)).firstOn c L.asid).modLaunch id fun L => { L with landed := L.landed ++ [c] }

/-- A dealt group admitted to its core, if it fits there (R29, R391). A spare die takes only groups of the launch in which it replaced a
lost one (R395). -/
def State.admitOn (s : State) (id : Nat) (x : Dealt) : Option State :=
  match tabGet s.cp.launches id with
  | none => none
  | some L =>
    if x.cores.any fun c => s.dieLost (dieOf c) || s.dieClock (dieOf c) == 3 ||
        (s.cp.spares.testBit (dieOf c) && !L.subs.contains (dieOf c)) then none
    else (s.startGroup x.core x.twin (newGroupOf id L x)).map fun t =>
      (x.cores.foldl (fun u c => match tabGet u.cp.launches id with | some M => u.landOn id M c | none => u) t).modLaunch id fun M =>
        { M with st := .running, waiting := M.waiting.erase x, dealt := (M.dealt.filter fun y => y.gid != x.gid) ++ [x] }

/-- All of some dealt groups admitted, or none. -/
def State.admitAll (s : State) (id : Nat) (ds : List Dealt) : Option State :=
  ds.foldl (fun (r : Option State) x => r.bind fun t => t.admitOn id x) (some s)

/-- The waiting groups that may be admitted next: on each core the one of least `%gid` (R391). -/
def Launch.next (L : Launch) : List Dealt :=
  L.waiting.filter fun x => !(L.waiting.any fun y => y.core == x.core && decide (y.gid < x.gid))

/-- The dies that an elastic launch could take now, in ascending order, as far as its maximum (R394). -/
def State.elasticDies (s : State) (id : Nat) (L : Launch) : List Nat :=
  (((L.dies.filter fun d => s.takesGroups d && !(s.placeList d L.hdr).isEmpty).filter
    fun d => (s.admitAll id (s.dealBlock L.hdr 0 L.groups d false)).isSome).take L.hdr.maxDies)

/-- The groups of a gang, neighbourhood or elastic launch as they would be dealt now, with the dies they take (R393, R394). -/
def State.dealNow (s : State) (id : Nat) (L : Launch) : Option (List Dealt × List Nat) :=
  if L.hdr.neigh then (s.dealRect L.hdr (L.dies.filter s.takesGroups) false).map fun l => (l, (l.map fun x => dieOf x.core).dedup)
  else if L.hdr.elastic then
    let ds := s.elasticDies id L
    if ds.length < L.hdr.minDies then none
    else some ((ds.mapIdx fun i d => s.dealBlock L.hdr (i * L.groups) L.groups d false).flatten, ds)
  else some (L.waiting, L.joined)

/-- Every group of a gang, neighbourhood or elastic launch admitted at once, where barriers and room allow it (R392). -/
def State.startTogether (s : State) (id : Nat) (L : Launch) : Option State :=
  match s.dealNow id L with
  | none => none
  | some (ds, dies) =>
    match s.allotBars id L (ds.flatMap Dealt.cores) with
    | none => none
    | some t =>
      let t1 := t.modLaunch id fun M =>
        { M with waiting := ds, left := ds.length, joined := dies, target := if M.target = 0 then dies.length else M.target }
      (if L.hdr.neigh ∨ L.hdr.elastic then t1.freshCode L ds else t1).admitAll id ds

/-! ## Competition by class (R13) -/

/-- Whether a fault task of a class below `cls` could start on a core of its die now. -/
def State.lowerTask (s : State) (core cls : Nat) : Bool :=
  let die := dieOf core
  (List.range cls).any fun c => match s.nextTask (tabVal [] s.cp.tasks (8 * die + c)) with
    | some (.own rid) => (match s.record rid with
      | some R => R.st == .parked && !R.toFirmware && s.startOwn die c core rid R != s
      | none => false)
    | some (.remote dev ctx p late) => s.startRemote die c core dev ctx p late != s
    | none => false

/-- Whether a launch may admit groups: its queue is mapped and command processors work. -/
def State.launchGoes (s : State) (L : Launch) : Bool :=
  !s.switching && s.cpRuns && match s.slotOfDesc L.die L.desc with | some k => (s.qslot k).st == .mapped | none => false

/-- Whether a waiting group of a launch of a class below `cls` could start on a core now. -/
def State.lowerLaunch (s : State) (core cls : Nat) : Bool :=
  s.cp.launches.any fun e => decide (e.2.cls < cls) && s.launchGoes e.2 &&
    match e.2.st with
    | .running => e.2.next.any fun x => x.cores.contains core && ((s.allotBars e.1 e.2 x.cores).bind fun t => t.admitOn e.1 x).isSome
    | .wait =>
      if e.2.hdr.together then
        (match s.dealNow e.1 e.2 with
         | some (ds, _) => (ds.flatMap Dealt.cores).contains core && (s.startTogether e.1 e.2).isSome
         | none => false)
      else e.2.next.any fun x => x.cores.contains core && ((s.allotBars e.1 e.2 x.cores).bind fun t => t.admitOn e.1 x).isSome
    | _ => false

/-- Whether a saved group of a class below `cls` could return to a core now. -/
def State.lowerSaved (s : State) (core cls : Nat) : Bool :=
  s.groups.any fun e => decide (e.2.cls < cls) && !e.2.isTwin && (s.seat e.1 core).isSome

/-- Whether work of a lower class number than `cls` could start on a core now: it goes first (R13). -/
def State.lowerWork (s : State) (core cls : Nat) : Bool := s.lowerTask core cls || s.lowerLaunch core cls || s.lowerSaved core cls

/-- The first waiting group that has its barriers and fits, where no work of a lower class number goes first (R13): of a launch that runs, one whose die or quad is new waits for them
(R392, R394, R395). -/
def State.startOne (s : State) (id : Nat) (L : Launch) : Option State :=
  L.next.findSome? fun x =>
    if x.cores.any fun c => s.lowerWork c L.cls then none
    else match s.allotBars id L x.cores with
    | none => none
    | some t => (if x.rejoin then t.freshCode L [x] else t).admitOn id x

/-- A launch whose groups start together starts, where no work of a lower class number goes first on one of their cores (R13). -/
def State.startAll (s : State) (id : Nat) (L : Launch) : Option State :=
  match s.dealNow id L with
  | none => none
  | some (ds, _) => if (ds.flatMap Dealt.cores).any fun c => s.lowerWork c L.cls then none else s.startTogether id L

/-- GROUP_ADMIT (R29, R392): a launch in CHECK tries its barriers again; one in WAIT starts, a gang, neighbourhood or elastic launch
with all of its groups at once; a running one admits one more group. -/
def execGroupAdmit (launch : Nat) (s : State) : Host.Outcome State Fault Refusal :=
  match tabGet s.cp.launches launch with
  | none => .next s
  | some L =>
    if !s.launchGoes L then .next s
    else match L.st with
      | .check =>
        match s.allotBars launch L (L.waiting.flatMap Dealt.cores) with
        | none => .next s
        | some t => .next ((t.modLaunch launch fun M => { M with st := .wait }).freshCode L L.waiting)
      | .wait => .next ((if L.hdr.together then s.startAll launch L else s.startOne launch L).getD s)
      | .running => .next ((s.startOne launch L).getD s)
      | _ => .next s

/-! ## Restores and fault tasks (R13, R328, R340) -/

/-- GROUP_RESTORE (R13, R340): a saved group is restored to an admitting core, with the rest of its launch where that comes back
together; work of a lower class number that could start there goes first. -/
def execGroupRestore (grp core : Nat) (s : State) : Host.Outcome State Fault Refusal :=
  match s.group grp with
  | none => .next s
  | some G =>
    if G.isTwin ∨ s.lowerWork core G.cls then .next s
    else
      let others := s.comesWith grp G
      match others.foldl (fun (r : Option State) g => r.bind fun t => t.seatAny g) (s.seat grp core) with
      | none => .next s
      | some t => .next ((grp :: others).foldl (fun u g => (s.pairOf g).foldl (fun v h => v.resumed h) u) t)

/-- FAULTTASK (R13, R328): the task that comes first in a class slot starts its handler group on `core`, or the default handler acts;
work of a lower class number that could start there goes first. `maps` are the entries that Cuset writes for private pages (R421). -/
def execFaulttask (die cls core : Nat) (maps : List TableWrite) (s : State) : Host.Outcome State Fault Refusal :=
  if s.switching ∨ !s.cpRuns ∨ s.dieLost die ∨ s.dieClock die = 3 then .next s
  else match s.nextTask (tabVal [] s.cp.tasks (8 * die + cls)) with
    | none => .next s
    | some (.remote dev ctx p late) => if s.lowerWork core cls then .next s else .next (s.startRemote die cls core dev ctx p late)
    | some (.own rid) =>
      match s.record rid with
      | none => .next (s.dropTask rid)
      | some R =>
        if R.st ≠ .parked then .next (s.dropTask rid)
        else if R.toFirmware then .next (s.defaultHandler rid R maps)
        else if s.lowerWork core cls then .next s
        else .next (s.startOwn die cls core rid R)

end Sys2Proof.Machine
end

