-- ==== Sys2Proof/Machine/PacketEvents.lean ====
section
/-! DEFINITION. What the command processors do: packets (R386-R390, R394, R402, R403), the beginning of launches (R381, R391-R393,
R421), time slices (R385), held interrupts (R397), host aborts (R384) and lost dies (R395). -/
namespace Sys2Proof.Machine

/-! ## Packets -/

/-- The packet at RD of a user slot of a die begins if it has the type asked for and may begin; one that breaks R386 is refused. -/
def State.packetStep (s : State) (die slot : Nat) (type : Nat → Bool) (ok : List Byte → Bool)
    (run : Nat → Nat → List Byte → State) : Host.Outcome State Fault Refusal :=
  let k := slotKey die slot
  if 56 ≤ slot ∨ s.dieLost die ∨ s.dieClock die = 3 then .next s
  else match s.nextPacket k with
    | none => .next s
    | some p =>
      let idx := (s.qslot k).rd
      if !type (pktType p) then .next s
      else if !(pktHeadOk p && ok p) then .next ((s.beginPacket k p .finished).refusePacket k idx)
      else .next (run k idx p)

/-- A packet whose effect is applied by `t`, at the signal `after` or at none, completes. -/
def State.donePacket (s : State) (k idx : Nat) (p : List Byte) (after : Nat) (t : State → Option State) : State :=
  let s1 := s.beginPacket k p .finished
  match t s1 with
  | some u => u.endAfter k idx .dec after
  | none => s1.refusePacket k idx

/-- NOP_PACKET (R386): a NOP begins and completes. A packet whose TYPE no queue may hold is refused here. -/
def execNopPacket (die slot : Nat) (s : State) : Host.Outcome State Fault Refusal :=
  s.packetStep die slot (fun t => t == 0 || decide (7 ≤ t)) (fun p => zeroAt p [(8, 56)]) fun k idx p => s.donePacket k idx p 0 some

/-- SIGNAL (R386, R387): it waits while the word of its signal is being revoked (R264). -/
def execSignalPacket (die slot : Nat) (s : State) : Host.Outcome State Fault Refusal :=
  s.packetStep die slot (· == 3)
    (fun p => canonical (pkt p 8 8) && signalOk (pkt p 8 8) && decide (pkt p 16 1 < 2) && zeroAt p [(17, 7), (32, 32)] &&
      (pkt p 16 1 == 0 || decide (1 ≤ signed64 (pkt p 24 8))))
    fun k idx p => if s.signalHeld (s.qslot k).asid (pkt p 8 8) then s else s.donePacket k idx p (pkt p 8 8) fun t =>
      t.signal (t.qslot k).asid (pkt p 8 8) (if pkt p 16 1 = 0 then fun _ => signed64 (pkt p 24 8) else signalSub (signed64 (pkt p 24 8)))

/-- The target die count of an elastic launch that a queue and a packet index name, between the header's minimum and maximum. -/
def State.stepmark (s : State) (asid desc idx dies : Nat) : State :=
  let hit := fun (L : Launch) => L.desc == desc && L.pkt == idx && L.asid == asid && L.hdr.elastic && L.st != .done && L.st != .refused
  let set := fun (_ : Nat) (L : Launch) => if hit L then { L with target := max L.hdr.minDies (min L.hdr.maxDies dies) } else L
  { s with cp := { s.cp with launches := (tabMap s.cp.launches set) } }

/-- STEPMARK (R394): the target die count of the LAUNCH that it names. -/
def execStepmarkPacket (die slot : Nat) (s : State) : Host.Outcome State Fault Refusal :=
  s.packetStep die slot (· == 6)
    (fun p => canonical (pkt p 8 8) && decide (1 ≤ pkt p 24 1) && decide (pkt p 24 1 ≤ 12) && zeroAt p [(25, 39)])
    fun k idx p => s.donePacket k idx p 0 fun t => some (t.stepmark (t.qslot k).asid (pkt p 8 8) (pkt p 16 8) (pkt p 24 1))

/-! ## Barriers and fences (R389, R390, R403) -/

/-- What a BARRIER finds: some signal faults or has failed, all are satisfied, or some are pending. -/
inductive Signals where
  | faults | failed | satisfied | pending
deriving DecidableEq, Repr

/-- The signals of a BARRIER as they stand (R387). -/
def State.readSignals (s : State) (asid : Nat) (ss : List Nat) : Signals :=
  let vs := ss.map (s.signalValue asid)
  if vs.any (·.isNone) then .faults
  else if vs.any fun v => decide (v.getD 0 < 0) then .failed
  else if vs.all fun v => v.getD 0 == 0 then .satisfied
  else .pending

/-- A BARRIER that holds is tested: it completes, or fails its queue (R389). -/
def State.testBarrier (s : State) (k idx : Nat) (ss : List Nat) : State :=
  match s.readSignals (s.qslot k).asid ss with
  | .pending => s
  | .satisfied => s.endPacket k idx .dec
  | .failed => (s.endPacket k idx (.fail (-1))).abortQueue k
  | .faults => s.refusePacket k idx

/-- BARRIER (R389, R403): it reads its signals as it begins. -/
def execBarrierPacket (die slot : Nat) (s : State) : Host.Outcome State Fault Refusal :=
  s.packetStep die slot (· == 2) (fun p => (barrierSignals p).all signalOk) fun k idx p =>
    (s.beginPacket k p (.barrier (barrierSignals p))).testBarrier k idx (barrierSignals p)

/-- The packets of a slot that wait, with what they wait for. -/
def State.slotWaits (s : State) (die slot : Nat) : List Begun :=
  let q := s.qslot (slotKey die slot)
  if q.st = .mapped ∧ s.cpRuns ∧ !s.dieLost die ∧ s.dieClock die ≠ 3 then q.begun else []

/-- BARRIER_RESOLVE (R389). -/
def execBarrierResolve (die slot : Nat) (s : State) : Host.Outcome State Fault Refusal :=
  .next ((s.slotWaits die slot).foldl (fun t b => match b.fl with
    | .barrier ss => t.testBarrier (slotKey die slot) b.idx ss
    | _ => t) s)

/-- Whether every queue that a QFENCE names shows its count; none where a descriptor cannot be read (R390). -/
def State.countsReached (s : State) (asid : Nat) (ws : List (Nat × Nat)) : Option Bool :=
  ws.foldl (fun r w => match r, s.read64 asid (w.1 + 24) with
    | some b, .ok n => some (b && decide (w.2 ≤ n))
    | _, _ => none) (some true)

/-- A QFENCE tested (R390). -/
def State.testQfence (s : State) (k idx : Nat) (ws : List (Nat × Nat)) : State :=
  match s.countsReached (s.qslot k).asid ws with
  | some true => s.endPacket k idx .dec
  | some false => s
  | none => s.refusePacket k idx

/-- QFENCE (R390). -/
def execQfencePacket (die slot : Nat) (s : State) : Host.Outcome State Fault Refusal :=
  s.packetStep die slot (· == 5)
    (fun p => ((qfenceWaits p).all fun w => canonical w.1 && w.1 % 64 == 0) && zeroAt p [(56, 8)]) fun k idx p =>
    (s.beginPacket k p (.qfence (qfenceWaits p))).testQfence k idx (qfenceWaits p)

/-- QFENCE_SATISFIED (R390). -/
def execQfenceSatisfied (die slot : Nat) (s : State) : Host.Outcome State Fault Refusal :=
  .next ((s.slotWaits die slot).foldl (fun t b => match b.fl with
    | .qfence ws => t.testQfence (slotKey die slot) b.idx ws
    | _ => t) s)

/-! ## COPY (R386, R388) -/

/-- COPY (R388): a copy on the firmware core's engine, under the queue's ASID. -/
def execCopyPacket (die slot : Nat) (s : State) : Host.Outcome State Fault Refusal :=
  match s.fwSite die with
  | none => .next s
  | some site =>
    let core := 36 * die + site
    if 512 ≤ (s.copyEng core).copies.length then .next s
    else s.packetStep die slot (· == 4)
      (fun p => canonical (pkt p 8 8) && canonical (pkt p 16 8) && pkt p 8 8 % 4 == 0 && pkt p 16 8 % 4 == 0 &&
        pkt p 24 8 % 4 == 0 && decide (pkt p 24 8 < 2 ^ 32) && zeroAt p [(32, 32)])
      fun k _ p =>
        let q := s.qslot k
        (s.beginPacket k p (.copy s.eng.nextCopy)).startCopy core
          { owner := .packet die slot, op := 0xB2, tag := 0, queue := 0, asid := q.asid, ctx := q.ctx, src := pkt p 8 8,
            dst := pkt p 16 8, len := pkt p 24 8, bar := none, begun := false, segs := [], failed := false }

/-! ## LAUNCH (R381, R386, R391-R393) -/

/-- The fields of a LAUNCH packet keep R386. -/
def launchOk (p : List Byte) : Bool :=
  canonical (pkt p 8 8) && decide (pkt p 20 2 < 4096) && decide (pkt p 22 1 ≤ 16) && decide (pkt p 23 1 ≤ 16) &&
    decide (pkt p 24 1 ≤ 8) && decide (pkt p 25 1 ≤ 4) && zeroAt p [(26, 6), (40, 24)]

/-- Whether a context may launch a kernel (R381, R92). -/
def launchAllowed (c : Ctx) (h : Header) (pod : Nat) : Bool :=
  let need := fun flag bit => !flag || c.allow.testBit bit
  need h.gang 0 && need h.neigh 1 && need h.elastic 2 && need h.mirror 3 && need (pod != 0) 5 &&
    (h.roles.testBit 0 || !(h.roles.testBit 1 || h.roles.testBit 2 || h.roles.testBit 3))

/-- Whether groups of a kernel, dealt to cores, fit those cores when they are idle: no core holds more than R30 lets it. -/
def fitIdle (h : Header) (ds : List Dealt) : Bool :=
  ds.all fun x => decide ((ds.filter fun y => y.core == x.core).length ≤ h.groupsPerCore)

/-- Whether a gang, neighbourhood or elastic launch fits the idle cores of its dies (R392). -/
def State.everFits (s : State) (h : Header) (groups : Nat) (ds : List Nat) (dealt : List Dealt) : Bool :=
  if h.neigh then (s.dealRect h ds true).isSome
  else if h.elastic then
    decide (h.minDies ≤ (ds.filter fun d => !(s.placeList d h).isEmpty && fitIdle h (s.dealBlock h 0 groups d false)).length)
  else if h.gang then fitIdle h dealt
  else true

/-- The dies of a launch: of DIEMASK, or all, within the partition, less lost, spare and stopped ones (R391, R445). -/
def State.launchDies (s : State) (c : Ctx) (mask : Nat) : List Nat :=
  (List.range 12).filter fun d => c.part.testBit d && (mask == 0 || mask.testBit d) && !s.cp.spareDies.contains d && s.takesGroups d

/-- The launch that a packet of a queue describes, if it is not refused (R92, R381, R386, R391, R393). -/
def State.newLaunch (s : State) (die k idx : Nat) (p : List Byte) : Option Launch :=
  let q := s.qslot k
  match s.ctx q.ctx, s.readHeader q.asid (pkt p 8 8) with
  | some c, some h =>
    let groups := pkt p 16 4
    let ds := s.launchDies c (pkt p 20 2)
    let placed := ds.filter fun d => !(s.placeList d h).isEmpty
    let later := h.neigh || h.elastic
    let dealt := if later then [] else s.deal h groups ds
    if !launchAllowed c h (pkt p 25 1) then none
    else if h.neigh ∧ groups ≠ h.rows * h.cols then none
    else if groups ≠ 0 ∧ placed.isEmpty then none
    else if groups ≠ 0 ∧ !s.everFits h groups ds dealt then none
    else some
      { die := die, slot := k % 64, desc := q.desc, pkt := idx, ctx := q.ctx, asid := q.asid, cls := q.cls, entry := pkt p 8 8,
        arg := pkt p 32 8, hdr := h, st := .check, dies := ds, groups := groups, waiting := dealt,
        left := if later then groups else dealt.length, joined := (dealt.map fun x => dieOf x.core).dedup, landed := [], target := 0, step := 0,
        want := [pkt p 22 1, pkt p 23 1, pkt p 24 1, pkt p 25 1], allot := [], failed := false }
  | _, _ => none

/-- The number of the next launch; 0 is none. -/
def State.nextLaunch (s : State) : Nat := max 1 (tabNext s.cp.launches)

/-- A launch enters the machine in CHECK, and goes on to WAIT if its barriers are free (R392). -/
def State.enterLaunch (s : State) (id : Nat) (L : Launch) : State :=
  let s1 : State := { s with cp := { s.cp with launches := tabSet s.cp.launches id L } }
  match s1.allotBars id L (L.waiting.flatMap Dealt.cores) with
  | none => s1
  | some t => (t.modLaunch id fun M => { M with st := .wait }).freshCode L L.waiting

/-- LAUNCH (R392): CHECK. The private mark of the context rises to the header's, over the pages that `maps` map; until Cuset has mapped
them the packet does not begin (R421, log 44). A launch of no groups completes at once. -/
def execLaunchPacket (die slot : Nat) (maps : List TableWrite) (s : State) : Host.Outcome State Fault Refusal :=
  s.packetStep die slot (· == 1) launchOk fun k idx p =>
    match s.newLaunch die k idx p with
    | none => (s.beginPacket k p .finished).refusePacket k idx
    | some L =>
      let s1 := if L.hdr.priv ≤ tabVal 0 s.xl.privhw L.ctx then some s else s.growPrivate L.ctx L.asid L.hdr.priv maps
      match s1 with
      | none => s
      | some s1 =>
      if L.groups = 0 then (s1.beginPacket k p .finished).endPacket k idx .dec
      else
        let id := s1.nextLaunch
        (s1.beginPacket k p (.launch id)).enterLaunch id L

/-! ## Slots (R385) -/

/-- An idle queue: DONE equals WR and no launch of it runs or is saved. -/
def State.idleQueue (s : State) (k : Nat) : Bool :=
  let q := s.qslot k
  q.done == q.wr && (s.launchesOfSlot k).isEmpty

/-- The slot that a class below its minimum reclaims when none is free: the borrowed slot of the highest-numbered class above its
minimum, of them the most recently mapped. -/
def State.reclaimed (s : State) (die : Nat) : Option Nat :=
  let mine := s.cp.slots.filter fun e => e.1 / 64 == die && decide (e.1 % 64 < 56) && e.2.st != .free
  let cands := mine.filter fun e => e.2.borrowed && decide (tabVal 7 s.cp.slotMin e.2.cls < (s.classSlots die e.2.cls).length) &&
    (e.2.st == .mapped || e.2.st == .held)
  if mine.length < 56 then none
  else (greatestBy (fun e => [e.2.cls, e.2.mappedAt, e.1]) cands).map (·.1)

/-- Whether a slot's queue has been mapped for 2 ms and may be unmapped: the only slot of a class within its minimum keeps its queue
(R385). -/
def State.timeUp (s : State) (k : Nat) : Bool :=
  let q := s.qslot k
  (q.st == .mapped || q.st == .held) && q.op.isNone && decide (200000 ≤ s.ticks - q.mappedAt) &&
    !((s.classSlots (k / 64) q.cls).length == 1 && decide (1 ≤ tabVal 7 s.cp.slotMin q.cls))

/-- Whether another queue of the slot's class has been mapped before its own for so long that it leaves first (R385). -/
def State.timeUpFirst (s : State) (k : Nat) : Bool :=
  let q := s.qslot k
  (s.classSlots (k / 64) q.cls).any fun e => s.timeUp e.1 && (decide (e.2.mappedAt < q.mappedAt) || (e.2.mappedAt == q.mappedAt && decide (e.1 < k)))

/-- QUEUE_TIMESLICE (R385): a free slot takes the waiting queue whose turn it is; a queue leaves its slot to its class when that waits and
the queue is idle, or has been mapped for 2 ms, in order of mapping time; or a class below its minimum, that of the longest-waiting
queue, reclaims the slot. -/
def execQueueTimeslice (die slot : Nat) (s : State) : Host.Outcome State Fault Refusal :=
  let k := slotKey die slot
  let q := s.qslot k
  if 56 ≤ slot ∨ 12 ≤ die ∨ q.op.isSome ∨ !s.cpRuns ∨ s.dieLost die ∨ s.dieClock die = 3 then .next s
  else if q.st = .free then .next (s.assignSlot k none)
  else if q.st ≠ .mapped ∧ q.st ≠ .held then .next s
  else if s.classWaits die q.cls ∧ (s.idleQueue k ∨ (s.timeUp k ∧ !s.timeUpFirst k)) then .next (s.unmapSlot k none (some q.cls))
  else match s.cp.seen.findSome? fun w => (s.waitingClass die w).filter fun c => decide (0 < s.slotsDue die c) with
    | some c => if s.reclaimed die = some k then .next (s.unmapSlot k none (some c)) else .next s
    | none => .next s

/-! ## Interrupts (R397) -/

/-- MSIX_DEADLINE (R397): one message covers every completion held on the vector. -/
def execMsixDeadline (fn vec : Nat) (s : State) : Host.Outcome State Fault Refusal :=
  let mine := fun (h : HeldIrq) => h.fn == fn && h.vec == vec
  if s.cp.held.any fun h => mine h && decide (h.deadline ≤ s.ticks) then
    .next (State.sendMsix { s with cp := { s.cp with held := s.cp.held.filter fun h => !mine h } } fn vec)
  else .next s

/-! ## Host aborts (R384, R331) -/

/-- HOST_ABORT (R384): every group of the launch parks as one subject with that cause, groups that have not started never do, and
the queue enters STATE 2. -/
def execHostAbort (launch : Nat) (s : State) : Host.Outcome State Fault Refusal :=
  match tabGet s.cp.launches launch with
  | none => .next s
  | some L =>
    if L.st = .done ∨ L.st = .refused then .next s
    else
      let gs := (s.groupsOf launch).filter fun e => !e.2.isTwin && !e.2.parked
      let n := ((s.groupsOf launch).filter fun e => !e.2.isTwin).length
      let s1 := s.modLaunch launch fun M => { M with waiting := [], left := n, st := if n = 0 then M.st else if M.st = .check ∨ M.st = .wait then .running else M.st }
      let s2 := gs.foldl (fun t e => t.parkGroup e.1 0x52) s1
      let s3 := if n = 0 then (s2.failLaunch launch).launchDone launch else s2
      .next (match s3.slotOfDesc L.die L.desc with
        | some k => s3.abortQueue k
        | none => s3)

/-! ## Lost dies (R395) -/

/-- The words that the cores of a die own belong to nobody; answers held for their revokes leave. -/
def State.disown (s : State) (die : Nat) : State :=
  let gone := fun c => dieOf c == die
  let held := s.slices.flatMap fun e => e.2.lines.flatMap fun l => l.2.owners.filterMap fun o => match o.2 with
    | .revoke c (some x) _ => if gone c then some x else none
    | _ => none
  let fix := fun (o : Owner) => show Option Owner from match o with
    | .core c => if gone c then none else some (Owner.core c)
    | .revoke c h next =>
      let nx := next.filter fun n => !gone n
      if gone c then nx.map Owner.core else some (Owner.revoke c h nx)
  let s1 : State := { s with
    slices := tabMap s.slices fun _ S => { S with lines := tabMap S.lines fun _ l =>
      { l with owners := l.owners.filterMap fun o => (fix o.2).map fun x => (o.1, x) } },
    msgs := s.msgs.filter fun (m : Msg) => !(gone m.core && match m.body with | .revoke _ => true | _ => false),
    revAcks := s.revAcks.filter fun a => !gone a.core,
    cores := tabMap s.cores fun c C => if gone c then { C with l1 := [], icache := [], grow := [], frame := none } else C }
  held.dedup.foldl (fun t x => t.reply x.1 x.2) s1

/-- DIE_LOST (R395): the die is lost for good. Fault tasks that wait in its slots go to the Cuset default handler of their subject's die,
its queues have no slot any more, its handlers and its firmware end. A launch that is parked for another lost die already parks for
this one when that is replaced. -/
def execDieLost (die : Nat) (s : State) : Host.Outcome State Fault Refusal :=
  if s.dieLost die ∨ 12 ≤ die then .next s
  else
    let ids := (s.cp.launches.filter fun e => e.2.st != .done && e.2.st != .refused && e.2.st != .parked &&
      ((s.groupsOf e.1).any (fun g => g.2.die == die) || e.2.waiting.any fun x => dieOf x.core == die)).map (·.1)
    let s1 : State := State.disown { s with cp := { s.cp with lost := s.cp.lost ++ [die] } } die
    let s2 := ids.foldl (fun t id => t.loseLaunch id die) (((s1.groups.filter fun e =>
      e.2.die == die && (s1.launchOf e.2).any fun L => L.st == .parked).map (·.1)).foldl State.strand s1)
    let ends := (s2.groups.filter fun e => e.2.launch == 0 && e.2.place != .ended && e.2.die == die).map (·.1)
    let s3 := ends.foldl (fun t g => ((t.strand g).killGroup g)) s2
    let tasks := (s3.cp.tasks.filter fun e => e.1 / 8 == die).flatMap (·.2)
    let here := s3.cp.slots.filter fun e => e.1 / 64 == die
    let s4 : State := { s3 with cp := { s3.cp with
      tasks := s3.cp.tasks.filter fun e => e.1 / 8 != die, slots := s3.cp.slots.filter fun e => e.1 / 64 != die,
      seen := s3.cp.seen ++ (here.filter fun e => decide (e.2.done < e.2.wr)).map fun e => (e.2.desc, e.2.ctx) } }
    .next (tasks.foldl (fun t x => match x with
      | .own rid => match t.record rid with
        | some R => t.deliverLocal rid (Route.default R.subj.die)
        | none => t
      | .remote dev _ p _ => t.proxyKill dev (pkt p 8 4) 0) s4)

end Sys2Proof.Machine
end

