-- ==== Sys2Proof/Machine/XlateEvents.lean ====
section
/-! DEFINITION. Stores to device registers that act: spare dies and slot minima (R377), the translation engine's invalidations (R417) and
private marks (R421), the swap engines (R422, R423). -/
namespace Sys2Proof.Machine

/-! ## Stores on their way (R377) -/

/-- Store `k` of those on their way to device registers, if its fibre's earlier ones have taken effect. -/
def State.devAt (s : State) (k : Nat) : Option DevWrite :=
  match s.host.devq[k]? with
  | none => none
  | some d =>
    if (s.host.devq.take k).any fun x => x.grp == d.grp && x.wave == d.wave && x.fib == d.fib then none else some d

/-- A store to a device register completes. -/
def State.devDone (s : State) (k : Nat) (d : DevWrite) : State :=
  let va := devBase + d.off
  State.post { s with host := { s.host with devq := s.host.devq.eraseIdx k } }
    { core := d.core, grp := d.grp, wave := d.wave, slot := d.slot, fib := d.fib,
      asid := ((s.group d.grp).map (·.asid)).getD 0, line := va % 2 ^ 56 / 64, body := .ack false }

/-- A store to a device register takes effect, if it goes to one of the offsets asked for. -/
def State.devStep (s : State) (k : Nat) (mine : DevWrite → Bool) (run : DevWrite → State → State) :
    Host.Outcome State Fault Refusal :=
  match s.devAt k with
  | none => .next s
  | some d => if mine d then .next (run d (s.devDone k d)) else .next s

/-- How many bits of the low `n` of a word are set. -/
def popBits (n v : Nat) : Nat := ((List.range n).filter v.testBit).length

/-- SPARES_WRITE (R377): ignored whole if more than two bits are set. -/
def execSparesWrite (k : Nat) (s : State) : Host.Outcome State Fault Refusal :=
  s.devStep k (fun d => d.off == 0x3000) fun d t =>
    if 2 < popBits 12 d.val then t else { t with cp := { t.cp with spares := d.val % 4096 } }

/-- SLOTMIN_WRITE (R377): ignored whole if the eight minima would exceed 56. -/
def execSlotminWrite (k : Nat) (s : State) : Host.Outcome State Fault Refusal :=
  s.devStep k (fun d => decide (0x3008 ≤ d.off) && decide (d.off < 0x3048)) fun d t =>
    let m := tabPut 7 t.cp.slotMin ((d.off - 0x3008) / 8) (d.val % 64)
    if 56 < ((List.range 8).map (tabVal 7 m)).foldl (· + ·) 0 then t else { t with cp := { t.cp with slotMin := m } }

/-- PRIVHW_WRITE (R417, R421). -/
def execPrivhwWrite (k : Nat) (s : State) : Host.Outcome State Fault Refusal :=
  s.devStep k (fun d => decide (0x8000 ≤ d.off) && decide (d.off < 0x10000)) fun d t =>
    t.setMark ((d.off - 0x8000) / 8) (d.val % 2 ^ 24)

/-! ## TLBINV (R417) -/

/-- Whether a range of an invalidation covers some byte of `n` from an address. -/
def Inval.covers (x : Inval) (va n : Nat) : Bool :=
  x.size == 3 || (decide (va < x.va + 2 ^ pageShift x.size) && decide (x.va < va + n))

/-- The invalidation that a value asks for. -/
def invalOf (v : Nat) : Inval :=
  let size := bits v 16 2
  let va := bits v 20 40 * 65536
  { asid := bits v 0 16, size := size, flush := v.testBit 18,
    va := if size = 3 then 0 else va / 2 ^ pageShift size * 2 ^ pageShift size }

/-- The leaves of the range go from every TLB. -/
def State.dropRange (s : State) (x : Inval) : State := s.dropLeaves x.asid fun e => x.covers e.va (2 ^ pageShift e.size)

/-- The old leaves of a range: those of the TLBs, and those that a walk of the range finds. -/
def State.oldLeaves (s : State) (x : Inval) : List TlbEntry :=
  (s.xl.tlbs.flatMap (·.2)).filter (fun e => e.asid == x.asid && x.covers e.va (2 ^ pageShift e.size)) ++ s.leaves x.asid x.covers

/-- Every cached line of the range goes, and every PA-tagged line of the bytes that the old leaves map. -/
def State.flushRange (s : State) (x : Inval) : State :=
  let pas := ((s.oldLeaves x).filter fun e => e.leaf.peer == 0).map fun e => (e.leaf.pa, 2 ^ pageShift e.size)
  let lines := s.slices.flatMap fun S => (S.2.plines.filter fun l => pas.any fun p => decide (p.1 ≤ 64 * l.1) && decide (64 * l.1 < p.1 + p.2)).map
    (·.1)
  lines.foldl (fun t l => t.flushPhys l) (s.flushWhere x.asid fun line => x.covers (64 * line) 64)

/-- TLBINV (R417): ignored whole while one is in progress. -/
def execTlbinv (k : Nat) (s : State) : Host.Outcome State Fault Refusal :=
  s.devStep k (fun d => d.off == 0x6008) fun d t =>
    if t.xl.inval.isSome then t
    else
      let x := invalOf d.val
      let u := State.dropRange (if x.flush then t.flushRange x else t) x
      { u with xl := { u.xl with inval := some x } }

/-- TLBINV_DONE (R417): what was taken from the old entries since is dropped too, and BUSY clears. -/
def execTlbinvDone (s : State) : Host.Outcome State Fault Refusal :=
  match s.xl.inval with
  | none => .next s
  | some x =>
    let t := s.dropRange x
    .next { t with xl := { t.xl with inval := none } }

/-! ## Swap engines (R422, R423) -/

/-- A swap engine changed. -/
def State.modSwap (s : State) (e : Nat) (f : Swap → Swap) : State :=
  { s with xl := { s.xl with swaps := tabPut Swap.zero s.xl.swaps e (f (s.swap e)) } }

/-- Whether two runs of bytes overlap. -/
def overlap (a n b m : Nat) : Bool := decide (a < b + m) && decide (b < a + n)

/-- Whether a frame is in a swap that runs. -/
def State.inSwap (s : State) (pa n : Nat) : Bool :=
  s.xl.swaps.any fun e => e.2.state == 1 &&
    (overlap pa n e.2.runA (2 ^ pageShift e.2.size) || overlap pa n e.2.runB (2 ^ pageShift e.2.size))

/-- The ASIDs that have an entry in the root table. -/
def State.rootAsids (s : State) : List Nat := s.entriesOf s.xl.tbase 16

/-- Whether a named leaf maps its frame at a size and may be swapped: a table that translation reaches holds it at the level of the
size. -/
def State.swapLeaf (s : State) (at_ frame size : Nat) : Bool :=
  at_ == 0 || s.rootAsids.any fun asid => (s.leaves asid fun _ _ => true).any fun e =>
    e.at_ == at_ && e.size == size && e.leaf.pa == frame && e.leaf.peer == 0 && !e.leaf.sliceOnly

/-- The code with which a GO is refused, 0 for none (R422). -/
def State.swapCode (s : State) (e size : Nat) : Nat :=
  let x := s.swap e
  let n := 2 ^ pageShift size
  if x.state = 1 ∨ (size ≠ 3 ∧ (s.inSwap x.fa n ∨ s.inSwap x.fb n)) then 1
  else if size = 3 ∨ !frameOk x.fa size ∨ !frameOk x.fb size ∨ (x.pa = 0 ∧ x.pb = 0) then 2
  else if !s.swapLeaf x.pa x.fa size ∨ !s.swapLeaf x.pb x.fb size then 3
  else 0

/-- The engine of a SWCTL offset. -/
def swapOf (off : Nat) : Nat := (off - 0x7000) / 0x40

/-- Whether an offset is a SWCTL. -/
def isSwctl (off : Nat) : Bool := decide (0x7000 ≤ off) && decide (off < 0x7800) && off % 0x40 == 0x20

/-- SWAP_GO (R423): the swap starts, or is refused with a code. A running engine keeps its state. -/
def execSwapGo (k : Nat) (s : State) : Host.Outcome State Fault Refusal :=
  s.devStep k (fun d => isSwctl d.off && d.val.testBit 2) fun d t =>
    let e := swapOf d.off
    match t.swapCode e (d.val % 4) with
    | 0 => t.modSwap e fun x =>
        { x with size := d.val % 4, state := 1, lines := 0, code := 0, runA := x.fa, runB := x.fb, leafA := x.pa, leafB := x.pb,
                 begun := t.meshCycles }
    | c => t.modSwap e fun x => { x with state := if x.state = 1 then 1 else 3, code := c }

/-- The bytes of two frames exchanged in memory. -/
def swapCells (x : Swap) (m : List Host.Cell) : List Host.Cell :=
  let moved := fun (c : Host.Cell) => x.cross c.1 != c.1
  (m.filter moved).foldl (fun t c => tabPut unwritten t (x.cross c.1) c.2) (m.filter fun c => !moved c)

/-- A leaf that names a frame of the swap names the other one. -/
def Leaf.crossed (l : Leaf) (x : Swap) : Leaf := if l.peer = 0 then { l with pa := x.cross l.pa } else l

/-- The frames that an object holds. -/
def ObjEntry.crossed (o : ObjEntry) (x : Swap) : ObjEntry := { o with frames := o.frames.map fun f => (f.1, x.cross f.2) }

/-- What a slice knows of the frames' addresses. -/
def Slice.crossed (S : Slice) (x : Swap) : Slice :=
  let line := fun (l : SLine) => { l with leaf := l.leaf.crossed x }
  let miss := fun (m : Miss) => match m.st with
    | .ready l => { m with st := .ready (l.crossed x) }
    | _ => m
  { S with
    lines := tabMap S.lines fun _ l => line l, fwd := tabMap S.fwd fun _ l => Leaf.crossed l x, miss := tabMap S.miss fun _ m => miss m,
    accept := S.accept.map fun e => (e.1, line e.2), objs := tabMap S.objs fun _ o => o.crossed x }

/-- The ADDR of the entry at a physical address written, unless none is named. -/
def State.movePte (s : State) (at_ pa : Nat) : State :=
  if at_ = 0 then s else s.putPaBytes at_ (natBytes 8 (pteMoved (leNat (s.paBytes at_ 8)) pa))

/-- SWAP_DONE (R423): one mesh cycle for each pair, then in one step the leaves are rewritten and dropped from every TLB. The bytes
are exchanged in that step: until then every access finds a moved line's bytes under its old address, which is redirected. -/
def execSwapDone (engine : Nat) (s : State) : Host.Outcome State Fault Refusal :=
  let x := s.swap engine
  if x.state ≠ 1 ∨ s.meshCycles < x.begun + swapTotal x.size + 1 then .next s
  else
    let lines := s.slices.flatMap fun S => (S.2.plines.filter fun l => x.cross (64 * l.1) != 64 * l.1).map (·.1)
    let s1 := lines.foldl (fun t l => t.flushPhys l) s
    let ops := tabMap s1.mesh.objOps fun _ o => { o with old := o.old.map fun e => e.crossed x }
    let s2 : State :=
      { s1 with mem := swapCells x s1.mem, slices := tabMap s1.slices (fun _ S => S.crossed x), mesh := { s1.mesh with objOps := ops } }
    let s3 := (s2.movePte x.leafA x.runB).movePte x.leafB x.runA
    let gone := fun (e : TlbEntry) => (e.at_ == x.leafA && x.leafA != 0) || (e.at_ == x.leafB && x.leafB != 0)
    let keep := fun (e : Nat × List TlbEntry) =>
      let l := e.2.filter fun y => !gone y
      if l.isEmpty then none else some (e.1, l)
    let s4 : State := { s3 with xl := { s3.xl with tlbs := s3.xl.tlbs.filterMap keep } }
    .next (s4.modSwap engine fun x => { x with state := 2, lines := swapTotal x.size })

end Sys2Proof.Machine
end

