-- ==== Sys2Proof/Machine/HostEvents.lean ====
section
/-! DEFINITION. The host interface (R424-R430): registers, doorbells, the BAR2 window, mailbox commands; contexts, bindings and peer lists
(R381, R429, R453); sealing, attestation and firmware hand-over (R399, R439-R443). -/
namespace Sys2Proof.Machine

/-! ## Functions -/

/-- A function's mailbox. -/
def State.box (s : State) (fn : Nat) : Mailbox := tabVal Mailbox.idle s.host.boxes fn

/-- A mailbox changed. -/
def State.modBox (s : State) (fn : Nat) (f : Mailbox → Mailbox) : State :=
  { s with host := { s.host with boxes := tabPut Mailbox.idle s.host.boxes fn (f (s.box fn)) } }

/-- Whether a partition die mask is that of a function: the PF reaches every one, a VF the one it is bound to. -/
def State.fnHas (s : State) (fn part : Nat) : Bool := fn == 0 || tabGet s.host.vfs fn == some part

/-- A die whose event ring takes what no die raises: the lowest that is not lost (log 26). -/
def State.logDie (s : State) : Nat := ((List.range 12).find? fun d => !s.dieLost d).getD 0

/-- An event for which the spec names no cause (log 26). -/
def State.logFree (s : State) (ctx desc : Nat) : State := s.drawn.logEvent s.logDie (s.freeWord.toNat % 256) ctx 0 desc 0

/-! ## Doorbells (R383, R426) -/

/-- The slots that hold a queue of a context, on any die. -/
def State.slotsOfQueue (s : State) (ctx desc : Nat) : List Nat :=
  (s.cp.slots.filter fun e => e.2.st != .free && e.2.desc == desc && e.2.ctx == ctx).map (·.1)

/-- The WR of a mapped queue read from its descriptor; what an aborted queue then announces is discarded (R383, R389). -/
def State.readWr (s : State) (k : Nat) : State :=
  let q := s.qslot k
  match s.read64 q.asid (q.desc + 8) with
  | .error _ => s
  | .ok wr =>
    let t := (s.modSlot k fun q => { q with wr := wr }).syncDesc k
    if q.qstate = 2 then t.abortQueue k else t

/-- A doorbell write as the firmware takes it (R426). -/
def State.takeDoorbell (s : State) (fn ctx val : Nat) : State :=
  match s.ctx ctx with
  | none => s.logFree ctx val
  | some c =>
    if !canonical val ∨ !s.fnHas fn c.part then s.logFree ctx val
    else match s.slotsOfQueue ctx val with
      | [] => if s.cp.seen.contains (val, ctx) then s else { s with cp := { s.cp with seen := s.cp.seen ++ [(val, ctx)] } }
      | ks => ks.foldl (fun t k => t.readWr k) s

/-- A write to `MBGO`: dropped while BUSY is set; else BUSY is set, STATUS reads busy, and the command and its arguments are held for
firmware (R427, log 26). -/
def State.takeGo (s : State) (fn val : Nat) : State :=
  if (s.box fn).busy then s
  else s.modBox fn fun b => { b with busy := true, cmd := val % 256, given := b.args, ran := false, status := 1 }

/-- Whether firmware cores stop or change image, so that what they would take is latched (R441). -/
def State.changing (s : State) : Bool := s.fw.stopping || s.fw.committed.isSome

/-- The context of a doorbell's offset. -/
def doorbellOf (off : Nat) : Option Nat :=
  if 0x1000000 ≤ off ∧ off < 0x1000000 + 0x1000 * 4096 ∧ off % 0x1000 = 0 then some ((off - 0x1000000) / 0x1000) else none

/-- A host write that firmware takes: a doorbell is latched while firmware cores change image, and a command waits in its mailbox,
whose BUSY drops those that follow it (R426, R427, R441). -/
def State.hostCall (s : State) (fn off val : Nat) : State :=
  match doorbellOf off with
  | none => s.takeGo fn val
  | some c =>
    if s.changing then { s with fw := { s.fw with latched := s.fw.latched ++ [(fn, off, val)] } } else s.takeDoorbell fn c val

/-- What was latched is delivered, in order. -/
def State.deliverLatched (s : State) : State :=
  s.fw.latched.foldl (fun t w => t.hostCall w.1 w.2.1 w.2.2) { s with fw := { s.fw with latched := [] } }

/-- DOORBELL (R426): the write of a function at an offset of its BAR0. -/
def execDoorbell (fn off val : Nat) (s : State) : Host.Outcome State Fault Refusal :=
  match doorbellOf off with
  | some _ => if fn ≤ 12 then .next (s.hostCall fn off (val % 2 ^ 64)) else .next s
  | none => .next s

/-! ## BAR0 registers (R425, R431, R434, R436, R444) -/

/-- `DEVNUM` written (R431). -/
def State.setDevnum (s : State) (val : Nat) : State := { s with links := { s.links with devnum := val % 4096 } }

/-- An `INWIN` entry's field written (R434); bits outside the named fields are not kept (log 70). -/
def InWin.put (w : InWin) (field val : Nat) : InWin :=
  match field with
  | 0 => { w with base := val / 65536 * 65536 }
  | 8 => { w with limit := val / 65536 * 65536 }
  | 16 => { w with src := val % 4096 }
  | _ => { w with valid := val.testBit 0, w := val.testBit 1 }

/-- An `INWIN` entry that nobody has written. -/
def InWin.zero : InWin := ⟨0, 0, 0, false, false⟩

/-- An event-ring register written; `EVWR` and `EVDROP` are read-only, and bits outside the named fields are not kept (log 70). -/
def EvRing.put (r : EvRing) (field val : Nat) : EvRing :=
  match field with
  | 0 => { r with base := val / 64 * 64 }
  | 8 => { r with size := val % 32 }
  | 24 => { r with rd := val }
  | _ => r

/-- A register of the PF written that acts on nothing else; bits outside the named fields are not kept (R4, log 70). -/
def State.pfWrite (s : State) (off val : Nat) : State :=
  if 0x1000 ≤ off ∧ off < 0x1300 then s.modRing ((off - 0x1000) / 0x40) fun r => r.put ((off - 0x1000) % 0x40) val
  else if off = 0x20000 then s.setDevnum val
  else if off = 0x20008 then { s with links := { s.links with lkto := val % 2 ^ 32 } }
  else if 0x21000 ≤ off ∧ off < 0x21200 then
    let w := (off - 0x21000) / 32
    { s with links := { s.links with
      inwin := (tabPut InWin.zero s.links.inwin w ((tabVal InWin.zero s.links.inwin w).put ((off - 0x21000) % 32) val)) } }
  else if 0x22000 ≤ off ∧ off < 0x22020 then
    { s with links := { s.links with podRoot := tabPut 0 s.links.podRoot ((off - 0x22000) / 8) (val % 4096) } }
  else if 0x30000 ≤ off ∧ off < 0x38000 then
    { s with links := { s.links with peerMap := tabPut 0 s.links.peerMap ((off - 0x30000) / 8) (val % 65536) } }
  else if off = 0x40000 then
    if s.pw.cmd.isSome then s else { s with pw := { s.pw with cmd := some val, applied := false } }
  else if off = 0x100000 then { s with host := { s.host with aperture := bits val 36 12 * 2 ^ 36 } }
  else s

/-- An aligned 8-byte write of a function to its BAR0 (R425). -/
def State.hostWrite (s : State) (fn off val : Nat) : State :=
  if off % 8 ≠ 0 ∨ 12 < fn then s
  else if off < 0x20 then s.modBox fn fun b => { b with args := b.args.set (off / 8) val }
  else if off = 0x20 then s.hostCall fn off val
  else if fn = 0 then s.pfWrite off val
  else s

/-- A store of firmware to a device register that acts on nothing else (R296, R417, R422). -/
def State.devPlain (s : State) (d : DevWrite) : State :=
  let off := d.off
  if 0x5000 ≤ off ∧ off < 0x5010 then
    let b := (off - 0x5000) / 8
    { s with mesh := { s.mesh with baseDies :=
        (tabPut BaseDie.zero s.mesh.baseDies b { (s.baseDie b) with nthr := bits d.val 0 16, othr := bits d.val 16 8 }) } }
  else if off = 0x6000 then { s with xl := { s.xl with tbase := bits d.val 19 29 * 2 ^ 19 } }
  else if 0x7000 ≤ off ∧ off < 0x7800 then
    let e := swapOf off
    match off % 0x40 with
    | 0x00 => s.modSwap e fun x => { x with fa := d.val }
    | 0x08 => s.modSwap e fun x => { x with fb := d.val }
    | 0x10 => s.modSwap e fun x => { x with pa := d.val }
    | 0x18 => s.modSwap e fun x => { x with pb := d.val }
    | _ => s
  else s

/-- Whether a store to a device register has a step of its own. -/
def actsAlone (d : DevWrite) : Bool :=
  d.off == 0x3000 || (decide (0x3008 ≤ d.off) && decide (d.off < 0x3048)) || d.off == 0x3100 || d.off == 0x6008 ||
    (isSwctl d.off && d.val.testBit 2) || decide (0x8000 ≤ d.off)

/-- REGISTER_WRITE (R4): a write of the host to its BAR0, or store `k` of those on their way from firmware cores; a read-only
register ignores it. -/
def execRegisterWrite (src : WriteSrc) (s : State) : Host.Outcome State Fault Refusal :=
  match src with
  | .host fn off val => if (doorbellOf off).isSome then .next s else .next (s.hostWrite fn off (val % 2 ^ 64))
  | .core k => s.devStep k (fun d => !actsAlone d) fun d t => t.devPlain d

/-- DEVNUM_WRITE (R431). -/
def execDevnumWrite (val : Nat) (s : State) : Host.Outcome State Fault Refusal := .next (s.setDevnum val)

/-- VF_PARTITION_BINDING (R427): virtual function `vf` is bound to a partition, or to none with an empty mask. -/
def execVfPartitionBinding (vf part : Nat) (s : State) : Host.Outcome State Fault Refusal :=
  if vf = 0 ∨ 12 < vf then .next s
  else .next { s with host := { s.host with vfs := tabPut 0 s.host.vfs vf (part % 4096) } }

/-! ## BAR2 (R425) -/

/-- BAR2_ACCESS (R425): the PF reads 8 bytes, or writes bytes, at an offset of its window on the aperture. The host is one of the writers
that revoke an owner, and its access waits for a revoke that runs (R262, R264). -/
def execBar2Access (off : Nat) (data : Option (List Byte)) (s : State) : Host.Outcome State Fault Refusal :=
  let pa := s.host.aperture + off
  if s.physBusy pa (match data with | some bs => bs.length | none => 8) then .next s
  else match data with
  | none =>
    let bs := (List.range 8).map fun i => if off + i < 2 ^ 36 ∧ inTier (pa + i) then s.physByte (pa + i) else (0xFF : Byte)
    .next { s with host := { s.host with lastRead := bs } }
  | some bs =>
    .next ((pieces (bs.length / 64 + 2) pa bs.length).foldl (fun t p =>
      if p.1 - pa + off < 2 ^ 36 ∧ inTier p.1 then t.physWrite p.1 ((bs.drop (p.1 - pa)).take p.2) else t) s)

/-! ## Commands (R427, R428) -/

/-- A command that has run, with its status and result. -/
def State.ends (s : State) (fn status result : Nat) : State :=
  s.modBox fn fun b => { b with ran := true, status := status, result := result % 2 ^ 32 }

/-- A mailbox command performed: PF commands by the PF only; the ROM loader takes four of them (R428, R441). -/
def State.command (s : State) (fn : Nat) (code : Nat → Bool) (pf loader : Bool) (run : List Nat → Host.Outcome State Fault Refusal) :
    Host.Outcome State Fault Refusal :=
  let b := s.box fn
  if !b.busy || b.ran || !code b.cmd || s.changing then .next s
  else if (s.fw.recovery && !loader) || (pf && fn != 0) then .next (s.ends fn 5 0)
  else run b.given

/-- An argument of a command. -/
def arg (as : List Nat) (i : Nat) : Nat := as.getD i 0

/-- CTX_CREATE (R429). -/
def execCtxCreate (fn : Nat) (s : State) : Host.Outcome State Fault Refusal :=
  s.command fn (· == 1) true false fun as =>
    let a := arg as 0
    let ctx := bits a 0 12
    let asid := bits a 16 16
    let part := bits a 32 12
    let routes := arg as 1
    let clash := s.cp.ctxs.any fun e => e.2.asid != asid && e.2.part &&& part != 0
    if bits a 12 4 ≠ 0 ∨ bits a 44 4 ≠ 0 ∨ bits a 54 10 ≠ 0 ∨ arg as 2 ≠ 0 ∨ arg as 3 ≠ 0 ∨ !canonical routes ∨ routes % 64 ≠ 0 ∨
        (s.ctx ctx).isSome ∨ clash then .next (s.ends fn 2 0)
    else
      let c : Ctx := { asid := asid, part := part, routes := routes, allow := bits a 48 6 }
      .next (State.ends { s with cp := { s.cp with ctxs := tabSet s.cp.ctxs ctx c } } fn 0 0)

/-- CTX_DESTROY (R428, R429): refused for a context that does not exist or that has a mapped queue; its bindings go. -/
def execCtxDestroy (fn : Nat) (s : State) : Host.Outcome State Fault Refusal :=
  s.command fn (· == 2) true false fun as =>
    let ctx := arg as 0
    if (s.ctx ctx).isNone ∨ (s.cp.slots.any fun e => e.2.st != .free && e.2.ctx == ctx) then .next (s.ends fn 2 0)
    else
      let host := { s.host with binds := s.host.binds.filter fun b => b.2 != ctx }
      .next (State.ends { s with cp := { s.cp with ctxs := tabErase s.cp.ctxs ctx, seen := s.cp.seen.filter fun e => e.2 != ctx },
                                 host := host } fn 0 0)

/-- The die that a `HARVEST` or `LPT` offset belongs to. -/
def mapDie (off : Nat) : Option Nat :=
  if off < 0x60 then some (off / 8)
  else if 0x1000 ≤ off ∧ off < 0x1000 + 0x200 * 12 then some ((off - 0x1000) / 0x200)
  else none

/-- REG_READ (R428): a register of R377 or R417, for a VF only the maps of its dies. -/
def execRegRead (fn : Nat) (s : State) : Host.Outcome State Fault Refusal :=
  s.command fn (· == 3) false false fun as =>
    let off := arg as 0
    let mine := fn == 0 || match mapDie off, tabGet s.host.vfs fn with
      | some d, some part => part.testBit d
      | _, _ => false
    match if off = 0x3100 then none else s.devRead 0 off with
    | none => .next (s.ends fn 2 0)
    | some v => if mine then .next ((s.hostPut (arg as 1) (natBytes 8 v)).ends fn 0 0) else .next (s.ends fn 5 0)

/-- The HMAC-SHA-512 of an entry under the device-unique key (R399). -/
def hmacOf (l : List Byte) : List Byte := hmac512 (exactly 64 Config.sealKey) l

/-- The SHA-512 of a message (R440). -/
def digestOf (l : List Byte) : List Byte := sha512 l

/-- SEAL (R399): the HMAC over the buffer is written behind it. -/
def execSealEntry (fn : Nat) (s : State) : Host.Outcome State Fault Refusal :=
  s.command fn (· == 4) false false fun as =>
    .next ((s.hostPut (arg as 0 + arg as 1) (hmacOf (s.hostBytes (arg as 0) (arg as 1)))).ends fn 0 0)

/-- CHECK (R399): verdict 1 when the last 64 bytes of the buffer are the HMAC over what precedes them. -/
def execCheckEntry (fn : Nat) (s : State) : Host.Outcome State Fault Refusal :=
  s.command fn (· == 5) false false fun as =>
    let n := arg as 1
    let good := decide (64 ≤ n) && s.hostBytes (arg as 0 + (n - 64)) 64 == hmacOf (s.hostBytes (arg as 0) (n - 64))
    .next (s.ends fn 0 (if good then 1 else 0))

/-! ## Attestation (R439, R440, R443) -/

/-- VERSION of a Cuset image (R442). -/
def imageVersion (b : List Byte) : Nat := hdrField b 8 4

/-- The first 512 bytes of an attestation report (R440). -/
def State.reportHead (s : State) (fn : Nat) (nonce : List Byte) : List Byte :=
  let hoip := s.fw.staged.isSome
  let flags := (if hoip then 1 else 0) + (if s.fw.recovery then 2 else 0) + (if fn = 0 then 0 else 4)
  let pending := s.fw.staged.getD []
  let running := if s.fw.recovery then Config.romLoader else s.fw.image
  let part := if fn = 0 then 0xFFF else tabVal 0 s.host.vfs fn
  let img := s.facet.active
  ([0x45, 0x54, 0x41, 0x52] ++ natBytes 2 1 ++ natBytes 2 flags ++ natBytes 8 Config.deviceSerial ++ exactly 64 nonce ++
    natBytes 4 s.fw.version ++ natBytes 4 (if hoip then imageVersion pending else 0) ++ digestOf running ++
    (if hoip then digestOf pending else List.replicate 64 0) ++ natBytes 4 (imgField img 8 4) ++ natBytes 4 part ++
    (if img.isEmpty then List.replicate 64 0 else digestOf img)) ++ natBytes 8 s.ticks ++ List.replicate 216 0

/-- ATTEST (R440, R443): a snapshot at one instant, signed. -/
def execAttest (fn : Nat) (s : State) : Host.Outcome State Fault Refusal :=
  s.command fn (· == 6) false true fun as =>
    let head := s.reportHead fn (s.hostBytes (arg as 0) 64)
    .next ((s.hostPut (arg as 1) (head ++ exactly 512 (Config.identitySignature head))).ends fn 0 0)

/-- CERT (R439). -/
def execCert (fn : Nat) (s : State) : Host.Outcome State Fault Refusal :=
  s.command fn (· == 7) false true fun as => .next ((s.hostPut (arg as 0) Config.certificate).ends fn 0 0)

/-! ## Firmware hand-over (R441, R442) -/

/-- The entries of the kernels in an image's code area: behind every 64 bytes there, from a multiple of 64, that are a header by their
magic or by their CRC-32C (R90, log 56). -/
def imageKernels (b : List Byte) : List Nat :=
  let off := hdrField b 0x10 4
  let len := hdrField b 0x14 4
  (List.range (len / 64)).filterMap fun i =>
    let h := (b.drop (off + 64 * i)).take 64
    if h.take 4 = [0x45, 0x54, 0x4B, 0x48] ∨ (crc32c (h.take 60)).toNat = hdrField h 60 4 then some (off + 64 * i + 64) else none

/-- A kernel of a Cuset image: a header that keeps R92 and sets FIRMWARE. -/
def imageHeader (b : List Byte) (entry : Nat) : Option Header :=
  if entry < 64 then none
  else (parseHeader ((b.drop (entry - 64)).take 64) (fwOrigin + entry) .cuset).filter fun h => h.roles.testBit 3

/-- The layout of a Cuset image (R442). -/
def fwLayoutOk (b : List Byte) : Bool :=
  let f := fun o => hdrField b o 4
  let len := f 0x0C
  let co := f 0x10
  let cl := f 0x14
  let dof := f 0x18
  let dl := f 0x1C
  let boot := f 0x20
  b.take 4 == [0x45, 0x54, 0x43, 0x46] && hdrField b 4 2 == 1 && hdrField b 6 2 == 0x0102 && len == b.length && len % 64 == 0 &&
    decide (4096 ≤ len) && decide (len ≤ 67108864) && co % 64 == 0 && decide (64 ≤ co) && cl % 64 == 0 &&
    decide (co + cl ≤ len - 512) && ((dof == 0 && dl == 0) || (decide (0 < dl) && dof % 64 == 0 && decide (co + cl ≤ dof) && decide (dof + dl ≤ len - 512))) &&
    decide (co + 64 ≤ boot) && decide (boot < co + cl) && boot % 4 == 0 && (b.drop 0x24).take 28 == List.replicate 28 0 &&
    ((imageKernels b).all fun e => (imageHeader b e).isSome) && (imageHeader b boot).isSome

/-- FW_STAGE (R441, R442); which buffers of the host cannot be read is not stated (log 25). -/
def execFwStage (fn : Nat) (s : State) : Host.Outcome State Fault Refusal :=
  s.command fn (· == 8) true true fun as =>
    let b := s.hostBytes (arg as 0) (arg as 1)
    if Config.hostUnreadable (arg as 0) (arg as 1) then .next (s.ends fn 2 0)
    else if !fwLayoutOk b || !Config.firmwareSigned b then .next (s.ends fn 3 0)
    else if imageVersion b < s.fw.minVersion then .next (s.ends fn 4 0)
    else .next (State.ends { s with fw := { s.fw with staged := some b } } fn 0 0)

/-- The groups of firmware mode end; a facet frame of theirs is free (R360). -/
def State.stopFirmware (s : State) : State :=
  let gs := (s.groups.filter fun e => e.2.firmware && e.2.place != .ended).map (·.1)
  { s with groups := tabMap s.groups fun _ G => if G.firmware then G.finish else G,
           cores := tabMap s.cores fun _ C => { C with frame := C.frame.filter fun o => !gs.contains o.1 },
           host := { s.host with devq := s.host.devq.filter fun d => !gs.contains d.grp } }

/-- Whether every firmware core has finished its step (R441): no store of it to a device register, and no access to memory but a wait
on a word or a request for a page, is under way (log 56). -/
def State.fwQuiet (s : State) : Bool :=
  s.groups.all fun e => !e.2.firmware || e.2.place == .ended ||
    (!(s.host.devq.any fun d => d.grp == e.1) &&
      e.2.waves.all fun w => e.2.parked || w.2.run != .running || w.2.sb.all fun b =>
        isPgreq b.2.instr || opcodeOf b.2.instr == 0xD1 || !b.2.accs.any (·.waits))

/-- The boot kernel of the running image starts on the firmware core of every die that is not lost (R442). -/
def State.bootAll (s : State) : State :=
  let entry := hdrField s.fw.image 0x20 4
  match imageHeader s.fw.image entry with
  | none => s
  | some h => (List.range 12).foldl (fun t d => match s.fwSite d with
    | some site =>
      if s.dieLost d then t
      else
        let n : NewGroup := { launch := 0, gid := 0, ctx := 0, asid := 0, cls := 0, hdr := h, entry := fwOrigin + entry, ks := [],
                              firmware := true }
        ((t.startGroup (36 * d + site) none n).map fun u => u.firstOn (36 * d + site) 0).getD t
    | none => t) s

/-- The commit point (R441, R442): the new image starts. Every queue, slot, context and record keeps its state. -/
def State.commitImage (s : State) (fn : Nat) (b : List Byte) : State :=
  let s1 := (s.ends fn 0 0).stopFirmware
  State.bootAll
    { s1 with
      cores := tabMap s1.cores fun _ C => { C with fwReady := false },
      fw := { s1.fw with version := imageVersion b, image := b, run := b, staged := none, recovery := false, committed := some s.ticks,
                         stopping := false } }

/-- FW_COMMIT (R441, R442): the firmware cores finish their steps and issue no more; the commit point follows. -/
def execFwCommit (fn : Nat) (s : State) : Host.Outcome State Fault Refusal :=
  if s.fw.stopping ∧ (s.box fn).busy ∧ !(s.box fn).ran ∧ (s.box fn).cmd = 9 ∧ fn = 0 then
    match s.fw.staged with
    | some b => if s.fwQuiet then .next (s.commitImage fn b) else .next s
    | none => .next s
  else s.command fn (· == 9) true true fun as =>
    match s.fw.staged with
    | none => .next (s.ends fn 2 0)
    | some b =>
      if imageVersion b ≠ arg as 0 then .next (s.ends fn 2 0)
      else if s.fwQuiet then .next (s.commitImage fn b)
      else .next { s with fw := { s.fw with stopping := true } }

/-- Every firmware core of a die that is not lost has signalled ready (R442). -/
def State.allReady (s : State) : Bool :=
  (List.range 12).all fun d => s.dieLost d || match s.fwSite d with | some site => (s.core (36 * d + site)).fwReady | none => true

/-- The new image is ready: what was latched is delivered to it (R441). -/
def State.becomeReady (s : State) : State :=
  if s.fw.committed.isSome ∧ s.allReady then State.deliverLatched { s with fw := { s.fw with committed := none } } else s

/-- FWREADY_WRITE (R442): a firmware core signals ready by writing 1. -/
def execFwreadyWrite (k : Nat) (s : State) : Host.Outcome State Fault Refusal :=
  s.devStep k (fun d => d.off == 0x3100) fun d t =>
    if d.val = 1 then (t.modCore d.core fun C => { C with fwReady := true }).becomeReady else t

/-- FW_READY_TIMEOUT (R441): 50 ms after the commit point the recovery loader takes every firmware core. -/
def execFwReadyTimeout (s : State) : Host.Outcome State Fault Refusal :=
  match s.fw.committed with
  | none => .next s
  | some t =>
    if s.allReady then .next s.becomeReady
    else if s.ticks < t + 5000000 then .next s
    else .next (State.deliverLatched { s.stopFirmware with fw := { s.stopFirmware.fw with committed := none, recovery := true } })

/-! ## Peers and bindings (R429, R453) -/

/-- PART_PEERS (R453): sixteen device numbers of two bytes each replace the list of a partition. -/
def execPartPeers (fn : Nat) (s : State) : Host.Outcome State Fault Refusal :=
  s.command fn (· == 10) true false fun as =>
    let l := (List.range 16).map fun i => leNat (s.hostBytes (arg as 1 + 2 * i) 2)
    if 4096 ≤ arg as 0 ∨ (l.any fun d => decide (4096 ≤ d)) then .next (s.ends fn 2 0)
    else .next (State.ends { s with host := { s.host with peers := tabPut [] s.host.peers (arg as 0) (l.filter (· != 0)) } } fn 0 0)

/-- CTX_BIND (R429). -/
def execCtxBind (fn : Nat) (s : State) : Host.Outcome State Fault Refusal :=
  s.command fn (· == 11) true false fun as =>
    let dev := bits (arg as 1) 0 12
    let key := 4096 * dev + bits (arg as 1) 16 12
    let put := fun (t : Tab Nat) => State.ends { s with host := { s.host with binds := t } } fn 0 0
    if 4096 ≤ arg as 0 ∨ dev = 0 ∨ bits (arg as 1) 12 4 ≠ 0 ∨ bits (arg as 1) 28 36 ≠ 0 ∨ 1 < arg as 2 ∨ arg as 3 ≠ 0 then .next (s.ends fn 2 0)
    else if arg as 2 = 0 then .next (put (tabErase s.host.binds key))
    else if (tabGet s.host.binds key).isNone ∧ 4096 ≤ s.host.binds.length then .next (s.ends fn 6 0)
    else .next (put (tabSet s.host.binds key (arg as 0)))

/-- UNKNOWN_COMMAND (R428): STATUS 2; the ROM loader answers it as every other command (R441). -/
def execUnknownCommand (fn : Nat) (s : State) : Host.Outcome State Fault Refusal :=
  s.command fn (fun c => c == 0 || decide (11 < c)) false false fun _ => .next (s.ends fn 2 0)

/-- MAILBOX_COMPLETE (R427): BUSY clears and the function's vector 0 is sent. -/
def execMailboxComplete (fn : Nat) (s : State) : Host.Outcome State Fault Refusal :=
  let b := s.box fn
  if b.busy ∧ b.ran then .next ((s.modBox fn fun b => { b with busy := false, ran := false }).sendMsix fn 0) else .next s

end Sys2Proof.Machine
end

