-- ==== Sys2Proof/Machine/Integer.lean ====
section
/-! DEFINITION. The meanings of integer and predicate arithmetic (R149-R158): each performs its lane in every guard-true fibre. -/
namespace Sys2Proof.Machine

/-- IADD (R149). -/
def execIadd (o : Form.DAB) (s : State) : Host.Outcome State Fault Refusal := execAlu (.iadd o) laneIadd s

/-- ISUB (R149). -/
def execIsub (o : Form.DAB) (s : State) : Host.Outcome State Fault Refusal := execAlu (.isub o) laneIsub s

/-- IMUL (R149). -/
def execImul (o : Form.DAB) (s : State) : Host.Outcome State Fault Refusal := execAlu (.imul o) laneImul s

/-- IMULH_I32 (R149). -/
def execImulhI32 (o : Form.DAB) (s : State) : Host.Outcome State Fault Refusal := execAlu (.imulhI32 o) laneImulhI32 s

/-- IMULH_N32 (R149). -/
def execImulhN32 (o : Form.DAB) (s : State) : Host.Outcome State Fault Refusal := execAlu (.imulhN32 o) laneImulhN32 s

/-- IDIV_I32 (R150). -/
def execIdivI32 (o : Form.DAB) (s : State) : Host.Outcome State Fault Refusal := execAlu (.idivI32 o) laneIdivI32 s

/-- IDIV_N32 (R150). -/
def execIdivN32 (o : Form.DAB) (s : State) : Host.Outcome State Fault Refusal := execAlu (.idivN32 o) laneIdivN32 s

/-- IREM_I32 (R150). -/
def execIremI32 (o : Form.DAB) (s : State) : Host.Outcome State Fault Refusal := execAlu (.iremI32 o) laneIremI32 s

/-- IREM_N32 (R150). -/
def execIremN32 (o : Form.DAB) (s : State) : Host.Outcome State Fault Refusal := execAlu (.iremN32 o) laneIremN32 s

/-- IMIN_I32 (R149). -/
def execIminI32 (o : Form.DAB) (s : State) : Host.Outcome State Fault Refusal := execAlu (.iminI32 o) laneIminI32 s

/-- IMIN_N32 (R149). -/
def execIminN32 (o : Form.DAB) (s : State) : Host.Outcome State Fault Refusal := execAlu (.iminN32 o) laneIminN32 s

/-- IMAX_I32 (R149). -/
def execImaxI32 (o : Form.DAB) (s : State) : Host.Outcome State Fault Refusal := execAlu (.imaxI32 o) laneImaxI32 s

/-- IMAX_N32 (R149). -/
def execImaxN32 (o : Form.DAB) (s : State) : Host.Outcome State Fault Refusal := execAlu (.imaxN32 o) laneImaxN32 s

/-- IABS (R149). -/
def execIabs (o : Form.DA) (s : State) : Host.Outcome State Fault Refusal := execAlu (.iabs o) laneIabs s

/-- INEG (R149). -/
def execIneg (o : Form.DA) (s : State) : Host.Outcome State Fault Refusal := execAlu (.ineg o) laneIneg s

/-- IMAD (R149). -/
def execImad (o : Form.DABC) (s : State) : Host.Outcome State Fault Refusal := execAlu (.imad o) laneImad s

/-- AND (R151). -/
def execAndOp (o : Form.DAB) (s : State) : Host.Outcome State Fault Refusal := execAlu (.andOp o) laneAndOp s

/-- OR (R151). -/
def execOrOp (o : Form.DAB) (s : State) : Host.Outcome State Fault Refusal := execAlu (.orOp o) laneOrOp s

/-- XOR (R151). -/
def execXorOp (o : Form.DAB) (s : State) : Host.Outcome State Fault Refusal := execAlu (.xorOp o) laneXorOp s

/-- ANDN (R151). -/
def execAndn (o : Form.DAB) (s : State) : Host.Outcome State Fault Refusal := execAlu (.andn o) laneAndn s

/-- NOT (R151). -/
def execNotOp (o : Form.DA) (s : State) : Host.Outcome State Fault Refusal := execAlu (.notOp o) laneNotOp s

/-- SHL (R151). -/
def execShl (o : Form.DAB) (s : State) : Host.Outcome State Fault Refusal := execAlu (.shl o) laneShl s

/-- SHR (R151). -/
def execShr (o : Form.DAB) (s : State) : Host.Outcome State Fault Refusal := execAlu (.shr o) laneShr s

/-- SAR (R151). -/
def execSar (o : Form.DAB) (s : State) : Host.Outcome State Fault Refusal := execAlu (.sar o) laneSar s

/-- ROTL (R151). -/
def execRotl (o : Form.DAB) (s : State) : Host.Outcome State Fault Refusal := execAlu (.rotl o) laneRotl s

/-- POPC (R151). -/
def execPopc (o : Form.DA) (s : State) : Host.Outcome State Fault Refusal := execAlu (.popc o) lanePopc s

/-- CLZ (R151). -/
def execClz (o : Form.DA) (s : State) : Host.Outcome State Fault Refusal := execAlu (.clz o) laneClz s

/-- BREV (R151). -/
def execBrev (o : Form.DA) (s : State) : Host.Outcome State Fault Refusal := execAlu (.brev o) laneBrev s

/-- BFX_I32 (R152). -/
def execBfxI32 (o : Form.DAB) (s : State) : Host.Outcome State Fault Refusal := execAlu (.bfxI32 o) laneBfxI32 s

/-- BFX_N32 (R152). -/
def execBfxN32 (o : Form.DAB) (s : State) : Host.Outcome State Fault Refusal := execAlu (.bfxN32 o) laneBfxN32 s

/-- BFI (R152). -/
def execBfi (o : Form.DABC) (s : State) : Host.Outcome State Fault Refusal := execAlu (.bfi o) laneBfi s

/-- SEL (R153). -/
def execSel (o : Form.Sel) (s : State) : Host.Outcome State Fault Refusal := execAlu (.sel o) (laneSel o) s

/-- IADDI (R154). -/
def execIaddi (o : Form.DI) (s : State) : Host.Outcome State Fault Refusal := execAlu (.iaddi o) (laneIaddi o) s

/-- ANDI (R154). -/
def execAndi (o : Form.DI) (s : State) : Host.Outcome State Fault Refusal := execAlu (.andi o) (laneAndi o) s

/-- ORI (R154). -/
def execOri (o : Form.DI) (s : State) : Host.Outcome State Fault Refusal := execAlu (.ori o) (laneOri o) s

/-- XORI (R154). -/
def execXori (o : Form.DI) (s : State) : Host.Outcome State Fault Refusal := execAlu (.xori o) (laneXori o) s

/-- SHLI (R154). -/
def execShli (o : Form.DAI) (s : State) : Host.Outcome State Fault Refusal := execAlu (.shli o) (laneShli o) s

/-- SHRI (R154). -/
def execShri (o : Form.DAI) (s : State) : Host.Outcome State Fault Refusal := execAlu (.shri o) (laneShri o) s

/-- SARI (R154). -/
def execSari (o : Form.DAI) (s : State) : Host.Outcome State Fault Refusal := execAlu (.sari o) (laneSari o) s

/-- MOVI (R154). -/
def execMovi (o : Form.DI) (s : State) : Host.Outcome State Fault Refusal := execAlu (.movi o) (laneMovi o) s

/-- MOVL (R154). -/
def execMovl (o : Form.Movl) (s : State) : Host.Outcome State Fault Refusal := execAlu (.movl o) (laneMovl o) s

/-- MOV (R154). -/
def execMov (o : Form.DA) (s : State) : Host.Outcome State Fault Refusal := execAlu (.mov o) laneMov s

/-- ICMP_I32 (R156). -/
def execIcmpI32 (o : Form.C) (s : State) : Host.Outcome State Fault Refusal := execAlu (.icmpI32 o) (laneIcmpI32 o) s

/-- ICMP_N32 (R156). -/
def execIcmpN32 (o : Form.C) (s : State) : Host.Outcome State Fault Refusal := execAlu (.icmpN32 o) (laneIcmpN32 o) s

/-- ICMPI_I32 (R156). -/
def execIcmpiI32 (o : Form.CI) (s : State) : Host.Outcome State Fault Refusal := execAlu (.icmpiI32 o) (laneIcmpiI32 o) s

/-- ICMPI_N32 (R156). -/
def execIcmpiN32 (o : Form.CI) (s : State) : Host.Outcome State Fault Refusal := execAlu (.icmpiN32 o) (laneIcmpiN32 o) s

/-- PLOG (R157). -/
def execPlog (o : Form.Plog) (s : State) : Host.Outcome State Fault Refusal := execAlu (.plog o) (lanePlog o) s

/-- IADDL (R154). -/
def execIaddl (o : Form.Iaddl) (s : State) : Host.Outcome State Fault Refusal := execAlu (.iaddl o) (laneIaddl o) s

/-- IADD_B64 (R158). -/
def execIaddB64 (o : Form.DAB) (s : State) : Host.Outcome State Fault Refusal := execAlu (.iaddB64 o) laneIaddB64 s

/-- ISUB_B64 (R158). -/
def execIsubB64 (o : Form.DAB) (s : State) : Host.Outcome State Fault Refusal := execAlu (.isubB64 o) laneIsubB64 s

/-- IMULW_I32 (R158). -/
def execImulwI32 (o : Form.DAB) (s : State) : Host.Outcome State Fault Refusal := execAlu (.imulwI32 o) laneImulwI32 s

/-- IMULW_N32 (R158). -/
def execImulwN32 (o : Form.DAB) (s : State) : Host.Outcome State Fault Refusal := execAlu (.imulwN32 o) laneImulwN32 s

/-- SHL_B64 (R158). -/
def execShlB64 (o : Form.DAB) (s : State) : Host.Outcome State Fault Refusal := execAlu (.shlB64 o) laneShlB64 s

/-- SHR_B64 (R158). -/
def execShrB64 (o : Form.DAB) (s : State) : Host.Outcome State Fault Refusal := execAlu (.shrB64 o) laneShrB64 s

/-- SAR_B64 (R158). -/
def execSarB64 (o : Form.DAB) (s : State) : Host.Outcome State Fault Refusal := execAlu (.sarB64 o) laneSarB64 s

/-- ICMP_I64 (R158). -/
def execIcmpI64 (o : Form.C) (s : State) : Host.Outcome State Fault Refusal := execAlu (.icmpI64 o) (laneIcmpI64 o) s

/-- ICMP_N64 (R158). -/
def execIcmpN64 (o : Form.C) (s : State) : Host.Outcome State Fault Refusal := execAlu (.icmpN64 o) (laneIcmpN64 o) s

/-- MOV_B64 (R154). -/
def execMovB64 (o : Form.DA) (s : State) : Host.Outcome State Fault Refusal := execAlu (.movB64 o) laneMovB64 s

/-- LEA (R155). -/
def execLea (o : Form.Lea) (s : State) : Host.Outcome State Fault Refusal := execAlu (.lea o) (laneLea o) s

end Sys2Proof.Machine
end

