-- ==== Sys2Proof/Machine/LinkEvents.lean ====
section
/-! DEFINITION. The peer links: flits (R431-R433), remote accesses (R434, R435, R438), pod barriers (R436), cross-module fault tasks
and state access (R437). -/
namespace Sys2Proof.Machine

/-! ## What a detached or refused transfer does (R183, R216, R329, R432, R433) -/

/-- The cause that an answer's STATUS gives its transfer; none for STATUS 0 and for values that the table does not have (R433). -/
def statusCause (status arg : Nat) : Option Nat :=
  match status with
  | 1 => some 0x16
  | 2 => some 0x34
  | 3 => some 0x53
  | 4 => some (arg % 128)
  | _ => none

/-- A segment that its transfer fails is parked at its own address. -/
def State.failSeg (s : State) (core id k cause : Nat) (source : Bool) : State :=
  match (tabGet (s.copyEng core).copies id).bind fun C => C.segs[k]? with
  | some g => s.parkSeg core id k cause (if source then g.src else g.dst)
  | none => s

/-- What a transfer belongs to meets a cause: the wave, the segment or the record's route. A message of a pod barrier stays. -/
def State.failOwner (s : State) (x : Xfer) (cause : Nat) : State :=
  match x.of with
  | .access req | .merge req => s.refuse req cause
  | .segWrite core copy seg => s.failSeg core copy seg cause false
  | .segRead core copy seg => s.failSeg core copy seg cause true
  | .pod => s
  | .ftask rid => s.reroute rid
  | .proxy g w slot f => s.lateFault g w slot f cause

/-- A transfer is no longer awaited. -/
def State.dropXfer (s : State) (tid : Nat) : State := { s with links := { s.links with xfers := tabErase s.links.xfers tid } }

/-- A transfer to a device, by its identifier. -/
def State.xferOf (s : State) (dev tid : Nat) : Option Xfer := (tabGet s.links.xfers tid).filter fun x => x.dev == dev

/-- A transfer detached with a cause; one of a pod barrier is kept and sent again (R432, R436). -/
def State.detachXfer (s : State) (dev tid cause : Nat) : State :=
  match s.xferOf dev tid with
  | none => s
  | some x => if x.of = .pod then s else (s.dropXfer tid).failOwner x cause

/-! ## Flits (R432, R433) -/

/-- Bytes of a flit as a number. -/
def flitField (b : List Byte) (off n : Nat) : Nat := leNat ((b.drop off).take n)

/-- Whether a flit's CRC is good (R432). -/
def flitGood (b : List Byte) : Bool := b.length == 256 && (crc32c (b.take 252)).toNat == flitField b 252 4

/-- Flits acknowledged up to a sequence number leave the replay buffer, and kept-back records follow (R433). -/
def Port.freeAcked (p : Port) (seq : Nat) : Port :=
  match p.unacked.findIdx? fun f => f.seq == seq with
  | some i => Port.drain { p with unacked := p.unacked.drop (i + 1) }
  | none => p

/-- Requests whose answers the sender has are no longer remembered. -/
def State.forgetServed (s : State) (p : Nat) (freed : List Flit) : State :=
  let gone := fun (e : Nat × Nat × Nat) => freed.any fun f =>
    f.dev == e.1 && (f.recs.any fun r => answers r.kind && r.tid == e.2.1) &&
      !((s.port p).unacked.any fun u => u.dev == e.1 && u.recs.any fun r => answers r.kind && r.tid == e.2.1)
  { s with links := { s.links with served := s.links.served.filter fun e => !gone e } }

/-- The flit after the acknowledged ones has failed: it and every flit after it are replayed (R432). -/
def Port.replay (p : Port) (ticks : Nat) : Port :=
  match p.unacked with
  | [] => p
  | f :: rest =>
    { p with unacked := { f with fails := f.fails + 1 } :: rest,
             replays := (p.replays.filter fun t => decide (ticks < t + 100000000)) ++ List.replicate (rest.length + 1) ticks }

/-- The eighth failure of a port's first unacknowledged flit: its transfers are detached with LINK_CRC, UP clears and the port
retrains, with a LINKCTL flit (R432, R433). A record whose proxied access fails so is delivered again (R329). -/
def State.linkCrc (s : State) (p : Nat) : State :=
  match (s.port p).unacked with
  | [] => s
  | f :: rest =>
    let s1 := (s.modPort p fun q =>
      { q with up := false, retraining := true, retrains := q.retrains + 1,
               unacked := rest.map fun u => { u with recs := u.recs.filter fun r => !(u.dev == f.dev && f.recs.contains r) } }).sendCtl p
    f.recs.foldl (fun t r =>
      if r.kind = 10 then
        match t.links.served.find? fun e => e.1 == f.dev && e.2.1 == r.tid with
        | some e => t.reroute e.2.2
        | none => t
      else if answers r.kind then t
      else t.detachXfer f.dev r.tid 0x36) s1

/-- The ACK field of a good flit processed (R432, R433). -/
def State.takeAck (s : State) (p : Nat) (b : List Byte) : State :=
  let ack := flitField b 3 2
  let q := s.port p
  let q1 := if ack.testBit 12 then q.freeAcked (ack % 4096) else q
  let s1 := (s.portTo p q1 (q.added q1)).forgetServed p (q.unacked.take (match q.unacked.findIdx? fun f => f.seq == ack % 4096 with
    | some i => if ack.testBit 12 then i + 1 else 0
    | none => 0))
  if !ack.testBit 13 then s1
  else if ((q1.unacked.head?.map (·.fails)).getD 0) = 7 then s1.linkCrc p
  else
    let q2 := (s1.port p).replay s.ticks
    s1.portTo p q2 q2.unacked

/-- Whether a port takes flits: it is there, the module has a number, and it is UP or waits for a LINKCTL flit (R431, R433). -/
def State.portTakes (s : State) (p : Nat) (retrain : Bool) : Bool :=
  decide (p < 16) && s.links.devnum != 0 && ((s.port p).up || retrain)

/-- A flit of a type received: with a bad CRC it is NACKed, whatever it was, in an IDLE flit (R432, R433). -/
def State.onFlit (s : State) (p type : Nat) (b : List Byte) (run : State → State) : Host.Outcome State Fault Refusal :=
  if !s.portTakes p (type == 2) then .next s
  else if !flitGood b then .next (s.sendIdle p true)
  else if flitField b 0 1 % 16 ≠ type then .next s
  else .next (run s)

/-! ## Transfer records (R433) -/

/-- The bytes that a record takes, from its header. -/
def recSize (b : List Byte) : Nat := 16 + pad16 (flitField b 2 2)

/-- A record from its bytes. -/
def recOf (b : List Byte) : Rec :=
  { kind := flitField b 0 1, status := flitField b 1 1, tid := flitField b 4 4, arg := flitField b 8 8,
    data := (b.drop 16).take (flitField b 2 2) }

/-- The records that begin in a payload, and the bytes of one that continues in the next flit. -/
def recsIn : Nat → List Byte → List Rec × List Byte
  | 0, _ => ([], [])
  | n + 1, b =>
    if b.length < 16 then ([], [])
    else if b.length < recSize b then ([], b)
    else
      let r := recsIn n (b.drop (recSize b))
      (recOf b :: r.1, r.2)

/-- The records that a DATA flit completes, and the bytes of one that it does not, given those carried over from the last one. -/
def flitRecs (carried b : List Byte) : List Rec × List Byte :=
  let payload := (b.drop 12).take 240
  let cont := 16 * (flitField b 10 1 % 16)
  let more := carried ++ payload.take cont
  let rest := recsIn (flitField b 9 1 % 16) (payload.drop cont)
  if carried.isEmpty then rest
  else if more.length < recSize more then (rest.1, if flitField b 9 1 % 16 = 0 then more else rest.2)
  else (recOf more :: rest.1, rest.2)

/-- Whether a record is one that the tables of R433 have. -/
def Rec.valid (r : Rec) : Bool := decide (0 < r.kind) && decide (r.kind < 11) && decide (r.data.length ≤ 1024)

/-- Whether a request has an effect that its repetition would have twice (R432). -/
def Rec.once (r : Rec) : Bool := r.kind == 1 || r.kind == 2 || r.kind == 8 || r.kind == 9

/-- A record received: one of a reserved kind is dropped and logged, a request taken before is not taken again, the others wait to
be performed (R432, R433). -/
def State.takeRec (s : State) (p dev : Nat) (r : Rec) : State :=
  if !r.valid then s.logFree 0 0
  else if r.once ∧ (s.links.served.any fun e => e.1 == dev && e.2.1 == r.tid) then s
  else
    { s with links := { s.links with
        inbox := s.links.inbox ++ [{ dev := dev, port := p, body := r }],
        served := if r.once then s.links.served ++ [(dev, r.tid, if r.kind = 9 then r.arg % 2 ^ 32 else 0)] else s.links.served } }

/-- A good DATA flit: accepted when its SEQ is the next one, then its records taken; those for another module are dropped and
logged (R433). -/
def State.takeData (s : State) (p : Nat) (b : List Byte) : State :=
  let q := s.port p
  let seq := flitField b 1 2 % 4096
  if !q.up ∨ seq ≠ (if q.rxAny then (q.lastRx + 1) % 4096 else 0) then s
  else
    let mine := flitField b 7 2 % 4096 == s.links.devnum
    let r := flitRecs q.partialRec b
    let s1 := s.modPort p fun q => { q with lastRx := seq, rxAny := true, partialRec := if mine then r.2 else [] }
    if mine then r.1.foldl (fun t x => t.takeRec p (flitField b 5 2 % 4096) x) s1 else s1.logFree 0 0

/-- DATA_FLIT (R432, R433): its acknowledgement goes with the next flit of the port, an IDLE flit where none goes now (log 57). -/
def execDataFlit (port : Nat) (bytes : List Byte) (s : State) : Host.Outcome State Fault Refusal :=
  s.onFlit port 1 bytes fun t =>
    let u := (t.takeAck port bytes).takeData port bytes
    u.sendIdle port false

/-- IDLE (R433). -/
def execIdleFlit (port : Nat) (bytes : List Byte) (s : State) : Host.Outcome State Fault Refusal :=
  s.onFlit port 0 bytes fun t => t.takeAck port bytes

/-- Records of the unacknowledged flits, each once, in order. -/
def Port.pendingRecs (p : Port) : List (Nat × Rec) :=
  p.unacked.foldl (fun l f => f.recs.foldl (fun l r => if l.contains (f.dev, r) then l else l ++ [(f.dev, r)]) l) []

/-- Sequencing restarts after a retrain: what is not acknowledged goes in new flits (R433). -/
def Port.restart (p : Port) : Port :=
  Port.drain { p with up := true, retraining := false, nextSeq := 0, lastRx := 0, rxAny := false, partialRec := [],
                      unacked := [], backlog := p.pendingRecs ++ p.backlog }

/-- LINKCTL (R433): sequencing restarts and what was not acknowledged is sent again; this end has sent a LINKCTL flit of its own. One that comes outside a retrain of this end is that of the other end's. -/
def execLinkctlFlit (port : Nat) (bytes : List Byte) (s : State) : Host.Outcome State Fault Refusal :=
  s.onFlit port 2 bytes fun t =>
    let q := t.port port
    let r := if q.retraining ∨ q.restart = q then q.restart else { q.restart with retrains := q.retrains + 1 }
    (if q.retraining then t else t.sendCtl port).portTo port r r.unacked

/-! ## Records performed (R434, R435) -/

/-- A received record is performed once every earlier one of its port has been, and nothing it writes waits for a revoke. -/
def State.recStep (s : State) (k kind : Nat) (waits : InRec → Bool) (run : InRec → State → State) :
    Host.Outcome State Fault Refusal :=
  match s.links.inbox[k]? with
  | none => .next s
  | some r =>
    if r.body.kind ≠ kind || waits r || ((s.links.inbox.take k).any fun x => x.port == r.port) then .next s
    else .next (run r { s with links := { s.links with inbox := s.links.inbox.eraseIdx k } })

/-- A range that an INWIN entry admits for its source (R434). -/
def State.admits (s : State) (dev pa n : Nat) (write : Bool) : Bool :=
  decide (0 < n) && inTier pa && inTier (pa + n - 1) && (List.range 16).any fun i =>
    let e := tabVal InWin.zero s.links.inwin i
    e.valid && e.src == dev && decide (e.base ≤ pa) && decide (pa + n ≤ e.limit) && (!write || e.w)

/-- An answer to a received request. -/
def State.respondTo (s : State) (r : InRec) (kind status arg : Nat) (data : List Byte) : State :=
  s.sendResp r.dev r.port { kind := kind, status := status, tid := r.body.tid, arg := arg, data := data }

/-- Whether a received READ or WRITE of `n` bytes waits for a revoke of a word of theirs (R262, R264). -/
def State.recBusy (s : State) (n : InRec → Nat) (r : InRec) : Bool := s.physBusy (bits r.body.arg 0 48) (n r)

/-- Bytes that a READ asks for. -/
def InRec.readLen (r : InRec) : Nat := 4 * min 256 (bits r.body.arg 48 9 + 1)

/-- READ (R434, R435); `ecc` says that the data have an uncorrectable error. -/
def execReadRec (k : Nat) (ecc : Bool) (s : State) : Host.Outcome State Fault Refusal :=
  s.recStep k 1 (s.recBusy InRec.readLen) fun r t =>
    let pa := bits r.body.arg 0 48
    let words := bits r.body.arg 48 9 + 1
    if 256 < words ∨ !t.admits r.dev pa (4 * words) false then t.respondTo r 3 1 0 []
    else if ecc then t.respondTo r 3 2 0 []
    else t.respondTo r 3 0 0 (t.physBytes pa (4 * words))

/-- WRITE (R434, R435): its answer leaves once every owner that it revoked has acknowledged (R264). -/
def execWriteRec (k : Nat) (s : State) : Host.Outcome State Fault Refusal :=
  s.recStep k 2 (s.recBusy fun r => r.body.data.length) fun r t =>
    let pa := bits r.body.arg 0 48
    let bs := r.body.data
    if r.written then t.respondTo r 4 0 0 []
    else if !t.admits r.dev pa bs.length true then t.respondTo r 4 1 0 []
    else
      let u := (pieces (bs.length / 64 + 2) pa bs.length).foldl (fun u p => u.physWrite p.1 ((bs.drop (p.1 - pa)).take p.2)) t
      if u.physBusy pa bs.length then
        { u with links := { u.links with inbox := u.links.inbox.insertIdx k { r with written := true } } }
      else u.respondTo r 4 0 0 []

/-- The bytes of an access among the words that a peer has read for it. -/
def Req.remoteBytes (q : Req) (bs : List Byte) : List Byte := (bs.drop (q.va % 4)).take q.size

/-- Whether the segment that a read's data are for meets a revoke at its destination (R262). -/
def State.segWaits (s : State) (r : InRec) : Bool :=
  match ((s.xferOf r.dev r.body.tid).map (·.of) : Option XferOf) with
  | some (.segRead core copy seg) =>
    (match tabGet (s.copyEng core).copies copy with
     | some C => (match C.segs[seg]? with
       | some g => s.runBusy C.asid g.dst g.len
       | none => false)
     | none => false)
  | _ => false

/-- The word that a narrow store has read, with its bytes in it, is written (log 57). -/
def State.writeMerged (s : State) (x : Xfer) (q : Req) (bs : List Byte) : State :=
  let word := match q.op with
    | .store data _ => bs.take (q.va % 4) ++ data ++ bs.drop (q.va % 4 + data.length)
    | _ => bs
  let pa := bits x.body.arg 0 48
  match s.startXfer x.dev (pa / 1024) { kind := 2, status := 0, tid := 0, arg := pa, data := word } (.merge q) with
  | some t => t
  | none => s.refuse q 0x35

/-- RDRESP (R435): the data complete the fibre's load, or stand at the copy's segment for its destination. -/
def execRdresp (k : Nat) (s : State) : Host.Outcome State Fault Refusal :=
  s.recStep k 3 s.segWaits fun r t =>
    match t.xferOf r.dev r.body.tid with
    | none => t
    | some x =>
      let u := t.dropXfer r.body.tid
      match statusCause r.body.status r.body.arg, x.of with
      | some c, _ => u.failOwner x c
      | none, .access q => u.reply q (.data (q.remoteBytes r.body.data) none false)
      | none, .merge q => u.writeMerged x q r.body.data
      | none, .segRead core copy seg =>
        match tabGet (u.copyEng core).copies copy with
        | some C => match C.segs[seg]? with
          | some g => u.segStore core copy seg C g r.body.data
          | none => u
        | none => u
      | none, _ => u

/-- A remote fault task has been taken by the peer: its record is in handling (R324, R437). -/
def State.taskTaken (s : State) (rid : Nat) : State := s.modRecord rid fun R => { R with st := .handling }

/-- WRACK (R435, R437): a store, a segment, a pod barrier's message or a fault task is acknowledged. -/
def execWrack (k : Nat) (s : State) : Host.Outcome State Fault Refusal :=
  s.recStep k 4 (fun _ => false) fun r t =>
    match t.xferOf r.dev r.body.tid with
    | none => t
    | some x =>
      let u := t.dropXfer r.body.tid
      match statusCause r.body.status r.body.arg, x.of with
      | some c, _ => u.failOwner x c
      | none, .access q | none, .merge q => u.reply q (.ack false)
      | none, .segWrite core copy seg => u.modSeg core copy seg fun g => { g with st := .done }
      | none, .ftask rid => u.taskTaken rid
      | none, _ => u

/-! ## Pod barriers (R436) -/

/-- A pod barrier's root state changed. -/
def State.modRoot (s : State) (i : Nat) (f : PodRoot → PodRoot) : State :=
  { s with links := { s.links with roots := tabPut PodRoot.zero s.links.roots i (f (s.podRootOf i)) } }

/-- PODREG (R436): the root takes a module and its EXP; another module refuses. -/
def execPodreg (k : Nat) (s : State) : Host.Outcome State Fault Refusal :=
  s.recStep k 5 (fun _ => false) fun r t =>
    let i := r.body.arg % 4
    if !t.isPodRoot i then t.respondTo r 4 1 0 []
    else
      ((t.modRoot i fun x =>
        { x with exp := bits r.body.arg 16 16, mods := if x.mods.contains r.dev then x.mods else x.mods ++ [r.dev] }).podTest i).respondTo
        r 4 0 0 []

/-- PODARR (R436): arrivals forwarded to the root, each transfer counted once. -/
def execPodarr (k : Nat) (s : State) : Host.Outcome State Fault Refusal :=
  s.recStep k 6 (fun _ => false) fun r t =>
    let i := r.body.arg % 4
    let x := t.podRootOf i
    if !t.isPodRoot i then t.respondTo r 4 1 0 []
    else if bits r.body.arg 2 1 ≠ x.phase ∨ x.seen.contains (r.dev, r.body.tid) then t.respondTo r 4 0 0 []
    else ((t.modRoot i fun x => { x with seen := x.seen ++ [(r.dev, r.body.tid)] }).podCount i (bits r.body.arg 16 16)).respondTo r 4 0 0 []

/-- PODDONE (R436): the root's completion ends the phase here, and the waits on it. -/
def execPoddone (k : Nat) (s : State) : Host.Outcome State Fault Refusal :=
  s.recStep k 7 (fun _ => false) fun r t =>
    let key := barKey podNet (r.body.arg % 4)
    let u := if bits r.body.arg 2 1 = (t.wbar key).phase then t.modWbar key WideBarrier.flip else t
    u.respondTo r 4 0 0 []

/-! ## Cross-module work (R437) -/

/-- The die whose slot takes a remote fault task: the lowest of its context's partition that is not lost (log 26). -/
def State.remoteDie (s : State) (ctx : Nat) : Option Nat :=
  (s.ctx ctx).bind fun c => (List.range 12).find? fun d => c.part.testBit d && !s.dieLost d

/-- FTASK (R437): the task waits in its class slot under the context that its source is bound to; with no binding it is refused. -/
def execFtask (k : Nat) (s : State) : Host.Outcome State Fault Refusal :=
  s.recStep k 8 (fun _ => false) fun r t =>
    let src := flitField r.body.data 64 8 % 4096
    match (tabGet t.host.binds (4096 * r.dev + src)).bind fun ctx => (t.remoteDie ctx).map fun d => (ctx, d) with
    | none => t.respondTo r 4 3 0 []
    | some (ctx, d) =>
      (t.queueTask d (flitField r.body.data 0x0D 1 % 8) (.remote r.dev ctx (r.body.data.take 64) false)).respondTo r 4 0 0 []

/-- A proxied access performed at the fault engine of the record's module, or the cause of its fault (R342, R345, R437). A record
that has been delivered again here is stale for the module that had it (R329). -/
def State.proxied (s : State) (dev op rid : Nat) (w : Nat → Nat) : Except Nat (State × Tagged) :=
  match s.record rid with
  | none => .error 0x45
  | some R =>
    if R.st = .settling ∨ R.rerouted ∧ R.wasPeer = dev then .error 0x45
    else if !R.remote ∨ R.peer ≠ dev then .error 0x11
    else if op = 4 then
      match s.dispose rid R (bits (w 0) 0 2) ((w 0).testBit 2) (BitVec.ofNat 32 (w 1)) (BitVec.ofNat 32 (w 2)) with
      | some t => .ok (t, zeroReg)
      | none => .error 0x07
    else s.stateAccess op rid R (BitVec.ofNat 32 (w 0)) ⟨BitVec.ofNat 32 (w 1), .b32⟩

/-- PROXY (R437); one with a reserved operation is dropped and logged as a record of a reserved kind is. -/
def execProxy (k : Nat) (s : State) : Host.Outcome State Fault Refusal :=
  s.recStep k 9 (fun _ => false) fun r t =>
    let op := bits r.body.arg 32 3
    if 4 < op then t.logFree 0 0
    else match t.proxied r.dev op (bits r.body.arg 0 32) fun i => flitField r.body.data (4 * i) 4 with
      | .error c => t.respondTo r 10 4 c []
      | .ok (u, v) =>
        u.respondTo r 10 0 0 (if op = 0 ∨ op = 2 then natBytes 4 v.val.toNat ++ natBytes 4 (tagCode v.tag) else List.replicate 8 0)

/-- PROXYRESP (R437): the word read with its tag, or the fault, reaches the handler. -/
def execProxyresp (k : Nat) (s : State) : Host.Outcome State Fault Refusal :=
  s.recStep k 10 (fun _ => false) fun r t =>
    match t.xferOf r.dev r.body.tid with
    | none => t
    | some x =>
      let u := t.dropXfer r.body.tid
      match statusCause r.body.status r.body.arg, x.of with
      | some c, _ => u.failOwner x c
      | none, .proxy g w slot f =>
        let v : Tagged := ⟨BitVec.ofNat 32 (flitField r.body.data 0 4), (tagOf (flitField r.body.data 4 4 % 16)).getD .b32⟩
        u.modWave g w fun W => W.complete slot f [v] none
      | none, _ => u

/-- A pod barrier's message sent again under its identifier, and an event (R436). -/
def State.resendPod (s : State) (tid : Nat) (x : Xfer) : State :=
  let put := fun (p : Nat) => { s with links := { s.links with xfers := tabSet s.links.xfers tid { x with sent := s.ticks, port := p } } }
  let s2 := match s.portFor x.dev (x.body.arg % 4) with
    | some p => State.putRec (put p) p x.dev x.body
    | none => put x.port
  s2.logFree 0 0

/-- Whether a transfer has not left its port yet: its time does not run (R432). -/
def State.keptBack (s : State) (k : Nat) (x : Xfer) : Bool :=
  (s.port x.port).backlog.any fun e => e.1 == x.dev && e.2.tid == k && !answers e.2.kind

/-- LINK_TIMEOUT (R432, R436): transfer `k` has not been answered for `LKTO` ticks since it was sent. -/
def execLinkTimeout (k : Nat) (s : State) : Host.Outcome State Fault Refusal :=
  match tabGet s.links.xfers k with
  | none => .next s
  | some x =>
    if s.keptBack k x ∨ s.ticks < x.sent + max 1 s.links.lkto then .next s
    else if x.of = .pod then .next (s.resendPod k x)
    else .next ((s.dropXfer k).failOwner x 0x35)

end Sys2Proof.Machine
end

