-- ==== Sys2Proof/Machine/SliceEvents.lean ====
section
/-! DEFINITION. What channels, slices and the translation engine do (R15-R18, R261-R265, R286-R288, R294, R412-R415, R420). -/
namespace Sys2Proof.Machine

/-! ## Channels (R16-R18, R294) -/

/-- Request-class NACKs that a router has sent in the window (R296). -/
def State.countNack (s : State) (node : Nat) : State :=
  if 512 ≤ node ∧ node < 608 then
    { s with mesh := { s.mesh with routers :=
        (tabPut Router.zero s.mesh.routers (node - 512)
          { (s.router (node - 512)) with curNacks := (s.router (node - 512)).curNacks + 1 }) } }
  else s

/-- The receiver refuses an entry. -/
def State.nack (s : State) (ch i : Nat) : State := (s.answer ch i false).countNack (chanDst ch)

/-- A router takes the next entry of a channel, or refuses it. -/
def State.routerEntry (s : State) (ch : Nat) : State :=
  match nextWire (s.chan ch).window with
  | none => s
  | some (i, r, clean) =>
    if clean && s.routerRoom ch then (s.answer ch i true).modChan ch fun c => { c with buf := c.buf ++ [{ req := r, at_ := s.meshCycles, met := false }] }
    else s.nack ch i

/-- A slice takes the next entry of a channel, or refuses it (R201, R262, R295, R302, R307, R310). -/
def State.sliceEntry (s : State) (ch : Nat) (ecc : Bool) : State :=
  let h := chanDst ch - 640
  match nextWire (s.chan ch).window with
  | none => s
  | some (i, r, clean) =>
    let s1 := s.answer ch i true
    if !clean then s.nack ch i
    else match r.op with
      | .objreg d => s1.takeRegister r d
      | .objdrop lo hi => s1.dropObj r lo hi
      | .nwLoad _ | .nwStore _ _ => s1.applyWindow r
      | .push _ _ _ | .pop _ _ => { s1 with mesh := { s1.mesh with falls := s1.mesh.falls ++ [r] } }
      | .pass quad turn commit => s1.passAtMailbox quad turn commit
      | .seg c id k => s1.modSeg c id k fun g => if g.st = .sent then { g with st := .here } else g
      | _ =>
        match s1.takeVirt h r ecc ((s.slice h).miss.flatMap (·.2.reqs)) with
        | .now t => t
        | .miss st =>
          if (s.slice h).takesMiss r.asid (r.va % 2 ^ 56 / 64) then s1.modSlice h fun S => S.miss1 r st else s.nack ch i

/-- CHANNEL_ENTRY (R16). -/
def execChannelEntry (ch : Nat) (s : State) : Host.Outcome State Fault Refusal :=
  if 640 ≤ chanDst ch ∧ chanDst ch < 768 then .next (s.sliceEntry ch false)
  else if 512 ≤ chanDst ch ∧ chanDst ch < 608 then .next (s.routerEntry ch)
  else .next s

/-- SLICE_REQUEST (R262); `ecc` says that the line's data in the slice have an uncorrectable error. -/
def execSliceRequest (ch : Nat) (ecc : Bool) (s : State) : Host.Outcome State Fault Refusal :=
  if 640 ≤ chanDst ch ∧ chanDst ch < 768 then .next (s.sliceEntry ch ecc) else .next s

/-- CHANNEL_ACK (R17): the ACK of the oldest entry reaches the sender. -/
def execChannelAck (ch : Nat) (s : State) : Host.Outcome State Fault Refusal :=
  match (s.chan ch).window with
  | e :: rest =>
    if e.st = .acked then .next (s.modChan ch fun c => Chan.send { c with window := rest }) else .next s
  | [] => .next s

/-- The first entry of a window whose NACK is on its way back. -/
def firstNacked (w : List WinEntry) : Option Nat := w.findIdx? fun e => e.st == .nacked

/-- The back-off after the counted NACK of an entry that has had `n` before (R18). -/
def backoffAfter (n : Nat) : Nat := min 1024 (16 * 2 ^ min n 6)

/-- CHANNEL_NACK (R17, R18): the NACK of an entry reaches the sender; a back-off starts unless one runs or the entry is due for
resend. -/
def execChannelNack (ch : Nat) (s : State) : Host.Outcome State Fault Refusal :=
  let c := s.chan ch
  match firstNacked c.window with
  | none => .next s
  | some i =>
    let w := winSet c.window i .hold
    if c.backoff.isSome || (c.window.any fun e => e.st == .hold) then .next (s.modChan ch fun c => { c with window := w })
    else
      .next (s.modChan ch fun c =>
        { c with window := w.mapIdx fun j e => if j = i then { e with nacks := e.nacks + 1 } else e,
                 backoff := some (s.meshCycles + backoffAfter (((c.window[i]?).map (·.nacks)).getD 0)) })

/-- BACKOFF_EXPIRY (R17, R18): every unacknowledged entry from the refused one on is sent again, in order. -/
def execBackoffExpiry (ch : Nat) (s : State) : Host.Outcome State Fault Refusal :=
  match (s.chan ch).backoff with
  | none => .next s
  | some t =>
    if s.meshCycles < t then .next s
    else .next (s.modChan ch fun c => Chan.send
      { c with backoff := none, window := c.window.map fun e => if e.st = .acked then e else { e with st := .wire } })

/-! ## Misses (R261, R262, R412, R415) -/

/-- The requests of a miss served in arrival order; those that meet a revoke, or a request that waits before them, stay (R262, R264,
R280). -/
def State.serveOne (s : State) (h i : Nat) : State :=
  match tabGet (s.slice h).miss i with
  | none => s
  | some m =>
    let others := ((s.slice h).miss.filter fun e => e.1 != i).flatMap (·.2.reqs)
    let r := m.reqs.foldl (fun (a : State × List Req) q => match a.1.takeVirt h q false (others ++ a.2) with
      | .now t => (t, a.2)
      | .miss _ => (a.1, a.2 ++ [q])) (s, [])
    r.1.modSlice h fun S =>
      { S with miss := if r.2.isEmpty then tabErase S.miss i else tabSet S.miss i { m with reqs := r.2 } }

/-- The misses whose line the slice holds, so that only other requests keep theirs waiting. -/
def Slice.held (S : Slice) : List Nat :=
  (S.miss.filter fun e =>
    let key := e.2.asid * 2 ^ 50 + e.2.line
    (tabGet S.lines key).isSome || (tabGet S.fwd key).isSome).map (·.1)

/-- What such requests wait for may be done: they are served, as often as that lets go further ones. -/
def State.serveHeld (s : State) (h : Nat) : Nat → State
  | 0 => s
  | n + 1 =>
    let t := (s.slice h).held.foldl (fun u i => u.serveOne h i) s
    if (t.slice h).miss = (s.slice h).miss then t else State.serveHeld t h n

/-- The requests of a miss served, and what waited for them. -/
def State.serveMiss (s : State) (h i : Nat) : State :=
  (s.serveOne h i).serveHeld h (s.slice h).miss.length

/-- Every request of a miss is answered with a late fault of a cause of its own (R183, R188, R334); what waited for them is served. -/
def State.failMissBy (s : State) (h i : Nat) (cause : Req → Nat) : State :=
  match tabGet (s.slice h).miss i with
  | none => s
  | some m =>
    (m.reqs.foldl (fun t r => if t.behindFault r then t.reply r .returned else t.refuse r (cause r))
      (s.modSlice h fun S => { S with miss := tabErase S.miss i })).serveHeld h (s.slice h).miss.length

/-- The same with one cause. -/
def State.failMiss (s : State) (h i cause : Nat) : State := s.failMissBy h i fun _ => cause

/-- The first byte of a miss's line, as the low 56 bits of its virtual address. -/
def Miss.va (m : Miss) : Nat := 64 * m.line

/-- A leaf as one line of its page has it: with the line's physical address. -/
def TlbEntry.lineLeaf (e : TlbEntry) (va : Nat) : Leaf := { e.leaf with pa := e.pa va }

/-- TLB_LOOKUP (R412). -/
def execTlbLookup (slice miss : Nat) (s : State) : Host.Outcome State Fault Refusal :=
  match tabGet (s.slice slice).miss miss with
  | none => .next s
  | some m =>
    if m.st ≠ .lookup then .next s
    else
      let st : MissState := match s.tlbHit m.asid m.va with | some e => .ready (e.lineLeaf m.va) | none => .walking
      .next (s.modSlice slice fun S => { S with miss := tabSet S.miss miss { m with st := st } })

/-- A leaf put into its TLB, in the place of entry `victim` if the TLB is full. -/
def State.putTlb (s : State) (e : TlbEntry) (victim : Nat) : State :=
  let n := tlbOf e.asid e.va
  let l := tabVal [] s.xl.tlbs n
  let l1 := if l.length < 2048 then l else l.eraseIdx (victim % l.length)
  { s with xl := { s.xl with tlbs := tabSet s.xl.tlbs n (l1 ++ [e]) } }

/-- Whether the leaf that a walk found lets some request of its miss through: an access that faults leaves no TLB entry (R412). -/
def State.someAllowed (s : State) (m : Miss) (e : TlbEntry) : Bool :=
  m.reqs.any fun r => (s.leafFault r.need e.leaf (e.pa m.va)).isNone

/-- WALK_COMPLETE (R412, R415); `ecc` says that a table read met an uncorrectable error, `victim` which leaf a full TLB gives up. -/
def execWalkComplete (slice miss victim : Nat) (ecc : Bool) (s : State) : Host.Outcome State Fault Refusal :=
  match tabGet (s.slice slice).miss miss with
  | none => .next s
  | some m =>
    if m.st ≠ .walking then .next s
    else match s.walk m.asid m.va with
      | .unmapped | .broken => .next (s.failMiss slice miss 0x11)
      | .absent _ _ => .next (s.failMiss slice miss 0x10)
      | .found e =>
        if ecc then
          .next (s.drawn.failMissBy slice miss fun r => (s.leafFault r.need e.leaf (e.pa m.va)).getD (s.eccTable m.asid m.va))
        else
        let s1 := if s.heldFrame (e.pa m.va) ∨ !s.someAllowed m e then s else s.putTlb e victim
        .next (s1.modSlice slice fun S => { S with miss := tabSet S.miss miss { m with st := .ready (e.lineLeaf m.va) } })

/-- How a victim of a slice stands: it may go, waits for its words' owners, or is no line of the slice. -/
inductive Victim where
  | none
  | gone (s : State)
  | waits (s : State)
deriving DecidableEq, Repr

/-- A victim of a slice: twice the key of a VA-tagged line, or that of a PA-tagged line and one more. A dirty one goes into
the acceptance-buffer entry of the miss; owned words are revoked first (R261, R264). -/
def State.evict (s : State) (h miss victim : Nat) : Victim :=
  let S := s.slice h
  let keep := fun (l : SLine) (t : Slice) => if l.dirty then { t with accept := t.accept ++ [(miss, l)] } else t
  if victim % 2 = 1 then
    match tabGet S.plines (victim / 2) with
    | none => .none
    | some l => .gone (s.modSlice h fun S => keep l { S with plines := tabErase S.plines (victim / 2) })
  else
    let key := victim / 2
    match tabGet S.lines key with
    | none => .none
    | some l =>
      if l.owners.isEmpty then .gone (s.modSlice h fun S => keep l { S with lines := tabErase S.lines key })
      else
        let owned := l.owners.filterMap fun o => match o.2 with | .core c => some (o.1, c) | _ => none
        let s1 := s.modSlice h fun S => { S with lines := tabMod S.lines key fun l =>
          { l with owners := tabMap l.owners fun _ o => match o with | .core c => .revoke c none none | x => x } }
        .waits (owned.foldl (fun t o => t.post
          { core := o.2, grp := 0, wave := 0, slot := 0, fib := 0, asid := key / 2 ^ 50, line := key % 2 ^ 50,
            body := .revoke o.1, src := some h }) s1)

/-- Lines that a slice's 2 MiB hold (R261). -/
def sliceLines : Nat := 32768

/-- The line of a fill put into its slice: VA-tagged, or PA-tagged at its PA home with a forward tag here, or a forward tag
alone for a page of a peer (R261, R418, R419). -/
def State.putLine (s : State) (h : Nat) (m : Miss) (l : Leaf) : State :=
  let key := m.asid * 2 ^ 50 + m.line
  let line : SLine := { words := lineWords (memBytes s.mem l.pa 64), dirty := false, leaf := l, owners := [] }
  if l.peer ≠ 0 then s.modSlice h fun S => { S with fwd := tabSet S.fwd key l }
  else if l.sliceOnly then
    (s.modSlice h fun S => { S with fwd := tabSet S.fwd key l }).modSlice (paHome l.pa) fun S =>
      match tabGet S.plines (l.pa / 64) with
      | some _ => S
      | none => { S with plines := tabSet S.plines (l.pa / 64) line }
  else s.modSlice h fun S => { S with lines := tabSet S.lines key line }

/-- Whether a slice's 2 MiB are full (R261). -/
def Slice.full (S : Slice) : Bool := decide (sliceLines ≤ S.lines.length + S.plines.length)

/-- Whether a fill puts no line into a slice: the page is a peer's, or its PA home holds the line already (R418, R419). -/
def State.fillsNothing (s : State) (l : Leaf) : Bool :=
  l.peer != 0 || (l.sliceOnly && (tabGet (s.slice (paHome l.pa)).plines (l.pa / 64)).isSome)

/-- SLICE_FILL (R261): where the slice that takes the line, for a slice-only page its PA home, is full, `victim` makes room there; `ecc` says that the tier's data met an uncorrectable error. A page outside both tiers, or held by an
object, refuses every request (R415). -/
def execSliceFill (slice miss victim : Nat) (ecc : Bool) (s : State) : Host.Outcome State Fault Refusal :=
  match tabGet (s.slice slice).miss miss with
  | none => .next s
  | some m =>
    match m.st with
    | .ready l =>
      if (tabGet (s.slice slice).lines (m.asid * 2 ^ 50 + m.line)).isSome then .next s
      else if l.peer = 0 ∧ (!inTier l.pa ∨ s.heldFrame l.pa) then .next (s.failMiss slice miss 0x11)
      else if l.peer = 0 ∧ s.inBuffer l.pa then .next s
      else if ecc ∧ l.peer = 0 then .next (s.failMiss slice miss (s.eccTier l.pa))
      else
        let to_ := if l.sliceOnly then paHome l.pa else slice
        if s.fillsNothing l then .next ((s.putLine slice m l).serveMiss slice miss)
        else match s.evict to_ miss victim with
          | .waits t => .next t
          | .none => if (s.slice to_).full then .next s else .next ((s.putLine slice m l).serveMiss slice miss)
          | .gone t => .next ((t.putLine slice m l).serveMiss slice miss)
    | _ => .next s

/-! ## Revokes and monitors (R264, R265, R286-R288) -/

/-- L1_REVOKE (R265): message `k` is a revoke. -/
def execL1Revoke (k : Nat) (s : State) : Host.Outcome State Fault Refusal :=
  match s.msgAt k with
  | none => .next s
  | some m =>
    match m.body with
    | .revoke w =>
      let s1 := (s.tookMsg k).modCore m.core fun C => C.l1Drop (m.asid * 2 ^ 50 + m.line) w
      let s2 := s1.skipFill m.core m.asid m.line w
      .next { s2 with revAcks := s2.revAcks ++ [{ core := m.core, asid := m.asid, line := m.line, word := w }] }
    | _ => .next s

/-- Whether another word of a line still holds the same answer back. -/
def SLine.stillHeld (l : SLine) (x : Req × MsgBody) : Bool :=
  l.owners.any fun o => match o.2 with | .revoke _ (some y) _ => x == y | _ => false

/-- REVOKE_ACK (R264): it waits at a gated router as a response does (R447). -/
def execRevokeAck (k : Nat) (s : State) : Host.Outcome State Fault Refusal :=
  match s.revAcks[k]? with
  | none => .next s
  | some a =>
    let s0 := { s with revAcks := s.revAcks.eraseIdx k }
    let h := vaHome a.asid (64 * a.line)
    if !s.wayOpen h a.core then .next s else
    let key := a.asid * 2 ^ 50 + a.line
    match (tabGet (s0.slice h).lines key : Option SLine) with
    | none => .next s0
    | some l =>
      match (tabGet l.owners a.word : Option Owner) with
      | some (.revoke c held next) =>
        if c ≠ a.core then .next s0
        else
          let l1 := { l with owners := match next with
            | some d => tabSet l.owners a.word (.core d)
            | none => tabErase l.owners a.word }
          let s1 := s0.modSlice h fun S => { S with lines := tabSet S.lines key l1 }
          let s2 := match held with
            | some x => if l1.stillHeld x then s1 else s1.reply x.1 x.2
            | none => s1
          match (s2.slice h).missOf a.asid a.line with
          | some e => .next (s2.serveMiss h e.1)
          | none => .next s2
      | _ => .next s0

/-- MWAIT_TIMEOUT (R286, R287). -/
def execMwaitTimeout (slice k : Nat) (s : State) : Host.Outcome State Fault Refusal :=
  match tabGet (s.slice slice).monitors k with
  | none => .next s
  | some m =>
    if m.tmo = 0 ∨ s.ticks < m.tmo then .next s
    else
      let s1 := s.modSlice slice fun S => { S with monitors := tabErase S.monitors k }
      if m.rebound then .next (s1.modFib m.grp m.wave m.fib fun F => { F with fired := true })
      else
        let body : MsgBody := if m.asid = physAsid then .value (lineWords (s.paBytes m.va 4))
          else match s.homeRead m.asid m.va 4 { r := true } with
            | .ok bs => .value (lineWords bs)
            | .error c => .fault c
        .next (s1.post { core := m.core, grp := m.grp, wave := m.wave, slot := m.slot, fib := m.fib, asid := m.asid,
                         line := m.va / 64, body := body })

/-! ## PGREQ (R420) -/

/-- PGREQ_RESIDENT (R420): a fresh walk for request `k`. A page that is not resident and has a backing tag is asked for at the Cuset of the
issuing die. -/
def execPgreqResident (k : Nat) (s : State) : Host.Outcome State Fault Refusal :=
  match s.xl.pgreqs[k]? with
  | none => .next s
  | some p =>
    let done := { s with xl := { s.xl with pgreqs := s.xl.pgreqs.eraseIdx k } }.reply p.req .resident
    match s.walk p.req.asid p.req.va with
    | .absent tag at_ =>
      if tag = 0 then .next done
      else if p.posted then .next s
      else .next (State.askPage { s with xl := { s.xl with pgreqs := s.xl.pgreqs.set k { p with posted := true } } } (dieOf p.req.core)
        p.req.asid p.req.va at_)
    | _ => .next done

end Sys2Proof.Machine
end

