-- ==== Sys2Proof/Machine/MeshEvents.lean ====
section
/-! DEFINITION. What routers and object units do: congestion windows (R296, R297), clasp pairing (R303-R308), objects at their home
slices (R299, R307, R312), generation tables (R303, R310). -/
namespace Sys2Proof.Machine

/-! ## Congestion windows (R296, R297) -/

/-- A router's counters at the end of a window: latched, and restarted from zero. OCC is the mean occupancy of its request buffers, of
8 entries a port, in 255ths of full, rounded down (R294, R296, log 68). -/
def Router.latch (r : Router) (ports cycles dwelling : Nat) : Router :=
  { nacks := min r.curNacks 0xFFFF, occ := min 255 (255 * r.curOcc / (8 * ports * cycles)), clasps := min r.curClasps 0xFFFF,
    dwell := min r.curDwell 16, curNacks := 0, curClasps := 0, curDwell := dwelling, curOcc := 0 }

/-- KIND and WIN of a handle. -/
def handleWin (lo : Word) : Nat := bits lo.toNat 9 6

/-- WIN of a dwelling operation. -/
def Dwell.win (d : Dwell) : Nat := match d.req.clasp with | some (lo, _, _) => handleWin lo | none => 0

/-- The operations that dwell at a router in mesh cycle `b`: one whose window has ended has departed (R304). -/
def State.dwellingAt (s : State) (router b : Nat) : Nat :=
  (s.mesh.dwells.filter fun d => d.router == router && decide (b < d.since + d.win)).length

/-- The memory-bound groups resident on a base die: MEMBOUND and allowed to its context (R91, R381). A mirror pair is one group (R52). -/
def State.memBound (s : State) (b : Nat) : List (Nat × Group) :=
  s.groups.filterMap fun e => match s.group e.1 with
    | some G =>
      if G.hdr.membound && !G.isTwin && (match G.core? with | some c => baseOfDie (dieOf c) == b | none => false) &&
          ((s.ctx G.ctx).any fun c => c.allow.testBit 4) then some (e.1, G) else none
    | none => none

/-- The allowance of a base die for the next window, of `n` memory-bound groups. -/
def nextAllowance (n allow : Nat) (congested : Bool) : Nat :=
  if n = 0 then 0
  else
    let a0 := if allow = 0 then n else min allow n
    if congested then max 1 (a0 / 2) else min n (2 * a0)

/-- CONGESTION_WINDOW_END (R297): every 4,096 mesh cycles. `hold0` and `hold1` give the order in which the scheduler
prefers groups to hold on base die 0 and on base die 1. -/
def execCongestionWindowEnd (hold0 hold1 : List Nat) (s : State) : Host.Outcome State Fault Refusal :=
  if s.meshCycles < s.mesh.winBegan + 4096 then .next s
  else
    let rs := (List.range 96).map fun r => (r, (s.router r).latch (portCount r) (s.meshCycles - s.mesh.winBegan) (s.dwellingAt r (s.mesh.winBegan + 4096)))
    let bases := (List.range 2).map fun b =>
      let mine := s.memBound b
      let bad := (rs.filter fun r => r.1 / 48 == b).any fun r =>
        decide ((s.baseDie b).nthr ≤ r.2.nacks) || decide ((s.baseDie b).othr ≤ r.2.occ)
      let a := nextAllowance mine.length (s.baseDie b).allow bad
      let can := (mine.filter fun e => !e.2.held).map (·.1)
      let order := ((if b = 0 then hold0 else hold1).filter can.contains).dedup
      (b, a, (order ++ can.filter fun g => !order.contains g).take (mine.length - a))
    let held := (bases.flatMap fun x => x.2.2).flatMap s.pairOf
    .next
      { s with
        groups := tabMap s.groups fun g G => { G with heldLast := G.held, held := held.contains g },
        mesh := { s.mesh with
          winBegan := s.mesh.winBegan + 4096,
          routers := rs.foldl (fun t e => tabPut Router.zero t e.1 e.2) s.mesh.routers,
          baseDies := bases.foldl (fun t x => tabPut BaseDie.zero t x.1 { (s.baseDie x.1) with allow := x.2.1 }) s.mesh.baseDies } }

/-! ## Clasp pairing (R303-R306) -/

/-- The number of a router's generation-table entry. -/
def genKey (router home slot : Nat) : Nat := 8192 * router + 64 * home + slot

/-- An entry of a router's generation table. -/
def State.genEntry (s : State) (router home slot : Nat) : GenEntry := tabVal ⟨false, 0⟩ s.mesh.genTable (genKey router home slot)

/-- Whether an operation is eligible at a router (R303). -/
def State.eligible (s : State) (router : Nat) (r : Req) : Bool :=
  match r.clasp with
  | some (lo, hi, _) => bits lo.toNat 7 2 != 2 && handleWin lo != 0 &&
      s.genEntry router (handleHome lo) (handleSlot hi) == ⟨true, handleGen lo⟩
  | none => false

/-- Whether two operations may clasp (R305). -/
def partners (a b : Req) : Bool :=
  match a.clasp, b.clasp with
  | some (lo, hi, p), some (lo', hi', q) => lo == lo' && hi == hi' && p != q
  | _, _ => false

/-- The partner of an operation that arrived at a router in mesh cycle `b`: the eligible one that began to dwell earliest, by its place in
the buffers, of those whose window has not ended (R304, R305). -/
def State.partner (s : State) (router b : Nat) (r : Req) : Option (Nat × Dwell) :=
  let ds := (s.mesh.dwells.mapIdx fun i d => (i, d)).filter fun d =>
    d.2.router == router && partners r d.2.req && s.eligible router d.2.req && decide (b < d.2.since + d.2.win)
  match least (ds.map fun d => d.2.since) with
  | none => none
  | some t => ds.find? fun d => d.2.since == t

/-- A router's clasp count moves. -/
def State.countClasp (s : State) (router : Nat) : State :=
  { s with mesh := { s.mesh with routers :=
      (tabPut Router.zero s.mesh.routers router { (s.router router) with curClasps := (s.router router).curClasps + 1 }) } }

/-- A router's answer to an operation (R306). -/
def State.routerReply (s : State) (router : Nat) (r : Req) (b : MsgBody) : State :=
  s.post { respond r b with src := some (128 + router) }

/-- The two answers of a clasp: status 1 to the push, its value to the pop (R306). -/
def State.claspPair (s : State) (router : Nat) (a b : Req) : State :=
  match a.op, b.op with
  | .push _ _ v, .pop _ _ => (s.routerReply router a (.status 1)).routerReply router b (.popped (some v))
  | .pop _ _, .push _ _ v => (s.routerReply router b (.status 1)).routerReply router a (.popped (some v))
  | _, _ => s

/-- An operation leaves a router toward its home slice (R293, R304). -/
def State.depart (s : State) (router : Nat) (r : Req) : State := s.enqueue (chanId (routerNode router) (nextNode router r.home)) r

/-- An eligible operation that arrived in mesh cycle `b` takes a clasp-buffer entry of its injection router (R303, R304). -/
def State.dwell (s : State) (router b : Nat) (r : Req) : State :=
  let n := s.dwellingAt router b + 1
  { s with mesh := { s.mesh with
      dwells := s.mesh.dwells ++ [{ router := router, since := b, req := r }],
      routers := (tabPut Router.zero s.mesh.routers router
        { (s.router router) with curDwell := max n (s.router router).curDwell }) } }

/-- The clasp operations that have reached a router and not been compared there: channel, place in its input buffer, entry. -/
def State.meeting (s : State) : List (Nat × Nat × BufEntry) :=
  s.chans.flatMap fun e => (e.2.buf.mapIdx fun i x => (e.1, i, x)).filter fun x => x.2.2.req.clasp.isSome && !x.2.2.met

/-- Whether one arrival is taken before another of the same router: in order of mesh cycles, then of ports, and at one port of channels
(R305, log 68). -/
def arrivedBefore (x y : Nat × Nat × BufEntry) : Bool :=
  let rank := fun (z : Nat × Nat × BufEntry) => [z.2.2.at_, portOf (chanDst z.1 - 512) (chanSrc z.1), chanSrc z.1, z.2.1]
  chanDst x.1 == chanDst y.1 && decide (rank x < rank y)

/-- The generation-table writes that have reached their routers: channel, place in its input buffer, the mesh cycle of arrival, write. -/
def State.genHere (s : State) : List (Nat × Nat × Nat × GenWrite) :=
  s.chans.flatMap fun e => (e.2.buf.mapIdx fun i (x : BufEntry) => (i, x)).filterMap fun x => match x.2.req.op with
    | .gen w => if chanDst e.1 = routerNode w.router then some (e.1, x.1, x.2.at_, w) else none
    | _ => none

/-- Whether a generation-table write that reached a router no later than mesh cycle `b` has yet to change its entry (R303). -/
def State.genDue (s : State) (router b : Nat) : Bool := s.genHere.any fun x => x.2.2.2.router == router && decide (x.2.2.1 ≤ b)

/-- CLASP_ARRIVAL (R305): arrival `k` is compared, when its mesh cycle has ended, those before it have been, and the router's
generation-table entries are those of its cycle (R303). -/
def execClaspArrival (k : Nat) (s : State) : Host.Outcome State Fault Refusal :=
  match s.meeting[k]? with
  | none => .next s
  | some (ch, i, x) =>
    let router := chanDst ch - 512
    let r := x.req
    let s0 := s.modChan ch fun c => { c with buf := c.buf.eraseIdx i }
    let on := s.modChan ch fun c => { c with buf := c.buf.mapIdx fun j y => if j = i then { y with met := true } else y }
    if s.meshCycles ≤ x.at_ ∨ s.meeting.any (arrivedBefore · (ch, i, x)) ∨ s.genDue router x.at_ then .next s
    else if !s.eligible router r then .next on
    else match s.partner router x.at_ r with
      | some (j, d) =>
        let s1 := { s0 with mesh := { s0.mesh with dwells := s0.mesh.dwells.eraseIdx j } }
        .next ((s1.countClasp router).claspPair router r d.req)
      | none =>
        if router = routerOfCore r.core ∧ s.dwellingAt router x.at_ < 16 then .next (s0.dwell router x.at_ r) else .next on

/-- The group of an operation is being saved (R311). -/
def State.leaving (s : State) (r : Req) : Bool :=
  match s.group r.grp with
  | some G => (match G.place with | .saving _ => true | _ => false)
  | none => false

/-- DWELL_EXPIRY (R304, R311): operation `k` of those that dwell at a router departs, once its window has ended and those that arrived in
it have been compared, or its group is to be saved. -/
def execDwellExpiry (router k : Nat) (s : State) : Host.Outcome State Fault Refusal :=
  let ds := (s.mesh.dwells.mapIdx fun i d => (i, d)).filter fun d => d.2.router == router
  match ds[k]? with
  | none => .next s
  | some (i, d) =>
    let open_ := decide (s.meshCycles < d.since + d.win) ||
      s.meeting.any fun x => chanDst x.1 == routerNode router && decide (x.2.2.at_ < d.since + d.win)
    if open_ ∧ !s.leaving d.req then .next s
    else .next (State.depart { s with mesh := { s.mesh with dwells := s.mesh.dwells.eraseIdx i } } router d.req)

/-! ## Objects at their home slices (R299, R307, R312) -/

/-- The subject of a clasp operation with a late fault (R312, R324). -/
def State.claspSubject (s : State) (r : Req) (cause : Nat) : Option Subject :=
  match s.group r.grp, (s.wave r.grp r.wave).bind fun W => tabGet W.sb r.slot with
  | some G, some e =>
    let w := (encode e.instr).getD (0, none)
    let pd := ((e.accs.find? fun a => a.fib == r.fib).bind (·.pd)).getD 0
    let x : Word × Word × Word × Nat := match r.op with
      | .push lo hi v => (lo, hi, v, 0)
      | .pop lo hi => (lo, hi, 0, 1)
      | _ => (0, 0, 0, 0)
    some
      { of := .clasp r, cause := cause, late := false, die := G.die, ctx := G.ctx, asid := G.asid, gid := G.gid, grp := r.grp,
        wave := r.wave, core := r.core, fpc := e.pc.toNat, va := 0, tdet := s.ticks, fmask := maskOf [r.fib],
        gmask := maskOf (e.accs.map (·.fib)), w0 := w.1, w1 := w.2.getD 0, exc := [], detail := 0, bundle := 0, len := 0,
        move := .none,
        tail := [(32, x.1), (33, x.2.1), (34, x.2.2.1),
                 (35, BitVec.ofNat 32 (x.2.2.2 + (if x.2.2.2 = 1 then pd else 0) * 2 ^ 8 + r.core * 2 ^ 16)),
                 (36, BitVec.ofNat 32 r.fib)] }
  | _, _ => none

/-- A clasp operation parks alone (R312). -/
def State.parkClasp (s : State) (r : Req) (cause : Nat) : State :=
  match s.claspSubject r cause with
  | some x => s.detect x.die x
  | none => s

/-- The slot number that the next push writes and the next pop reads (R299). -/
def ObjEntry.pushSlot (e : ObjEntry) : Nat := if e.kind = 2 then (e.head + e.count) % e.cap else e.count

/-- One operation applied to an object: the entry after it, and the answer (R299). -/
def ObjEntry.apply (e : ObjEntry) (op : ReqOp) : ObjEntry × MsgBody :=
  match op with
  | .push _ _ v =>
    if e.cap ≤ e.count then (e, .status 2)
    else ({ e with slots := tabSet e.slots e.pushSlot v, count := e.count + 1 }, .status 0)
  | _ =>
    if e.count = 0 then (e, .popped none)
    else if e.kind = 2 then
      ({ e with head := (e.head + 1) % e.cap, count := e.count - 1 }, .popped (some (tabVal 0 e.slots e.head)))
    else ({ e with count := e.count - 1 }, .popped (some (tabVal 0 e.slots (e.count - 1))))

/-- FALL_THROUGH (R307): operation `k` of those on their way to their slices is applied, if none to its object arrived before it;
`ecc` says that the slice's data have an uncorrectable error (R312). -/
def execFallThrough (k : Nat) (ecc : Bool) (s : State) : Host.Outcome State Fault Refusal :=
  match s.mesh.falls[k]? with
  | none => .next s
  | some r =>
    match r.clasp with
    | none => .next s
    | some (lo, hi, _) =>
      let same := fun (q : Req) => match q.clasp with
        | some (lo', hi', _) => handleHome lo' == handleHome lo && handleSlot hi' == handleSlot hi
        | none => false
      if (s.mesh.falls.take k).any same then .next s
      else
        let s0 := { s with mesh := { s.mesh with falls := s.mesh.falls.eraseIdx k } }
        if !(s.slice r.home).live lo hi then .next (s0.parkClasp r 0x14)
        else if ecc then .next (s0.parkClasp r 0x31)
        else
          let x := ((s.slice r.home).obj (handleSlot hi)).apply r.op
          .next ((s0.modObj r.home (handleSlot hi) fun _ => x.1).reply r x.2)

/-! ## Generation tables (R303, R310) -/

/-- GEN_TABLE_WRITE (R303, R310): write `k` of those at their routers takes effect, after those before it on its channel and after the
operations that arrived there in an earlier mesh cycle have been compared; operations of a dropped object that dwell there depart. -/
def execGenTableWrite (k : Nat) (s : State) : Host.Outcome State Fault Refusal :=
  match s.genHere[k]? with
  | none => .next s
  | some (ch, i, b, w) =>
    if (s.genHere.any fun x => x.1 == ch && decide (x.2.1 < i)) ∨
        (s.meeting.any fun x => chanDst x.1 == routerNode w.router && decide (x.2.2.at_ < b)) then .next s
    else
      let hits := fun (d : Dwell) => d.router == w.router && !w.valid && match d.req.clasp with
        | some (lo, hi, _) => handleHome lo == w.home && handleSlot hi == w.slot && handleGen lo == w.gen
        | none => false
      let gone := s.mesh.dwells.filter hits
      let s0 := s.modChan ch fun c => { c with buf := c.buf.eraseIdx i }
      let s1 := { s0 with mesh := { s0.mesh with
        genAcks := s0.mesh.genAcks ++ [w],
        dwells := s0.mesh.dwells.filter fun d => !hits d,
        genTable := tabSet s0.mesh.genTable (genKey w.router w.home w.slot) ⟨w.valid, w.gen⟩ } }
      .next (gone.foldl (fun t d => t.depart w.router d.req) s1)

/-- A registration or drop that every router has acknowledged completes (R310, R314). -/
def State.objDone (s : State) (k : Nat) (o : ObjOp) : State :=
  let s1 := { s with mesh := { s.mesh with objOps := tabErase s.mesh.objOps k } }
  match o.old with
  | some e => (s1.objBack e).reply o.req (.ack false)
  | none => s1.reply o.req (.value o.handle)

/-- GEN_TABLE_ACK (R310). -/
def execGenTableAck (k : Nat) (s : State) : Host.Outcome State Fault Refusal :=
  match s.mesh.genAcks[k]? with
  | none => .next s
  | some w =>
    let s1 := { s with mesh := { s.mesh with genAcks := s.mesh.genAcks.eraseIdx k } }
    match tabGet s1.mesh.objOps w.op with
    | none => .next s1
    | some o =>
      if o.left ≤ 1 then .next (s1.objDone w.op o)
      else .next { s1 with mesh := { s1.mesh with objOps := tabSet s1.mesh.objOps w.op { o with left := o.left - 1 } } }

end Sys2Proof.Machine
end

