-- ==== Sys2Proof/Machine/ScanOut.lean ====
section
/-! DEFINITION. What the TAP shifts out of a frozen module (R449, R450). Where the spec gives a word no layout, or the model keeps no
place for what the word holds, the word is a free value (log 27). -/
namespace Sys2Proof.Machine

/-! ## Parts of the stream -/

/-- A run of words of the stream: how many, and each of them; none for a free one. -/
abbrev Part := Nat × (Nat → Option Nat)

/-- The words of some parts. -/
def partsLen (ps : List Part) : Nat := ps.foldl (fun n p => n + p.1) 0

/-- A word of some parts; what follows the last one is free. -/
def streamWord : List Part → Nat → Option Nat
  | [], _ => none
  | (n, f) :: ps, i => if i < n then f i else streamWord ps (i - n)

/-- Words given one by one. -/
def listPart (l : List Nat) : Part := (l.length, fun i => l[i]?)

/-- Words of a number of entries of one size, the `k`-th given by its words. -/
def tablePart (size count : Nat) (entry : Nat → List (Option Nat)) : Part :=
  (size * count, fun i => ((entry (i / size))[i % size]?).getD (some 0))

/-- Words that are free. -/
def freePart (n : Nat) : Part := (n, fun _ => none)

/-- The head of a block or record: identifier or type, and length; a length that does not fit follows in two words (R450). -/
def headPart (ty len : Nat) : Part :=
  if len < 0xFFFFFF then listPart [ty + len * 256] else listPart [ty + 0xFFFFFF * 256, len % 2 ^ 32, len / 2 ^ 32]

/-- A block or record with its head. -/
def framed (ty : Nat) (ps : List Part) : List Part := headPart ty (partsLen ps) :: ps

/-- The two words of a 64-bit value. -/
def twoWords (n : Nat) : List Nat := [n % 2 ^ 32, n / 2 ^ 32 % 2 ^ 32]

/-- Four-bit tag codes, eight to a word. -/
def tagWords (n : Nat) (tag : Nat → Tag) : List Nat :=
  (List.range (n / 8)).map fun j => (List.range 8).foldl (fun v b => v + tagCode (tag (8 * j + b)) * 16 ^ b) 0

/-! ## Compute-die records -/

/-- The group and wave in a wave slot of a core. -/
def State.waveIn (s : State) (c slot : Nat) : Option (Nat × Group × Nat × Wave) :=
  (s.residents c).findSome? fun e => (e.2.waves.find? fun x => x.2.slot == slot).map fun x => (e.1, e.2, x.1, x.2)

/-- The number of a group on its core: its place among the resident ones. -/
def State.groupOnCore (s : State) (c g : Nat) : Nat := ((s.residents c).findIdx? fun e => e.1 == g).getD 0

/-- The core record. -/
def State.coreRecord (s : State) (c : Nat) : List Part :=
  let C := s.core c
  let fw := s.isFwCore c
  let mode := (s.residents c).any fun e => e.2.firmware
  framed 0x40 [listPart ([c % 36, C.regg + C.scrg * 2 ^ 8 + C.accg * 2 ^ 16, (if fw then 1 else 0) + (if mode then 2 else 0)] ++
    twoWords C.cycles ++ [0, 0, 0])]

/-- The places of what groups share on a core, of which each has a number: its group's and its own number there, the groups in order
(log 27). -/
def State.places (s : State) (c : Nat) (count : Header → Nat) : List (Group × Nat) :=
  (s.residents c).flatMap fun e => (List.range (count e.2.hdr)).map fun i => (e.2, i)

/-- The register at a place of some allocations, which stand one behind another. -/
def regIn : List Fibre → Nat → Option Tagged
  | [], _ => none
  | F :: rest, i => if i < F.alloc then some (tabVal zeroReg F.regs i) else regIn rest (i - F.alloc)

/-- The register at a place of a core's register partition: the allocations of its waves' fibres, in the order of groups, waves and
fibres (log 27). -/
def State.regAt (s : State) (c i : Nat) : Option Tagged :=
  regIn ((s.residents c).flatMap fun e => e.2.waves.flatMap fun w => (List.range 32).map w.2.fib) i

/-- The pool: the registers, the words of the scratchpad partition that a group has, and the tiles in their places. -/
def State.poolRecord (s : State) (c : Nat) : List Part :=
  let C := s.core c
  let lo := 4096 * C.regg
  let acc := lo + 4096 * C.scrg
  let ts := s.places c Header.tiles
  framed 0x41 [(524288, fun i =>
    if i < lo then (s.regAt c i).map fun t => t.val.toNat
    else if i < acc then
      (s.residents c).findSome? fun e =>
        if e.2.scrBase ≤ 4 * (i - lo) ∧ 4 * (i - lo) < e.2.scrBase + e.2.hdr.scr then
          some (tabVal 0 e.2.scratch (i - lo - e.2.scrBase / 4)).toNat
        else none
    else (ts[(i - acc) / 16384]?).map fun x => (tabVal 0 (tabVal Tile.zero x.1.tiles x.2).elems ((i - acc) % 16384)).toNat)]

/-- The tags of the pool's words: those of the register partition, and 0. Then the tags of the tile places. -/
def State.tagRecord (s : State) (c : Nat) : List Part :=
  let ts := s.places c Header.tiles
  let tag := fun (i : Nat) => match s.regAt c i with | some t => tagCode t.tag | none => 0
  framed 0x42 [(65536, fun i =>
      if 8 * i < 4096 * (s.core c).regg then some ((List.range 8).foldl (fun v b => v + tag (8 * i + b) * 16 ^ b) 0) else some 0),
    listPart (tagWords 16 fun i => match ts[i]? with | some (G, t) => (tabVal Tile.zero G.tiles t).tag | none => .b32)]

/-- The state word of a core barrier (R46). -/
def CoreBarrier.words (b : CoreBarrier) : List Nat :=
  [b.exp + b.arr * 2 ^ 10 + b.phase * 2 ^ 20 + (if b.live then 2 ^ 21 else 0) + (if b.armed then 2 ^ 22 else 0), b.members]

/-- The core barriers of a core. -/
def State.barrierRecord (s : State) (c : Nat) : List Part :=
  let bs := s.places c Header.barriers
  framed 0x46 [tablePart 2 256 fun k => match bs[k]? with
    | some (G, b) => (G.bar b).words.map some
    | none => [some 0, some 0]]

/-- Outstanding entries of a wave in a range of numbers. -/
def Wave.entriesIn (W : Wave) (lo hi : Nat) : Nat := (W.sb.filter fun e => decide (lo ≤ e.1) && decide (e.1 < hi)).length

/-- The words of a wave record. -/
def State.waveWords (s : State) (c g : Nat) (G : Group) (w : Nat) (W : Wave) : List Nat :=
  let parked := match W.run with | .parked _ => 1 | _ => 0
  let twin := match G.twin with | some (_, true) => 1 | _ => 0
  [W.slot + 2 ^ 4 + parked * 2 ^ 5 + (if G.held then 2 ^ 6 else 0) + s.groupOnCore c g * 2 ^ 8 + G.ctx * 2 ^ 16, G.gid,
    G.cls + twin * 2 ^ 3] ++
  (List.range 12).map (fun m => (W.mask m).toNat) ++ (List.range 32).map (fun k => (tabVal zeroReg W.ks k).val.toNat) ++
  tagWords 32 (fun k => (tabVal zeroReg W.ks k).tag) ++
  [W.entriesIn 0 16 + W.entriesIn 16 32 * 2 ^ 8 + W.entriesIn 32 40 * 2 ^ 16 + W.entriesIn 40 48 * 2 ^ 24, W.starve] ++
  twoWords W.admitted ++
  [W.mxflags.toNat, W.mxdone.toNat, W.mxsig.toNat, (s.special G w W 0 0x00D).1 % 2 ^ 32, (s.special G w W 0 0x00E).1] ++
  (List.range 49).flatMap fun e => (List.range 4).map fun i => W.descWord e i

/-- The words of a fibre record; the address of a waiting instruction that the wait does not hold is free. -/
def fibreWords (F : Fibre) : List (Option Nat) :=
  let st := match F.st with | .never => 0 | .live => 1 | .exited => 2
  let began := match F.wait with
    | .mwaitm _ a | .coll _ _ a _ _ _ _ | .wgrow _ a => (twoWords a.toNat).map some
    | _ => [none, none]
  let units := match F.wait with | .wgrow n _ => n | _ => 0
  (twoWords F.pc.toNat ++ [F.preds.toNat + st * 2 ^ 8 + (if F.facet.isSome then 2 ^ 10 else 0), F.base + F.alloc * 2 ^ 16,
    F.flags.toNat, F.trapen.toNat] ++ twoWords F.lnk.toNat ++ [waitWord F]).map some ++ began ++ [units, 0, 0, 0, 0].map some

/-- The pending accesses of a wave: entry, fibre, and the words of spaces 2 and 3 (R335). -/
def Wave.pendingParts (W : Wave) : List Part :=
  W.sb.flatMap fun e => e.2.accs.flatMap fun a =>
    if a.unsettled then
      framed 0x45 [listPart ([e.1, a.fib] ++ (List.range 2).map (W.accWord e.1 a.fib 2) ++ (List.range 8).map (W.accWord e.1 a.fib 3))]
    else []

/-- The wave slots of a core with their fibres and pending accesses. -/
def State.waveRecords (s : State) (c : Nat) : List Part :=
  (List.range 16).flatMap fun k =>
    match s.waveIn c k with
    | some (g, G, w, W) =>
      framed 0x43 [listPart (s.waveWords c g G w W)] ++
        ((List.range 32).flatMap fun f => framed 0x44 [tablePart 16 1 fun _ => fibreWords (W.fib f)]) ++ W.pendingParts
    | none =>
      framed 0x43 [listPart [k], freePart 255] ++ (List.range 32).flatMap fun _ => framed 0x44 [freePart 16]

/-- The copy-engine record: the tags that a group holds, and the copies in the order of their numbers. -/
def State.copyRecord (s : State) (c : Nat) : List Part :=
  let E := s.copyEng c
  let flying := E.copies.foldl (fun n x => n + (if x.2.begun then (x.2.segs.filter fun g => g.st != .done).length else 0)) 0
  let tagWord := fun t => ((s.residents c).findSome? fun e => (tabGet e.2.tags t).map fun h =>
    h.count + (if h.done then 2 ^ 16 else 0) + (if h.fail then 2 ^ 17 else 0) + 2 ^ 18 + s.groupOnCore c e.1 * 2 ^ 19).getD 0
  framed 0x47 [listPart [flying], listPart ((List.range 64).map tagWord), tablePart 8 512 fun k =>
    match E.copies[k]? with
    | none => [some 0, some 0, some 0, some 0, some 0, some 0, some 0, some 0]
    | some (_, C) =>
      (twoWords C.src ++ twoWords C.dst ++ [C.len, C.tag + C.queue * 2 ^ 6 + C.op * 2 ^ 8 + 2 ^ 16 + (if C.begun then 2 ^ 17 else 0),
        (C.segs.filter fun g => g.st == .done).length,
        C.queue + match C.bar with | some (scope, b) => 2 ^ 2 + scope * 2 ^ 3 + b * 2 ^ 6 | none => 0]).map some]

/-- The words of a fibre slot's share of the facet frame. -/
def State.frameWords (s : State) (G : Group) (x : FacetCtx) : List Nat :=
  (List.range 16).map (fun i => (tabVal zeroReg x.regs i).val.toNat) ++ tagWords 16 (fun i => (tabVal zeroReg x.regs i).tag) ++
  [x.preds.toNat, x.flags.toNat, x.trapen.toNat] ++ twoWords x.pc.toNat ++ [s.felapsed G x] ++
  (List.range 32).map (fun i => (tabVal zeroReg x.ks i).val.toNat) ++ tagWords 32 (fun i => (tabVal zeroReg x.ks i).tag) ++ [0, 0, 0, 0]

/-- The facet record of a core. -/
def State.facetRecord (s : State) (c : Nat) : List Part :=
  let owner := (s.core c).frame.bind fun o => (s.wave o.1 o.2).map fun W => (o, W)
  framed 0x48 [(256, fun i => some (slotWord s.facet.active (i / 16) (i % 16))),
    listPart [match owner with | some (_, W) => W.slot + 16 | none => 0],
    tablePart 64 32 fun f => match owner with
      | some (o, W) => (match s.group o.1, (W.fib f).facet with
        | some G, some x => (s.frameWords G x).map some
        | _, _ => List.replicate 64 none)
      | none => List.replicate 64 none]

/-- The address of a line key, and its ASID. -/
def keyWords (key : Nat) : List Nat := twoWords (signExt56 (key % 2 ^ 50 * 64))

/-- The L1 lines of a core in the order of their keys, then absent ones. -/
def State.l1Record (s : State) (c : Nat) : List Part :=
  framed 0x49 [tablePart 20 2048 fun k =>
    match (s.core c).l1[k]? with
    | some (key, l) =>
      (keyWords key ++ [key / 2 ^ 50 % 65536 + 2 ^ 16 + (if l.inv then 2 ^ 17 else 0), l.valid + l.owned * 2 ^ 16] ++
        l.words.map BitVec.toNat).map some
    | none => [none, none, some 0]]

/-- The instruction-cache lines of a core in the order of their keys, then absent ones. -/
def State.icacheRecord (s : State) (c : Nat) : List Part :=
  framed 0x4A [tablePart 19 1024 fun k =>
    match (s.core c).icache[k]? with
    | some (key, bs) => (keyWords key ++ [key / 2 ^ 50 % 65536 + 2 ^ 16] ++ (lineWords bs).map BitVec.toNat).map some
    | none => [none, none, some 0]]

/-- The records of a core site: one of length 0 where it is harvested. -/
def State.siteRecords (s : State) (c : Nat) : List Part :=
  if (s.fusedOf (dieOf c)).testBit (c % 36) then [headPart 0x40 0]
  else
    s.coreRecord c ++ s.poolRecord c ++ s.tagRecord c ++ s.waveRecords c ++ s.barrierRecord c ++ s.copyRecord c ++
      s.facetRecord c ++ s.l1Record c ++ s.icacheRecord c

/-- STATE of a reservation as the matrix record has it; the model checks and commits from one state. -/
def PassState.code : PassState → Nat | .reserved => 1 | .granted => 2 | .parked => 3 | .committing => 5

/-- A captured operand word of a pass, A's then B's. -/
def Pass.captured (p : Pass) (i : Nat) : Nat :=
  if i < 1024 then (tabVal 0 p.capA i).toNat else (tabVal 0 p.capB (i - 1024)).toNat

/-- The matrix-engine record of a quad: reservation entries, staging tile, scale cache, histogram unit. -/
def State.matrixRecord (s : State) (q : Nat) : List Part :=
  let M := s.matrix q
  let staged := M.entries.findSome? fun e => e.2.staged
  framed 0x50 [
    (32 * 2072, fun i =>
      match tabGet M.entries (i / 2072) with
      | none => if i % 2072 = 0 ∨ 24 ≤ i % 2072 then some 0 else none
      | some p =>
        let k := i % 2072
        if k = 0 then some p.st.code
        else if k = 1 then none
        else if k = 2 then some p.order
        else if k = 3 then some p.passedOver
        else if k < 20 then some ((p.blk.getD (k - 4) 0).toNat)
        else if k < 24 then some ((p.kp.getD (k - 20) 0).toNat)
        else some (p.captured (k - 24))),
    (16384, fun i => staged.bind fun x => (x.elems.find? fun e => e.1 == i).map fun e => e.2.toNat),
    tablePart 19 256 (fun k => match M.scale[k]? with
      | some (key, bs) => (keyWords key).map some ++ [none] ++ (lineWords bs).map fun w => some w.toNat
      | none => [none, none, none]),
    freePart 8]

/-- A queue slot of the fault-engine record: what R450 names, in that order; the slots of fault tasks are always mapped (R384, log 27). -/
def State.slotWords (s : State) (d i : Nat) : List (Option Nat) :=
  let q := s.qslot (slotKey d i)
  let st := if 56 ≤ i then 1 else match q.st with | .free => 0 | .mapped => 1 | .held => 2 | .unmapping => 3
  ([st] ++ twoWords q.desc ++ twoWords q.rd ++ twoWords q.done ++
    [if 56 ≤ i then i - 56 else q.cls, if q.st = .held then 1 else 0, if q.qstate = 2 then 1 else 0]).map some

/-- The fault-engine record of a die: shadow records, hook entries, queue slots, held subjects, each with its cause and its kind as a
shadow record has them (log 27). -/
def State.faultRecord (s : State) (d : Nat) : List Part :=
  let E := s.faultEng d
  framed 0x58 [
    tablePart 64 4352 (fun k => match tabGet E.recs k with
      | some R => (List.range 64).map fun i => some (s.recWord (ridOf d k R.gen) R i)
      | none => [none, some 0]),
    (256, fun i => some (slotWord s.facet.active (i / 16) (i % 16))),
    tablePart 16 64 (s.slotWords d), listPart [E.heldSubs.length], listPart (E.heldSubs.map fun x => x.cause + x.of.kind * 2 ^ 8)]

/-- The block of a compute die: of length 0 for one that is lost. -/
def State.computeBlock (s : State) (d : Nat) : List Part :=
  if s.cp.lost.contains d then [headPart (0x10 + d) 0]
  else framed (0x10 + d) (((List.range 36).flatMap fun i => s.siteRecords (36 * d + i)) ++
    ((List.range 9).flatMap fun q => s.matrixRecord (9 * d + q)) ++ s.faultRecord d)

/-! ## Cache-die and base-die records -/

/-- A word of memory as its tier holds it. -/
def State.memWord (s : State) (pa : Nat) : Nat := leNat (memBytes s.mem pa 4)

/-- The address of a word of an SRAM die or an LPDDR channel, in the order of addresses (R416). -/
def tierAddress (base unit i : Nat) : Nat := base + i / 512 * 65536 + (unit ^^^ (i / 512 % 32)) * 2048 + i % 512 * 4

/-- A slice's lines in the order of their keys: the virtually tagged, then the physically tagged, then forward tags. -/
def Slice.tagWords (S : Slice) (k : Nat) : List (Option Nat) :=
  let n := S.lines.length
  let m := n + S.plines.length
  let meta_ := fun (l : SLine) => 2 ^ 16 + (if l.dirty then 2 ^ 17 else 0) + (if l.leaf.sliceOnly then 2 ^ 18 else 0)
  match if k < n then (S.lines[k]?).map (fun e => keyWords e.1 ++ [e.1 / 2 ^ 50 % 65536 + meta_ e.2, e.2.leaf.pa / 65536])
      else if k < m then (S.plines[k - n]?).map (fun e => twoWords (64 * e.1) ++ [meta_ e.2, 0])
      else (S.fwd[k - m]?).map (fun e => keyWords e.1 ++ [e.1 / 2 ^ 50 % 65536 + 2 ^ 16 + 2 ^ 19, e.2.pa / 65536]) with
  | some l => l.map some
  | none => [none, none, some 0, none]

/-- The line whose data and owners stand at a place of a slice. -/
def Slice.lineAt (S : Slice) (k : Nat) : Option SLine :=
  if k < S.lines.length then (S.lines[k]?).map (·.2) else (S.plines[k - S.lines.length]?).map (·.2)

/-- An owner field: core and state (R450). -/
def ownerField (o : Option Owner) : Nat :=
  match o with
  | none => 0
  | some (.core c) => c + 2 ^ 9
  | some (.revoke c _ _) => c + 2 * 2 ^ 9

/-- An entry of a slice's object table; what an unused one holds is free. -/
def State.objectWords (s : State) (h k : Nat) : List (Option Nat) :=
  let o := (s.slice h).obj k
  if o.used then
    ((mkHandle h k o.gen o.asid (o.kind + o.win * 2 ^ 8)).map BitVec.toNat ++ twoWords (o.at_ 0) ++
      [o.count, o.head, o.cap, o.kind + o.win * 2 ^ 9]).map some
  else List.replicate 8 none

/-- A leaf as its entry has it (R414). -/
def Leaf.word (l : Leaf) : Nat :=
  3 + (if l.r then 2 ^ 2 else 0) + (if l.w then 2 ^ 3 else 0) + (if l.x then 2 ^ 4 else 0) + 2 ^ 5 + (if l.sliceOnly then 2 ^ 6 else 0) +
    l.pa + l.peer * 2 ^ 48 + (if l.peer = 0 then 0 else 2 ^ 60)

/-- An entry of the miss table: line, ASID and a valid bit, requests, how far its translation has come, the leaf (log 27). -/
def Miss.words (m : Miss) : List Nat :=
  let leaf := match m.st with | .ready l => l.word | _ => 0
  twoWords (signExt56 (64 * m.line)) ++ [m.asid + 2 ^ 16, m.reqs.length, match m.st with | .lookup => 0 | .walking => 1 | .ready _ => 2] ++
    twoWords leaf

/-- An entry of the acceptance buffer: the line's address in its tier, and its words (log 27). -/
def acceptWords (l : SLine) : List Nat := twoWords (l.leaf.pa / 64 * 64) ++ l.words.map BitVec.toNat

/-- An entry of the monitor table: its word, its ASID and a valid bit, the fibre that waits (log 27). -/
def Monitor.words (m : Monitor) : List Nat := twoWords m.va ++ [m.asid + 2 ^ 16, m.core + m.wave * 2 ^ 9 + m.fib * 2 ^ 16]

/-- Entries of a table in the order of their places, and zeros behind them. -/
def entriesPart (size count : Nat) (l : List (List Nat)) : Part := tablePart size count fun k => ((l[k]?).getD []).map some

/-- The slice record. -/
def State.sliceRecord (s : State) (h : Nat) : List Part :=
  let S := s.slice h
  framed 0x60 [tablePart 4 32768 S.tagWords,
    (524288, fun i => (S.lineAt (i / 16)).bind fun l => (l.words[i % 16]?).map BitVec.toNat),
    (262144, fun i => match S.lineAt (i / 8) with
      | some l => some (ownerField (tabGet l.owners (2 * (i % 8))) + ownerField (tabGet l.owners (2 * (i % 8) + 1)) * 2 ^ 16)
      | none => some 0),
    entriesPart 8 64 (S.miss.map fun e => e.2.words), entriesPart 18 64 (S.accept.map fun e => acceptWords e.2),
    entriesPart 4 256 (S.monitors.map fun e => e.2.words), tablePart 8 64 fun k => s.objectWords h k]

/-- The block of a cache die: its slices and its two SRAM dies. -/
def State.cacheBlock (s : State) (c : Nat) : List Part :=
  framed (0x20 + c) (((List.range 8).flatMap fun j => s.sliceRecord (8 * c + j)) ++
    (List.range 2).flatMap fun j => framed 0x61 [(402653184, fun i => some (s.memWord (tierAddress 0 (2 * c + j) i)))])

/-- The data that a request carries. -/
def Req.dataWords (r : Req) : List Nat :=
  match r.op with
  | .store bs _ | .nwStore _ bs => (lineWords (exactly 64 bs)).map BitVec.toNat
  | .atom _ b c => twoWords b ++ twoWords c
  | .red _ v _ | .mwait v => [v.toNat]
  | .push lo hi v => [lo.toNat, hi.toNat, v.toNat]
  | .pop lo hi | .objdrop lo hi => [lo.toNat, hi.toNat]
  | .objreg d => [d.toNat]
  | _ => []

/-- An entry image: class and kind, source endpoint, address, ASID, data, control. The coding of the first and of the last is not
stated, and they are free (log 27). -/
def Req.image (r : Req) (src : Nat) : List (Option Nat) :=
  [none, some src] ++ (twoWords r.va ++ [r.asid]).map some ++ ((r.dataWords ++ List.replicate 16 0).take 16).map some ++ [none, none, none]

/-- The request entries in the input buffer of a router's port, in the order of arrival. -/
def State.portBuf (s : State) (r p : Nat) : List (Nat × BufEntry) :=
  ((s.chans.filter fun e => chanDst e.1 == routerNode r && portOf r (chanSrc e.1) == p).flatMap fun e =>
    e.2.buf.map fun b => (chanSrc e.1, b)).mergeSort fun x y => decide (x.2.at_ ≤ y.2.at_)

/-- The request channel by which a router sends over a port. -/
def State.portChan (s : State) (r p : Nat) : Chan :=
  ((s.chans.find? fun e => chanSrc e.1 == routerNode r && portOf r (chanDst e.1) == p).map (·.2)).getD Chan.idle

/-- An entry of a router's clasp buffer: the operation (1 push, 2 pop), handle, value, the mesh cycle in which it came, core and ASID
(log 27). -/
def Dwell.words (d : Dwell) : List Nat :=
  let x := match d.req.op with
    | .push lo hi v => [1, lo.toNat, hi.toNat, v.toNat]
    | .pop lo hi => [2, lo.toNat, hi.toNat, 0]
    | _ => [0, 0, 0, 0]
  x ++ twoWords d.since ++ [d.req.core, d.req.asid]

/-- The router record: congestion counters and generation table, clasp buffer, input buffers and replay windows. Of the three traffic
classes the model holds the entries of requests; where responses and write-backs stand on their way is free (log 27). A back-off word
counts the mesh cycles that are left. -/
def State.routerRecord (s : State) (r : Nat) : List Part :=
  framed 0x70 ([listPart (twoWords (s.router r).word),
    (8192, fun i => some (match tabGet s.mesh.genTable (8192 * r + i) with | some g => g.gen + (if g.valid then 2 ^ 16 else 0) | none => 0)),
    entriesPart 8 16 ((s.mesh.dwells.filter fun d => d.router == r).map Dwell.words)] ++
    ((List.range 9).flatMap fun p =>
      [tablePart 24 8 (fun k => match (s.portBuf r p)[k]? with | some e => e.2.req.image e.1 | none => []), freePart (2 * 8 * 24)]) ++
    (List.range 9).flatMap fun p =>
      let c := s.portChan r p
      [tablePart 24 16 (fun k => match c.window[k]? with | some e => e.req.image (routerNode r) | none => []),
        listPart [match c.backoff with | some t => t - s.meshCycles | none => 0], freePart (2 * (16 * 24 + 1))])

/-- The LPDDR-5X controller record. -/
def State.channelRecord (s : State) (n : Nat) : List Part :=
  framed 0x74 [freePart 64, (8589934592, fun i => some (s.memWord (tierAddress 0x10000000000 n i)))]

/-- `LKSTAT` of a port (R431): UP, flits replayed in the last second, retrains since reset. -/
def State.lkstat (s : State) (p : Nat) : Nat :=
  let q := s.port p
  (if q.up && s.links.devnum != 0 then 1 else 0) +
    min 255 ((q.replays.filter fun t => decide (s.ticks < t + 100000000)).length) * 2 ^ 8 + min 65535 q.retrains * 2 ^ 16

/-- The port record: its state, of which replay counts are the failures of its first unacknowledged flit and the flits replayed in the
last second (log 27), then the flits of its replay buffer. -/
def State.portRecord (s : State) (p : Nat) : List Part :=
  let q := s.port p
  framed 0x7C [listPart [s.lkstat p, q.nextSeq, q.lastRx, ((q.unacked.head?).map (·.fails)).getD 0, bits (s.lkstat p) 8 8], freePart 27,
    tablePart 64 512 fun k => match q.unacked[k]? with
      | some f => (lineWords (f.bytes (q.ackField false) s.links.devnum)).map fun w => some w.toNat
      | none => []]

/-- The TLB record: page, ASID and a valid bit, leaf (log 27). -/
def State.tlbRecord (s : State) (n : Nat) : List Part :=
  framed 0x78 [entriesPart 4 2048 ((tabVal [] s.xl.tlbs n).map fun e =>
    [e.va / 65536 % 2 ^ 32, e.asid + 2 ^ 16 + e.size * 2 ^ 17] ++ twoWords e.leaf.word)]

/-- The swap-engine record: the low word of each register (R422, log 27). -/
def State.swapRecord (s : State) (n : Nat) : List Part :=
  let x := s.swap n
  framed 0x7A [listPart ([x.fa, x.fb, x.pa, x.pb, 0, s.swapStatus x].map (· % 2 ^ 32))]

/-- The host-interface record: the link state, which is free, then the PF's registers that it has room for, in the order of their offsets:
`MBARG`, `MBSTAT`, `APERT`, and those of R444 (log 27). -/
def State.hostRecord (s : State) : List Part :=
  let b := s.box 0
  framed 0x7E [freePart 1,
    listPart ((b.args ++ [(if b.busy then 1 else 0) + b.status * 2 ^ 4 + b.result * 2 ^ 32, s.host.aperture,
      (if s.pw.cmd.isSome then 1 else 0) + s.pw.status * 2]).flatMap twoWords),
    listPart ((List.range 12).map s.dieClock),
    listPart ((List.range 4).map fun k => (List.range 32).foldl (fun n i => n + if (s.matrix (32 * k + i)).gated then 2 ^ i else 0) 0),
    listPart [(List.range 12).foldl (fun n g => n + if tabVal .on s.pw.groups g = .gated then 2 ^ g else 0) 0], freePart 32]

/-- The block of a base die. -/
def State.baseBlock (s : State) (b : Nat) : List Part :=
  framed (0x30 + b) (((List.range 48).flatMap fun r => s.routerRecord (48 * b + r)) ++
    ((List.range 16).flatMap fun n => s.channelRecord (16 * b + n)) ++
    ((List.range 16).flatMap fun n => s.tlbRecord (16 * b + n)) ++ ((List.range 16).flatMap fun n => s.swapRecord (16 * b + n)) ++
    ((List.range 8).flatMap fun p => s.portRecord (8 * b + p)) ++
    if b = 0 then s.hostRecord else [])

/-! ## The stream -/

/-- The whole stream (R450). -/
def State.scanStream (s : State) : List Part :=
  framed 0x01 [listPart (twoWords s.ticks)] ++ ((List.range 12).flatMap s.computeBlock) ++ ((List.range 16).flatMap s.cacheBlock) ++
    ((List.range 2).flatMap s.baseBlock) ++ [headPart 0xFE 0]

/-- A word of the stream of a frozen module, a free one by its number among the free values of the run. -/
def State.scanWord (s : State) (i : Nat) : Word :=
  match streamWord s.scanStream i with
  | some v => BitVec.ofNat 32 v
  | none => Config.freeWord (s.fresh + i)

end Sys2Proof.Machine
end

