-- ==== Sys2Proof/Machine/PowerEvents.lean ====
section
/-! DEFINITION. Host power commands (R444-R447), freeze and read-out (R448-R450), bring-up and management (R451, R452), and the
values that the host reads from BAR0 (R425, R431, R434, R436, R444). -/
namespace Sys2Proof.Machine

/-! ## Power commands (R444-R447) -/

/-- OP, TGT and LVL of a power command. -/
def pwOp (v : Nat) : Nat := bits v 0 2
/-- See `pwOp`. -/
def pwTgt (v : Nat) : Nat := bits v 8 8
/-- See `pwOp`. -/
def pwLvl (v : Nat) : Nat := bits v 16 2

/-- Whether a power command keeps its fields' limits (R444). -/
def pwOk (v : Nat) : Bool :=
  match pwOp v with
  | 0 => decide (pwTgt v < 12)
  | 1 => decide (pwTgt v < 108) && decide (pwLvl v < 2)
  | 2 => decide (pwTgt v < 12) && decide (pwLvl v < 2)
  | _ => false

/-- A power command has been carried out with a status. -/
def State.pwEnds (s : State) (status : Nat) : State := { s with pw := { s.pw with applied := true, status := status } }

/-- The power command in progress performed, if it is of this operation and keeps its limits. -/
def State.pwStep (s : State) (op : Nat) (run : Nat → Nat → Host.Outcome State Fault Refusal) : Host.Outcome State Fault Refusal :=
  match s.pw.cmd with
  | none => .next s
  | some v => if s.pw.applied || pwOp v != op || !pwOk v then .next s else run (pwTgt v) (pwLvl v)

/-- Whether a die hosts a group of a program. -/
def State.hostsGroup (s : State) (d : Nat) : Bool := s.groups.any fun e => e.2.place != .ended && e.2.die == d && !e.2.firmware

/-- DIE_STATE (R445): state 3 is refused unless the die is spare and hosts no group. -/
def execDieState (s : State) : Host.Outcome State Fault Refusal :=
  s.pwStep 0 fun d lvl =>
    if lvl = 3 ∧ (!s.cp.spareDies.contains d ∨ s.hostsGroup d) then .next (s.pwEnds 3)
    else .next (State.pwEnds { s with pw := { s.pw with dieState := tabPut 0 s.pw.dieState d lvl } } 0)

/-- Whether an engine still has a pass that is granted. -/
def Matrix.busy (M : Matrix) : Bool := M.entries.any fun e => e.2.st == .granted || e.2.st == .committing

/-- MATRIX_GATE (R446): a gate takes effect once no granted pass is left. -/
def execMatrixGate (s : State) : Host.Outcome State Fault Refusal :=
  s.pwStep 1 fun q lvl =>
    if lvl = 1 ∧ (s.matrix q).busy then .next s
    else .next ((s.modMatrix q fun M => { M with gated := lvl == 1 }).pwEnds 0)

/-- The power group of a router (R447). -/
def groupOfRouter (r : Nat) : Nat := r / 48 * 6 + r % 48 / 8

/-- Whether a node is a router of a power group. -/
def inGroup (g node : Nat) : Bool := decide (512 ≤ node) && decide (node < 608) && groupOfRouter (node - 512) == g

/-- Whether a router of a group holds an entry: in an input buffer, in a replay window, or at its clasp unit. -/
def State.groupHolds (s : State) (g : Nat) : Bool :=
  (s.chans.any fun e =>
    (inGroup g (chanDst e.1) && !e.2.buf.isEmpty) || (inGroup g (chanSrc e.1) && (!e.2.window.isEmpty || !e.2.queue.isEmpty))) ||
  s.mesh.dwells.any fun d => groupOfRouter d.router == g

/-- Whether an entry is on its way to a router of a group: in a channel's window or queue, or a response or a revoke's
acknowledgement held before it. -/
def State.sentToward (s : State) (g : Nat) : Bool :=
  (s.chans.any fun e => inGroup g (chanDst e.1) && ((e.2.window.any fun w => w.st != .acked) || !e.2.queue.isEmpty)) ||
  (s.msgs.any fun m => m.src.any fun h => (returnWay m.core h).any fun r => groupOfRouter r == g) ||
  s.revAcks.any fun a => (returnWay a.core (vaHome a.asid (64 * a.line))).any fun r => groupOfRouter r == g

/-- The power state of a router group. -/
def State.rgState (s : State) (g : Nat) : RouterPower := tabVal .on s.pw.groups g

/-- A router group given a power state. -/
def State.setGroup (s : State) (g : Nat) (p : RouterPower) : State := { s with pw := { s.pw with groups := tabPut .on s.pw.groups g p } }

/-- ROUTER_GATE (R447): refused for the last row of a base die, deferred while a router of the group holds an entry or wakes, or an
entry arrives in the same cycle. -/
def execRouterGate (s : State) : Host.Outcome State Fault Refusal :=
  s.pwStep 2 fun g lvl =>
    if lvl = 0 then .next ((s.setGroup g .on).pwEnds 0)
    else if g = 5 ∨ g = 11 then .next (s.pwEnds 3)
    else if s.groupHolds g ∨ s.sentToward g ∨ (s.rgState g ≠ .on ∧ s.rgState g ≠ .gated) then .next (s.pwEnds 1)
    else .next ((s.setGroup g .gated).pwEnds 0)

/-- POWER_COMMAND_DONE (R444): BUSY clears and PF vector 12 is sent; a command that breaks a field's limits has changed nothing. -/
def execPowerCommandDone (s : State) : Host.Outcome State Fault Refusal :=
  match s.pw.cmd with
  | none => .next s
  | some v =>
    if s.pw.applied ∨ !pwOk v then
      let status := if s.pw.applied then s.pw.status else 2
      .next (State.sendMsix { s with pw := { s.pw with cmd := none, applied := false, status := status } } 0 12)
    else .next s

/-- ROUTER_WAKE (R447): the first entry sent toward a gated router wakes its group. -/
def execRouterWake (grp : Nat) (s : State) : Host.Outcome State Fault Refusal :=
  if s.rgState grp = .gated ∧ s.sentToward grp then .next (s.setGroup grp (.waking s.meshCycles)) else .next s

/-- ROUTER_GROUP_ON (R447): 64 mesh cycles after the wake. -/
def execRouterGroupOn (grp : Nat) (s : State) : Host.Outcome State Fault Refusal :=
  match s.rgState grp with
  | .waking t => if s.meshCycles < t + 64 then .next s else .next (s.setGroup grp .on)
  | _ => .next s

/-! ## Freeze and the TAP (R448-R450) -/

/-- FREEZE (R448): every clock stops at the next edge of device time, and the peer links go down. -/
def execFreeze (s : State) : Host.Outcome State Fault Refusal :=
  if s.pw.frozen then .next s
  else
    let s1 := s.elapse ((260 - s.now % 260) % 260)
    let s2 := (List.range 16).foldl (fun t p => t.modPort p fun q => { q with up := false }) s1
    .next { s2 with pw := { s2.pw with frozen := true, freezePin := true } }

/-- FREEZE_RELEASE (R448): nothing restarts. -/
def execFreezeRelease (s : State) : Host.Outcome State Fault Refusal := .next { s with pw := { s.pw with freezePin := false } }

/-- The TAP given an instruction, and the words that it shifts out. -/
def State.tapTo (s : State) (code pos : Nat) (out : List Word) : State := { s with pw := { s.pw with tap := code, tapPos := pos, tapOut := out } }

/-- The numbers by which the state names the TAP's instructions; that of SCANOUT is its code (R449, log 28). -/
def tapScan : Nat := 0x2A
/-- See `tapScan`. -/
def tapId : Nat := 1
/-- See `tapScan`. -/
def tapPass : Nat := 2

/-- IDCODE (R449): accepted while frozen; the identification is shifted out. -/
def execTapIdcode (s : State) : Host.Outcome State Fault Refusal :=
  if s.pw.frozen then .next (s.tapTo tapId 0 [BitVec.ofNat 32 Config.idcode]) else .next s

/-- BYPASS (R449): accepted while frozen; the state is not shifted out. -/
def execTapBypass (s : State) : Host.Outcome State Fault Refusal :=
  if s.pw.frozen then .next (s.tapTo tapPass 0 []) else .next s

/-- SCANOUT (R449, R450): the next `n` words of the stream, from its start where SCANOUT has just been selected; zeros outside a
freeze. -/
def execTapScanout (n : Nat) (s : State) : Host.Outcome State Fault Refusal :=
  if !s.pw.frozen then .next (s.tapTo tapScan 0 (List.replicate n 0))
  else
    let pos := if s.pw.tap = tapScan then s.pw.tapPos else 0
    .next (s.tapTo tapScan (pos + n) ((List.range n).map fun i => s.scanWord (pos + i)))

/-! ## Bring-up and management (R451, R452) -/

/-- COLD_RESET (R451): the state after reset. What lies outside the module, its fuses, the turns to come and the count of free values
stay. -/
def execColdReset (s : State) : Host.Outcome State Fault Refusal :=
  .next { State.reset with
    agenda := s.agenda, cur := s.cur, fresh := s.fresh,
    cp := { State.reset.cp with fused := s.cp.fused, mxbad := s.cp.mxbad },
    host := { State.reset.host with hostMem := s.host.hostMem },
    fw := { State.reset.fw with minVersion := s.fw.minVersion } }

/-- What a read over the SMBus returns: the target at 0x4C reports die temperatures, module power and the part number, whose values and
command codes the spec does not give, so the report is a free value of the command and the time; no other address answers, and nothing
is written (R452, log 28). -/
def State.smbusRead (s : State) (target command : Nat) : Option Nat :=
  if target = 0x4C then some (Config.smbusReport command s.now) else none

/-- SMBALERT (R452): a temperature limit is crossed; the alert and an event. -/
def execSmbalert (_sensor : Nat) (s : State) : Host.Outcome State Fault Refusal :=
  .next (({ s with pw := { s.pw with alert := true } } : State).logFree 0 0)

/-! ## What the host reads (R425) -/

/-- A register of BAR0 that only the PF reads. -/
def State.pfRead (s : State) (off : Nat) : Nat :=
  if 0x1000 ≤ off ∧ off < 0x1300 then
    let r := s.ring ((off - 0x1000) / 0x40)
    match (off - 0x1000) % 0x40 with
    | 0 => r.base
    | 8 => r.size
    | 16 => r.wr
    | 24 => r.rd
    | 32 => r.drop
    | _ => 0
  else if off = 0x20000 then s.links.devnum
  else if off = 0x20008 then s.links.lkto
  else if 0x20010 ≤ off ∧ off < 0x20090 then s.lkstat ((off - 0x20010) / 8)
  else if 0x21000 ≤ off ∧ off < 0x21200 then
    let w := tabVal InWin.zero s.links.inwin ((off - 0x21000) / 32)
    match (off - 0x21000) % 32 with
    | 0 => w.base
    | 8 => w.limit
    | 16 => w.src
    | _ => (if w.valid then 1 else 0) + (if w.w then 2 else 0)
  else if 0x22000 ≤ off ∧ off < 0x22020 then tabVal 0 s.links.podRoot ((off - 0x22000) / 8)
  else if 0x30000 ≤ off ∧ off < 0x38000 then tabVal 0 s.links.peerMap ((off - 0x30000) / 8)
  else if off = 0x40008 then (if s.pw.cmd.isSome then 1 else 0) + s.pw.status * 2
  else if 0x40010 ≤ off ∧ off < 0x40070 then s.dieClock ((off - 0x40010) / 8)
  else if off = 0x40080 ∨ off = 0x40088 then
    let lo := if off = 0x40080 then 0 else 64
    (List.range 64).foldl (fun n i => n + if (s.matrix (lo + i)).gated then 2 ^ i else 0) 0
  else if off = 0x40090 then (List.range 12).foldl (fun n g => n + if s.rgState g = .gated then 2 ^ g else 0) 0
  else if off = 0x100000 then s.host.aperture
  else 0

/-- What a read of a function's BAR0 returns (R425): all ones for a width other than 8 bytes or an address that is not aligned;
zero from a VF for what is the PF's, and for registers that are write-only. -/
def State.bar0Read (s : State) (fn off width : Nat) : Nat :=
  if width ≠ 8 ∨ off % 8 ≠ 0 then 256 ^ width - 1
  else
    let b := s.box fn
    if off < 0x20 then b.args.getD (off / 8) 0
    else if off = 0x20 then 0
    else if off = 0x28 then (if b.busy then 1 else 0) + b.status * 2 ^ 4 + b.result * 2 ^ 32
    else if fn = 0 then s.pfRead off
    else 0

end Sys2Proof.Machine
end

