-- ==== Sys2Proof/Machine/StateInstr.lean ====
section
/-! DEFINITION. The meanings of the state-access instructions (R342-R346). What they do at the fault engine is in
`State.performAccess`. -/
namespace Sys2Proof.Machine

/-- A state-access instruction takes its entry with one access for each of the fibres given; the accesses leave the core
in ascending fibre number (R345). -/
def execState (i : Instr) (s : State) (who : List Nat → List Nat) (data : Wave → Nat → List Word) :
    Host.Outcome State Fault Refusal :=
  issueWith i s fun c _ W gt =>
    let o := opndsOf i
    match o.entry.bind W.freeEntry with
    | none => .next s
    | some slot =>
      if gt = [] then s.nextWave c (W.advance c)
      else
        let accs := (who gt).map fun f => { W.newAcc c o gt f 0 .unsent with data := data W f }
        s.nextWave c ((W.advance c).addEntry slot i c.pc accs)

/-- SHRD (R343, R345). -/
def execShrd (o : Form.DAB) (s : State) : Host.Outcome State Fault Refusal :=
  execState (.shrd o) s id fun W f => [(W.read f o.a).val, (W.read f o.b).val]

/-- SHWR (R343, R345). -/
def execShwr (o : Form.DAB) (s : State) : Host.Outcome State Fault Refusal :=
  execState (.shwr o) s id fun W f =>
    [(W.read f o.a).val, (W.read f o.b).val, (W.read f o.d).val, BitVec.ofNat 32 (tagCode (W.read f o.d).tag)]

/-- SHRG (R343, R345). -/
def execShrg (o : Form.DAB) (s : State) : Host.Outcome State Fault Refusal :=
  execState (.shrg o) s id fun W f => [(W.read f o.a).val, (W.read f o.b).val]

/-- SHWG (R343, R345). -/
def execShwg (o : Form.DAB) (s : State) : Host.Outcome State Fault Refusal :=
  execState (.shwg o) s id fun W f =>
    [(W.read f o.a).val, (W.read f o.b).val, (W.read f o.d).val, BitVec.ofNat 32 (tagCode (W.read f o.d).tag)]

/-- SHFIN (R343, R346): once, for the highest-numbered guard-true fibre, as a release (R266). -/
def execShfin (o : Form.Shfin) (s : State) : Host.Outcome State Fault Refusal :=
  execState (.shfin o) s (fun gt => gt.getLast?.toList) fun W f =>
    let t := W.readPair f o.d
    [(W.read f o.a).val, BitVec.ofNat 32 (o.disp + 4 * o.fail), if o.disp = 2 then loWord t else 0,
     if o.disp = 2 then hiWord t else 0]

end Sys2Proof.Machine
end

