-- ==== Sys2Proof/Machine/Dispatch.lean ====
section
/-! DEFINITION. The meaning of every row of the opcode table: one arm per constructor, each one call of its own meaning. -/
namespace Sys2Proof.Machine

/-- The meaning of an instruction, or of a step of an engine or of the outside world, in a state. -/
def exec (i : Instr) (s : State) : Host.Outcome State Fault Refusal :=
  match i with
  | .nop o => Sys2Proof.Machine.execNop o s
  | .bra o => Sys2Proof.Machine.execBra o s
  | .brx o => Sys2Proof.Machine.execBrx o s
  | .call o => Sys2Proof.Machine.execCall o s
  | .callx o => Sys2Proof.Machine.execCallx o s
  | .ret o => Sys2Proof.Machine.execRet o s
  | .trap o => Sys2Proof.Machine.execTrap o s
  | .yield o => Sys2Proof.Machine.execYield o s
  | .stepMark o => Sys2Proof.Machine.execStepMark o s
  | .isync o => Sys2Proof.Machine.execIsync o s
  | .fspawn o => Sys2Proof.Machine.execFspawn o s
  | .fexit o => Sys2Proof.Machine.execFexit o s
  | .waitc o => Sys2Proof.Machine.execWaitc o s
  | .gets o => Sys2Proof.Machine.execGets o s
  | .sets o => Sys2Proof.Machine.execSets o s
  | .mjoin o => Sys2Proof.Machine.execMjoin o s
  | .mleave o => Sys2Proof.Machine.execMleave o s
  | .mwaitm o => Sys2Proof.Machine.execMwaitm o s
  | .mlog o => Sys2Proof.Machine.execMlog o s
  | .mrd o => Sys2Proof.Machine.execMrd o s
  | .mwr o => Sys2Proof.Machine.execMwr o s
  | .shfl o => Sys2Proof.Machine.execShfl o s
  | .vote o => Sys2Proof.Machine.execVote o s
  | .ballot o => Sys2Proof.Machine.execBallot o s
  | .bara o => Sys2Proof.Machine.execBara o s
  | .barw o => Sys2Proof.Machine.execBarw o s
  | .bars o => Sys2Proof.Machine.execBars o s
  | .barc o => Sys2Proof.Machine.execBarc o s
  | .wgrow o => Sys2Proof.Machine.execWgrow o s
  | .wshrink o => Sys2Proof.Machine.execWshrink o s
  | .wmove o => Sys2Proof.Machine.execWmove o s
  | .iadd o => Sys2Proof.Machine.execIadd o s
  | .isub o => Sys2Proof.Machine.execIsub o s
  | .imul o => Sys2Proof.Machine.execImul o s
  | .imulhI32 o => Sys2Proof.Machine.execImulhI32 o s
  | .imulhN32 o => Sys2Proof.Machine.execImulhN32 o s
  | .idivI32 o => Sys2Proof.Machine.execIdivI32 o s
  | .idivN32 o => Sys2Proof.Machine.execIdivN32 o s
  | .iremI32 o => Sys2Proof.Machine.execIremI32 o s
  | .iremN32 o => Sys2Proof.Machine.execIremN32 o s
  | .iminI32 o => Sys2Proof.Machine.execIminI32 o s
  | .iminN32 o => Sys2Proof.Machine.execIminN32 o s
  | .imaxI32 o => Sys2Proof.Machine.execImaxI32 o s
  | .imaxN32 o => Sys2Proof.Machine.execImaxN32 o s
  | .iabs o => Sys2Proof.Machine.execIabs o s
  | .ineg o => Sys2Proof.Machine.execIneg o s
  | .imad o => Sys2Proof.Machine.execImad o s
  | .andOp o => Sys2Proof.Machine.execAndOp o s
  | .orOp o => Sys2Proof.Machine.execOrOp o s
  | .xorOp o => Sys2Proof.Machine.execXorOp o s
  | .andn o => Sys2Proof.Machine.execAndn o s
  | .notOp o => Sys2Proof.Machine.execNotOp o s
  | .shl o => Sys2Proof.Machine.execShl o s
  | .shr o => Sys2Proof.Machine.execShr o s
  | .sar o => Sys2Proof.Machine.execSar o s
  | .rotl o => Sys2Proof.Machine.execRotl o s
  | .popc o => Sys2Proof.Machine.execPopc o s
  | .clz o => Sys2Proof.Machine.execClz o s
  | .brev o => Sys2Proof.Machine.execBrev o s
  | .bfxI32 o => Sys2Proof.Machine.execBfxI32 o s
  | .bfxN32 o => Sys2Proof.Machine.execBfxN32 o s
  | .bfi o => Sys2Proof.Machine.execBfi o s
  | .sel o => Sys2Proof.Machine.execSel o s
  | .iaddi o => Sys2Proof.Machine.execIaddi o s
  | .andi o => Sys2Proof.Machine.execAndi o s
  | .ori o => Sys2Proof.Machine.execOri o s
  | .xori o => Sys2Proof.Machine.execXori o s
  | .shli o => Sys2Proof.Machine.execShli o s
  | .shri o => Sys2Proof.Machine.execShri o s
  | .sari o => Sys2Proof.Machine.execSari o s
  | .movi o => Sys2Proof.Machine.execMovi o s
  | .movl o => Sys2Proof.Machine.execMovl o s
  | .mov o => Sys2Proof.Machine.execMov o s
  | .icmpI32 o => Sys2Proof.Machine.execIcmpI32 o s
  | .icmpN32 o => Sys2Proof.Machine.execIcmpN32 o s
  | .icmpiI32 o => Sys2Proof.Machine.execIcmpiI32 o s
  | .icmpiN32 o => Sys2Proof.Machine.execIcmpiN32 o s
  | .plog o => Sys2Proof.Machine.execPlog o s
  | .iaddl o => Sys2Proof.Machine.execIaddl o s
  | .iaddB64 o => Sys2Proof.Machine.execIaddB64 o s
  | .isubB64 o => Sys2Proof.Machine.execIsubB64 o s
  | .imulwI32 o => Sys2Proof.Machine.execImulwI32 o s
  | .imulwN32 o => Sys2Proof.Machine.execImulwN32 o s
  | .shlB64 o => Sys2Proof.Machine.execShlB64 o s
  | .shrB64 o => Sys2Proof.Machine.execShrB64 o s
  | .sarB64 o => Sys2Proof.Machine.execSarB64 o s
  | .icmpI64 o => Sys2Proof.Machine.execIcmpI64 o s
  | .icmpN64 o => Sys2Proof.Machine.execIcmpN64 o s
  | .movB64 o => Sys2Proof.Machine.execMovB64 o s
  | .lea o => Sys2Proof.Machine.execLea o s
  | .faddF32 o => Sys2Proof.Machine.execFaddF32 o s
  | .fsubF32 o => Sys2Proof.Machine.execFsubF32 o s
  | .fmulF32 o => Sys2Proof.Machine.execFmulF32 o s
  | .ffmaF32 o => Sys2Proof.Machine.execFfmaF32 o s
  | .fminF32 o => Sys2Proof.Machine.execFminF32 o s
  | .fmaxF32 o => Sys2Proof.Machine.execFmaxF32 o s
  | .fabsF32 o => Sys2Proof.Machine.execFabsF32 o s
  | .fnegF32 o => Sys2Proof.Machine.execFnegF32 o s
  | .fcmpF32 o => Sys2Proof.Machine.execFcmpF32 o s
  | .frcpF32 o => Sys2Proof.Machine.execFrcpF32 o s
  | .frsqF32 o => Sys2Proof.Machine.execFrsqF32 o s
  | .fsqrtF32 o => Sys2Proof.Machine.execFsqrtF32 o s
  | .fexp2F32 o => Sys2Proof.Machine.execFexp2F32 o s
  | .flog2F32 o => Sys2Proof.Machine.execFlog2F32 o s
  | .fsinF32 o => Sys2Proof.Machine.execFsinF32 o s
  | .fcosF32 o => Sys2Proof.Machine.execFcosF32 o s
  | .faddF32Long o => Sys2Proof.Machine.execFaddF32Long o s
  | .fsubF32Long o => Sys2Proof.Machine.execFsubF32Long o s
  | .fmulF32Long o => Sys2Proof.Machine.execFmulF32Long o s
  | .ffmaF32Long o => Sys2Proof.Machine.execFfmaF32Long o s
  | .fdivF32 o => Sys2Proof.Machine.execFdivF32 o s
  | .frcpF32Long o => Sys2Proof.Machine.execFrcpF32Long o s
  | .frsqF32Long o => Sys2Proof.Machine.execFrsqF32Long o s
  | .fsqrtF32Long o => Sys2Proof.Machine.execFsqrtF32Long o s
  | .faddF64 o => Sys2Proof.Machine.execFaddF64 o s
  | .fmulF64 o => Sys2Proof.Machine.execFmulF64 o s
  | .ffmaF64 o => Sys2Proof.Machine.execFfmaF64 o s
  | .fdivF64 o => Sys2Proof.Machine.execFdivF64 o s
  | .fsqrtF64 o => Sys2Proof.Machine.execFsqrtF64 o s
  | .fminF64 o => Sys2Proof.Machine.execFminF64 o s
  | .fmaxF64 o => Sys2Proof.Machine.execFmaxF64 o s
  | .fcmpF64 o => Sys2Proof.Machine.execFcmpF64 o s
  | .faddF16x2 o => Sys2Proof.Machine.execFaddF16x2 o s
  | .fmulF16x2 o => Sys2Proof.Machine.execFmulF16x2 o s
  | .ffmaF16x2 o => Sys2Proof.Machine.execFfmaF16x2 o s
  | .faddBf16x2 o => Sys2Proof.Machine.execFaddBf16x2 o s
  | .fmulBf16x2 o => Sys2Proof.Machine.execFmulBf16x2 o s
  | .ffmaBf16x2 o => Sys2Proof.Machine.execFfmaBf16x2 o s
  | .fdotF16x2 o => Sys2Proof.Machine.execFdotF16x2 o s
  | .fdotBf16x2 o => Sys2Proof.Machine.execFdotBf16x2 o s
  | .cvt o => Sys2Proof.Machine.execCvt o s
  | .packTf8 o => Sys2Proof.Machine.execPackTf8 o s
  | .packTf6 o => Sys2Proof.Machine.execPackTf6 o s
  | .packF16 o => Sys2Proof.Machine.execPackF16 o s
  | .packBf16 o => Sys2Proof.Machine.execPackBf16 o s
  | .unpkTf8 o => Sys2Proof.Machine.execUnpkTf8 o s
  | .unpkTf6 o => Sys2Proof.Machine.execUnpkTf6 o s
  | .unpkF16 o => Sys2Proof.Machine.execUnpkF16 o s
  | .unpkBf16 o => Sys2Proof.Machine.execUnpkBf16 o s
  | .schist o => Sys2Proof.Machine.execSchist o s
  | .scale o => Sys2Proof.Machine.execScale o s
  | .retag o => Sys2Proof.Machine.execRetag o s
  | .ld o => Sys2Proof.Machine.execLd o s
  | .ldOff o => Sys2Proof.Machine.execLdOff o s
  | .ldInv o => Sys2Proof.Machine.execLdInv o s
  | .ldInvOff o => Sys2Proof.Machine.execLdInvOff o s
  | .ldNf o => Sys2Proof.Machine.execLdNf o s
  | .ldNfOff o => Sys2Proof.Machine.execLdNfOff o s
  | .ldInvNf o => Sys2Proof.Machine.execLdInvNf o s
  | .ldInvNfOff o => Sys2Proof.Machine.execLdInvNfOff o s
  | .st o => Sys2Proof.Machine.execSt o s
  | .stOff o => Sys2Proof.Machine.execStOff o s
  | .ldb o => Sys2Proof.Machine.execLdb o s
  | .ldbOff o => Sys2Proof.Machine.execLdbOff o s
  | .ldbInv o => Sys2Proof.Machine.execLdbInv o s
  | .ldbInvOff o => Sys2Proof.Machine.execLdbInvOff o s
  | .ldbNf o => Sys2Proof.Machine.execLdbNf o s
  | .ldbNfOff o => Sys2Proof.Machine.execLdbNfOff o s
  | .stb o => Sys2Proof.Machine.execStb o s
  | .stbOff o => Sys2Proof.Machine.execStbOff o s
  | .pgreq o => Sys2Proof.Machine.execPgreq o s
  | .pgreqOff o => Sys2Proof.Machine.execPgreqOff o s
  | .lds o => Sys2Proof.Machine.execLds o s
  | .ldsOff o => Sys2Proof.Machine.execLdsOff o s
  | .sts o => Sys2Proof.Machine.execSts o s
  | .stsOff o => Sys2Proof.Machine.execStsOff o s
  | .ldq o => Sys2Proof.Machine.execLdq o s
  | .ldqOff o => Sys2Proof.Machine.execLdqOff o s
  | .stq o => Sys2Proof.Machine.execStq o s
  | .stqOff o => Sys2Proof.Machine.execStqOff o s
  | .ldnw o => Sys2Proof.Machine.execLdnw o s
  | .ldnwOff o => Sys2Proof.Machine.execLdnwOff o s
  | .stnw o => Sys2Proof.Machine.execStnw o s
  | .stnwOff o => Sys2Proof.Machine.execStnwOff o s
  | .cpg2s o => Sys2Proof.Machine.execCpg2s o s
  | .cpg2sExt o => Sys2Proof.Machine.execCpg2sExt o s
  | .cps2g o => Sys2Proof.Machine.execCps2g o s
  | .cps2gExt o => Sys2Proof.Machine.execCps2gExt o s
  | .cpx o => Sys2Proof.Machine.execCpx o s
  | .cpxExt o => Sys2Proof.Machine.execCpxExt o s
  | .cpfence o => Sys2Proof.Machine.execCpfence o s
  | .twany o => Sys2Proof.Machine.execTwany o s
  | .twall o => Sys2Proof.Machine.execTwall o s
  | .tfirst o => Sys2Proof.Machine.execTfirst o s
  | .mxgo o => Sys2Proof.Machine.execMxgo o s
  | .mxclr o => Sys2Proof.Machine.execMxclr o s
  | .mxrd o => Sys2Proof.Machine.execMxrd o s
  | .mxwr o => Sys2Proof.Machine.execMxwr o s
  | .mxsc o => Sys2Proof.Machine.execMxsc o s
  | .mxhist o => Sys2Proof.Machine.execMxhist o s
  | .mxwait o => Sys2Proof.Machine.execMxwait o s
  | .atadd o => Sys2Proof.Machine.execAtadd o s
  | .atminI32 o => Sys2Proof.Machine.execAtminI32 o s
  | .atminN32 o => Sys2Proof.Machine.execAtminN32 o s
  | .atmaxI32 o => Sys2Proof.Machine.execAtmaxI32 o s
  | .atmaxN32 o => Sys2Proof.Machine.execAtmaxN32 o s
  | .atand o => Sys2Proof.Machine.execAtand o s
  | .ator o => Sys2Proof.Machine.execAtor o s
  | .atxor o => Sys2Proof.Machine.execAtxor o s
  | .atxchg o => Sys2Proof.Machine.execAtxchg o s
  | .atcas o => Sys2Proof.Machine.execAtcas o s
  | .ataddB64 o => Sys2Proof.Machine.execAtaddB64 o s
  | .atcasB64 o => Sys2Proof.Machine.execAtcasB64 o s
  | .redaddF32 o => Sys2Proof.Machine.execRedaddF32 o s
  | .redaddBf16x2 o => Sys2Proof.Machine.execRedaddBf16x2 o s
  | .ldAcq o => Sys2Proof.Machine.execLdAcq o s
  | .ldAcqOff o => Sys2Proof.Machine.execLdAcqOff o s
  | .stRel o => Sys2Proof.Machine.execStRel o s
  | .stRelOff o => Sys2Proof.Machine.execStRelOff o s
  | .fence o => Sys2Proof.Machine.execFence o s
  | .mwait o => Sys2Proof.Machine.execMwait o s
  | .objreg o => Sys2Proof.Machine.execObjreg o s
  | .objdrop o => Sys2Proof.Machine.execObjdrop o s
  | .clpush o => Sys2Proof.Machine.execClpush o s
  | .clpop o => Sys2Proof.Machine.execClpop o s
  | .shrd o => Sys2Proof.Machine.execShrd o s
  | .shwr o => Sys2Proof.Machine.execShwr o s
  | .shrg o => Sys2Proof.Machine.execShrg o s
  | .shwg o => Sys2Proof.Machine.execShwg o s
  | .shfin o => Sys2Proof.Machine.execShfin o s
  | .fctret o => Sys2Proof.Machine.execFctret o s
  | .fctstg o => Sys2Proof.Machine.execFctstg o s
  | .fctact o => Sys2Proof.Machine.execFctact o s
  | .fctrd o => Sys2Proof.Machine.execFctrd o s
  | .qmap o => Sys2Proof.Machine.execQmap o s
  | .qunmap o => Sys2Proof.Machine.execQunmap o s
  | .preempt o => Sys2Proof.Machine.execPreempt o s
  | .nonInstructionWord w => Sys2Proof.Machine.execNonInstructionWord w s
  | .facetTrap slot => Sys2Proof.Machine.execFacetTrap slot s
  | .facetRewrite slot => Sys2Proof.Machine.execFacetRewrite slot s
  | .facetEmulateEntry slot => Sys2Proof.Machine.execFacetEmulateEntry slot s
  | .emulationLimit grp wave => Sys2Proof.Machine.execEmulationLimit grp wave s
  | .regroupBoundary core => Sys2Proof.Machine.execRegroupBoundary core s
  | .wgrowGrant core => Sys2Proof.Machine.execWgrowGrant core s
  | .regPoolDeadlock core => Sys2Proof.Machine.execRegPoolDeadlock core s
  | .loadComplete k victim => Sys2Proof.Machine.execLoadComplete k victim s
  | .storeComplete k => Sys2Proof.Machine.execStoreComplete k s
  | .isyncComplete grp wave slot => Sys2Proof.Machine.execIsyncComplete grp wave slot s
  | .channelEntry ch => Sys2Proof.Machine.execChannelEntry ch s
  | .channelAck ch => Sys2Proof.Machine.execChannelAck ch s
  | .channelNack ch => Sys2Proof.Machine.execChannelNack ch s
  | .backoffExpiry ch => Sys2Proof.Machine.execBackoffExpiry ch s
  | .congestionWindowEnd hold0 hold1 => Sys2Proof.Machine.execCongestionWindowEnd hold0 hold1 s
  | .copyBegin core queue => Sys2Proof.Machine.execCopyBegin core queue s
  | .segmentComplete core copy seg ecc => Sys2Proof.Machine.execSegmentComplete core copy seg ecc s
  | .copyCompletion core copy => Sys2Proof.Machine.execCopyCompletion core copy s
  | .passGrant quad ecc => Sys2Proof.Machine.execPassGrant quad ecc s
  | .passCommitDone quad => Sys2Proof.Machine.execPassCommitDone quad s
  | .mxhistServe quad => Sys2Proof.Machine.execMxhistServe quad s
  | .lateItemArrival quad => Sys2Proof.Machine.execLateItemArrival quad s
  | .scaleLineFill quad victim ecc => Sys2Proof.Machine.execScaleLineFill quad victim ecc s
  | .passResidueCheck quad err => Sys2Proof.Machine.execPassResidueCheck quad err s
  | .sliceRequest ch ecc => Sys2Proof.Machine.execSliceRequest ch ecc s
  | .sliceFill slice miss victim ecc => Sys2Proof.Machine.execSliceFill slice miss victim ecc s
  | .l1Revoke k => Sys2Proof.Machine.execL1Revoke k s
  | .revokeAck k => Sys2Proof.Machine.execRevokeAck k s
  | .mwaitTimeout slice k => Sys2Proof.Machine.execMwaitTimeout slice k s
  | .claspArrival k => Sys2Proof.Machine.execClaspArrival k s
  | .dwellExpiry router k => Sys2Proof.Machine.execDwellExpiry router k s
  | .fallThrough k ecc => Sys2Proof.Machine.execFallThrough k ecc s
  | .genTableWrite k => Sys2Proof.Machine.execGenTableWrite k s
  | .genTableAck k => Sys2Proof.Machine.execGenTableAck k s
  | .subjectPark die => Sys2Proof.Machine.execSubjectPark die s
  | .heldSubjectRecord die => Sys2Proof.Machine.execHeldSubjectRecord die s
  | .faulttask die cls core maps => Sys2Proof.Machine.execFaulttask die cls core maps s
  | .taskDeadline rid => Sys2Proof.Machine.execTaskDeadline rid s
  | .budgetExpired rid => Sys2Proof.Machine.execBudgetExpired rid s
  | .preemptRequest grp => Sys2Proof.Machine.execPreemptRequest grp s
  | .groupSave grp => Sys2Proof.Machine.execGroupSave grp s
  | .groupRestore grp core => Sys2Proof.Machine.execGroupRestore grp core s
  | .groupAdmit launch => Sys2Proof.Machine.execGroupAdmit launch s
  | .tlbLookup slice miss => Sys2Proof.Machine.execTlbLookup slice miss s
  | .walkComplete slice miss victim ecc => Sys2Proof.Machine.execWalkComplete slice miss victim ecc s
  | .pgreqResident k => Sys2Proof.Machine.execPgreqResident k s
  | .doorbell fn off val => Sys2Proof.Machine.execDoorbell fn off val s
  | .nopPacket die slot => Sys2Proof.Machine.execNopPacket die slot s
  | .launchPacket die slot maps => Sys2Proof.Machine.execLaunchPacket die slot maps s
  | .barrierPacket die slot => Sys2Proof.Machine.execBarrierPacket die slot s
  | .barrierResolve die slot => Sys2Proof.Machine.execBarrierResolve die slot s
  | .signalPacket die slot => Sys2Proof.Machine.execSignalPacket die slot s
  | .copyPacket die slot => Sys2Proof.Machine.execCopyPacket die slot s
  | .qfencePacket die slot => Sys2Proof.Machine.execQfencePacket die slot s
  | .qfenceSatisfied die slot => Sys2Proof.Machine.execQfenceSatisfied die slot s
  | .stepmarkPacket die slot => Sys2Proof.Machine.execStepmarkPacket die slot s
  | .queueTimeslice die slot => Sys2Proof.Machine.execQueueTimeslice die slot s
  | .msixDeadline fn vec => Sys2Proof.Machine.execMsixDeadline fn vec s
  | .dieLost die => Sys2Proof.Machine.execDieLost die s
  | .sparesWrite k => Sys2Proof.Machine.execSparesWrite k s
  | .slotminWrite k => Sys2Proof.Machine.execSlotminWrite k s
  | .tlbinv k => Sys2Proof.Machine.execTlbinv k s
  | .privhwWrite k => Sys2Proof.Machine.execPrivhwWrite k s
  | .swapGo k => Sys2Proof.Machine.execSwapGo k s
  | .fwreadyWrite k => Sys2Proof.Machine.execFwreadyWrite k s
  | .registerWrite src => Sys2Proof.Machine.execRegisterWrite src s
  | .tlbinvDone => Sys2Proof.Machine.execTlbinvDone s
  | .swapDone engine => Sys2Proof.Machine.execSwapDone engine s
  | .bar2Access off data => Sys2Proof.Machine.execBar2Access off data s
  | .ctxCreate fn => Sys2Proof.Machine.execCtxCreate fn s
  | .ctxDestroy fn => Sys2Proof.Machine.execCtxDestroy fn s
  | .regRead fn => Sys2Proof.Machine.execRegRead fn s
  | .sealEntry fn => Sys2Proof.Machine.execSealEntry fn s
  | .checkEntry fn => Sys2Proof.Machine.execCheckEntry fn s
  | .attest fn => Sys2Proof.Machine.execAttest fn s
  | .cert fn => Sys2Proof.Machine.execCert fn s
  | .fwStage fn => Sys2Proof.Machine.execFwStage fn s
  | .fwCommit fn => Sys2Proof.Machine.execFwCommit fn s
  | .partPeers fn => Sys2Proof.Machine.execPartPeers fn s
  | .ctxBind fn => Sys2Proof.Machine.execCtxBind fn s
  | .unknownCommand fn => Sys2Proof.Machine.execUnknownCommand fn s
  | .mailboxComplete fn => Sys2Proof.Machine.execMailboxComplete fn s
  | .fwReadyTimeout => Sys2Proof.Machine.execFwReadyTimeout s
  | .dataFlit port bytes => Sys2Proof.Machine.execDataFlit port bytes s
  | .idleFlit port bytes => Sys2Proof.Machine.execIdleFlit port bytes s
  | .linkctlFlit port bytes => Sys2Proof.Machine.execLinkctlFlit port bytes s
  | .readRec k ecc => Sys2Proof.Machine.execReadRec k ecc s
  | .writeRec k => Sys2Proof.Machine.execWriteRec k s
  | .rdresp k => Sys2Proof.Machine.execRdresp k s
  | .wrack k => Sys2Proof.Machine.execWrack k s
  | .podreg k => Sys2Proof.Machine.execPodreg k s
  | .podarr k => Sys2Proof.Machine.execPodarr k s
  | .poddone k => Sys2Proof.Machine.execPoddone k s
  | .ftask k => Sys2Proof.Machine.execFtask k s
  | .proxy k => Sys2Proof.Machine.execProxy k s
  | .proxyresp k => Sys2Proof.Machine.execProxyresp k s
  | .linkTimeout k => Sys2Proof.Machine.execLinkTimeout k s
  | .dieState => Sys2Proof.Machine.execDieState s
  | .matrixGate => Sys2Proof.Machine.execMatrixGate s
  | .routerGate => Sys2Proof.Machine.execRouterGate s
  | .powerCommandDone => Sys2Proof.Machine.execPowerCommandDone s
  | .routerWake grp => Sys2Proof.Machine.execRouterWake grp s
  | .routerGroupOn grp => Sys2Proof.Machine.execRouterGroupOn grp s
  | .freeze => Sys2Proof.Machine.execFreeze s
  | .freezeRelease => Sys2Proof.Machine.execFreezeRelease s
  | .tapIdcode => Sys2Proof.Machine.execTapIdcode s
  | .tapBypass => Sys2Proof.Machine.execTapBypass s
  | .coldReset => Sys2Proof.Machine.execColdReset s
  | .tapScanout n => Sys2Proof.Machine.execTapScanout n s
  | .smbalert sensor => Sys2Proof.Machine.execSmbalert sensor s
  | .tileOperationComplete grp wave slot => Sys2Proof.Machine.execTileOperationComplete grp wave slot s
  | .patchVerificationDone => Sys2Proof.Machine.execPatchVerificationDone s
  | .hostAbort launch => Sys2Proof.Machine.execHostAbort launch s
  | .vfPartitionBinding vf part => Sys2Proof.Machine.execVfPartitionBinding vf part s
  | .devnumWrite val => Sys2Proof.Machine.execDevnumWrite val s

end Sys2Proof.Machine
end

