-- ==== Sys2Proof/Machine/Due.lean ====
section
/-! DEFINITION. What happens by itself: with an empty agenda, the first of these steps of engines and channels that changes the state
is taken (log 1). Each is a call of the meaning that the step has in the opcode table. -/
namespace Sys2Proof.Machine

/-- A step that may be due. -/
abbrev DueStep := State → Host.Outcome State Fault Refusal

/-- Steps of messages, channels, slices and translation. -/
def State.memoryDue (s : State) : List DueStep :=
  (List.range s.msgs.length).flatMap (fun k => [execLoadComplete k 0, execStoreComplete k, execL1Revoke k]) ++
  (List.range s.revAcks.length).map (fun k => execRevokeAck k) ++
  s.chans.flatMap (fun e =>
    [execSliceRequest e.1 false, execChannelEntry e.1, execChannelAck e.1, execChannelNack e.1, execBackoffExpiry e.1]) ++
  s.slices.flatMap (fun e => e.2.miss.flatMap fun m =>
    [execTlbLookup e.1 m.1, execWalkComplete e.1 m.1 0 false, execSliceFill e.1 m.1 0 false]) ++
  s.slices.flatMap (fun e => e.2.monitors.map fun m => execMwaitTimeout e.1 m.1) ++
  (List.range s.xl.pgreqs.length).map (fun k => execPgreqResident k) ++ [execTlbinvDone] ++
  s.xl.swaps.map (fun e => execSwapDone e.1)

/-- Steps of waves and of their engines. -/
def State.workDue (s : State) : List DueStep :=
  s.groups.flatMap (fun e => e.2.waves.flatMap fun w =>
    execEmulationLimit e.1 w.1 :: w.2.sb.flatMap fun x => [execIsyncComplete e.1 w.1 x.1, execTileOperationComplete e.1 w.1 x.1]) ++
  s.eng.copy.flatMap (fun e =>
    (List.range 4).map (fun q => execCopyBegin e.1 q) ++ e.2.copies.flatMap fun c =>
      execCopyCompletion e.1 c.1 :: (List.range c.2.segs.length).map fun k => execSegmentComplete e.1 c.1 k 0) ++
  s.eng.matrix.flatMap (fun e =>
    [execPassCommitDone e.1, execLateItemArrival e.1, execScaleLineFill e.1 0 false, execPassResidueCheck e.1 [],
     execPassGrant e.1 none, execMxhistServe e.1]) ++
  s.cores.flatMap (fun e => [execRegroupBoundary e.1, execWgrowGrant e.1, execRegPoolDeadlock e.1])

/-- Steps of object units and routers. -/
def State.meshDue (s : State) : List DueStep :=
  (List.range s.genHere.length).map (fun k => execGenTableWrite k) ++
  (List.range s.mesh.genAcks.length).map (fun k => execGenTableAck k) ++
  (List.range s.meeting.length).map (fun k => execClaspArrival k) ++
  (List.range s.mesh.dwells.length).flatMap (fun k => (List.range 96).map fun r => execDwellExpiry r k) ++
  (List.range s.mesh.falls.length).map (fun k => execFallThrough k false) ++ [execCongestionWindowEnd [] []]

/-- Steps of fault engines, saves and admissions. -/
def State.faultDue (s : State) : List DueStep :=
  s.eng.faults.flatMap (fun e => [execSubjectPark e.1, execHeldSubjectRecord e.1] ++
    e.2.recs.flatMap fun r => [execTaskDeadline (ridOf e.1 r.1 r.2.gen), execBudgetExpired (ridOf e.1 r.1 r.2.gen)]) ++
  s.groups.flatMap (fun e => match e.2.place with
    | .core _ => if e.2.preempt then [execPreemptRequest e.1] else []
    | .saving _ => [execGroupSave e.1]
    | .saved l => execGroupRestore e.1 l :: (s.workCores (dieOf l)).map fun c => execGroupRestore e.1 c
    | _ => []) ++
  (s.groups.filter fun e => e.2.origin != 0).map (fun e => execTaskDeadline e.2.frec) ++
  s.cp.tasks.flatMap (fun e => e.2.filterMap fun t => match t with | .remote _ _ p _ => some (execTaskDeadline (pkt p 8 4)) | .own _ => none) ++
  s.cp.tasks.flatMap (fun e => (s.workCores (e.1 / 8) ++ ((s.fwSite (e.1 / 8)).map (36 * (e.1 / 8) + ·)).toList).map fun c => execFaulttask (e.1 / 8) (e.1 % 8) c []) ++
  s.cp.launches.map (fun e => execGroupAdmit e.1)

/-- Steps of queues, commands, links and power. -/
def State.hostDue (s : State) : List DueStep :=
  s.cp.slots.flatMap (fun e =>
    let d := e.1 / 64
    let k := e.1 % 64
    [execNopPacket d k, execLaunchPacket d k [], execBarrierPacket d k, execBarrierResolve d k, execSignalPacket d k,
     execCopyPacket d k, execQfencePacket d k, execQfenceSatisfied d k, execStepmarkPacket d k]) ++
  s.cp.seen.flatMap (fun w => match (s.ctx w.2).bind fun c => (List.range 12).find? fun d => c.part.testBit d && !s.dieLost d with
    | some d => (List.range 56).map fun k => execQueueTimeslice d k
    | none => []) ++
  s.cp.held.map (fun h => execMsixDeadline h.fn h.vec) ++
  (List.range s.host.devq.length).flatMap (fun k =>
    [execSparesWrite k, execSlotminWrite k, execTlbinv k, execPrivhwWrite k, execSwapGo k, execFwreadyWrite k,
     execRegisterWrite (.core k)]) ++
  s.host.boxes.flatMap (fun e =>
    [execCtxCreate e.1, execCtxDestroy e.1, execRegRead e.1, execSealEntry e.1, execCheckEntry e.1, execAttest e.1, execCert e.1,
     execFwStage e.1, execFwCommit e.1, execPartPeers e.1, execCtxBind e.1, execUnknownCommand e.1, execMailboxComplete e.1]) ++
  (List.range s.links.inbox.length).flatMap (fun k =>
    [execReadRec k false, execWriteRec k, execRdresp k, execWrack k, execPodreg k, execPodarr k, execPoddone k, execFtask k,
     execProxy k, execProxyresp k]) ++
  s.links.xfers.map (fun e => execLinkTimeout e.1) ++
  [execDieState, execMatrixGate, execRouterGate, execPowerCommandDone, execPatchVerificationDone, execFwReadyTimeout] ++
  s.pw.groups.flatMap (fun e => [execRouterWake e.1, execRouterGroupOn e.1])

/-- The steps that may be due, in the order in which an empty agenda tries them. -/
def State.due (s : State) : List DueStep := s.memoryDue ++ s.workDue ++ s.meshDue ++ s.faultDue ++ s.hostDue

/-- The first step that changes a state, or that does not lead to a next one. -/
def firstChange (s : State) : List DueStep → Option (Host.Outcome State Fault Refusal)
  | [] => none
  | f :: fs =>
    match f s with
    | .next t => if t = s then firstChange s fs else some (.next t)
    | o => some o

/-- The step that an empty agenda takes before any bundle issues, if one is due. -/
def State.dueStep (s : State) : Option (Host.Outcome State Fault Refusal) := firstChange s s.due

end Sys2Proof.Machine
end

