-- ==== Sys2Proof/Machine/Load.lean ====
section
/-! DEFINITION. A program loaded from outside (log 13): a group of one fibre stands on a core, the words at its program
counter are in that core's instruction cache, and the next turn is its issue. -/
namespace Sys2Proof.Machine

/-- The program counter of a loaded program. -/
def loadPc : Nat := 0x10000

/-- The header of a loaded program: every role that its instruction may need, room for every operand. -/
def loadHeader : Header :=
  { units := 30, fibres := 1, scratch := 65536, tiles := 16, roles := 3, traps := 0, level := 2, flags := 0, minDies := 0,
    maxDies := 0, rows := 0, cols := 0, barriers := 256, codeSize := 8, priv := 65535, routes := 0 }

/-- The fibre of a loaded program: in facet context for the opcode of that context (R74). -/
def loadFibre (facet : Bool) : Fibre :=
  { freshFibre loadHeader loadPc with
    facet := if facet then
        some { slot := 0, pc := BitVec.ofNat 64 0x440, w0 := 0, w1 := 0, entry := 0, regs := [], ks := [], preds := 0x80,
               flags := 0, trapen := 0, lnk := 0 }
      else none }

/-- The group of a loaded program on a core. -/
def loadGroup (core : Nat) (firmware facet : Bool) : Group :=
  { launch := 0, gid := 0, ctx := 0, asid := 0, cls := 0, hdr := loadHeader, firmware := firmware, place := .core core,
    twin := none,
    waves := [(0, { slot := 0, fibres := [(0, loadFibre facet)], masks := [], ks := [], sb := [], nextAge := 0, starve := 0,
                    admitted := 0, mxflags := 0, mxdone := 0, mxsig := 0, run := .running, bundles := [[0]], ready := [],
                    letGo := [], ageMark := 0, stepArrived := false, noUnits := false })],
    scratch := [], scrBase := 0, tiles := [], bars := [], tags := [], frec := 0, fcause := 0, flevel := 0, origin := 0,
    budget := none, grant := 0, started := false, held := false, heldLast := false, rejoin := false, nslot := 0, preempt := false,
    pinned := none, admitted := 0, deferred := [], parked := false }

/-- The core that a loaded program stands on: the firmware core of die 0 in firmware mode, else a work core. -/
def loadCore (firmware : Bool) : Nat := if firmware then 0 else 2

/-- The state with a program of one instruction loaded. -/
def State.loaded (s : State) (nbits w : Nat) : State :=
  let v := w % 2 ^ nbits
  let op := bits v 24 8
  let fw := decide (privilegeOf op = .firmware)
  let facet := decide (privilegeOf op = .facetContext)
  let g := s.nextGroup
  let c := loadCore fw
  let line := leBytes 64 v
  let s1 := s.modCore c fun C =>
    { C with regg := 64, scrg := 4, accg := 60, issued := [], icache := tabSet C.icache (lineKey 0 loadPc) line,
             frame := if facet then some (g, 0) else C.frame }
  { s1 with
    agenda := [.issue g 0 0], groups := tabSet s1.groups g (loadGroup c fw facet),
    facet := { s1.facet with active := if facet then List.replicate 0x440 0 ++ line else [], op := none },
    pw := { s1.pw with frozen := false, dieState := tabPut 0 s1.pw.dieState 0 0 }, cp := { s1.cp with lost := [] } }

end Sys2Proof.Machine
end

