-- ==== Sys2Proof/Machine/Step.lean ====
section
/-! DEFINITION. One step of the machine: the turn that the agenda names, or that follows when it names none (log 1). -/
namespace Sys2Proof.Machine

/-- A step performed for a bundle or an engine, and what follows it in the same instant. -/
def perform (s : State) (i : Instr) (c : Option Issue) : Host.Outcome State Fault Refusal :=
  match exec i (s.issuing c) with
  | .next t => .next (t.issuedAs c).settle
  | .fault r => .fault r
  | .refused r => .refused r

/-- The twin's step of a mirror pair, after the primary's has led from `s` to `t` and the twin still runs: if it is not ready, neither
issues (R52). -/
def performTwin (s t : State) (j : Instr) (d : Issue) : Host.Outcome State Fault Refusal :=
  if !t.twinReady j d then .next (s.issuing none)
  else match exec j (t.issuing (some d)) with
    | .next u => .next (u.issuedAs (some d)).settle
    | .fault r => .fault r
    | .refused r => .refused r

/-- The cause with which a step has parked the wave of a bundle, or its pair. -/
def State.struckBy (s : State) (c : Issue) : Option Nat :=
  match s.group c.grp with
  | some G => ((s.faultEng G.die).detected.find? fun x => x.isWave (G.firstOf c.grp) c.wave).map (·.cause)
  | none => none

/-- The state in which a mirror pair parks by one twin's instruction alone, with the cause; none if it raises none. -/
def fateOf (s : State) (x : Fetched) : Option (Nat × State) :=
  match x with
  | .raise c r => some (r.cause, s.drawn.decodeFault c r .none)
  | .run c i => match exec i (s.issuing (some c)) with
    | .next t => (t.struckBy c).map fun k => (k, t.issuing none)
    | _ => none

/-- The least of some causes, each with what it leads to; the first of equal ones. -/
def lowestFate : List (Nat × State) → Option (Nat × State)
  | [] => none
  | x :: xs => match lowestFate xs with
    | none => some x
    | some y => if y.1 < x.1 then some y else some x

/-- A mirror pair that does not pass parks once, with the lowest of the causes that strike either twin, MIRROR_MISMATCH among them
(R54, R323). -/
def performClash (s : State) (x y : Fetched) (low : Option State) : Host.Outcome State Fault Refusal :=
  match lowestFate ((fateOf s x).toList ++ (fateOf s y).toList ++ (low.map fun t => (0x38, t)).toList) with
  | some (_, t) => .next t.settle
  | none => .next s.settle

/-- Both steps of a mirror pair in one cycle (R52). A pair that the primary's instruction parks takes a lower cause of the twin's
(R323). -/
def performBoth (s : State) (i : Instr) (c : Issue) (j : Instr) (d : Issue) : Host.Outcome State Fault Refusal :=
  match exec i (s.issuing (some c)) with
  | .next t =>
    if (t.issuedAs (some c)).twinGoes d then performTwin s (t.issuedAs (some c)) j d
    else match t.struckBy c, fateOf s (.run d j) with
      | some a, some (k, u) => .next (if k < a then u else t.issuedAs (some c)).settle
      | _, _ => .next (t.issuedAs (some c)).settle
  | .fault r => .fault r
  | .refused r => .refused r

/-- An instruction whose operands are read with an uncorrectable error in some fibres: its wave parks with ECC_POOL and it has no
effect, unless it raises a lower cause (R321, R323). -/
def performStruck (s : State) (i : Instr) (c : Issue) (fibres : Word) : Host.Outcome State Fault Refusal :=
  match exec i (s.issuing (some c)) with
  | .next t =>
    let gm := match s.wave c.grp c.wave with | some W => maskOf (W.guardTrue c (opndsOf i).guard) | none => 0
    let u := if (t.struckBy c).any (· < 0x30) then t else s.takeFault c { cause := 0x30, fmask := fibres } false gm .none
    .next (u.issuedAs (some c)).settle
  | .fault r => .fault r
  | .refused r => .refused r

/-- What a turn has chosen, performed. -/
def runChosen (x : Chosen) : Host.Outcome State Fault Refusal :=
  match x with
  | .idle t => .next t.settle
  | .perform t i c => perform t i c
  | .both t i c j d => performBoth t i c j d
  | .clash t x y low => performClash t x y low
  | .struck t i c fibres => performStruck t i c fibres
  | .tile t x => .next (t.strikeTile x).settle

/-- A step with an empty agenda: what is due by itself, else the issue or the cycle that follows (log 1). -/
def idleStep (s : State) : Host.Outcome State Fault Refusal :=
  match (s.issuing none).dueStep with
  | some (.next t) => .next t.settle
  | some o => o
  | none => runChosen s.idleTurn

/-- One step. -/
def step (s : State) : Host.Outcome State Fault Refusal :=
  match s.agenda with
  | t :: rest => runChosen (s.turnsTo t rest)
  | [] => if s.pw.frozen then .next (s.issuing none) else idleStep s

/-- The state with an instruction stored where the next step fetches it, and that step its issue (log 13): the `nbits` low
bits of `w`, every later bit of the instruction zero. -/
def State.withFetchWord (s : State) (nbits w : Nat) : State := s.loaded nbits w

end Sys2Proof.Machine
end

