-- ==== Sys2Proof/Safety.lean ====
section
/-! DEFINITION. The terms in which claims are stated: what a run keeps between its steps, a bundle that issues and passes its
checks, what an instruction leaves of its wave. -/
namespace Sys2Proof.Safety
open Sys2Proof.Machine

/-! ## What runs keep -/

/-- Both memories are in canonical form (log 5). -/
def memoriesWf (s : State) : Prop := Memory.wf s.mem = true ∧ Memory.wf s.host.hostMem = true

/-- Between steps no bundle issues. -/
def quiet (s : State) : Prop := s.cur = none

/-- Every spare die is a die of the module and is named in SPARES (R377). -/
def sparesNamed (s : State) : Prop := ∀ d ∈ s.cp.spareDies, d < 12 ∧ s.cp.spares.testBit d = true

/-- The bundles of a wave are formed as R37 forms them: fibres in rising order, live, waiting for nothing, at one PC and window
base, all in facet context or none. -/
def bundlesFormed (W : Wave) : Prop :=
  ∀ b ∈ W.bundles, b ≠ [] ∧ b.Pairwise (· < ·) ∧
    ∀ f ∈ b, f ∈ W.live ∧ (W.fib f).wait = .none ∧ (W.fib f).bundleKey = (W.fib (b.headD 0)).bundleKey

/-- What holds between the steps of every run: no bundle issues, and unless every clock is stopped (R448) spare dies and bundles
stand as the spec says. -/
def Inv (s : State) : Prop :=
  quiet s ∧ (s.pw.frozen = false → sparesNamed s ∧ ∀ e ∈ s.groups, ∀ x ∈ e.2.waves, bundlesFormed x.2)

/-! ## A bundle that issues -/

/-- A bundle as R37 forms it issues: different live fibres of one wave, all outside or all inside facet context (R360). -/
structure Issuing (s : State) (c : Issue) (G : Group) (W : Wave) : Prop where
  cur : s.cur = some c
  group : s.group c.grp = some G
  wave : tabGet G.waves c.wave = some W
  live : ∀ f ∈ c.fibres, f ∈ W.live
  nodup : c.fibres.Nodup
  uniform : ∀ f ∈ c.fibres, (W.fib f).facet.isSome = W.inFacet c

/-- A bundle issues an instruction that passes every check of R76 and finds what it needs ready. -/
structure Goes (i : Instr) (s : State) (c : Issue) (G : Group) (W : Wave) : Prop extends Issuing s c G W where
  gate : gate i s G W c = .go

/-- The fibres in which the guard is true (R61). -/
def acting (i : Instr) (c : Issue) (W : Wave) : List Nat := W.guardTrue c (opndsOf i).guard

/-- A fibre after the bundle's instruction: moved on to the next instruction, and changed by `h` where its guard is true. -/
def fibAfter (i : Instr) (c : Issue) (W : Wave) (h : Nat → Fibre → Fibre) (f : Nat) : Fibre :=
  if f ∈ acting i c W then h f ((W.fib f).setPc c.nextPc)
  else if f ∈ c.fibres then (W.fib f).setPc c.nextPc
  else W.fib f

/-- A fibre after its wave has stopped for a fault: outside facet context, waiting for nothing of the routine (R364). -/
def outOfFrame (F : Fibre) : Fibre := { F with facet := none, wait := if F.facet.isSome then .none else F.wait }

/-- The instruction answers a next state in which the fibres of its wave stand as given, and nothing else has changed: no
other wave, no register, predicate or mask of another fibre, no entry, no memory. -/
def MovesFibres (i : Instr) (s : State) (c : Issue) (W : Wave) (h : Nat → Fibre → Fibre) : Prop :=
  ∃ V, exec i s = .next (s.setWave c V) ∧ V = { W with fibres := V.fibres } ∧ ∀ f, V.fib f = fibAfter i c W h f

/-- A wave after its fibres have moved on, with registers written: nothing changes but program counters, the destination
registers of guard-true fibres, and what `h` changes in them. -/
structure WritesRegs (i : Instr) (c : Issue) (W V : Wave) (rs : List Reg) (val : Nat → List Tagged) : Prop where
  /-- the destinations hold the values: a V register each fibre's, a K register of the wave the highest-numbered one's (R26) -/
  value : ∀ f ∈ acting i c W, ∀ (k : Nat) (r : Reg) (t : Tagged), rs[k]? = some r →
    (val (if ((W.fib f).dreg r).isK then ((acting i c W).getLast?).getD 0 else f))[k]? = some t →
    V.get f ((W.fib f).dreg r) = t
  /-- every other register is as it was -/
  frame : ∀ f d, (∀ h ∈ acting i c W, (h = f ∨ d.isK = true) → d ∉ rs.map (W.fib h).dreg) → V.get f d = W.get f d
  /-- beside registers, a fibre has only moved on -/
  pc : ∀ f ∈ c.fibres, (V.fib f).curPc = c.nextPc
  rest : ∀ f, (V.fib f).st = (W.fib f).st ∧ (V.fib f).base = (W.fib f).base ∧ (V.fib f).alloc = (W.fib f).alloc ∧
    (V.fib f).curTrapen = (W.fib f).curTrapen ∧ (V.fib f).curLnk = (W.fib f).curLnk ∧ (V.fib f).wait = (W.fib f).wait
  outside : ∀ f, f ∉ c.fibres → V.fib f = W.fib f
  /-- the wave's masks, entries, matrix registers and state are as they were -/
  wave : V = { W with fibres := V.fibres, ks := V.ks }

/-- No predicate and no flag changes. -/
def keepsPreds (W V : Wave) : Prop := ∀ f, (V.fib f).curPreds = (W.fib f).curPreds ∧ (V.fib f).curFlags = (W.fib f).curFlags

/-- An instruction that acts once, for the highest-numbered guard-true fibre, has been answered: its D holds the status, tagged n32; it
holds no entry; its fibres have moved on (R369, R370, R396). -/
def Answered (i : Instr) (c : Issue) (W : Wave) (t : State) (d : Reg) (v : Nat) : Prop :=
  ∃ V f, (acting i c W).getLast? = some f ∧ t.wave c.grp c.wave = some V ∧
    V.get f ((W.fib f).dreg d) = ⟨BitVec.ofNat 32 v, .n32⟩ ∧ (∀ k, tabGet V.sb k = tabGet W.sb k) ∧
    ∀ h ∈ c.fibres, (V.fib h).curPc = c.nextPc

/-- An instruction that acts once has taken its entry and waits for its answer there. -/
def Pending (i : Instr) (c : Issue) (W : Wave) (t : State) (op : SlotOp) : Prop :=
  ∃ V e, (acting i c W).getLast? = some op.fib ∧ (opndsOf i).entry.bind W.freeEntry = some op.entry ∧ op.grp = c.grp ∧ op.wave = c.wave ∧
    t.wave c.grp c.wave = some V ∧ tabGet V.sb op.entry = some e ∧ e.instr = i ∧ e.accs.map (·.fib) = [op.fib] ∧
    (∀ f, V.fib f = fibAfter i c W (fun _ F => F) f) ∧ V.ks = W.ks

/-! ## Values of codes (R96, R98) and what rounding gives (R107, R115) -/

/-- The sign bit of a code. -/
def signOf (f : FFmt) (w : Nat) : Bool := w / 2 ^ (ebits f + fbits f) % 2 == 1

/-- The value of a code in units of the least subnormal number of its format (R96); an infinity stands beyond every finite value. -/
def units (f : FFmt) (w : Nat) : Int :=
  let ex := w / 2 ^ fbits f % 2 ^ ebits f
  let m : Nat := if ex = 0 then w % 2 ^ fbits f else (2 ^ fbits f + w % 2 ^ fbits f) * 2 ^ (ex - 1)
  if signOf f w then -m else m

/-- The value 1 in these units. -/
def unitsOne (f : FFmt) : Nat := 2 ^ (fbits f + bias f - 1)

/-- The code of the infinity of a sign. -/
def infOf (f : FFmt) (neg : Bool) : Nat := (if neg then 2 ^ (ebits f + fbits f) else 0) + (2 ^ ebits f - 1) * 2 ^ fbits f

/-- A code of the format that is finite. -/
def IsFinite (f : FFmt) (w : Nat) : Prop := w < 2 ^ (1 + ebits f + fbits f) ∧ w / 2 ^ fbits f % 2 ^ ebits f ≠ 2 ^ ebits f - 1

/-- A code is a NaN; a signalling one where the top fraction bit is 0. -/
def IsNan (f : FFmt) (w : Nat) : Prop := infOf f false < w % 2 ^ (ebits f + fbits f)

/-- A signalling NaN. -/
def Signals (f : FFmt) (w : Nat) : Prop := IsNan f w ∧ w / 2 ^ (fbits f - 1) % 2 = 0

/-- An operand with its negation bit: its value in units, and its sign (R159). -/
def operand (f : FFmt) (neg w : Nat) : Int × Bool := (if neg = 1 then -units f w else units f w, signOf f w != (neg == 1))

/-- The value `n / d` units is beyond the greatest finite one once it is rounded with an unbounded exponent (R107). -/
def Overflows (f : FFmt) (r : Rnd) (n : Int) (d : Nat) : Prop :=
  let m := units f (infOf f false - 1)
  let t := units f (infOf f false)
  match r with
  | .rne | .rna => (m + t) * d ≤ 2 * |n|
  | .rz => t * d ≤ |n|
  | .rp => if 0 ≤ n then m * d < n else t * d ≤ -n
  | .rm => if 0 ≤ n then t * d ≤ n else m * d < -n

/-- The finite code `w` is the value `n / d` units as the mode rounds it (R107). -/
def RoundsTo (f : FFmt) (r : Rnd) (n : Int) (d w : Nat) : Prop := ∀ v, IsFinite f v →
  match r with
  | .rne => |units f w * d - n| ≤ |units f v * d - n| ∧ (|units f w * d - n| = |units f v * d - n| → units f v = units f w ∨ w % 2 = 0)
  | .rna => |units f w * d - n| ≤ |units f v * d - n| ∧ (|units f w * d - n| = |units f v * d - n| → |units f v| ≤ |units f w|)
  | .rz => |units f w * d| ≤ |n| ∧ (|units f v * d| ≤ |n| → |units f v| ≤ |units f w|)
  | .rp => n ≤ units f w * d ∧ (n ≤ units f v * d → units f w ≤ units f v)
  | .rm => units f w * d ≤ n ∧ (units f v * d ≤ n → units f v ≤ units f w)

/-- What an operation gives whose exact result is `n / d` units, rounded once: the code and its exceptions (R107, R115). An exact zero
has the sign `z`. -/
def Rounded (f : FFmt) (r : Rnd) (n : Int) (d : Nat) (z : Bool) (x : Nat × Exc) : Prop :=
  (Overflows f r n d → x = (if r = .rz ∨ (r = .rp ∧ n < 0) ∨ (r = .rm ∧ 0 < n) then infOf f (decide (n < 0)) - 1 else infOf f (decide (n < 0)), 0x14)) ∧
  (¬Overflows f r n d → IsFinite f x.1 ∧ signOf f x.1 = (if n = 0 then z else decide (n < 0)) ∧ RoundsTo f r n d x.1 ∧
    x.2 &&& 0xFFFFFFE7 = 0 ∧ (x.2.getLsbD 4 = true ↔ units f x.1 * d ≠ n) ∧
    (x.2.getLsbD 3 = true → units f x.1 * d ≠ n ∧ |units f x.1| ≤ 2 ^ fbits f) ∧
    (units f x.1 * d ≠ n → |units f x.1| < 2 ^ fbits f → x.2.getLsbD 3 = true))

/-- a + b (R161, R162). -/
def SumOf (f : FFmt) (r : Rnd) (a b : Int × Bool) (x : Nat × Exc) : Prop :=
  Rounded f r (a.1 + b.1) 1 (if a.2 = b.2 then a.2 else r == .rm) x

/-- a × b (R161, R162). -/
def ProductOf (f : FFmt) (r : Rnd) (a b : Int × Bool) (x : Nat × Exc) : Prop := Rounded f r (a.1 * b.1) (unitsOne f) (a.2 != b.2) x

/-- a × b + c, rounded once (R161, R162). -/
def FusedOf (f : FFmt) (r : Rnd) (a b c : Int × Bool) (x : Nat × Exc) : Prop :=
  Rounded f r (a.1 * b.1 + c.1 * unitsOne f) (unitsOne f) (if (a.2 != b.2) = c.2 then c.2 else r == .rm) x

/-- a ÷ b, `b` not zero (R161, R162). -/
def QuotientOf (f : FFmt) (r : Rnd) (a b : Int × Bool) (x : Nat × Exc) : Prop :=
  Rounded f r (a.1 * unitsOne f * b.1.sign) b.1.natAbs (a.2 != b.2) x

/-- The square root of `n / d` units squared, positive, rounded once: it never overflows, is never tiny, and lies halfway between no two
codes (R161). -/
def RootOf (f : FFmt) (r : Rnd) (n d : Int) (x : Nat × Exc) : Prop :=
  IsFinite f x.1 ∧ signOf f x.1 = false ∧ x.2 = (if units f x.1 ^ 2 * d = n then 0 else 0x10) ∧
  ∀ v, IsFinite f v → 0 ≤ units f v →
    match r with
    | .rne | .rna => (units f x.1 < units f v → 4 * n ≤ (units f x.1 + units f v) ^ 2 * d) ∧
        (units f v < units f x.1 → (units f x.1 + units f v) ^ 2 * d ≤ 4 * n)
    | .rz | .rm => units f x.1 ^ 2 * d ≤ n ∧ (units f v ^ 2 * d ≤ n → units f v ≤ units f x.1)
    | .rp => n ≤ units f x.1 ^ 2 * d ∧ (n ≤ units f v ^ 2 * d → units f x.1 ≤ units f v)

/-- The whole number `k` is `n / d` as the mode rounds it (R107). -/
def RoundsInt (r : Rnd) (n : Int) (d : Nat) (k : Int) : Prop :=
  match r with
  | .rne => 2 * |k * d - n| ≤ d ∧ (2 * |k * d - n| = d → k % 2 = 0)
  | .rna => 2 * |k * d - n| ≤ d ∧ (2 * |k * d - n| = d → |n| ≤ |k * d|)
  | .rz => |k * d| ≤ |n| ∧ |n| < |k * d| + d ∧ 0 ≤ k * n
  | .rp => n ≤ k * d ∧ k * d < n + d
  | .rm => k * d ≤ n ∧ n < k * d + d

/-- `.sat` applied to a code (R108). -/
def saturated (f : FFmt) (sat w : Nat) : Nat := if sat = 1 ∧ w % 2 ^ (ebits f + fbits f) = infOf f false then w - 1 else w

/-- The value of a tapered magnitude field of `w` bits in units of 2^-64, as R98 reads it: a run of equal bits, the bit that ends it, the
exponent bit, the fraction. -/
def taperedUnits (w m : Nat) : Nat :=
  if m = 0 then 0
  else
    let ones := 2 ^ (w - 1) ≤ m
    let ended := if ones then 2 ^ w - 1 - m else m
    let k := if ended = 0 then w else w - 1 - Nat.log2 ended
    let r : Int := if ones then (k : Int) - 1 else -(k : Int)
    let rest := w - k - 1
    let e := if rest = 0 then 0 else m % 2 ^ rest / 2 ^ (rest - 1)
    (2 ^ (rest - 1) + m % 2 ^ (rest - 1)) * 2 ^ (64 + 2 * r + e - (rest - 1 : Nat)).toNat

/-- The magnitude field of `w` bits and the exceptions that the conversion of `n / d` units of 2^-64, not zero, gives: rounding is on the
code, whose midpoints are the codes one bit longer (R100, R119, R120). -/
def Tapers (w level : Nat) (r : Rnd) (neg : Bool) (n d : Nat) (m : Nat) (e : Exc) : Prop :=
  let up : Nat → Prop := fun c =>
    match r with
    | .rne => taperedUnits (w + 1) (2 * c + 1) * d < n ∨ (taperedUnits (w + 1) (2 * c + 1) * d = n ∧ c % 2 = 1)
    | .rna => taperedUnits (w + 1) (2 * c + 1) * d ≤ n
    | .rz => False
    | .rp => neg = false
    | .rm => neg = true
  (taperedUnits w (2 ^ w - 1) * d ≤ n → m = 2 ^ w - 1 ∧ e = if taperedUnits w (2 ^ w - 1) * d = n then 0 else 0x10) ∧
  (∀ c, 1 ≤ c → c + 1 < 2 ^ w → taperedUnits w c * d ≤ n → n < taperedUnits w (c + 1) * d →
    (taperedUnits w c * d = n → m = c ∧ e = 0) ∧
    (taperedUnits w c * d ≠ n → e = 0x10 ∧ (up c → m = c + 1) ∧ (¬up c → m = c))) ∧
  (n < taperedUnits w 1 * d → e = 0x18 ∧ (level = 0 → m = 1) ∧ (level = 1 → m = 0) ∧ (2 ≤ level → (up 0 → m = 1) ∧ (¬up 0 → m = 0)))

/-- One result register with its exceptions. -/
def gives (t : Tag) (x : Nat × Exc) : LaneOut := { regs := [⟨BitVec.ofNat 32 x.1, t⟩], exc := x.2 }

/-- An f64 result pair with its exceptions (R167). -/
def givesPair (x : Nat × Exc) : LaneOut :=
  { regs := [⟨BitVec.ofNat 32 (x.1 % 2 ^ 32), .f64lo⟩, ⟨BitVec.ofNat 32 (x.1 / 2 ^ 32), .f64hi⟩], exc := x.2 }

/-- Two packed lanes with the exceptions of both (R168). -/
def givesLanes (t : Tag) (x y : Nat × Exc) : LaneOut := { regs := [⟨BitVec.ofNat 32 (x.1 + 2 ^ 16 * y.1), t⟩], exc := x.2 ||| y.2 }

/-- The f64 code that a fibre's source pair holds (R96). -/
def pairCode (x : LaneIn) (i : Nat) : Nat := x.n i + 2 ^ 32 * x.n (i + 1)

/-- Lane `i` of packed halves in a source register (R96). -/
def halfOf (x : LaneIn) (j i : Nat) : Nat := x.n j / 2 ^ (16 * i) % 2 ^ 16

/-- The rounding mode of an RND code (R107). -/
def modeOf (rnd : Nat) (r : Rnd) : Prop := ([.rne, .rz, .rp, .rm, .rna] : List Rnd)[rnd]? = some r

end Sys2Proof.Safety
end

