-- ==== Sys2Proof/WellFormed.lean ====
section
/-! DEFINITION. Which instructions are well formed: every field fits its width (R64, R66-R70), no field holds a
reserved value (R63) and no operand breaks a rule that R76 checks from the instruction alone (R65, R71). -/
namespace Sys2Proof

/-- A register operand has a code (R64). -/
def Reg.encodable : Reg → Bool
  | .v n => n < 96
  | .k n => n < 32

/-- A number fits `n` bits. -/
def fits (n x : Nat) : Bool := decide (x < 2 ^ n)

/-- The fields of no operand (formats W and A with every field reserved) fit. -/
def Form.N.encodable (o : Form.N) : Bool :=
  fits 3 o.g

/-- The fields of format B: a branch offset in words (R66) fit. -/
def Form.B.encodable (o : Form.B) : Bool :=
  fits 3 o.g && fits 21 o.off

/-- The fields of format A, source A alone fit. -/
def Form.A1.encodable (o : Form.A1) : Bool :=
  fits 3 o.g && o.a.encodable

/-- The fields of format M with no data register and an offset word (PGREQ, R68) fit. -/
def Form.A1Off.encodable (o : Form.A1Off) : Bool :=
  fits 3 o.g && o.a.encodable && fits 32 o.off

/-- The fields of format I with D reserved fit. -/
def Form.I.encodable (o : Form.I) : Bool :=
  fits 3 o.g && fits 14 o.imm

/-- The fields of format I fit. -/
def Form.DI.encodable (o : Form.DI) : Bool :=
  fits 3 o.g && o.d.encodable && fits 14 o.imm

/-- The fields of format A, sources A and B fit. -/
def Form.AB.encodable (o : Form.AB) : Bool :=
  fits 3 o.g && o.a.encodable && o.b.encodable

/-- The fields of format A, D and A fit. -/
def Form.DA.encodable (o : Form.DA) : Bool :=
  fits 3 o.g && o.d.encodable && o.a.encodable

/-- The fields of format A fit. -/
def Form.DAB.encodable (o : Form.DAB) : Bool :=
  fits 3 o.g && o.d.encodable && o.a.encodable && o.b.encodable

/-- The fields of format X with C and F7 reserved fit. -/
def Form.DABx.encodable (o : Form.DABx) : Bool :=
  fits 3 o.g && o.d.encodable && o.a.encodable && o.b.encodable

/-- The fields of format X with F7 reserved (R67) fit. -/
def Form.DABC.encodable (o : Form.DABC) : Bool :=
  fits 3 o.g && o.d.encodable && o.a.encodable && o.b.encodable && o.c.encodable

/-- The fields of format AI fit. -/
def Form.DAI.encodable (o : Form.DAI) : Bool :=
  fits 3 o.g && o.d.encodable && o.a.encodable && fits 7 o.imm

/-- The fields of format C fit. -/
def Form.C.encodable (o : Form.C) : Bool :=
  fits 3 o.g && fits 3 o.pd && fits 4 o.cc && o.a.encodable && o.b.encodable

/-- The fields of format C with an immediate fit. -/
def Form.CI.encodable (o : Form.CI) : Bool :=
  fits 3 o.g && fits 3 o.pd && fits 4 o.cc && o.a.encodable && fits 7 o.imm

/-- The fields of format W: one mask MD (R70) fit. -/
def Form.M1.encodable (o : Form.M1) : Bool :=
  fits 3 o.g && fits 4 o.md

/-- The fields of format W of MLOG (R70) fit. -/
def Form.Mlog.encodable (o : Form.Mlog) : Bool :=
  fits 3 o.g && fits 4 o.md && fits 4 o.ma && fits 4 o.mb && fits 3 o.op

/-- The fields of format W of MRD (R70) fit. -/
def Form.Mrd.encodable (o : Form.Mrd) : Bool :=
  fits 3 o.g && o.d.encodable && fits 4 o.ma

/-- The fields of format W of MWR (R70) fit. -/
def Form.Mwr.encodable (o : Form.Mwr) : Bool :=
  fits 3 o.g && fits 4 o.md && o.a.encodable

/-- The fields of format X of SHFL (R135) fit. -/
def Form.Shfl.encodable (o : Form.Shfl) : Bool :=
  fits 3 o.g && o.d.encodable && o.a.encodable && o.b.encodable && fits 4 o.ma && fits 3 o.pd

/-- The fields of format W of VOTE (R70) fit. -/
def Form.Vote.encodable (o : Form.Vote) : Bool :=
  fits 3 o.g && fits 3 o.pd && fits 2 o.op && fits 4 o.ma && fits 3 o.pa

/-- The fields of format W of BALLOT (R70) fit. -/
def Form.Ballot.encodable (o : Form.Ballot) : Bool :=
  fits 3 o.g && o.d.encodable && fits 4 o.ma && fits 3 o.pa

/-- The fields of format Y of BARA, with its token bit (R138) fit. -/
def Form.Bara.encodable (o : Form.Bara) : Bool :=
  fits 3 o.g && fits 3 o.scope && fits 8 o.id && o.a.encodable && fits 1 o.token

/-- The fields of format Y with a register (R138) fit. -/
def Form.BarA.encodable (o : Form.BarA) : Bool :=
  fits 3 o.g && fits 3 o.scope && fits 8 o.id && o.a.encodable

/-- The fields of format Y without a register (R138) fit. -/
def Form.Bar.encodable (o : Form.Bar) : Bool :=
  fits 3 o.g && fits 3 o.scope && fits 8 o.id

/-- The fields of format W of WAITC (R143) fit. -/
def Form.Waitc.encodable (o : Form.Waitc) : Bool :=
  fits 3 o.g && fits 4 o.nl && fits 4 o.ns && fits 4 o.nc && fits 4 o.nt

/-- The fields of format W of PLOG (R157) fit. -/
def Form.Plog.encodable (o : Form.Plog) : Bool :=
  fits 3 o.g && fits 3 o.pd && fits 3 o.pa && fits 3 o.pb && fits 4 o.tt

/-- The fields of format X of SEL (R153) fit. -/
def Form.Sel.encodable (o : Form.Sel) : Bool :=
  fits 3 o.g && o.d.encodable && o.a.encodable && o.b.encodable && fits 3 o.ps

/-- The fields of format L of MOVL (R154) fit. -/
def Form.Movl.encodable (o : Form.Movl) : Bool :=
  fits 3 o.g && o.d.encodable && fits 4 o.ty && fits 32 o.imm

/-- The fields of format L of IADDL (R154) fit. -/
def Form.Iaddl.encodable (o : Form.Iaddl) : Bool :=
  fits 3 o.g && o.d.encodable && o.a.encodable && fits 32 o.imm

/-- The fields of format X of LEA (R155) fit. -/
def Form.Lea.encodable (o : Form.Lea) : Bool :=
  fits 3 o.g && o.d.encodable && o.a.encodable && o.b.encodable && fits 3 o.sh

/-- The fields of format X, floating point, one source (R67, R160) fit. -/
def Form.Fp1.encodable (o : Form.Fp1) : Bool :=
  fits 3 o.g && o.d.encodable && o.a.encodable && fits 3 o.rnd && fits 1 o.sat && fits 1 o.na

/-- The fields of format X, floating point, two sources (R67, R160) fit. -/
def Form.Fp2.encodable (o : Form.Fp2) : Bool :=
  fits 3 o.g && o.d.encodable && o.a.encodable && o.b.encodable && fits 3 o.rnd && fits 1 o.sat && fits 1 o.na && fits 1 o.nb

/-- The fields of format X, floating point, three sources (R67, R160) fit. -/
def Form.Fp3.encodable (o : Form.Fp3) : Bool :=
  fits 3 o.g && o.d.encodable && o.a.encodable && o.b.encodable && o.c.encodable && fits 3 o.rnd && fits 1 o.sat && fits 1 o.na && fits 1 o.nb && fits 1 o.nc

/-- The fields of format XC (R67, R171) fit. -/
def Form.Cvt.encodable (o : Form.Cvt) : Bool :=
  fits 3 o.g && o.d.encodable && o.a.encodable && fits 4 o.df && fits 4 o.sf && fits 3 o.rnd && fits 1 o.sat

/-- The fields of format AI of RETAG (R178) fit. -/
def Form.Retag.encodable (o : Form.Retag) : Bool :=
  fits 3 o.g && o.d.encodable && o.a.encodable && fits 4 o.ty

/-- The fields of format M without an offset word (R68) fit. -/
def Form.Mem.encodable (o : Form.Mem) : Bool :=
  fits 3 o.g && o.d.encodable && o.a.encodable && fits 2 o.w && fits 4 o.ty

/-- The fields of format M with an offset word (R68) fit. -/
def Form.MemOff.encodable (o : Form.MemOff) : Bool :=
  fits 3 o.g && o.d.encodable && o.a.encodable && fits 2 o.w && fits 4 o.ty && fits 32 o.off

/-- The fields of format G without a second word (R69) fit. -/
def Form.Cp.encodable (o : Form.Cp) : Bool :=
  fits 3 o.g && fits 6 o.tag && o.a.encodable && o.b.encodable

/-- The fields of format G with its copy extension (R69) fit. -/
def Form.CpExt.encodable (o : Form.CpExt) : Bool :=
  fits 3 o.g && fits 6 o.tag && o.a.encodable && o.b.encodable && fits 2 o.queue && fits 1 o.bar && fits 3 o.scope && fits 8 o.id

/-- The fields of format W of CPFENCE (R70) fit. -/
def Form.Qm.encodable (o : Form.Qm) : Bool :=
  fits 3 o.g && fits 4 o.qm

/-- The fields of format W of MXCLR (R70) fit. -/
def Form.Tm.encodable (o : Form.Tm) : Bool :=
  fits 3 o.g && fits 16 o.tm

/-- The fields of format X of an atomic with one data source (R278) fit. -/
def Form.At.encodable (o : Form.At) : Bool :=
  fits 3 o.g && o.d.encodable && o.a.encodable && o.b.encodable && fits 2 o.ord

/-- The fields of format X of a compare-and-swap (R278) fit. -/
def Form.At3.encodable (o : Form.At3) : Bool :=
  fits 3 o.g && o.d.encodable && o.a.encodable && o.b.encodable && o.c.encodable && fits 2 o.ord

/-- The fields of format X of a reduction (R278) fit. -/
def Form.Red.encodable (o : Form.Red) : Bool :=
  fits 3 o.g && o.a.encodable && o.b.encodable && fits 2 o.ord

/-- The fields of format W of FENCE (R285) fit. -/
def Form.Fence.encodable (o : Form.Fence) : Bool :=
  fits 3 o.g && fits 3 o.kind

/-- The fields of format X of CLPOP (R313) fit. -/
def Form.Clpop.encodable (o : Form.Clpop) : Bool :=
  fits 3 o.g && o.d.encodable && o.a.encodable && fits 3 o.pd

/-- The fields of format AI of SHFIN (R343) fit. -/
def Form.Shfin.encodable (o : Form.Shfin) : Bool :=
  fits 3 o.g && o.d.encodable && o.a.encodable && fits 1 o.fail && fits 2 o.disp

/-- Every field of the instruction fits its width; a step of the table that no word stands for has none. -/
def encodable : Instr → Bool
  | .nop o => o.encodable
  | .bra o => o.encodable
  | .brx o => o.encodable
  | .call o => o.encodable
  | .callx o => o.encodable
  | .ret o => o.encodable
  | .trap o => o.encodable
  | .yield o => o.encodable
  | .stepMark o => o.encodable
  | .isync o => o.encodable
  | .fspawn o => o.encodable
  | .fexit o => o.encodable
  | .waitc o => o.encodable
  | .gets o => o.encodable
  | .sets o => o.encodable
  | .mjoin o => o.encodable
  | .mleave o => o.encodable
  | .mwaitm o => o.encodable
  | .mlog o => o.encodable
  | .mrd o => o.encodable
  | .mwr o => o.encodable
  | .shfl o => o.encodable
  | .vote o => o.encodable
  | .ballot o => o.encodable
  | .bara o => o.encodable
  | .barw o => o.encodable
  | .bars o => o.encodable
  | .barc o => o.encodable
  | .wgrow o => o.encodable
  | .wshrink o => o.encodable
  | .wmove o => o.encodable
  | .iadd o => o.encodable
  | .isub o => o.encodable
  | .imul o => o.encodable
  | .imulhI32 o => o.encodable
  | .imulhN32 o => o.encodable
  | .idivI32 o => o.encodable
  | .idivN32 o => o.encodable
  | .iremI32 o => o.encodable
  | .iremN32 o => o.encodable
  | .iminI32 o => o.encodable
  | .iminN32 o => o.encodable
  | .imaxI32 o => o.encodable
  | .imaxN32 o => o.encodable
  | .iabs o => o.encodable
  | .ineg o => o.encodable
  | .imad o => o.encodable
  | .andOp o => o.encodable
  | .orOp o => o.encodable
  | .xorOp o => o.encodable
  | .andn o => o.encodable
  | .notOp o => o.encodable
  | .shl o => o.encodable
  | .shr o => o.encodable
  | .sar o => o.encodable
  | .rotl o => o.encodable
  | .popc o => o.encodable
  | .clz o => o.encodable
  | .brev o => o.encodable
  | .bfxI32 o => o.encodable
  | .bfxN32 o => o.encodable
  | .bfi o => o.encodable
  | .sel o => o.encodable
  | .iaddi o => o.encodable
  | .andi o => o.encodable
  | .ori o => o.encodable
  | .xori o => o.encodable
  | .shli o => o.encodable
  | .shri o => o.encodable
  | .sari o => o.encodable
  | .movi o => o.encodable
  | .movl o => o.encodable
  | .mov o => o.encodable
  | .icmpI32 o => o.encodable
  | .icmpN32 o => o.encodable
  | .icmpiI32 o => o.encodable
  | .icmpiN32 o => o.encodable
  | .plog o => o.encodable
  | .iaddl o => o.encodable
  | .iaddB64 o => o.encodable
  | .isubB64 o => o.encodable
  | .imulwI32 o => o.encodable
  | .imulwN32 o => o.encodable
  | .shlB64 o => o.encodable
  | .shrB64 o => o.encodable
  | .sarB64 o => o.encodable
  | .icmpI64 o => o.encodable
  | .icmpN64 o => o.encodable
  | .movB64 o => o.encodable
  | .lea o => o.encodable
  | .faddF32 o => o.encodable
  | .fsubF32 o => o.encodable
  | .fmulF32 o => o.encodable
  | .ffmaF32 o => o.encodable
  | .fminF32 o => o.encodable
  | .fmaxF32 o => o.encodable
  | .fabsF32 o => o.encodable
  | .fnegF32 o => o.encodable
  | .fcmpF32 o => o.encodable
  | .frcpF32 o => o.encodable
  | .frsqF32 o => o.encodable
  | .fsqrtF32 o => o.encodable
  | .fexp2F32 o => o.encodable
  | .flog2F32 o => o.encodable
  | .fsinF32 o => o.encodable
  | .fcosF32 o => o.encodable
  | .faddF32Long o => o.encodable
  | .fsubF32Long o => o.encodable
  | .fmulF32Long o => o.encodable
  | .ffmaF32Long o => o.encodable
  | .fdivF32 o => o.encodable
  | .frcpF32Long o => o.encodable
  | .frsqF32Long o => o.encodable
  | .fsqrtF32Long o => o.encodable
  | .faddF64 o => o.encodable
  | .fmulF64 o => o.encodable
  | .ffmaF64 o => o.encodable
  | .fdivF64 o => o.encodable
  | .fsqrtF64 o => o.encodable
  | .fminF64 o => o.encodable
  | .fmaxF64 o => o.encodable
  | .fcmpF64 o => o.encodable
  | .faddF16x2 o => o.encodable
  | .fmulF16x2 o => o.encodable
  | .ffmaF16x2 o => o.encodable
  | .faddBf16x2 o => o.encodable
  | .fmulBf16x2 o => o.encodable
  | .ffmaBf16x2 o => o.encodable
  | .fdotF16x2 o => o.encodable
  | .fdotBf16x2 o => o.encodable
  | .cvt o => o.encodable
  | .packTf8 o => o.encodable
  | .packTf6 o => o.encodable
  | .packF16 o => o.encodable
  | .packBf16 o => o.encodable
  | .unpkTf8 o => o.encodable
  | .unpkTf6 o => o.encodable
  | .unpkF16 o => o.encodable
  | .unpkBf16 o => o.encodable
  | .schist o => o.encodable
  | .scale o => o.encodable
  | .retag o => o.encodable
  | .ld o => o.encodable
  | .ldOff o => o.encodable
  | .ldInv o => o.encodable
  | .ldInvOff o => o.encodable
  | .ldNf o => o.encodable
  | .ldNfOff o => o.encodable
  | .ldInvNf o => o.encodable
  | .ldInvNfOff o => o.encodable
  | .st o => o.encodable
  | .stOff o => o.encodable
  | .ldb o => o.encodable
  | .ldbOff o => o.encodable
  | .ldbInv o => o.encodable
  | .ldbInvOff o => o.encodable
  | .ldbNf o => o.encodable
  | .ldbNfOff o => o.encodable
  | .stb o => o.encodable
  | .stbOff o => o.encodable
  | .pgreq o => o.encodable
  | .pgreqOff o => o.encodable
  | .lds o => o.encodable
  | .ldsOff o => o.encodable
  | .sts o => o.encodable
  | .stsOff o => o.encodable
  | .ldq o => o.encodable
  | .ldqOff o => o.encodable
  | .stq o => o.encodable
  | .stqOff o => o.encodable
  | .ldnw o => o.encodable
  | .ldnwOff o => o.encodable
  | .stnw o => o.encodable
  | .stnwOff o => o.encodable
  | .cpg2s o => o.encodable
  | .cpg2sExt o => o.encodable
  | .cps2g o => o.encodable
  | .cps2gExt o => o.encodable
  | .cpx o => o.encodable
  | .cpxExt o => o.encodable
  | .cpfence o => o.encodable
  | .twany o => o.encodable
  | .twall o => o.encodable
  | .tfirst o => o.encodable
  | .mxgo o => o.encodable
  | .mxclr o => o.encodable
  | .mxrd o => o.encodable
  | .mxwr o => o.encodable
  | .mxsc o => o.encodable
  | .mxhist o => o.encodable
  | .mxwait o => o.encodable
  | .atadd o => o.encodable
  | .atminI32 o => o.encodable
  | .atminN32 o => o.encodable
  | .atmaxI32 o => o.encodable
  | .atmaxN32 o => o.encodable
  | .atand o => o.encodable
  | .ator o => o.encodable
  | .atxor o => o.encodable
  | .atxchg o => o.encodable
  | .atcas o => o.encodable
  | .ataddB64 o => o.encodable
  | .atcasB64 o => o.encodable
  | .redaddF32 o => o.encodable
  | .redaddBf16x2 o => o.encodable
  | .ldAcq o => o.encodable
  | .ldAcqOff o => o.encodable
  | .stRel o => o.encodable
  | .stRelOff o => o.encodable
  | .fence o => o.encodable
  | .mwait o => o.encodable
  | .objreg o => o.encodable
  | .objdrop o => o.encodable
  | .clpush o => o.encodable
  | .clpop o => o.encodable
  | .shrd o => o.encodable
  | .shwr o => o.encodable
  | .shrg o => o.encodable
  | .shwg o => o.encodable
  | .shfin o => o.encodable
  | .fctret o => o.encodable
  | .fctstg o => o.encodable
  | .fctact o => o.encodable
  | .fctrd o => o.encodable
  | .qmap o => o.encodable
  | .qunmap o => o.encodable
  | .preempt o => o.encodable
  | .nonInstructionWord _ => true
  | .facetTrap _ => true
  | .facetRewrite _ => true
  | .facetEmulateEntry _ => true
  | .emulationLimit _ _ => true
  | .regroupBoundary _ => true
  | .wgrowGrant _ => true
  | .regPoolDeadlock _ => true
  | .loadComplete _ _ => true
  | .storeComplete _ => true
  | .isyncComplete _ _ _ => true
  | .channelEntry _ => true
  | .channelAck _ => true
  | .channelNack _ => true
  | .backoffExpiry _ => true
  | .congestionWindowEnd _ _ => true
  | .copyBegin _ _ => true
  | .segmentComplete _ _ _ _ => true
  | .copyCompletion _ _ => true
  | .passGrant _ _ => true
  | .passCommitDone _ => true
  | .mxhistServe _ => true
  | .lateItemArrival _ => true
  | .scaleLineFill _ _ _ => true
  | .passResidueCheck _ _ => true
  | .sliceRequest _ _ => true
  | .sliceFill _ _ _ _ => true
  | .l1Revoke _ => true
  | .revokeAck _ => true
  | .mwaitTimeout _ _ => true
  | .claspArrival _ => true
  | .dwellExpiry _ _ => true
  | .fallThrough _ _ => true
  | .genTableWrite _ => true
  | .genTableAck _ => true
  | .subjectPark _ => true
  | .heldSubjectRecord _ => true
  | .faulttask _ _ _ _ => true
  | .taskDeadline _ => true
  | .budgetExpired _ => true
  | .preemptRequest _ => true
  | .groupSave _ => true
  | .groupRestore _ _ => true
  | .groupAdmit _ => true
  | .tlbLookup _ _ => true
  | .walkComplete _ _ _ _ => true
  | .pgreqResident _ => true
  | .doorbell _ _ _ => true
  | .nopPacket _ _ => true
  | .launchPacket _ _ _ => true
  | .barrierPacket _ _ => true
  | .barrierResolve _ _ => true
  | .signalPacket _ _ => true
  | .copyPacket _ _ => true
  | .qfencePacket _ _ => true
  | .qfenceSatisfied _ _ => true
  | .stepmarkPacket _ _ => true
  | .queueTimeslice _ _ => true
  | .msixDeadline _ _ => true
  | .dieLost _ => true
  | .sparesWrite _ => true
  | .slotminWrite _ => true
  | .tlbinv _ => true
  | .privhwWrite _ => true
  | .swapGo _ => true
  | .fwreadyWrite _ => true
  | .registerWrite _ => true
  | .tlbinvDone => true
  | .swapDone _ => true
  | .bar2Access _ _ => true
  | .ctxCreate _ => true
  | .ctxDestroy _ => true
  | .regRead _ => true
  | .sealEntry _ => true
  | .checkEntry _ => true
  | .attest _ => true
  | .cert _ => true
  | .fwStage _ => true
  | .fwCommit _ => true
  | .partPeers _ => true
  | .ctxBind _ => true
  | .unknownCommand _ => true
  | .mailboxComplete _ => true
  | .fwReadyTimeout => true
  | .dataFlit _ _ => true
  | .idleFlit _ _ => true
  | .linkctlFlit _ _ => true
  | .readRec _ _ => true
  | .writeRec _ => true
  | .rdresp _ => true
  | .wrack _ => true
  | .podreg _ => true
  | .podarr _ => true
  | .poddone _ => true
  | .ftask _ => true
  | .proxy _ => true
  | .proxyresp _ => true
  | .linkTimeout _ => true
  | .dieState => true
  | .matrixGate => true
  | .routerGate => true
  | .powerCommandDone => true
  | .routerWake _ => true
  | .routerGroupOn _ => true
  | .freeze => true
  | .freezeRelease => true
  | .tapIdcode => true
  | .tapBypass => true
  | .coldReset => true
  | .tapScanout _ => true
  | .smbalert _ => true
  | .tileOperationComplete _ _ _ => true
  | .patchVerificationDone => true
  | .hostAbort _ => true
  | .vfPartitionBinding _ _ => true
  | .devnumWrite _ => true

/-- Well-formed instructions. -/
def wellFormed (i : Instr) : Bool := encodable i && !Machine.reservedValue i && !Machine.illegalOperand i

end Sys2Proof
end

