-- ==== Sys2Proof/Certificates/Slice0/Obligations.lean ====
section
/-! DEFINITION. What the model claims of itself and of the machine: the statements for the provers. -/

open Sys2Proof Sys2Proof.Machine Sys2Proof.Safety

/-- Words that the spec writes out decode to the instructions that it gives them: those of the wave run of its chapter on
encoding, its two worked encodings, and one word of most other families. -/
def Obligations.WrittenWordsDecode : Prop := decodeWords 0x02200040 0 = .ok (.bra { g := 1, off := 0x40 }) ∧
  decodeWords 0x0C400000 0 = .ok (.fexit { g := 2 }) ∧
  decodeWords 0x02E0007E 0 = .ok (.bra { g := 7, off := 0x7E }) ∧
  decodeWords 0x20E10205 0 = .ok (.iadd { g := 7, d := .v 4, a := .v 4, b := .v 5 }) ∧
  decodeWords 0x12E20000 0 = .ok (.mwaitm { g := 7, md := 1 }) ∧
  decodeWords 0x73E285E3 0x18400000 =
    .ok (.ffmaF32Long { g := 7, d := .v 10, a := .v 11, b := .k 3, c := .v 12, rnd := 1, sat := 0, na := 0, nb := 0, nc := 0 }) ∧
  decodeWords 0xA0E18407 0x40 = .ok (.ldOff { g := 7, d := .v 6, a := .v 8, w := 0, ty := 3, off := 0x40 }) ∧
  decodeWords 0xAAE18107 0x40 = .ok (.ldsOff { g := 7, d := .v 6, a := .v 2, w := 0, ty := 3, off := 0x40 }) ∧
  decodeWords 0x04E00100 0 = .ok (.call { g := 7, off := 0x100 }) ∧
  decodeWords 0x4CE8827D 0 = .ok (.icmpiI32 { g := 7, pd := 2, cc := 2, a := .v 4, imm := 0x7D }) ∧
  decodeWords 0x4EE8F200 0 = .ok (.plog { g := 7, pd := 2, pa := 1, pb := 7, tt := 2 }) ∧
  decodeWords 0xB3E00003 0 = .ok (.cpfence { g := 7, qm := 3 }) ∧
  decodeWords 0xE3E10300 0 = .ok (.fctrd { g := 7, d := .v 4, a := .v 6 }) ∧
  decodeWords 0xE0E00000 0 = .ok (.fctret { g := 7 }) ∧
  decodeWords 0 0 = .error .zeroWord ∧ decodeWords 0xFFFFFFFF 0 = .error .illegalOpcode ∧
  decodeWords 0x0C400001 0 = .error .reservedField

/-- Decode and encode agree: the words that encode a well-formed instruction decode to it, with every operand as it stands. -/
def Obligations.DecodeOfEncode : Prop := ∀ (i : Instr) (w0 : Nat) (w1 : Option Nat),
  wellFormed i = true → encode i = some (w0, w1) →
    decodeWords w0 (w1.getD 0) = .ok i ∧ (w1.isSome = hasTwoWords w0) ∧ w0 < 2 ^ 32 ∧ w1.getD 0 < 2 ^ 32

/-- Encode and decode agree: words that decode are those that the decoded instruction has. No two words of one instruction
differ, so no bit of a word is dropped. -/
def Obligations.EncodeOfDecode : Prop := ∀ (w0 w1 : Nat) (i : Instr),
  w0 < 2 ^ 32 → w1 < 2 ^ 32 → decodeWords w0 w1 = .ok i →
    encode i = some (w0, if hasTwoWords w0 then some w1 else none) ∧ encodable i = true

/-- R62: the first word alone fixes the length of an instruction. -/
def Obligations.FirstWordFixesTheLength : Prop := (∀ w0, (w0 / 2 ^ 24 % 2 ^ 8 ∈ [0x48, 0x4F] ∨
      w0 / 2 ^ 24 % 2 ^ 8 ∈ [0x16, 0x2F, 0x3E, 0x3F, 0x5A, 0xD1, 0xD2, 0xD5] ∨ (0x70 ≤ w0 / 2 ^ 24 % 2 ^ 8 ∧ w0 / 2 ^ 24 % 2 ^ 8 ≤ 0x77) ∨
      (0x80 ≤ w0 / 2 ^ 24 % 2 ^ 8 ∧ w0 / 2 ^ 24 % 2 ^ 8 ≤ 0x84) ∨ (0x88 ≤ w0 / 2 ^ 24 % 2 ^ 8 ∧ w0 / 2 ^ 24 % 2 ^ 8 ≤ 0x8F) ∨
      (0xC0 ≤ w0 / 2 ^ 24 % 2 ^ 8 ∧ w0 / 2 ^ 24 % 2 ^ 8 ≤ 0xCD) ∨ w0 / 2 ^ 24 % 2 ^ 8 = 0x90) → hasTwoWords w0 = true) ∧
  (∀ w0, ((0xA0 ≤ w0 / 2 ^ 24 % 2 ^ 8 ∧ w0 / 2 ^ 24 % 2 ^ 8 ≤ 0xB2) ∨ w0 / 2 ^ 24 % 2 ^ 8 = 0xCE ∨ w0 / 2 ^ 24 % 2 ^ 8 = 0xCF) →
    (hasTwoWords w0 = true ↔ w0 % 2 = 1)) ∧
  (∀ w0, (w0 / 2 ^ 24 % 2 ^ 8 < 0x16 ∨ (0x17 ≤ w0 / 2 ^ 24 % 2 ^ 8 ∧ w0 / 2 ^ 24 % 2 ^ 8 ≤ 0x2E) ∨
      (0x30 ≤ w0 / 2 ^ 24 % 2 ^ 8 ∧ w0 / 2 ^ 24 % 2 ^ 8 ≤ 0x3D) ∨ (0x40 ≤ w0 / 2 ^ 24 % 2 ^ 8 ∧ w0 / 2 ^ 24 % 2 ^ 8 ≤ 0x47) ∨
      (0x49 ≤ w0 / 2 ^ 24 % 2 ^ 8 ∧ w0 / 2 ^ 24 % 2 ^ 8 ≤ 0x4E) ∨ (0x50 ≤ w0 / 2 ^ 24 % 2 ^ 8 ∧ w0 / 2 ^ 24 % 2 ^ 8 ≤ 0x59) ∨
      (0x60 ≤ w0 / 2 ^ 24 % 2 ^ 8 ∧ w0 / 2 ^ 24 % 2 ^ 8 ≤ 0x6F) ∨ (0x85 ≤ w0 / 2 ^ 24 % 2 ^ 8 ∧ w0 / 2 ^ 24 % 2 ^ 8 ≤ 0x87) ∨
      (0x91 ≤ w0 / 2 ^ 24 % 2 ^ 8 ∧ w0 / 2 ^ 24 % 2 ^ 8 ≤ 0x9B) ∨ (0xB3 ≤ w0 / 2 ^ 24 % 2 ^ 8 ∧ w0 / 2 ^ 24 % 2 ^ 8 ≤ 0xBE) ∨
      w0 / 2 ^ 24 % 2 ^ 8 = 0xD0 ∨ w0 / 2 ^ 24 % 2 ^ 8 = 0xD3 ∨ w0 / 2 ^ 24 % 2 ^ 8 = 0xD4 ∨
      (0xD6 ≤ w0 / 2 ^ 24 % 2 ^ 8 ∧ w0 / 2 ^ 24 % 2 ^ 8 ≤ 0xDA) ∨ 0xE0 ≤ w0 / 2 ^ 24 % 2 ^ 8) → hasTwoWords w0 = false) ∧
  (∀ c : Issue, c.nextPc = c.pc + (if hasTwoWords c.w0 then 4 * 2 else 4 * 1))

/-- R43, R60, R76: a step runs the decoded instruction. The words at a bundle's program counter that decode to an instruction,
where no facet slot matches, are that instruction; the step whose turn is a bundle that is offered it, and that its core's
arbiter grants, performs it for that bundle, its group started, its lines in the instruction cache, and then all that follows an instruction in the same instant; of a
mirror pair whose twins are both offered, granted and give one signature, it performs both. The step whose turn is an event performs it with
no bundle. The agenda that names the turn is the model's (log 1). -/
def Obligations.StepRunsTheDecodedInstruction : Prop := (∀ (s : State) (core g w w0 w1 : Nat) (G : Group) (W : Wave) (fs : List Nat) (F : Fibre) (i : Instr), F = W.fib (fs.headD 0) →
    s.wordAt core G F.facet.isSome F.curPc = .ok w0 → w0 ≠ 0 → w0 ≠ 0xFFFFFFFF → assigned (w0 / 2 ^ 24 % 2 ^ 8) = true →
    (hasTwoWords w0 = true → s.wordAt core G F.facet.isSome (F.curPc + 4) = .ok w1) → (hasTwoWords w0 = false → w1 = 0) →
    (F.facet.isSome = true ∨ facetMatch s.facet.active w0 G.hdr.level G.firmware = none) →
    opAllowed (w0 / 2 ^ 24 % 2 ^ 8) G F.facet.isSome = true → decodeWords w0 w1 = .ok i →
    s.decodeAt core g w G W fs = .run { grp := g, wave := w, fibres := fs, pc := F.curPc, w0 := w0, w1 := w1 } i) ∧
  (∀ (s u : State) (g w k core : Nat) (rest : List Turn) (G : Group) (W : Wave) (c : Issue) (i : Instr),
    s.agenda = .issue g w k :: rest → s.pw.frozen = false → u = { s with agenda := rest } → u.group g = some G → u.wave g w = some W →
    G.core? = some core → G.twin = none → u.offered g w k = some (.run c i) → u.slotFree core g w = true → u.grants g w k = true →
    step s = match exec i (((u.started g).fetched core G c (W.inFacet c)).issuing (some c)) with
      | .next t => .next (t.issuedAs (some c)).settle
      | .fault r => .fault r
      | .refused r => .refused r) ∧
  (∀ (s u : State) (g t w k core tc : Nat) (rest : List Turn) (G T : Group) (W V : Wave) (c d : Issue) (i j : Instr),
    s.agenda = .issue g w k :: rest → s.pw.frozen = false → u = { s with agenda := rest } → u.group g = some G → u.wave g w = some W →
    G.core? = some core → G.twin = some (t, false) → u.group t = some T → u.wave t w = some V → T.core? = some tc →
    u.offered g w k = some (.run c i) → u.offered t w (V.twinBundle ((W.bundles[k]?).getD [])) = some (.run d j) →
    u.slotFree core g w = true → u.slotFree tc t w = true → u.grants g w k = true → compared i = compared j →
    (compared i = true → signature i W c = signature j V d) →
    step s = performBoth ((((u.started g).started t).fetched core G c (W.inFacet c)).fetched tc T d (V.inFacet d)) i c j d) ∧
  (∀ (s : State) (c d : Issue) (i j : Instr) (t u : State), exec i (s.issuing (some c)) = .next t →
    (t.issuedAs (some c)).twinGoes d = true → (t.issuedAs (some c)).twinReady j d = true →
    exec j ((t.issuedAs (some c)).issuing (some d)) = .next u → performBoth s i c j d = .next (u.issuedAs (some d)).settle) ∧
  (∀ (s u : State) (rest : List Turn) (i : Instr), s.agenda = .event i :: rest → s.pw.frozen = false → isEvent i = true →
    u = { s with agenda := rest, cur := none } →
    step s = match exec i u with
      | .next t => .next (t.issuedAs none).settle
      | .fault r => .fault r
      | .refused r => .refused r)

/-- R74, R63, R65, R71, R32, R76: the checks that every instruction passes before it has any effect, in their order; what it
does where one of them raises or its operands are not ready. The fibres that each cause names, all of the bundle or those outside
their window, are log 63. -/
def Obligations.ChecksComeBeforeEffects : Prop := ∀ (i : Instr) (s : State) (c : Issue) (G : Group) (W : Wave), Issuing s c G W →
  (opAllowed (opcodeOf i) G (W.inFacet c) = false → gate i s G W c = .raise { cause := 0x04, fmask := maskOf c.fibres }) ∧
  (opAllowed (opcodeOf i) G (W.inFacet c) = true → reservedValue i = true → gate i s G W c = .raise { cause := 0x06, fmask := maskOf c.fibres }) ∧
  (opAllowed (opcodeOf i) G (W.inFacet c) = true → reservedValue i = false → illegalOperand i = true →
    gate i s G W c = .raise { cause := 0x07, fmask := maskOf c.fibres }) ∧
  (opAllowed (opcodeOf i) G (W.inFacet c) = true → reservedValue i = false → illegalOperand i = false →
    (∃ f ∈ c.fibres, ∃ r ∈ (opndsOf i).regs, (W.fib f).inWindow r = false) → 
      gate i s G W c = .raise { cause := 0x05, fmask := maskOf (c.fibres.filter fun f => !(opndsOf i).regs.all (W.fib f).inWindow) }) ∧
  (opcodeOf i ≠ 0 → ∀ r, gate i s G W c = .raise r → exec i s = .next (s.takeFault c r false (maskOf (acting i c W)) .none)) ∧
  (opcodeOf i ≠ 0 → gate i s G W c = .stall → exec i s = .next s)

/-- R44: the starvation counters of a core at the end of its cycle; R43: the bundle that a wave offers is ready, and of its ready
bundles the one whose longest-ready fibre has been ready longest, ties to the one holding the lowest fibre number; of the waves
that are offered, the arbiter's choice is one that no other outranks in the keys of R43. Since when a fibre counts as ready is log
65; that a held wave which issues clears its counter is log 50. -/
def Obligations.StarvationCountsAndRanks : Prop := (∀ (s : State) (core g w : Nat) (G : Group) (W : Wave), s.dieClock (dieOf core) ≠ 3 → (g, G) ∈ s.residents core →
    ((s.residents core).map (·.1)).Nodup → (G.liveWaves.map (·.1)).Nodup → s.group g = some G → (w, W) ∈ G.liveWaves →
    tabGet G.waves w = some W →
    ∃ V, (s.cycleEnd core).wave g w = some V ∧ V = { W with starve := V.starve, ready := V.ready, letGo := [], ageMark := W.nextAge } ∧
      ((g, w) ∈ (s.core core).issued → V.starve = 0) ∧
      ((g, w) ∉ (s.core core).issued → G.held = true → V.starve = W.starve) ∧
      ((g, w) ∉ (s.core core).issued → G.held = false → (s.waveOffer g w).isSome = true → V.starve = W.starve + 1) ∧
      ((g, w) ∉ (s.core core).issued → G.held = false → s.waveOffer g w = none → V.starve = 0)) ∧
  (∀ (s : State) (g w k : Nat) (W : Wave), s.wave g w = some W → s.waveOffer g w = some k →
    (s.offered g w k).isSome = true ∧
    ∀ j a b, (s.offered g w j).isSome = true → W.bundles[k]? = some a → W.bundles[j]? = some b →
      let since : List Nat → Nat := fun l => l.foldl (fun m f => min m ((tabGet W.ready f).getD (s.cycleOf g))) (s.cycleOf g)
      since a < since b ∨ (since a = since b ∧ a.headD 0 ≤ b.headD 0)) ∧
  (∀ (l : List (List Nat × Nat × Nat × Nat)) (x : List Nat × Nat × Nat × Nat), (∀ y ∈ l, y.1.length = 7) → bestOffer l = some x →
    x ∈ l ∧ ∀ y ∈ l, keysBelow y.1 x.1 = false)

/-- R355: when a first word matches a slot of an image, and which matching slot wins. -/
def Obligations.FacetSlotsMatch : Prop := (∀ (img : List Byte) (i w0 level : Nat) (firmware : Bool), slotMatches img i w0 level firmware = true ↔
    (slotWord img i 0 / 2 ^ 8 % 2 ^ 8 ∈ [1, 2, 3] ∧ w0 / 2 ^ 24 % 2 ^ 8 = slotWord img i 0 % 2 ^ 8 ∧
      (w0 % 2 ^ 24) &&& slotWord img i 1 = slotWord img i 2 ∧ (slotWord img i 0 / 2 ^ 24 % 2 ^ 8).testBit level = true ∧
      (firmware = false ∨ (slotWord img i 0 / 2 ^ 24 % 2 ^ 8).testBit 3 = true))) ∧
  (∀ (img : List Byte) (i w0 level : Nat) (firmware : Bool), facetMatch img w0 level firmware = some i ↔
    (i < 16 ∧ slotMatches img i w0 level firmware = true ∧
      ∀ j < 16, slotMatches img j w0 level firmware = true → slotPrio img i < slotPrio img j ∨ (slotPrio img i = slotPrio img j ∧ i ≤ j))) ∧
  (∀ (img : List Byte) (w0 level : Nat) (firmware : Bool),
    facetMatch img w0 level firmware = none ↔ ∀ j < 16, slotMatches img j w0 level firmware = false) ∧
  (∀ (s : State) (core g w : Nat) (G : Group) (W : Wave) (fs : List Nat) (c : Issue) (i : Instr),
    (W.fib (fs.headD 0)).facet.isSome = true → s.decodeAt core g w G W fs = .run c i →
    ∀ k, i ≠ .facetTrap k ∧ i ≠ .facetRewrite k ∧ i ≠ .facetEmulateEntry k)

/-- R451, R453, R377, R297, R422, R431: what a cold reset leaves where the spec gives a value: device time 0, RECOVERY set,
every die in state 0, no peer list, the least slots of each class 7, allowances 0, swap engines at rest, LKTO 2,000; memory
lists nothing and nothing is resident or in flight (logs 4, 5). That memory reads 0 (log 5) and that nothing else is set (log 4)
are the model's choices. -/
def Obligations.ResetValues : Prop := State.reset.now = 0 ∧ State.reset.fw.recovery = true ∧ (∀ d, tabVal 0 State.reset.pw.dieState d = 0) ∧
  (∀ p, tabVal [] State.reset.host.peers p = []) ∧ (∀ c, tabVal 7 State.reset.cp.slotMin c = 7) ∧
  (∀ b, (State.reset.baseDie b).allow = 0 ∧ (State.reset.baseDie b).nthr = 0x0400 ∧ (State.reset.baseDie b).othr = 0xC0) ∧
  (∀ e, (State.reset.swap e).state = 0 ∧ (State.reset.swap e).code = 0 ∧ (State.reset.swap e).lines = 0) ∧
  State.reset.links.lkto = 2000 ∧ State.reset.groups = [] ∧ State.reset.msgs = [] ∧ State.reset.chans = [] ∧
  (∀ a, memByte State.reset.mem a = 0) ∧ memoriesWf State.reset

/-- The invariant holds at reset: spare dies and bundles stand as R377 and R37 form them. That no bundle issues between steps rests on log 2. -/
def Obligations.InvariantAtReset : Prop := Inv State.reset

/-- Every step keeps the invariant: between steps no bundle issues; and unless every clock is stopped, each spare die is a die
that SPARES names (R377), and the bundles of every wave are formed as R37 forms them: fibres in rising order, live, waiting for
nothing, at one PC and window base, all in facet context or none. That no bundle issues between steps rests on log 2. -/
def Obligations.StepKeepsTheInvariant : Prop := ∀ (s t : State), Inv s → step s = .next t → Inv t

/-- R448, R449: a frozen machine stays as it is: a step changes nothing but the turns to come and what the TAP shifts out, and
the board signal's own mark, unless it is a cold reset, which leaves what reset leaves (the model's account of time, log 1).
What a cold reset keeps is log 60: the fuses, the host's memory and the least firmware version; that it keeps the turns to come and the
count of free values is the model's (logs 1, 3). What SCANOUT shifts out is log 59. -/
def Obligations.FrozenMachineHolds : Prop := ∀ (s t : State), s.pw.frozen = true → step s = .next t →
  (t = { s with
      agenda := t.agenda, cur := none,
      pw := { s.pw with freezePin := t.pw.freezePin, tap := t.pw.tap, tapPos := t.pw.tapPos, tapOut := t.pw.tapOut } }) ∨
  (∃ rest, s.agenda = .event .coldReset :: rest ∧
    t = State.settle { State.reset with
      agenda := rest, fresh := s.fresh, cp := { State.reset.cp with fused := s.cp.fused, mxbad := s.cp.mxbad },
      host := { State.reset.host with hostMem := s.host.hostMem }, fw := { State.reset.fw with minVersion := s.fw.minVersion } })

/-- Memory as a list of cells: a byte written is the byte read and every other byte reads as before, every operation keeps the
canonical form, and memories in that form that read alike at every address are one memory (log 5). The canonical form and what
an unwritten byte reads as are the model's (log 5); R416 places it in the module and R412 tells when a dirty line is written back to it. -/
def Obligations.MemoryReadsWhatWasWritten : Prop := (∀ (m : List Host.Cell) (a : Nat) (bs : List Byte),
    (∀ k < bs.length, memByte (memPutBytes m a bs) (a + k) = bs.getD k 0) ∧
    (∀ c, c < a ∨ a + bs.length ≤ c → memByte (memPutBytes m a bs) c = memByte m c) ∧
    (Memory.wf m = true → Memory.wf (memPutBytes m a bs) = true)) ∧
  (∀ (s : State) (pa : Nat) (bs : List Byte), Memory.wf s.mem = true → Memory.wf (s.putPaBytes pa bs).mem = true) ∧
  (∀ (s : State) (x : Swap), Memory.wf s.mem = true → Memory.wf (swapCells x s.mem) = true) ∧
  (∀ (s : State) (l : SLine), Memory.wf s.mem = true → Memory.wf (s.writeBack l).mem = true) ∧
  (∀ (s : State) (ms : List TableWrite), Memory.wf s.mem = true → Memory.wf (s.mapPages ms).mem = true) ∧
  (∀ (m n : List Host.Cell), Memory.wf m = true → Memory.wf n = true → (∀ a, memByte m a = memByte n a) → m = n)

/-- R157: PLOG writes the bit of its truth table to its predicate in each guard-true fibre; it raises no exception (R113). No
register, no other predicate, no flag of a fibre whose guard is false, and nothing else of the state changes. -/
def Obligations.PlogAppliesItsTruthTable : Prop := (∀ (s : State) (c : Issue) (G : Group) (W : Wave) (o : Form.Plog), Goes (.plog o) s c G W → o.tt < 16 →
    ∃ V, exec (.plog o) s = .next (s.setWave c V) ∧ WritesRegs (.plog o) c W V [] (fun _ => []) ∧
      (∀ f ∈ acting (.plog o) c W, ∀ p < 8, (V.fib f).pred p =
        if p = o.pd then o.tt.testBit (2 * ((W.fib f).pred o.pa).toNat + ((W.fib f).pred o.pb).toNat) else (W.fib f).pred p) ∧
      (∀ f ∈ acting (.plog o) c W, (V.fib f).curFlags = (W.fib f).curFlags &&& 0x7F) ∧
      ∀ f, f ∉ acting (.plog o) c W → (V.fib f).curPreds = (W.fib f).curPreds ∧ (V.fib f).curFlags = (W.fib f).curFlags) ∧
  (∀ a b : Bool, Nat.testBit 8 (2 * a.toNat + b.toNat) = (a && b) ∧ Nat.testBit 14 (2 * a.toNat + b.toNat) = (a || b) ∧
    Nat.testBit 6 (2 * a.toNat + b.toNat) = (a != b) ∧ Nat.testBit 2 (2 * a.toNat + 1) = !a) ∧
  encode (.plog { g := 7, pd := 2, pa := 1, pb := 7, tt := 2 }) = some (0x4EE8F200, none)

/-- R164: FABS.f32 and FNEG.f32. -/
def Obligations.FloatSignInstructions : Prop := (∀ (w0 w1 : Nat), w0 / 2 ^ 24 % 2 ^ 8 = 0x66 → w0 < 2 ^ 32 → decodeWords w0 w1 =
    if w0 % 2 ^ 7 = 0 then .ok (.fabsF32 { g := w0 / 2 ^ 21 % 2 ^ 3, d := regOf (w0 / 2 ^ 14 % 2 ^ 7), a := regOf (w0 / 2 ^ 7 % 2 ^ 7) })
    else .error .reservedField) ∧
  (∀ (w0 w1 : Nat), w0 / 2 ^ 24 % 2 ^ 8 = 0x67 → w0 < 2 ^ 32 → decodeWords w0 w1 =
    if w0 % 2 ^ 7 = 0 then .ok (.fnegF32 { g := w0 / 2 ^ 21 % 2 ^ 3, d := regOf (w0 / 2 ^ 14 % 2 ^ 7), a := regOf (w0 / 2 ^ 7 % 2 ^ 7) })
    else .error .reservedField) ∧
  (∀ (o : Form.DA), (opndsOf (.fabsF32 o)).srcs = [⟨o.a, 1, .f32⟩] ∧ (opndsOf (.fnegF32 o)).srcs = [⟨o.a, 1, .f32⟩]) ∧
  (∀ (s : State) (c : Issue) (G : Group) (W : Wave) (o : Form.DA), Goes (.fabsF32 o) s c G W →
    ∃ V, exec (.fabsF32 o) s = .next (s.setWave c V) ∧
      WritesRegs (.fabsF32 o) c W V [o.d] (fun f => [⟨(W.read f o.a).val &&& 0x7FFFFFFF, .f32⟩]) ∧
      ∀ f ∈ acting (.fabsF32 o) c W, (V.fib f).curFlags = (W.fib f).curFlags &&& 0x7F ∧ (V.fib f).curPreds = (W.fib f).curPreds) ∧
  (∀ (s : State) (c : Issue) (G : Group) (W : Wave) (o : Form.DA), Goes (.fnegF32 o) s c G W →
    ∃ V, exec (.fnegF32 o) s = .next (s.setWave c V) ∧
      WritesRegs (.fnegF32 o) c W V [o.d] (fun f => [⟨(W.read f o.a).val ^^^ 0x80000000, .f32⟩]) ∧
      ∀ f ∈ acting (.fnegF32 o) c W, (V.fib f).curFlags = (W.fib f).curFlags &&& 0x7F ∧ (V.fib f).curPreds = (W.fib f).curPreds)

/-- R126, R127, R146, R144, R143: what each of these instructions does to the fibres in which its guard is true; nothing
else of the state changes. A BRX, CALLX or RET to targets that R127 allows. A group of no launch (launch 0) exists only for a
program loaded from outside (log 13). -/
def Obligations.ControlInstructionsComplete : Prop := ∀ (s : State) (c : Issue) (G : Group) (W : Wave),
  (∀ o, Goes (.nop o) s c G W → MovesFibres (.nop o) s c W fun _ F => F) ∧
  (∀ o, Goes (.bra o) s c G W →
    MovesFibres (.bra o) s c W fun _ F => F.setPc (c.pc + BitVec.ofInt 64 (4 * sx o.off 21))) ∧
  (∀ o, Goes (.call o) s c G W →
    MovesFibres (.call o) s c W fun _ F => (F.setLnk (c.pc + 4)).setPc (c.pc + BitVec.ofInt 64 (4 * sx o.off 21))) ∧
  (∀ o, Goes (.brx o) s c G W → (∀ f ∈ acting (.brx o) c W, targetOk (W.readPair f o.a) = true) →
    MovesFibres (.brx o) s c W fun f F => F.setPc (W.readPair f o.a)) ∧
  (∀ o, Goes (.callx o) s c G W → (∀ f ∈ acting (.callx o) c W, targetOk (W.readPair f o.a) = true) →
    MovesFibres (.callx o) s c W fun f F => (F.setLnk (c.pc + 4)).setPc (W.readPair f o.a)) ∧
  (∀ o, Goes (.ret o) s c G W → (∀ f ∈ acting (.ret o) c W, targetOk (W.fib f).curLnk = true) →
    MovesFibres (.ret o) s c W fun f F => F.setPc (W.fib f).curLnk) ∧
  (∀ o, Goes (.yield o) s c G W → MovesFibres (.yield o) s c W fun _ F => { F with wait := .yield (s.core G.coreNo).cycles }) ∧
  (∀ o, Goes (.waitc o) s c G W →
    MovesFibres (.waitc o) s c W fun _ F => { F with wait := .waitc o.nl o.ns o.nc o.nt }) ∧
  (∀ o, Goes (.stepMark o) s c G W → (G.hdr.flags.testBit 2 = false ∨ G.launch = 0) →
    MovesFibres (.stepMark o) s c W fun _ F => F) ∧
  (∀ o, Goes (.stepMark o) s c G W → G.hdr.flags.testBit 2 = true → G.launch ≠ 0 → acting (.stepMark o) c W ≠ [] →
    ∃ V, exec (.stepMark o) s = .next (s.setWave c V) ∧ V = { W with fibres := V.fibres, stepArrived := true } ∧
      ∀ f, V.fib f = fibAfter (.stepMark o) c W (fun _ F => { F with wait := .step }) f)

/-- R126, R127, R128: where a target breaks R127, or WMOVE, WSHRINK or WGROW leaves its range (R130, R34), the wave takes the fault in
place of the instruction's effect: no fibre branches, spawns or moves its window. R146, R13, R334: TRAP's own effect: its bundle
stands after it, the wave and its mirror twin stop, outside facet context, and its die's fault engine has it as a new subject with
DEBUG_BREAK, the guard-true fibres, and outside facet context the TRAP's address and word; with no guard true it only goes on.
The fibres that a fault names are log 63. -/
def Obligations.ControlInstructionsFault : Prop :=
  (∀ (s : State) (c : Issue) (G : Group) (W : Wave),
  (∀ (i : Instr) (tgt : Nat → Addr),
    ((∃ o, i = .brx o ∧ tgt = fun f => W.readPair f o.a) ∨ (∃ o, i = .callx o ∧ tgt = fun f => W.readPair f o.a) ∨
      (∃ o, i = .ret o ∧ tgt = fun f => (W.fib f).curLnk) ∨ (∃ o, i = .fspawn o ∧ tgt = fun f => W.readPair f o.a)) →
    Goes i s c G W → (∃ f ∈ acting i c W, targetOk (tgt f) = false) →
    exec i s = .next (s.takeFault c
      { cause := 0x07, fmask := maskOf ((acting i c W).filter fun f => !targetOk (tgt f)) } false (maskOf (acting i c W)) .none)) ∧
  (∀ o, Goes (.wmove o) s c G W →
    (∃ f ∈ acting (.wmove o) c W, ((W.fib f).base : Int) + 16 * sx o.imm 14 < 0 ∨
      ((W.fib f).alloc : Int) - 16 < (W.fib f).base + 16 * sx o.imm 14) →
    ∃ r, r.cause = 0x05 ∧ exec (.wmove o) s = .next (s.takeFault c r false (maskOf (acting (.wmove o) c W)) .none)) ∧
  (∀ o, Goes (.wshrink o) s c G W →
    (∃ f ∈ acting (.wshrink o) c W, (W.fib f).alloc < (W.fib f).base + 16 + 16 * o.imm) →
    ∃ r, r.cause = 0x05 ∧ exec (.wshrink o) s = .next (s.takeFault c r false (maskOf (acting (.wshrink o) c W)) .none)) ∧
  (∀ o, Goes (.wgrow o) s c G W → (∃ f ∈ acting (.wgrow o) c W, 480 < (W.fib f).alloc + 16 * o.imm) →
    ∃ r, r.cause = 0x05 ∧ exec (.wgrow o) s = .next (s.takeFault c r false (maskOf (acting (.wgrow o) c W)) .none))) ∧
  (∀ (s : State) (c : Issue) (G : Group) (W : Wave) (o : Form.I), Goes (.trap o) s c G W →
  (acting (.trap o) c W = [] → exec (.trap o) s = .next (s.setWave c (W.advance c))) ∧
  (acting (.trap o) c W ≠ [] → ∃ t x V, exec (.trap o) s = .next t ∧
    (t.faultEng G.die).detected = (s.faultEng G.die).detected ++ [x] ∧
    x.cause = 0x51 ∧ x.grp = G.firstOf c.grp ∧ x.wave = c.wave ∧ x.fmask = maskOf (acting (.trap o) c W) ∧
    x.gmask = maskOf (acting (.trap o) c W) ∧ x.late = false ∧ x.bundle = maskOf c.fibres ∧
    (W.inFacet c = false → x.fpc = c.pc.toNat ∧ x.w0 = c.w0) ∧
    t.wave c.grp c.wave = some V ∧ V.run = .draining ∧ V.ks = W.ks ∧ V.masks = W.masks ∧
    (∀ f, V.fib f = outOfFrame (if f ∈ c.fibres then (W.fib f).setPc c.nextPc else W.fib f)) ∧
    (∀ p b X, G.twin = some (p, b) → p ≠ c.grp → s.wave p c.wave = some X → ∃ Y, t.wave p c.wave = some Y ∧ Y.run = .draining ∧
      ∀ f, Y.fib f = outOfFrame (X.fib f)) ∧
    (∀ g, g ≠ c.grp → (∀ b, G.twin ≠ some (g, b)) → t.group g = s.group g) ∧ t.mem = s.mem ∧ t.slices = s.slices ∧ t.msgs = s.msgs))

/-- R130, R33, R34: WMOVE moves the window of each guard-true fibre by 16 registers for each unit; WSHRINK drops the top
registers of its allocation, with what a load still owes them, and gives up the units beyond the fibres' reservations; WGROW adds
registers, of which none holds a value, where no request is pending and the pool holds the units, and else joins the requests of
its core and waits. WGROW in which no guard is true only goes on. -/
def Obligations.WindowInstructionsComplete : Prop := ∀ (s : State) (c : Issue) (G : Group) (W : Wave),
  (∀ o, Goes (.wmove o) s c G W →
    (∀ f ∈ acting (.wmove o) c W, 0 ≤ ((W.fib f).base : Int) + 16 * sx o.imm 14 ∧
      (W.fib f).base + 16 * sx o.imm 14 ≤ ((W.fib f).alloc : Int) - 16) →
    MovesFibres (.wmove o) s c W fun _ F => { F with base := (F.base + 16 * sx o.imm 14).toNat }) ∧
  (∀ o, Goes (.wgrow o) s c G W → acting (.wgrow o) c W = [] → exec (.wgrow o) s = .next (s.setWave c (W.advance c))) ∧
  (∀ o, Goes (.wgrow o) s c G W → (∀ f ∈ acting (.wgrow o) c W, (W.fib f).alloc + 16 * o.imm ≤ 480) →
    (s.core G.coreNo).grow = [] →
    (acting (.wgrow o) c W).foldl (fun n f => n + growNeed G.hdr.units o.imm (W.fib f)) 0 ≤ s.poolFree G.coreNo →
    MovesFibres (.wgrow o) s c W fun _ F =>
      { F with alloc := F.alloc + 16 * o.imm, regs := F.regs.filter fun e => decide (e.1 < F.alloc) }) ∧
  (∀ o, Goes (.wgrow o) s c G W → (∀ f ∈ acting (.wgrow o) c W, (W.fib f).alloc + 16 * o.imm ≤ 480) →
    acting (.wgrow o) c W ≠ [] →
    ((s.core G.coreNo).grow ≠ [] ∨
      s.poolFree G.coreNo < (acting (.wgrow o) c W).foldl (fun n f => n + growNeed G.hdr.units o.imm (W.fib f)) 0) →
    ∃ t V, exec (.wgrow o) s = .next t ∧ t.wave c.grp c.wave = some V ∧ t.mem = s.mem ∧ t.groups = (s.setWave c V).groups ∧
      V = { W with fibres := V.fibres } ∧
      (∀ f, V.fib f = fibAfter (.wgrow o) c W (fun _ F => { F with wait := .wgrow o.imm c.pc }) f) ∧
      (t.core G.coreNo).grow = (s.core G.coreNo).grow ++
        [{ grp := c.grp, wave := c.wave, fibres := acting (.wgrow o) c W,
           need := (acting (.wgrow o) c W).foldl (fun n f => n + growNeed G.hdr.units o.imm (W.fib f)) 0, n := o.imm }]) ∧
  (∀ o, Goes (.wshrink o) s c G W →
    (∀ f ∈ acting (.wshrink o) c W, (W.fib f).base + 16 + 16 * o.imm ≤ (W.fib f).alloc) →
    ∃ V, exec (.wshrink o) s = .next ((s.setWave c V).giveBack c.grp
        ((acting (.wshrink o) c W).foldl (fun n f => n + min o.imm ((W.fib f).alloc / 16 - G.hdr.units)) 0)) ∧
      V = { W with fibres := V.fibres, sb := V.sb } ∧
      (∀ f, V.fib f = fibAfter (.wshrink o) c W (fun _ F =>
        { F with alloc := F.alloc - 16 * o.imm, regs := F.regs.filter fun e => decide (e.1 < F.alloc - 16 * o.imm) }) f) ∧
      ∀ (k : Nat) (e : Entry), tabGet W.sb k = some e → ∃ x : Entry, tabGet V.sb k = some x ∧ x = { e with accs := x.accs } ∧
        ∀ (j : Nat) (a : Acc), e.accs[j]? = some a → ∃ b : Acc, x.accs[j]? = some b ∧ b = { a with dst := b.dst } ∧
          (a.fib ∉ acting (.wshrink o) c W → b = a) ∧
          (a.fib ∈ acting (.wshrink o) c W → ∀ i, i < 480 → (W.fib a.fib).alloc - 16 * o.imm ≤ i → DReg.v i ∉ b.dst)) ∧
  (∀ (g n core : Nat), G.core? = some core → s.group g = some G → ((s.giveBack g n).core core).freed = (s.core core).freed + n ∧
    (s.giveBack g n).groups = s.groups ∧ (s.giveBack g n).poolFree core = s.poolFree core - n)

/-- R13, R334: the one operation through which every instruction's fault goes. The wave stops issuing and drains, and so does its
mirror twin; their fibres stand outside facet context; its die's fault engine has a new subject with the cause, the fibres, the
address, the time, and outside facet context the instruction's words; no other group and no other unit changes. -/
def Obligations.TakingAFault : Prop := ∀ (s : State) (c : Issue) (G : Group) (W : Wave) (r : Raise) (late : Bool) (gmask : Word) (mv : PcMove),
  s.group c.grp = some G → tabGet G.waves c.wave = some W →
  ∃ (x : Subject) (V : Wave), (s.takeFault c r late gmask mv).eng =
      { s.eng with faults := (s.takeFault c r late gmask mv).eng.faults } ∧
    ((s.takeFault c r late gmask mv).faultEng G.die).detected = (s.faultEng G.die).detected ++ [x] ∧
    (∀ d, d ≠ G.die → (s.takeFault c r late gmask mv).faultEng d = s.faultEng d) ∧
    x.of = (if G.twin.isSome then .mirror 0 0 else .wave) ∧ x.cause = r.cause ∧ x.grp = G.firstOf c.grp ∧ x.wave = c.wave ∧
    x.fmask = r.fmask ∧ x.gmask = gmask ∧ x.va = r.va ∧ x.late = late ∧
    x.detail = r.detail ∧ x.exc = r.exc ∧ x.tdet = s.ticks ∧ x.ctx = G.ctx ∧ x.asid = G.asid ∧
    (G.isTwin = false → x.core = G.coreNo) ∧ x.bundle = maskOf c.fibres ∧ x.move = mv ∧
    (W.inFacet c = false → x.fpc = c.pc.toNat ∧ x.w0 = c.w0 ∧ x.w1 = c.w1) ∧
    (s.takeFault c r late gmask mv).wave c.grp c.wave = some V ∧ V.run = .draining ∧
    (∀ f, V.fib f = outOfFrame (W.fib f)) ∧ V.ks = W.ks ∧ V.masks = W.masks ∧ V.nextAge = W.nextAge ∧
    (∀ p b X, G.twin = some (p, b) → p ≠ c.grp → s.wave p c.wave = some X →
      ∃ Y, (s.takeFault c r late gmask mv).wave p c.wave = some Y ∧ Y.run = .draining ∧ ∀ f, Y.fib f = outOfFrame (X.fib f)) ∧
    (∀ g, g ≠ c.grp → (∀ b, G.twin ≠ some (g, b)) → (s.takeFault c r late gmask mv).group g = s.group g) ∧
    (s.takeFault c r late gmask mv).mem = s.mem ∧ (s.takeFault c r late gmask mv).slices = s.slices ∧
    (s.takeFault c r late gmask mv).chans = s.chans ∧ (s.takeFault c r late gmask mv).msgs = s.msgs ∧
    (s.takeFault c r late gmask mv).xl = s.xl ∧ (s.takeFault c r late gmask mv).mesh = s.mesh ∧
    (s.takeFault c r late gmask mv).cp = s.cp ∧ (s.takeFault c r late gmask mv).host = s.host ∧
    (s.takeFault c r late gmask mv).links = s.links ∧ (s.takeFault c r late gmask mv).facet = s.facet ∧
    (s.takeFault c r late gmask mv).fw = s.fw ∧ (s.takeFault c r late gmask mv).pw = s.pw

/-- R129, R39, R41: FEXIT ends each guard-true fibre, whose bit leaves every mask, and whose results still due are discarded;
the other fibres of its bundle go on, and no other fibre changes. R128, R39: FSPAWN serves its guard-true fibres in ascending
order, each into the lowest slot that is free at that moment; a new fibre starts at its entry with B in V0 and all else as R39
says; D receives the slot, or 0xFFFF_FFFF when none is free, and nothing else of the spawning fibres' registers changes. -/
def Obligations.FibresEndAndBegin : Prop :=
  (∀ (s : State) (c : Issue) (G : Group) (W : Wave) (o : Form.N),
  Goes (.fexit o) s c G W →
  ∃ t V, exec (.fexit o) s = .next t ∧ t.wave c.grp c.wave = some V ∧ t.mem = s.mem ∧ t.slices = s.slices ∧
    (∀ f ∈ acting (.fexit o) c W, (V.fib f).st = .exited ∧ f ∉ V.live ∧ (V.fib f).base = 0 ∧
      (V.fib f).alloc = min (W.fib f).alloc (16 * G.hdr.units) ∧ ∀ m, (V.mask m).getLsbD f = false) ∧
    (∀ f, f ∉ acting (.fexit o) c W → V.fib f = fibAfter (.fexit o) c W (fun _ F => F) f) ∧
    (∀ slot e a, tabGet V.sb slot = some e → a ∈ e.accs → a.fib ∈ acting (.fexit o) c W →
      a.drop = true ∨ (accessSlot slot = false ∧ a.dst = [])) ∧
    V.ks = W.ks ∧ (∀ g, g ≠ c.grp → t.group g = s.group g)) ∧
  (∀ (s : State) (c : Issue) (G : Group) (W : Wave) (o : Form.DAB),
  (Goes (.fspawn o) s c G W → (∀ f ∈ acting (.fspawn o) c W, targetOk (W.readPair f o.a) = true) →
    ∃ X l V, (W.advance c).spawnAll G ((acting (.fspawn o) c W).map fun f => (f, W.readPair f o.a, W.read f o.b)) = (X, l) ∧
      l.map (·.1) = acting (.fspawn o) c W ∧ exec (.fspawn o) s = .next ((s.setWave c V).modGroup c.grp Group.recount) ∧
      V = { X with fibres := V.fibres, ks := V.ks } ∧
      (∀ e ∈ l, (((W.fib e.1).dreg o.d).isK = false ∨ (acting (.fspawn o) c W).getLast? = some e.1) →
        V.get e.1 ((W.fib e.1).dreg o.d) = ⟨e.2, .n32⟩) ∧
      (∀ f d, (∀ h ∈ acting (.fspawn o) c W, (h = f ∨ d.isK = true) → d ≠ (W.fib h).dreg o.d) → V.get f d = X.get f d) ∧
      (∀ f, f ∉ acting (.fspawn o) c W → V.fib f = X.fib f) ∧
      ∀ f, (V.fib f).st = (X.fib f).st ∧ (V.fib f).base = (X.fib f).base ∧ (V.fib f).alloc = (X.fib f).alloc ∧
        (V.fib f).curPc = (X.fib f).curPc ∧ (V.fib f).curPreds = (X.fib f).curPreds ∧ (V.fib f).curFlags = (X.fib f).curFlags ∧
        (V.fib f).curTrapen = (X.fib f).curTrapen ∧ (V.fib f).curLnk = (X.fib f).curLnk ∧ (V.fib f).wait = (X.fib f).wait) ∧
  W.spawnAll G [] = (W, []) ∧
  (∀ (f : Nat) (e : Addr) (v : Tagged) (rest : List (Nat × Addr × Tagged)), W.spawnAll G ((f, e, v) :: rest) =
    (((W.spawnOne G e v).1.spawnAll G rest).1, (f, (W.spawnOne G e v).2) :: ((W.spawnOne G e v).1.spawnAll G rest).2)) ∧
  (∀ (e : Addr) (v : Tagged) (k : Nat), k < 32 → (W.fib k).isLive = false → (∀ j < k, (W.fib j).isLive = true) →
    (W.spawnOne G e v).2 = BitVec.ofNat 32 k ∧ (∀ j, j ≠ k → ((W.spawnOne G e v).1.fib j) = W.fib j) ∧
      (W.spawnOne G e v).1.masks = W.masks ∧
      let F := (W.spawnOne G e v).1.fib k
      F.st = .live ∧ F.pc = e ∧ F.base = 0 ∧ F.alloc = 16 * G.hdr.units ∧ tabVal zeroReg F.regs 0 = v ∧
        (∀ n, n ≠ 0 → tabVal zeroReg F.regs n = zeroReg) ∧ F.preds = 0x80 ∧ F.flags = 0 ∧ F.lnk = 0 ∧ F.wait = .none) ∧
  (∀ (e : Addr) (v : Tagged), (∀ j < 32, (W.fib j).isLive = true) → W.spawnOne G e v = (W, 0xFFFFFFFF)))

/-- R131, R132: what each mask instruction writes. A mask is ANDed with M0; MLOG and MWR act once for the bundle, if a guard is
true. -/
def Obligations.MaskInstructionsComplete : Prop := ∀ (s : State) (c : Issue) (G : Group) (W : Wave),
  (∀ o, Goes (.mjoin o) s c G W → ∃ V, exec (.mjoin o) s = .next (s.setWave c V) ∧
    V = { W.advance c with masks := V.masks } ∧ V.mask o.md = (W.mask o.md ||| maskOf (acting (.mjoin o) c W)) &&& W.mask 0 ∧
    ∀ m, m ≠ o.md → V.mask m = W.mask m) ∧
  (∀ o, Goes (.mleave o) s c G W → ∃ V, exec (.mleave o) s = .next (s.setWave c V) ∧
    V = { W.advance c with masks := V.masks } ∧ V.mask o.md = (W.mask o.md &&& ~~~(maskOf (acting (.mleave o) c W))) &&& W.mask 0 ∧
    ∀ m, m ≠ o.md → V.mask m = W.mask m) ∧
  (∀ o, Goes (.mlog o) s c G W → acting (.mlog o) c W ≠ [] → ∃ V, exec (.mlog o) s = .next (s.setWave c V) ∧
    V = { W.advance c with masks := V.masks } ∧ (∀ m, m ≠ o.md → V.mask m = W.mask m) ∧
    (o.op = 0 → V.mask o.md = (W.mask o.ma &&& W.mask o.mb) &&& W.mask 0) ∧
    (o.op = 1 → V.mask o.md = (W.mask o.ma ||| W.mask o.mb) &&& W.mask 0) ∧
    (o.op = 2 → V.mask o.md = (W.mask o.ma ^^^ W.mask o.mb) &&& W.mask 0) ∧
    (o.op = 3 → V.mask o.md = (W.mask o.ma &&& ~~~(W.mask o.mb)) &&& W.mask 0) ∧
    (o.op = 4 → V.mask o.md = W.mask o.ma &&& W.mask 0)) ∧
  (∀ o, Goes (.mwr o) s c G W → ∀ f, (acting (.mwr o) c W).getLast? = some f → ∃ V, exec (.mwr o) s = .next (s.setWave c V) ∧
    V = { W.advance c with masks := V.masks } ∧ V.mask o.md = (W.read f o.a).val &&& W.mask 0 ∧
    ∀ m, m ≠ o.md → V.mask m = W.mask m) ∧
  (∀ o, Goes (.mrd o) s c G W → ∃ V, exec (.mrd o) s = .next (s.setWave c V) ∧
    WritesRegs (.mrd o) c W V [o.d] (fun _ => [⟨W.mask o.ma, .b32⟩]) ∧ keepsPreds W V)

/-- R133, R134, R285, R212, R250, R145: the instructions that hold a fibre. The guard-true fibres wait, and every fibre of a
collective's bundle, with what the release will need; no register, mask or other entry changes. MXWAIT waits for the tile operations
of the group that issued before this core cycle, FENCE for the fibre's earlier accesses, of kind 0 those that read. TWANY of an empty
mask is an illegal operand. ISYNC takes a store entry with each fibre's range. The waits of the fibres of a resident wave end by what
each waits for: MXWAIT when none of those tile operations is in the scoreboard, FENCE when none of those accesses of the fibre is
outstanding, TWANY when a tag of its mask completes, whose lowest number its D then receives; a mask wait of a wave that runs ends for all fibres at it when every live member of the mask is among them. -/
def Obligations.WaitingInstructionsWait : Prop :=
  (∀ (s : State) (c : Issue) (G : Group) (W : Wave),
  (∀ o, Goes (.mwaitm o) s c G W → MovesFibres (.mwaitm o) s c W fun _ F => { F with wait := .mwaitm o.md c.pc }) ∧
  (∀ o, Goes (.twall o) s c G W →
    MovesFibres (.twall o) s c W fun f F => { F with wait := .twall (W.readPair f o.a).toNat }) ∧
  (∀ o, Goes (.twany o) s c G W → (∀ f ∈ acting (.twany o) c W, W.readPair f o.a ≠ 0) →
    MovesFibres (.twany o) s c W fun f F => { F with wait := .twany (W.readPair f o.a).toNat [(W.fib f).dreg o.d] }) ∧
  (∀ o, Goes (.twany o) s c G W → (∃ f ∈ acting (.twany o) c W, W.readPair f o.a = 0) →
    exec (.twany o) s = .next (s.takeFault c
      { cause := 0x07, fmask := maskOf ((acting (.twany o) c W).filter fun f => W.readPair f o.a == 0) } false
      (maskOf (acting (.twany o) c W)) .none)) ∧
  (∀ o, Goes (.mxwait o) s c G W → MovesFibres (.mxwait o) s c W fun _ F => { F with wait := .tile G.tileOps }) ∧
  (∀ w n, (w, n) ∈ G.tileOps ↔ ∃ V k e, (w, V) ∈ G.waves ∧ (k, e) ∈ V.sb ∧ 40 ≤ k ∧ k < 48 ∧ e.age < V.ageMark ∧ e.age = n) ∧
  (∀ o, Goes (.fence o) s c G W → MovesFibres (.fence o) s c W fun f F => { F with wait := .fence o.kind (W.fenced o.kind f) }) ∧
  (∀ kind f n, n ∈ W.fenced kind f ↔ ∃ k e, (k, e) ∈ W.sb ∧ accessSlot k = true ∧ isPgreq e.instr = false ∧
    (kind = 0 → readsMemory e.instr = true) ∧ (∃ a ∈ e.accs, a.fib = f ∧ a.waits = true) ∧ e.age = n) ∧
  (∀ o, Goes (.isync o) s c G W → acting (.isync o) c W = [] → exec (.isync o) s = .next (s.setWave c (W.advance c))) ∧
  (∀ o, Goes (.isync o) s c G W → acting (.isync o) c W ≠ [] → ∃ slot e V, W.freeEntry .store = some slot ∧
    exec (.isync o) s = .next (s.setWave c V) ∧ tabGet V.sb slot = some e ∧ e.instr = .isync o ∧ e.pc = c.pc ∧ e.age = W.nextAge ∧
    e.accs.map (·.fib) = acting (.isync o) c W ∧
    (∀ a ∈ e.accs, a.va = W.readPair a.fib o.a ∧ a.data = [(W.read a.fib o.b).val] ∧ a.st = .unsent) ∧
    (∀ k, k ≠ slot → tabGet V.sb k = tabGet W.sb k) ∧ V.ks = W.ks ∧ V.masks = W.masks ∧
    ∀ f, V.fib f = fibAfter (.isync o) c W (fun _ F => { F with wait := .isync slot }) f) ∧
  (∀ (i : Instr) (k : Collective) (mask : Nat) (pa : Option Nat),
    ((∃ o, i = .shfl o ∧ k = .shfl o.pd ∧ mask = o.ma ∧ pa = none) ∨
      (∃ o, i = .vote o ∧ k = .vote o.op o.pd ∧ mask = o.ma ∧ pa = some o.pa) ∨
      (∃ o, i = .ballot o ∧ k = .ballot ∧ mask = o.ma ∧ pa = some o.pa) ∨
      (∃ o, i = .schist o ∧ k = .schist ∧ mask = 0 ∧ pa = none)) →
    Goes i s c G W →
    ∃ V, exec i s = .next (s.setWave c V) ∧ V = { W with fibres := V.fibres } ∧
      ∀ f, V.fib f = if f ∈ c.fibres then
          { (W.fib f).setPc c.nextPc with
            wait := .coll k mask c.pc ((acting i c W).contains f) ((opndsOf i).srcRegs.map (W.read f))
              (match pa with | some p => (W.fib f).pred p | none => false) ((opndsOf i).dstRegs.map (W.fib f).dreg) }
        else W.fib f)) ∧
  (∀ (s : State) (g w f : Nat) (G : Group) (W V : Wave), s.group g = some G → tabGet G.waves w = some W → G.core?.isSome = true →
    f ∈ W.live → (s.releaseWave g w).wave g w = some V →
    (∀ m a, testsMasks G W = true → (W.fib f).wait = .mwaitm m a →
      ((V.fib f).wait = .none ↔ ∀ h ∈ W.members m, (W.fib h).wait = .mwaitm m a)) ∧
    (∀ m, (W.fib f).wait = .twall m → ((V.fib f).wait = .none ↔ G.ctags &&& m = m)) ∧
    (∀ m d, (W.fib f).wait = .twany m d → ((V.fib f).wait = .none ↔ G.ctags &&& m ≠ 0)) ∧
    (∀ m i n, (W.fib f).wait = .twany m [.v i] → i < (W.fib f).alloc → n < 64 → (G.ctags &&& m).testBit n = true →
      (∀ j < n, (G.ctags &&& m).testBit j = false) → V.get f (.v i) = ⟨BitVec.ofNat 32 n, .n32⟩) ∧
    (∀ m i n, (W.fib f).wait = .twany m [.k i] → n < 64 → (G.ctags &&& m).testBit n = true →
      (∀ j < n, (G.ctags &&& m).testBit j = false) → (∀ h ∈ W.live, h ≠ f → ∀ k d, (W.fib h).wait = .twany k d → .k i ∉ d) →
      V.get f (.k i) = ⟨BitVec.ofNat 32 n, .n32⟩) ∧
    (∀ ops, (W.fib f).wait = .tile ops → ((V.fib f).wait = .none ↔ ∀ o ∈ ops, ∀ X, tabGet G.waves o.1 = some X →
      ∀ e ∈ X.sb, 40 ≤ e.1 → e.1 < 48 → e.2.age ≠ o.2)) ∧
    (∀ kind ages, (W.fib f).wait = .fence kind ages → ((V.fib f).wait = .none ↔ ∀ e ∈ W.sb, e.2.age ∈ ages →
      ∀ a ∈ e.2.accs, a.fib = f → a.waits = false)) ∧
    (∀ k, (W.fib f).wait = .isync k → ((V.fib f).wait = .none ↔ W.pendingIn k f = false)) ∧
    (∀ k, (W.fib f).wait = .mwait k → ((V.fib f).wait = .none ↔ W.pendingIn k f = false)) ∧
    (∀ sc id p, (W.fib f).wait = .barrier sc id p → ((V.fib f).wait = .none ↔ s.phaseOf G sc id ≠ p)) ∧
    (∀ nl ns nc nt, (W.fib f).wait = .waitc nl ns nc nt → ((V.fib f).wait = .none ↔ W.outstanding .load ≤ nl ∧
      W.outstanding .store ≤ ns ∧ W.outstanding .copy ≤ nc ∧ W.outstanding .tile ≤ nt)))

/-- R135, R136, R177: what a released collective gives a guard-true arrival, from the lanes that are present; SCHIST's scale from the
exponents of their finite, non-zero sources. R134: a collective of a wave that runs is released once every live member of its mask has
arrived; then no arrival waits, each whose guard is true has its result, of one K register the highest-numbered (R26), and keeps every
other register, and one whose guard is false has only gone on. -/
def Obligations.CollectiveResults : Prop :=
  (∀ (present all : List Arrival) (level : Nat) (me : Arrival),
  (∀ pd a, me.coll = .shfl pd → a ∈ present → a.fib = (me.srcs.getD 1 zeroReg).val.toNat % 32 →
    (∀ b ∈ present, b.fib = a.fib → b = a) → collResult present all level me = ([a.srcs.getD 0 zeroReg], some (pd, true))) ∧
  (∀ pd, me.coll = .shfl pd → (∀ a ∈ present, a.fib ≠ (me.srcs.getD 1 zeroReg).val.toNat % 32) →
    collResult present all level me = ([⟨0, .b32⟩], some (pd, false))) ∧
  (∀ pd, me.coll = .vote 0 pd → ∃ b, collResult present all level me = ([], some (pd, b)) ∧
    (b = true ↔ ∀ a ∈ present, a.src = true)) ∧
  (∀ pd, me.coll = .vote 1 pd → ∃ b, collResult present all level me = ([], some (pd, b)) ∧
    (b = true ↔ ∃ a ∈ present, a.src = true)) ∧
  (∀ pd, me.coll = .vote 2 pd → ∃ b, collResult present all level me = ([], some (pd, b)) ∧
    (b = true ↔ ∀ a ∈ present, ∀ e ∈ present, a.src = e.src)) ∧
  (me.coll = .ballot → ∃ w : Word, collResult present all level me = ([⟨w, .b32⟩], none) ∧
    ∀ k < 32, w.getLsbD k = true ↔ ∃ a ∈ present, a.fib = k ∧ a.src = true) ∧
  (∀ (xs : List Int) (b : Arrival) (q : Nat) (mx : Int), me.coll = .schist →
    xs = present.filterMap (fun a => f32Log (a.srcs.getD 0 zeroReg).val level) → (all.filter (·.guard)).getLast? = some b →
    q = (b.srcs.getD 1 zeroReg).val.toNat % 32 → mx = (if (b.srcs.getD 1 zeroReg).val.getLsbD 8 then 8 else 12) →
    ∃ E : Nat, collResult present all level me = ([⟨BitVec.ofNat 32 E, .e8x4⟩], none) ∧ (xs.length < q + 1 → E = 127) ∧
      ∀ t ∈ xs, (xs.filter fun y => decide (t < y)).length ≤ q → q < (xs.filter fun y => decide (t ≤ y)).length →
        (E : Int) = min (max (t + 1 - mx + 127) 0) 254)) ∧
  (∀ (w : Word) (level e m : Nat), e = w.toNat / 2 ^ 23 % 2 ^ 8 → m = w.toNat % 2 ^ 23 →
    (e = 255 → f32Log w level = none) ∧ (0 < e → e < 255 → f32Log w level = some ((e : Int) - 127)) ∧
    (e = 0 → (m = 0 ∨ level = 0) → f32Log w level = none) ∧
    (e = 0 → 0 < level → ∀ k : Nat, 2 ^ k ≤ m → m < 2 ^ (k + 1) → f32Log w level = some ((k : Int) - 149))) ∧
  (∀ (s : State) (g w m level : Nat) (at_ : Addr) (facet : Bool) (G : Group) (W V : Wave) (all present : List Arrival) (x : Arrival),
  s.group g = some G → tabGet G.waves w = some W → testsMasks G W = true → G.core?.isSome = true → all = W.arrivals m at_ facet → x ∈ all →
  (∀ a ∈ all, s.levelOf G (W.fib a.fib) = level) →
  present = all.filter (fun a => (W.members m).contains a.fib) → (s.releaseWave g w).wave g w = some V →
  ((∀ f ∈ W.members m, f ∈ all.map (·.fib)) → (V.fib x.fib).wait = .none ∧
    (x.guard = true →
      (∀ i t r, x.dst = [.v i] → i < (W.fib x.fib).alloc → (collResult present all level x).1 = t :: r → V.get x.fib (.v i) = t) ∧
      (∀ i t r, x.dst = [.k i] → (collResult present all level x).1 = t :: r →
        (∀ h ∈ W.live, x.fib < h ∨ h ∉ all.map (·.fib) → ∀ c n a gd ss b d, (W.fib h).wait = .coll c n a gd ss b d → gd = true → .k i ∉ d) →
        (∀ h ∈ W.live, ∀ n d, (W.fib h).wait = .twany n d → .k i ∉ d) → V.get x.fib (.k i) = t) ∧
      (∀ d, d.isK = false → d ∉ x.dst → V.get x.fib d = W.get x.fib d) ∧
      (∀ p v, p < 7 → (collResult present all level x).2 = some (p, v) → (V.fib x.fib).pred p = v) ∧
      ∀ p, (∀ q v, (collResult present all level x).2 = some (q, v) → p ≠ q) → (V.fib x.fib).pred p = (W.fib x.fib).pred p) ∧
    (x.guard = false → V.fib x.fib = { W.fib x.fib with wait := .none })) ∧
  ((∃ f ∈ W.members m, f ∉ all.map (·.fib)) → V.fib x.fib = W.fib x.fib))

/-- R139, R140, R141: each barrier instruction on a barrier that it may use. An arrival counts the guard-true fibres; BARA.token
gives the phase of its own arrival, which a twin at a wide barrier takes from its primary; BARW and BARS wait on a phase. -/
def Obligations.BarrierInstructionsComplete : Prop := ∀ (s : State) (c : Issue) (G : Group) (W : Wave),
  (∀ o, Goes (.bara o) s c G W → s.barrierOk G o.scope o.id false = true → acting (.bara o) c W ≠ [] →
    ∃ V, exec (.bara o) s = .next ((s.setWave c V).arrive c.grp G c.wave o.scope o.id (acting (.bara o) c W).length) ∧
      WritesRegs (.bara o) c W V (if o.token = 1 then [o.a] else [])
        (fun _ => [⟨BitVec.ofNat 32 (s.arrivalPhase G o.scope o.id), .n32⟩]) ∧ keepsPreds W V) ∧
  (∀ o, Goes (.bars o) s c G W → s.barrierOk G o.scope o.id false = true → acting (.bars o) c W ≠ [] →
    ∃ V, exec (.bars o) s = .next ((s.setWave c V).arrive c.grp G c.wave o.scope o.id (acting (.bars o) c W).length) ∧
      V = { W with fibres := V.fibres } ∧ ∀ f, V.fib f = fibAfter (.bars o) c W (fun _ F =>
        { F with wait := .barrier o.scope o.id (s.arrivalPhase G o.scope o.id) }) f) ∧
  (∀ scope id, (scope = 0 ∨ G.isTwin = false → s.arrivalPhase G scope id = s.phaseOf G scope id) ∧
    ∀ k, scope ≠ 0 → G.isTwin = true → s.wideKey G scope id = some k → s.arrivalPhase G scope id = (s.wbar k).told) ∧
  (∀ o, Goes (.barw o) s c G W → s.barrierOk G o.scope o.id false = true → acting (.barw o) c W ≠ [] →
    MovesFibres (.barw o) s c W fun f F =>
      { F with wait := .barrier o.scope o.id ((W.read f o.a).val.toNat % 2) }) ∧
  (∀ o f, Goes (.barc o) s c G W → s.barrierOk G o.scope o.id true = true → (acting (.barc o) c W).getLast? = some f →
    barcOk o.scope (W.read f o.a).val (W.read f (regPlus o.a 1)).val = true →
    ∃ t, exec (.barc o) s = .next t ∧ t.wave c.grp c.wave = some (W.advance c) ∧ t.mem = s.mem ∧
      (o.scope = 0 → ∃ H, t.group c.grp = some H ∧ (H.bar o.id).armed = true ∧
        (H.bar o.id).members = (W.read f (regPlus o.a 1)).val.toNat % 2 ^ 16 ∧
        (H.bar o.id).live = (W.read f o.a).val.getLsbD 16 ∧
        ((W.read f o.a).val.getLsbD 16 = false → (H.bar o.id).exp = (W.read f o.a).val.toNat % 2 ^ 16)) ∧
      (1 ≤ o.scope → o.scope ≤ 3 → ∃ k, s.wideKey G o.scope o.id = some k ∧ (t.wbar k).armed = true ∧
        (t.wbar k).exp = (W.read f o.a).val.toNat % 2 ^ 16)) ∧
  (∀ (i : Instr) (scope id : Nat) (conf : Bool),
    ((∃ o, i = .bara o ∧ scope = o.scope ∧ id = o.id ∧ conf = false) ∨ (∃ o, i = .barw o ∧ scope = o.scope ∧ id = o.id ∧ conf = false) ∨
      (∃ o, i = .bars o ∧ scope = o.scope ∧ id = o.id ∧ conf = false) ∨ (∃ o, i = .barc o ∧ scope = o.scope ∧ id = o.id ∧ conf = true)) →
    Goes i s c G W → acting i c W ≠ [] → s.barrierOk G scope id conf = false →
    exec i s = .next (s.takeFault c { cause := 0x07, fmask := maskOf (acting i c W) } false (maskOf (acting i c W)) .none))

/-- R47, R142: arrivals at a core barrier add to ARR, and the barrier is tested at the end of the core cycle: where ARR has
reached EXP it returns to 0 and PHASE flips; in live mode EXP is first the number of live fibres of the waves that MEMBERS names.
R48: a quad, die or package barrier counts waves. A wave that has arrived in this phase changes nothing by arriving again; else ARR
grows by one, and when it reaches EXP it returns to 0, PHASE flips and a new phase begins. -/
def Obligations.BarriersCountArrivals : Prop :=
  (∀ (s : State) (g id n : Nat) (G : Group), s.group g = some G →
  ∃ H, (s.arriveCore g id n).group g = some H ∧ H.waves = G.waves ∧ (∀ j, j ≠ id → H.bar j = G.bar j) ∧
    H.bar id = { G.bar id with arr := (G.bar id).arr + n, due := true }) ∧
  (∀ (G : Group) (id e : Nat), (G.bar id).armed = true →
  e = (if (G.bar id).live then G.liveCount (G.bar id).members else (G.bar id).exp) →
  (G.testBar id).waves = G.waves ∧ (∀ j, j ≠ id → (G.testBar id).bar j = G.bar j) ∧
    ((G.bar id).arr < e → (G.testBar id).bar id = { G.bar id with exp := e, due := false }) ∧
    (e ≤ (G.bar id).arr → (G.testBar id).bar id = { G.bar id with exp := e, due := false, arr := 0, phase := 1 - (G.bar id).phase })) ∧
  (∀ (s : State) (core g id : Nat) (G : Group), s.dieClock (dieOf core) ≠ 3 → (g, G) ∈ s.residents core →
  ((s.residents core).map (·.1)).Nodup → s.group g = some G → tabSorted G.bars = true →
  ∃ H, (s.cycleEnd core).group g = some H ∧ H.bar id = if (G.bar id).due then (G.testBar id).bar id else G.bar id) ∧
  (∀ (s : State) (k id scope : Nat) (p : Nat × Nat),
  scope ≠ 4 → (s.wbar k).armed = true →
  (p ∈ (s.wbar k).came → s.arriveWide k id scope (some p) = s) ∧
  (p ∉ (s.wbar k).came → (s.wbar k).arr + 1 < (s.wbar k).exp →
    (s.arriveWide k id scope (some p)).wbar k = { s.wbar k with arr := (s.wbar k).arr + 1, came := (s.wbar k).came ++ [p] }) ∧
  (p ∉ (s.wbar k).came → (s.wbar k).exp ≤ (s.wbar k).arr + 1 →
    (s.arriveWide k id scope (some p)).wbar k = { s.wbar k with arr := 0, phase := 1 - (s.wbar k).phase, came := [] }))

/-- R147, R148, R214: GETS gives each guard-true fibre its special register; the acquire of R214 follows where it observes a
done tag. R147, R113, R114, R205: SETS writes each guard-true fibre's %flags, %trapen or %lnk, reserved bits staying zero; the
wave's %mxflags; or clears the done or fail bits of the group's copy tags that are written as 1, but for those that a completion of
the same core cycle has set. -/
def Obligations.SpecialRegistersReadAndWritten : Prop :=
  (∀ (s : State) (c : Issue) (G : Group) (W : Wave) (o : Form.DI),
  Goes (.gets o) s c G W →
  (∃ V, exec (.gets o) s = .next (if o.imm = 0x00C ∧ acting (.gets o) c W ≠ [] ∧ G.tagBits (·.done) ≠ 0
      then (s.setWave c V).acquire G.coreNo else s.setWave c V) ∧
    WritesRegs (.gets o) c W V ((List.range (specialRegs o.imm)).map (regPlus o.d))
      (fun f => specialWords o.imm (s.special G c.wave W f o.imm)) ∧ keepsPreds W V) ∧
  (∀ f, s.special G c.wave W f 0x000 = (f, .n32) ∧ s.special G c.wave W f 0x001 = (c.wave, .n32) ∧
    s.special G c.wave W f 0x002 = (G.gid, .n32) ∧ s.special G c.wave W f 0x003 = (G.coreNo, .n32) ∧
    s.special G c.wave W f 0x008 = ((W.fib f).curFlags.toNat, .b32) ∧
    s.special G c.wave W f 0x00D = (s.now / 260, .n32) ∧
    ((W.fib f).facet = none → s.special G c.wave W f 0x00B = ((W.fib f).lnk.toNat, .b32)))) ∧
  (∀ (s : State) (c : Issue) (G : Group) (W : Wave) (o : Form.DI),
  Goes (.sets o) s c G W →
  (o.imm = 0x008 → MovesFibres (.sets o) s c W fun f F => F.setFlags (W.read f o.d).val) ∧
  (o.imm = 0x009 → MovesFibres (.sets o) s c W fun f F => F.setTrapen (W.read f o.d).val) ∧
  (o.imm = 0x00B → MovesFibres (.sets o) s c W fun f F => F.setLnk (W.readPair f o.d)) ∧
  (o.imm = 0x060 → ∀ f, (acting (.sets o) c W).getLast? = some f →
    exec (.sets o) s = .next (s.setWave c { W.advance c with mxflags := (W.read f o.d).val &&& 0xDD })) ∧
  (o.imm = 0x00C → ∃ t H, exec (.sets o) s = .next t ∧ t.group c.grp = some H ∧ t.mem = s.mem ∧
    H.waves = tabMod G.waves c.wave (fun _ => W.advance c) ∧
    H.tags = (acting (.sets o) c W).foldl (fun l f => clearTags true (G.clears true (W.readPair f o.d)) l) G.tags) ∧
  (o.imm = 0x040 → ∃ t H, exec (.sets o) s = .next t ∧ t.group c.grp = some H ∧ t.mem = s.mem ∧
    H.tags = (acting (.sets o) c W).foldl (fun l f => clearTags false (G.clears false (W.readPair f o.d)) l) G.tags) ∧
  (∀ (v : Addr) (k : Nat) (x : HeldTag), k < 64 → tabSorted G.tags = true → tabGet G.tags k = some x →
    ((G.clears true v).testBit k = (v.getLsbD k && !x.recent)) ∧ ((G.clears false v).testBit k = (v.getLsbD k && !x.recentFail))) ∧
  (∀ (v k : Nat) (x : HeldTag) (t : Tab HeldTag), tabSorted t = true → tabGet t k = some x → v.testBit k = true → x.done = true →
    tabGet (clearTags true v t) k = if x.count = 0 then none else some { x with done := false }))

/-- R61, R123, R26: every arithmetic instruction that raises no enabled exception completes: each guard-true fibre's destination
holds what the instruction computes of the fibre's sources, read before any write; no other register changes, and no memory.
Results that the spec leaves open (transcendentals, corners) are free values (log 8); this holds for every one of them. -/
def Obligations.ArithmeticCompletes : Prop := ∀ (i : Instr) (lane : LaneIn → LaneOut) (s : State) (c : Issue) (G : Group) (W : Wave),
  laneOf i = some lane → Goes i s c G W →
  (∀ f ∈ acting i c W, trapping (W.fib f) (lane (s.laneIn G W (opndsOf i) f)).exc = 0) →
  ∃ V, exec i s = .next (s.setWave c V) ∧
    WritesRegs i c W V (opndsOf i).dstRegs (fun f => (lane (s.laneIn G W (opndsOf i) f)).regs)

/-- R113, R61: and its predicate destination holds its condition, and %flags gains the exceptions that did not trap, in each
guard-true fibre; every other predicate, and the flags of every other fibre, stay. R116: where some guard-true fibre raises an
enabled exception the instruction traps. It writes no register, predicate or flag in any fibre; the wave parks late with the
lowest cause among the trapping exceptions of all its fibres; entry 48 holds the instruction. -/
def Obligations.ArithmeticFlagsAndTraps : Prop :=
  (∀ (i : Instr) (lane : LaneIn → LaneOut) (s t : State) (c : Issue) (G : Group) (W V : Wave),
  laneOf i = some lane → Goes i s c G W →
  (∀ f ∈ acting i c W, trapping (W.fib f) (lane (s.laneIn G W (opndsOf i) f)).exc = 0) →
  exec i s = .next t → t.wave c.grp c.wave = some V →
  (∀ f ∈ acting i c W,
    (V.fib f).curFlags = ((W.fib f).curFlags ||| (lane (s.laneIn G W (opndsOf i) f)).exc) &&& 0x7F ∧
    ∀ p < 8, (V.fib f).pred p =
      if (opndsOf i).pdst = some p then ((lane (s.laneIn G W (opndsOf i) f)).pred).getD ((W.fib f).pred p) else (W.fib f).pred p) ∧
  (∀ f, f ∉ acting i c W → (V.fib f).curFlags = (W.fib f).curFlags ∧ (V.fib f).curPreds = (W.fib f).curPreds)) ∧
  (∀ (i : Instr) (lane : LaneIn → LaneOut) (s : State) (c : Issue) (G : Group) (W : Wave) (f b : Nat),
  laneOf i = some lane → Goes i s c G W → G.twin = none → W.inFacet c = false →
  f ∈ acting i c W → b < 7 → (trapping (W.fib f) (lane (s.laneIn G W (opndsOf i) f)).exc).getLsbD b = true →
  (∀ h ∈ acting i c W, ∀ k < b, (trapping (W.fib h) (lane (s.laneIn G W (opndsOf i) h)).exc).getLsbD k = false) →
  ∃ t V e x, exec i s = .next t ∧ t.wave c.grp c.wave = some V ∧ V.run = .draining ∧ V.ks = W.ks ∧
    (∀ h, (V.fib h).regs = (W.fib h).regs ∧ (V.fib h).preds = (W.fib h).preds ∧ (V.fib h).flags = (W.fib h).flags) ∧
    tabGet V.sb 48 = some e ∧ e.instr = i ∧ e.pc = c.pc ∧ e.accs.map (·.fib) = acting i c W ∧
    (t.faultEng G.die).detected = (s.faultEng G.die).detected ++ [x] ∧ x.cause = 0x20 + b ∧ x.late = true ∧
    x.grp = c.grp ∧ x.wave = c.wave ∧ t.mem = s.mem)

/-- R149, R150: integer arithmetic, modulo 2^32, division truncating toward zero. R151: bitwise operations, shifts by the whole count,
counts and bit reversal. R152: the field that a descriptor names, cut at bit 31, extracted and put in. R154: the immediate forms. -/
def Obligations.IntegerResults : Prop :=
  (∀ x : LaneIn,
  (∃ w t, laneIadd x = { regs := [⟨w, t⟩] } ∧ w.toNat = (x.n 0 + x.n 1) % 2 ^ 32) ∧
  (∃ w t, laneIsub x = { regs := [⟨w, t⟩] } ∧ (w.toNat : Int) = ((x.n 0 : Int) - x.n 1) % 2 ^ 32) ∧
  (∃ w t, laneImul x = { regs := [⟨w, t⟩] } ∧ w.toNat = x.n 0 * x.n 1 % 2 ^ 32) ∧
  (∃ w t, laneImulhI32 x = { regs := [⟨w, t⟩] } ∧ (w.toNat : Int) = (x.w 0).toInt * (x.w 1).toInt / 2 ^ 32 % 2 ^ 32) ∧
  (∃ w t, laneImulhN32 x = { regs := [⟨w, t⟩] } ∧ w.toNat = x.n 0 * x.n 1 / 2 ^ 32) ∧
  (x.n 1 ≠ 0 → ∃ w t, laneIdivN32 x = { regs := [⟨w, t⟩] } ∧ w.toNat = x.n 0 / x.n 1) ∧
  (x.n 1 ≠ 0 → ∃ w t, laneIremN32 x = { regs := [⟨w, t⟩] } ∧ w.toNat = x.n 0 % x.n 1) ∧
  (x.n 1 ≠ 0 → ∃ w t, laneIdivI32 x = { regs := [⟨w, t⟩] } ∧ w.toInt = ((x.w 0).toInt.tdiv (x.w 1).toInt).bmod (2 ^ 32)) ∧
  (x.n 1 ≠ 0 → ∃ w t, laneIremI32 x = { regs := [⟨w, t⟩] } ∧ w.toInt = (x.w 0).toInt.tmod (x.w 1).toInt) ∧
  (x.n 1 = 0 → ∃ t t' u u', laneIdivI32 x = { regs := [⟨0xFFFFFFFF, t⟩], exc := 0x20 } ∧
    laneIdivN32 x = { regs := [⟨0xFFFFFFFF, t'⟩], exc := 0x20 } ∧ laneIremI32 x = { regs := [⟨x.w 0, u⟩], exc := 0x20 } ∧
    laneIremN32 x = { regs := [⟨x.w 0, u'⟩], exc := 0x20 }) ∧
  (∃ w t, laneIminI32 x = { regs := [⟨w, t⟩] } ∧ w.toInt = min (x.w 0).toInt (x.w 1).toInt) ∧
  (∃ w t, laneImaxI32 x = { regs := [⟨w, t⟩] } ∧ w.toInt = max (x.w 0).toInt (x.w 1).toInt) ∧
  (∃ w t, laneIminN32 x = { regs := [⟨w, t⟩] } ∧ w.toNat = min (x.n 0) (x.n 1)) ∧
  (∃ w t, laneImaxN32 x = { regs := [⟨w, t⟩] } ∧ w.toNat = max (x.n 0) (x.n 1)) ∧
  (∃ w t, laneIabs x = { regs := [⟨w, t⟩] } ∧ w.toNat = (x.w 0).toInt.natAbs) ∧
  (∃ w t, laneIneg x = { regs := [⟨w, t⟩] } ∧ (w.toNat : Int) = (-(x.n 0 : Int)) % 2 ^ 32) ∧
  (∃ w t, laneImad x = { regs := [⟨w, t⟩] } ∧ w.toNat = (x.n 0 * x.n 1 + x.n 2) % 2 ^ 32)) ∧
  (∀ x : LaneIn,
  (∃ w, laneShl x = { regs := [⟨w, .b32⟩] } ∧ w.toNat = (x.n 0 * 2 ^ x.n 1) % 2 ^ 32) ∧
  (∃ w, laneShr x = { regs := [⟨w, .b32⟩] } ∧ w.toNat = x.n 0 / 2 ^ x.n 1) ∧
  (∃ w, laneSar x = { regs := [⟨w, .i32⟩] } ∧ w.toInt = (x.w 0).toInt / 2 ^ x.n 1) ∧
  (∃ w, laneRotl x = { regs := [⟨w, .b32⟩] } ∧ ∀ k < 32, w.getLsbD ((k + x.n 1) % 32) = (x.w 0).getLsbD k) ∧
  (∃ w, lanePopc x = { regs := [⟨w, .n32⟩] } ∧ w.toNat = ((List.range 32).filter fun k => (x.w 0).getLsbD k).length) ∧
  (∃ w, laneClz x = { regs := [⟨w, .n32⟩] } ∧ w.toNat ≤ 32 ∧ x.n 0 < 2 ^ (32 - w.toNat) ∧
    (w.toNat < 32 → 2 ^ (31 - w.toNat) ≤ x.n 0)) ∧
  (∃ w, laneBrev x = { regs := [⟨w, .b32⟩] } ∧ ∀ k < 32, w.getLsbD k = (x.w 0).getLsbD (31 - k)) ∧
  (∃ w, laneNotOp x = { regs := [⟨w, .b32⟩] } ∧ ∀ k < 32, w.getLsbD k = !(x.w 0).getLsbD k) ∧
  (∃ w, laneAndn x = { regs := [⟨w, .b32⟩] } ∧ ∀ k < 32, w.getLsbD k = ((x.w 0).getLsbD k && !(x.w 1).getLsbD k)) ∧
  (∃ w, laneAndOp x = { regs := [⟨w, .b32⟩] } ∧ ∀ k < 32, w.getLsbD k = ((x.w 0).getLsbD k && (x.w 1).getLsbD k)) ∧
  (∃ w, laneOrOp x = { regs := [⟨w, .b32⟩] } ∧ ∀ k < 32, w.getLsbD k = ((x.w 0).getLsbD k || (x.w 1).getLsbD k)) ∧
  (∃ w, laneXorOp x = { regs := [⟨w, .b32⟩] } ∧ ∀ k < 32, w.getLsbD k = ((x.w 0).getLsbD k != (x.w 1).getLsbD k))) ∧
  (∀ (x : LaneIn) (p w v : Nat), p = x.n 1 % 32 → w = min (x.n 1 / 2 ^ 8 % 2 ^ 6) (32 - p) → v = x.n 0 / 2 ^ p % 2 ^ w →
    laneBfxN32 x = { regs := [⟨BitVec.ofNat 32 v, .n32⟩] } ∧
    ∃ u : Word, laneBfxI32 x = { regs := [⟨u, .i32⟩] } ∧ u.toInt = if w ≠ 0 ∧ 2 ^ (w - 1) ≤ v then (v : Int) - 2 ^ w else v) ∧
  (∀ (x : LaneIn) (p w : Nat), p = x.n 2 % 32 → w = min (x.n 2 / 2 ^ 8 % 2 ^ 6) (32 - p) →
    ∃ u : Word, laneBfi x = { regs := [⟨u, .b32⟩] } ∧
      ∀ k < 32, u.getLsbD k = if p ≤ k ∧ k < p + w then (x.w 1).getLsbD (k - p) else (x.w 0).getLsbD k) ∧
  (∀ (x : LaneIn) (o : Form.DI) (m : Int), o.imm < 2 ^ 14 → m = (if o.imm < 2 ^ 13 then (o.imm : Int) else (o.imm : Int) - 2 ^ 14) →
    (∃ (w : Word) (t : Tag), laneIaddi o x = { regs := [⟨w, t⟩] } ∧ (w.toNat : Int) = ((x.n 0 : Int) + m) % 2 ^ 32) ∧
    (∃ w : Word, laneAndi o x = { regs := [⟨w, .b32⟩] } ∧ ∀ k < 32, w.getLsbD k = ((x.w 0).getLsbD k && o.imm.testBit k)) ∧
    (∃ w : Word, laneOri o x = { regs := [⟨w, .b32⟩] } ∧ ∀ k < 32, w.getLsbD k = ((x.w 0).getLsbD k || o.imm.testBit k)) ∧
    (∃ w : Word, laneXori o x = { regs := [⟨w, .b32⟩] } ∧ ∀ k < 32, w.getLsbD k = ((x.w 0).getLsbD k != o.imm.testBit k)) ∧
    ∃ w : Word, laneMovi o x = { regs := [⟨w, .i32⟩] } ∧ w.toInt = m) ∧
  (∀ (x : LaneIn) (o : Form.DAI), o.imm < 32 →
    (∃ w : Word, laneShli o x = { regs := [⟨w, .b32⟩] } ∧ w.toNat = (x.n 0 * 2 ^ o.imm) % 2 ^ 32) ∧
    (∃ w : Word, laneShri o x = { regs := [⟨w, .b32⟩] } ∧ w.toNat = x.n 0 / 2 ^ o.imm) ∧
    ∃ w : Word, laneSari o x = { regs := [⟨w, .i32⟩] } ∧ w.toInt = (x.w 0).toInt / 2 ^ o.imm) ∧
  (∀ (x : LaneIn) (o : Form.Iaddl), ∃ (w : Word) (t : Tag), laneIaddl o x = { regs := [⟨w, t⟩] } ∧ w.toNat = (x.n 0 + o.imm) % 2 ^ 32)

/-- R156, R157, R153: compares by condition code, the truth table of PLOG, SEL with the tag of the value chosen. R158, R65,
R155, R154: 64-bit arithmetic over pairs, the low half first; moves that keep tags. R163, R165: FMIN and FMAX return the number where
exactly one operand is a NaN, and a quiet one raises nothing; else they return the lesser or the greater; FCMP by its condition code.
R159, R161, R167 to R169, R107, R108: where the level keeps subnormal operands, arithmetic of finite operands gives the exact result
rounded once in the mode of the instruction, with its exceptions, saturated where SAT says so. R162, R110: its special operands.
R119: level 0. R166: what it fixes exactly. R171 to R176, R98, R100: conversions between integers, IEEE and tapered formats, packing,
unpacking and SCALE. -/
def Obligations.CompareSelectAndPairResults : Prop :=
  ((∀ (o : Form.C) (x : LaneIn), o.cc < 8 → ∃ b, laneIcmpI32 o x = { pred := some b } ∧
    (b = true ↔ match o.cc with
      | 0 => x.w 0 = x.w 1 | 1 => x.w 0 ≠ x.w 1 | 2 => (x.w 0).toInt < (x.w 1).toInt | 3 => (x.w 0).toInt ≤ (x.w 1).toInt
      | 4 => (x.w 1).toInt < (x.w 0).toInt | 5 => (x.w 1).toInt ≤ (x.w 0).toInt | 6 => x.w 0 &&& x.w 1 ≠ 0 | _ => x.w 0 &&& x.w 1 = 0)) ∧
  (∀ (o : Form.C) (x : LaneIn), o.cc < 8 → ∃ b, laneIcmpN32 o x = { pred := some b } ∧
    (b = true ↔ match o.cc with
      | 0 => x.w 0 = x.w 1 | 1 => x.w 0 ≠ x.w 1 | 2 => x.n 0 < x.n 1 | 3 => x.n 0 ≤ x.n 1
      | 4 => x.n 1 < x.n 0 | 5 => x.n 1 ≤ x.n 0 | 6 => x.w 0 &&& x.w 1 ≠ 0 | _ => x.w 0 &&& x.w 1 = 0)) ∧
  (∀ (o : Form.CI) (x : LaneIn) (a b : Int), o.cc < 8 → o.imm < 2 ^ 7 →
    a = (x.w 0).toInt → b = (if o.imm < 2 ^ 6 then (o.imm : Int) else (o.imm : Int) - 2 ^ 7) →
    ∃ p, laneIcmpiI32 o x = { pred := some p } ∧ (p = true ↔ match o.cc with
      | 0 => a = b | 1 => a ≠ b | 2 => a < b | 3 => a ≤ b | 4 => b < a | 5 => b ≤ a
      | 6 => x.w 0 &&& BitVec.ofInt 32 b ≠ 0 | _ => x.w 0 &&& BitVec.ofInt 32 b = 0)) ∧
  (∀ (o : Form.CI) (x : LaneIn), o.cc < 8 → o.imm < 2 ^ 7 → ∃ p, laneIcmpiN32 o x = { pred := some p } ∧
    (p = true ↔ match o.cc with
      | 0 => x.n 0 = o.imm | 1 => x.n 0 ≠ o.imm | 2 => x.n 0 < o.imm | 3 => x.n 0 ≤ o.imm | 4 => o.imm < x.n 0 | 5 => o.imm ≤ x.n 0
      | 6 => x.n 0 &&& o.imm ≠ 0 | _ => x.n 0 &&& o.imm = 0)) ∧
  (∀ (o : Form.C) (x : LaneIn) (a b : Nat) (i j : Int), o.cc < 8 → a = x.n 0 + 2 ^ 32 * x.n 1 → b = x.n 2 + 2 ^ 32 * x.n 3 →
    i = (if a < 2 ^ 63 then (a : Int) else (a : Int) - 2 ^ 64) → j = (if b < 2 ^ 63 then (b : Int) else (b : Int) - 2 ^ 64) →
    (∃ p, laneIcmpI64 o x = { pred := some p } ∧ (p = true ↔ match o.cc with
      | 0 => i = j | 1 => i ≠ j | 2 => i < j | 3 => i ≤ j | 4 => j < i | 5 => j ≤ i | 6 => a &&& b ≠ 0 | _ => a &&& b = 0)) ∧
    ∃ p, laneIcmpN64 o x = { pred := some p } ∧ (p = true ↔ match o.cc with
      | 0 => a = b | 1 => a ≠ b | 2 => a < b | 3 => a ≤ b | 4 => b < a | 5 => b ≤ a | 6 => a &&& b ≠ 0 | _ => a &&& b = 0)) ∧
  (∀ (o : Form.Plog) (x : LaneIn), o.tt < 16 → lanePlog o x =
    { pred := some (o.tt.testBit (2 * (x.p.getLsbD o.pa).toNat + (x.p.getLsbD o.pb).toNat)) }) ∧
  (∀ (o : Form.Sel) (x : LaneIn), x.p.getLsbD o.ps = true → laneSel o x = { regs := [⟨x.w 0, x.t 0⟩] }) ∧
  (∀ (o : Form.Sel) (x : LaneIn), x.p.getLsbD o.ps = false → laneSel o x = { regs := [⟨x.w 1, x.t 1⟩] })) ∧
  (∀ x : LaneIn,
  (∃ lo hi t, laneIaddB64 x = { regs := [⟨lo, t⟩, ⟨hi, t⟩] } ∧
    lo.toNat + 2 ^ 32 * hi.toNat = (x.n 0 + 2 ^ 32 * x.n 1 + (x.n 2 + 2 ^ 32 * x.n 3)) % 2 ^ 64) ∧
  (∃ lo hi t, laneIsubB64 x = { regs := [⟨lo, t⟩, ⟨hi, t⟩] } ∧
    (lo.toNat + 2 ^ 32 * hi.toNat + (x.n 2 + 2 ^ 32 * x.n 3)) % 2 ^ 64 = (x.n 0 + 2 ^ 32 * x.n 1) % 2 ^ 64) ∧
  (∃ lo hi, laneImulwN32 x = { regs := [⟨lo, .n32⟩, ⟨hi, .n32⟩] } ∧ lo.toNat + 2 ^ 32 * hi.toNat = x.n 0 * x.n 1) ∧
  (∃ lo hi, laneImulwI32 x = { regs := [⟨lo, .i32⟩, ⟨hi, .i32⟩] } ∧
    ((lo.toNat + 2 ^ 32 * hi.toNat : Nat) : Int) = (x.w 0).toInt * (x.w 1).toInt % 2 ^ 64) ∧
  (∃ lo hi t, laneShlB64 x = { regs := [⟨lo, t⟩, ⟨hi, t⟩] } ∧
    lo.toNat + 2 ^ 32 * hi.toNat = (x.n 0 + 2 ^ 32 * x.n 1) * 2 ^ x.n 2 % 2 ^ 64) ∧
  (∃ lo hi t, laneShrB64 x = { regs := [⟨lo, t⟩, ⟨hi, t⟩] } ∧
    lo.toNat + 2 ^ 32 * hi.toNat = (x.n 0 + 2 ^ 32 * x.n 1) / 2 ^ x.n 2) ∧
  (∀ (a : Nat) (i : Int), a = x.n 0 + 2 ^ 32 * x.n 1 → i = (if a < 2 ^ 63 then (a : Int) else (a : Int) - 2 ^ 64) →
    (∃ (lo hi : Word), laneSarB64 x = { regs := [⟨lo, .i32⟩, ⟨hi, .i32⟩] } ∧
      ((lo.toNat + 2 ^ 32 * hi.toNat : Nat) : Int) = (i / 2 ^ x.n 2) % 2 ^ 64) ∧
    ∀ o : Form.Lea, ∃ (lo hi : Word), laneLea o x = { regs := [⟨lo, .b32⟩, ⟨hi, .b32⟩] } ∧
      ((lo.toNat + 2 ^ 32 * hi.toNat : Nat) : Int) = (a + (x.w 2).toInt * 2 ^ o.sh) % 2 ^ 64) ∧
  laneMovB64 x = { regs := [⟨x.w 0, x.t 0⟩, ⟨x.w 1, x.t 1⟩] } ∧ laneMov x = { regs := [⟨x.w 0, x.t 0⟩] } ∧
  (∀ o : Form.Movl, o.imm < 2 ^ 32 → o.ty < 13 → ∃ t, tagCode t = o.ty ∧ laneMovl o x = { regs := [⟨BitVec.ofNat 32 o.imm, t⟩] }) ∧
  (∀ o : Form.Retag, o.ty < 13 → ∃ t, tagCode t = o.ty ∧ laneRetag o x = { regs := [⟨x.w 0, t⟩] })) ∧
  (∀ x : LaneIn,
  (0 < x.level → (x.n 0 / 2 ^ 23 % 256 = 255 ∧ x.n 0 % 2 ^ 23 ≥ 2 ^ 22) → x.n 1 / 2 ^ 23 % 256 < 255 →
    laneFminF32 x = { regs := [⟨x.w 1, .f32⟩] } ∧ laneFmaxF32 x = { regs := [⟨x.w 1, .f32⟩] }) ∧
  (0 < x.level → (x.n 1 / 2 ^ 23 % 256 = 255 ∧ x.n 1 % 2 ^ 23 ≥ 2 ^ 22) → x.n 0 / 2 ^ 23 % 256 < 255 →
    laneFminF32 x = { regs := [⟨x.w 0, .f32⟩] } ∧ laneFmaxF32 x = { regs := [⟨x.w 0, .f32⟩] })) ∧
  -- FMIN, FMAX, FCMP
  (∀ (f : FFmt) (x : LaneIn) (a b : Nat) (lo hi : LaneOut), (f = .f32 ∧ 0 < x.level ∧ a = x.n 0 ∧ b = x.n 1 ∧ lo = laneFminF32 x ∧ hi = laneFmaxF32 x) ∨
      (f = .f64 ∧ a = pairCode x 0 ∧ b = pairCode x 2 ∧ lo = laneFminF64 x ∧ hi = laneFmaxF64 x) → ¬IsNan f a → ¬IsNan f b →
    let below : Prop := units f a < units f b ∨ (units f a = units f b ∧ signOf f a = true)
    let out := fun w : Nat => if f = .f32 then gives .f32 (w, 0) else givesPair (w, 0)
    (below → lo = out a ∧ hi = out b) ∧ (¬below → lo = out b ∧ hi = out a)) ∧
  (∀ (f : FFmt) (o : Form.C) (x : LaneIn) (a b : Nat) (y : LaneOut), (f = .f32 ∧ 0 < x.level ∧ a = x.n 0 ∧ b = x.n 1 ∧ y = laneFcmpF32 o x) ∨
      (f = .f64 ∧ a = pairCode x 0 ∧ b = pairCode x 2 ∧ y = laneFcmpF64 o x) → o.cc < 8 →
    (IsNan f a ∨ IsNan f b → ∃ e : Exc, y = { pred := some (o.cc == 1 || o.cc == 7), exc := e } ∧
      (((2 ≤ o.cc ∧ o.cc ≤ 5) ∨ Signals f a ∨ Signals f b) → e = 1) ∧ (¬((2 ≤ o.cc ∧ o.cc ≤ 5) ∨ Signals f a ∨ Signals f b) → e = 0)) ∧
    (¬IsNan f a → ¬IsNan f b → ∃ p, y = { pred := some p } ∧ (p = true ↔ match o.cc with
      | 0 => units f a = units f b | 1 => units f a ≠ units f b | 2 => units f a < units f b | 3 => units f a ≤ units f b
      | 4 => units f b < units f a | 5 => units f b ≤ units f a | 6 => True | _ => False))) ∧
  -- short f32 arithmetic
  (∀ x : LaneIn, 0 < x.level → IsFinite .f32 (x.n 0) → IsFinite .f32 (x.n 1) →
    (∃ r, SumOf .f32 .rne (operand .f32 0 (x.n 0)) (operand .f32 0 (x.n 1)) r ∧ laneFaddF32 x = gives .f32 r) ∧
    (∃ r, SumOf .f32 .rne (operand .f32 0 (x.n 0)) (operand .f32 1 (x.n 1)) r ∧ laneFsubF32 x = gives .f32 r) ∧
    (∃ r, ProductOf .f32 .rne (operand .f32 0 (x.n 0)) (operand .f32 0 (x.n 1)) r ∧ laneFmulF32 x = gives .f32 r) ∧
    (IsFinite .f32 (x.n 2) → ∃ r, FusedOf .f32 .rne (operand .f32 0 (x.n 0)) (operand .f32 0 (x.n 1)) (operand .f32 0 (x.n 2)) r ∧
      laneFfmaF32 x = gives .f32 r)) ∧
  -- long f32 arithmetic of two and three sources
  (∀ (x : LaneIn) (o : Form.Fp2) (m : Rnd) (a b : Int × Bool), 0 < x.level → IsFinite .f32 (x.n 0) → IsFinite .f32 (x.n 1) → modeOf o.rnd m →
      a = operand .f32 o.na (x.n 0) → b = operand .f32 o.nb (x.n 1) → o.na < 2 → o.nb < 2 →
    (∃ r, SumOf .f32 m a b r ∧ laneFaddF32Long o x = gives .f32 (saturated .f32 o.sat r.1, r.2)) ∧
    (∃ r, SumOf .f32 m a (-b.1, !b.2) r ∧ laneFsubF32Long o x = gives .f32 (saturated .f32 o.sat r.1, r.2)) ∧
    (∃ r, ProductOf .f32 m a b r ∧ laneFmulF32Long o x = gives .f32 (saturated .f32 o.sat r.1, r.2)) ∧
    (b.1 ≠ 0 → ∃ r, QuotientOf .f32 m a b r ∧ laneFdivF32 o x = gives .f32 (saturated .f32 o.sat r.1, r.2)) ∧
    (b.1 = 0 → a.1 ≠ 0 → laneFdivF32 o x = gives .f32 (saturated .f32 o.sat (infOf .f32 (a.2 != b.2)), 2)) ∧
    (b.1 = 0 → a.1 = 0 → laneFdivF32 o x = gives .f32 (0x7FC00000, 1))) ∧
  (∀ (x : LaneIn) (o : Form.Fp3) (m : Rnd), 0 < x.level → (∀ i < 3, IsFinite .f32 (x.n i)) → modeOf o.rnd m → o.na < 2 → o.nb < 2 → o.nc < 2 →
    ∃ r, FusedOf .f32 m (operand .f32 o.na (x.n 0)) (operand .f32 o.nb (x.n 1)) (operand .f32 o.nc (x.n 2)) r ∧
      laneFfmaF32Long o x = gives .f32 (saturated .f32 o.sat r.1, r.2)) ∧
  -- reciprocals and roots; a short form is the long one with no field set
  (∀ (x : LaneIn) (o : Form.Fp1) (m : Rnd) (a : Int × Bool), 0 < x.level → modeOf o.rnd m → o.na < 2 → a = operand .f32 o.na (x.n 0) →
    (IsFinite .f32 (x.n 0) → a.1 ≠ 0 → ∃ r, QuotientOf .f32 m (unitsOne .f32, false) a r ∧
      laneFrcpF32Long o x = gives .f32 (saturated .f32 o.sat r.1, r.2)) ∧
    (IsFinite .f32 (x.n 0) → a.1 = 0 → laneFrcpF32Long o x = gives .f32 (saturated .f32 o.sat (infOf .f32 a.2), 2) ∧
      laneFrsqF32Long o x = gives .f32 (saturated .f32 o.sat (infOf .f32 a.2), 2) ∧
      laneFsqrtF32Long o x = gives .f32 (if a.2 then 2 ^ 31 else 0, 0)) ∧
    (x.n 0 % 2 ^ 31 = infOf .f32 false → laneFrcpF32Long o x = gives .f32 (if a.2 then 2 ^ 31 else 0, 0)) ∧
    (x.n 0 % 2 ^ 31 = infOf .f32 false → a.2 = false → laneFrsqF32Long o x = gives .f32 (0, 0) ∧
      laneFsqrtF32Long o x = gives .f32 (saturated .f32 o.sat (infOf .f32 false), 0)) ∧
    (¬IsNan .f32 (x.n 0) → a.1 < 0 → laneFrsqF32Long o x = gives .f32 (0x7FC00000, 1) ∧ laneFsqrtF32Long o x = gives .f32 (0x7FC00000, 1)) ∧
    (IsFinite .f32 (x.n 0) → 0 < a.1 → (∃ r, RootOf .f32 m (a.1 * unitsOne .f32) 1 r ∧ laneFsqrtF32Long o x = gives .f32 r) ∧
      ∃ r, RootOf .f32 m ((unitsOne .f32 : Int) ^ 3) a.1 r ∧ laneFrsqF32Long o x = gives .f32 r)) ∧
  (∀ (x : LaneIn) (o : Form.Fp1), o.rnd = 0 → o.sat = 0 → o.na = 0 →
    laneFrcpF32 x = laneFrcpF32Long o x ∧ laneFrsqF32 x = laneFrsqF32Long o x ∧ laneFsqrtF32 x = laneFsqrtF32Long o x) ∧
  -- f64 arithmetic
  (∀ (x : LaneIn) (o : Form.Fp2) (m : Rnd) (a b : Int × Bool), IsFinite .f64 (pairCode x 0) → IsFinite .f64 (pairCode x 2) → modeOf o.rnd m →
      a = operand .f64 o.na (pairCode x 0) → b = operand .f64 o.nb (pairCode x 2) → o.na < 2 → o.nb < 2 →
    (∃ r, SumOf .f64 m a b r ∧ laneFaddF64 o x = givesPair (saturated .f64 o.sat r.1, r.2)) ∧
    (∃ r, ProductOf .f64 m a b r ∧ laneFmulF64 o x = givesPair (saturated .f64 o.sat r.1, r.2)) ∧
    (b.1 ≠ 0 → ∃ r, QuotientOf .f64 m a b r ∧ laneFdivF64 o x = givesPair (saturated .f64 o.sat r.1, r.2))) ∧
  (∀ (x : LaneIn) (o : Form.Fp3) (m : Rnd), (∀ i < 3, IsFinite .f64 (pairCode x (2 * i))) → modeOf o.rnd m → o.na < 2 → o.nb < 2 → o.nc < 2 →
    ∃ r, FusedOf .f64 m (operand .f64 o.na (pairCode x 0)) (operand .f64 o.nb (pairCode x 2)) (operand .f64 o.nc (pairCode x 4)) r ∧
      laneFfmaF64 o x = givesPair (saturated .f64 o.sat r.1, r.2)) ∧
  (∀ (x : LaneIn) (o : Form.Fp1) (m : Rnd) (a : Int × Bool), IsFinite .f64 (pairCode x 0) → modeOf o.rnd m → o.na < 2 → a = operand .f64 o.na (pairCode x 0) →
    0 < a.1 → ∃ r, RootOf .f64 m (a.1 * unitsOne .f64) 1 r ∧ laneFsqrtF64 o x = givesPair r) ∧
  -- packed arithmetic and dot products
  (∀ (f : FFmt) (t : Tag) (add mul : Form.Fp2 → LaneIn → LaneOut) (fma dot : Form.Fp3 → LaneIn → LaneOut) (least : Nat),
      (f = .f16 ∧ t = .f16x2 ∧ add = laneFaddF16x2 ∧ mul = laneFmulF16x2 ∧ fma = laneFfmaF16x2 ∧ dot = laneFdotF16x2 ∧ least = 1) ∨
      (f = .bf16 ∧ t = .bf16x2 ∧ add = laneFaddBf16x2 ∧ mul = laneFmulBf16x2 ∧ fma = laneFfmaBf16x2 ∧ dot = laneFdotBf16x2 ∧ least = 2) →
    (∀ (x : LaneIn) (o : Form.Fp2) (m : Rnd) (a b : Nat → Int × Bool), least ≤ x.level → modeOf o.rnd m → o.na < 2 → o.nb < 2 →
        (∀ i < 2, ∀ j < 2, IsFinite f (halfOf x j i)) → (a = fun i => operand f o.na (halfOf x 0 i)) → (b = fun i => operand f o.nb (halfOf x 1 i)) →
      (∃ r q, SumOf f m (a 0) (b 0) r ∧ SumOf f m (a 1) (b 1) q ∧
        add o x = givesLanes t (saturated f o.sat r.1, r.2) (saturated f o.sat q.1, q.2)) ∧
      ∃ r q, ProductOf f m (a 0) (b 0) r ∧ ProductOf f m (a 1) (b 1) q ∧
        mul o x = givesLanes t (saturated f o.sat r.1, r.2) (saturated f o.sat q.1, q.2)) ∧
    (∀ (x : LaneIn) (o : Form.Fp3) (m : Rnd) (a b : Nat → Int × Bool), least ≤ x.level → modeOf o.rnd m → o.na < 2 → o.nb < 2 → o.nc < 2 →
        (∀ i < 2, ∀ j < 2, IsFinite f (halfOf x j i)) → (a = fun i => operand f o.na (halfOf x 0 i)) → (b = fun i => operand f o.nb (halfOf x 1 i)) →
      ((∀ i < 2, IsFinite f (halfOf x 2 i)) → ∃ r q, FusedOf f m (a 0) (b 0) (operand f o.nc (halfOf x 2 0)) r ∧
        FusedOf f m (a 1) (b 1) (operand f o.nc (halfOf x 2 1)) q ∧ fma o x = givesLanes t (saturated f o.sat r.1, r.2) (saturated f o.sat q.1, q.2)) ∧
      (IsFinite .f32 (x.n 2) → ∃ r, Rounded .f32 m
          (((a 0).1 * (b 0).1 + (a 1).1 * (b 1).1) * unitsOne .f32 + (operand .f32 o.nc (x.n 2)).1 * unitsOne f ^ 2) (unitsOne f ^ 2)
          (if ((a 0).2 != (b 0).2) = ((a 1).2 != (b 1).2) ∧ ((a 0).2 != (b 0).2) = (operand .f32 o.nc (x.n 2)).2 then (operand .f32 o.nc (x.n 2)).2 else m == .rm) r ∧
        dot o x = gives .f32 (saturated .f32 o.sat r.1, r.2)))) ∧
  -- special operands
  (∀ (x : LaneIn) (o : Form.Fp2) (a b : Int × Bool), 0 < x.level → o.na < 2 → o.nb < 2 → a = operand .f32 o.na (x.n 0) → b = operand .f32 o.nb (x.n 1) →
    (∀ l ∈ [laneFaddF32Long o, laneFsubF32Long o, laneFmulF32Long o, laneFdivF32 o], ∀ e : Exc,
      ((Signals .f32 (x.n 0) ∨ Signals .f32 (x.n 1)) → e = 1) → (¬(Signals .f32 (x.n 0) ∨ Signals .f32 (x.n 1)) → e = 0) →
      (IsNan .f32 (x.n 0) → l x = gives .f32 (x.n 0 ||| 0x400000, e)) ∧
      (¬IsNan .f32 (x.n 0) → IsNan .f32 (x.n 1) → l x = gives .f32 (x.n 1 ||| 0x400000, e))) ∧
    (x.n 0 % 2 ^ 31 = infOf .f32 false → ¬IsNan .f32 (x.n 1) →
      (x.n 1 % 2 ^ 31 = infOf .f32 false → a.2 ≠ b.2 → laneFaddF32Long o x = gives .f32 (0x7FC00000, 1)) ∧
      (x.n 1 % 2 ^ 31 ≠ infOf .f32 false ∨ a.2 = b.2 → laneFaddF32Long o x = gives .f32 (saturated .f32 o.sat (infOf .f32 a.2), 0)) ∧
      (b.1 = 0 → laneFmulF32Long o x = gives .f32 (0x7FC00000, 1)) ∧
      (b.1 ≠ 0 → laneFmulF32Long o x = gives .f32 (saturated .f32 o.sat (infOf .f32 (a.2 != b.2)), 0)) ∧
      (x.n 1 % 2 ^ 31 = infOf .f32 false → laneFdivF32 o x = gives .f32 (0x7FC00000, 1)) ∧
      (x.n 1 % 2 ^ 31 ≠ infOf .f32 false → laneFdivF32 o x = gives .f32 (saturated .f32 o.sat (infOf .f32 (a.2 != b.2)), 0))) ∧
    (IsFinite .f32 (x.n 0) → x.n 1 % 2 ^ 31 = infOf .f32 false → laneFdivF32 o x = gives .f32 (if a.2 != b.2 then 2 ^ 31 else 0, 0))) ∧
  (∀ (x : LaneIn) (o : Form.Fp3), 0 < x.level → x.n 0 % 2 ^ 31 = infOf .f32 false → x.n 1 % 2 ^ 31 = 0 →
    (IsNan .f32 (x.n 2) → laneFfmaF32Long o x = gives .f32 (x.n 2 ||| 0x400000, 1)) ∧
    (¬IsNan .f32 (x.n 2) → laneFfmaF32Long o x = gives .f32 (0x7FC00000, 1))) ∧
  -- level 0 flushes f32 subnormals, and every NaN result is the canonical one
  (∀ x : LaneIn, x.level = 0 → ∀ l ∈ [laneFaddF32, laneFsubF32, laneFmulF32, laneFfmaF32], ∃ (w : Word) (e : Exc), l x = { regs := [⟨w, .f32⟩], exc := e } ∧
    (w.toNat / 2 ^ 23 % 2 ^ 8 = 0 → w.toNat % 2 ^ 23 = 0) ∧ (IsNan .f32 w.toNat → w = 0x7FC00000) ∧
    l { x with r := x.r.map fun t => if t.val.toNat / 2 ^ 23 % 2 ^ 8 = 0 then { t with val := t.val &&& 0x80000000 } else t } = l x) ∧
  -- what R166 fixes exactly
  (∀ (x : LaneIn) (n : Int), 0 < x.level → (units .f32 (x.n 0) = n * unitsOne .f32 → IsFinite .f32 (x.n 0) → -149 ≤ n → n < 128 →
      ∃ c, laneFexp2F32 x = gives .f32 (c, 0) ∧ IsFinite .f32 c ∧ units .f32 c = 2 ^ (n + 149).toNat) ∧
    (units .f32 (x.n 0) = n * unitsOne .f32 → IsFinite .f32 (x.n 0) → 128 ≤ n → laneFexp2F32 x = gives .f32 (infOf .f32 false, 0x14)) ∧
    (-149 ≤ n → n < 128 → units .f32 (x.n 0) = 2 ^ (n + 149).toNat → IsFinite .f32 (x.n 0) →
      ∃ c, laneFlog2F32 x = gives .f32 (c, 0) ∧ IsFinite .f32 c ∧ units .f32 c = n * unitsOne .f32)) ∧
  (∀ x : LaneIn, 0 < x.level →
    (x.n 0 = infOf .f32 true → laneFexp2F32 x = gives .f32 (0, 0)) ∧ (x.n 0 = infOf .f32 false → laneFexp2F32 x = gives .f32 (infOf .f32 false, 0)) ∧
    (x.n 0 % 2 ^ 31 = 0 → laneFlog2F32 x = gives .f32 (infOf .f32 true, 2) ∧ laneFsinF32 x = gives .f32 (x.n 0, 0) ∧
      laneFcosF32 x = gives .f32 (0x3F800000, 0)) ∧
    (units .f32 (x.n 0) < 0 → ¬IsNan .f32 (x.n 0) → laneFlog2F32 x = gives .f32 (0x7FC00000, 1)) ∧
    (x.n 0 = infOf .f32 false → laneFlog2F32 x = gives .f32 (infOf .f32 false, 0)) ∧
    (x.n 0 % 2 ^ 31 = infOf .f32 false → laneFsinF32 x = gives .f32 (0x7FC00000, 1) ∧ laneFcosF32 x = gives .f32 (0x7FC00000, 1))) ∧
  -- CVT of an integer
  (∀ (x : LaneIn) (o : Form.Cvt) (m : Rnd) (v : Int), modeOf o.rnd m →
      (([(x.w 0).toInt, (x.n 0 : Int), (BitVec.ofNat 64 (pairCode x 0)).toInt, (pairCode x 0 : Int), (BitVec.ofNat 16 (x.n 0)).toInt,
        ((x.n 0 % 2 ^ 16 : Nat) : Int), (BitVec.ofNat 8 (x.n 0)).toInt, ((x.n 0 % 2 ^ 8 : Nat) : Int)] : List Int)[o.sf]? = some v) →
    (∀ (f : FFmt) (t : Tag), (o.df, f, t) ∈ [(8, FFmt.f32, Tag.f32), (10, .f16, .f16x2), (11, .bf16, .bf16x2)] →
      ∃ r, Rounded f m (v * unitsOne f) 1 false r ∧ laneCvt o x = gives t (saturated f o.sat r.1, r.2)) ∧
    (o.df = 9 → ∃ r, Rounded .f64 m (v * unitsOne .f64) 1 false r ∧ laneCvt o x = givesPair (saturated .f64 o.sat r.1, r.2)) ∧
    (∀ (lo hi : Int) (n : Nat) (t : Tag), (o.df, lo, hi, n, t) ∈ [(0, -2 ^ 31, 2 ^ 31 - 1, 32, Tag.i32), (1, 0, 2 ^ 32 - 1, 32, .n32),
        (4, -2 ^ 15, 2 ^ 15 - 1, 16, .i32), (5, 0, 2 ^ 16 - 1, 16, .n32), (6, -2 ^ 7, 2 ^ 7 - 1, 8, .i32), (7, 0, 2 ^ 8 - 1, 8, .n32)] →
      (o.sat = 1 → laneCvt o x = { regs := [⟨BitVec.ofInt 32 (max lo (min hi v)), t⟩] }) ∧
      (o.sat = 0 → ∃ k : Int, lo ≤ k ∧ k ≤ hi ∧ (k - v) % 2 ^ n = 0 ∧ laneCvt o x = { regs := [⟨BitVec.ofInt 32 k, t⟩] }))) ∧
  -- CVT of an IEEE value
  (∀ (x : LaneIn) (o : Form.Cvt) (m : Rnd) (f : FFmt) (c : Nat), 2 ≤ x.level → modeOf o.rnd m →
      (o.sf, f, c) ∈ [(8, FFmt.f32, x.n 0), (9, .f64, pairCode x 0), (10, .f16, halfOf x 0 0), (11, .bf16, halfOf x 0 0)] → IsFinite f c →
    (∀ (g : FFmt) (t : Tag), (o.df, g, t) ∈ [(8, FFmt.f32, Tag.f32), (10, .f16, .f16x2), (11, .bf16, .bf16x2)] →
      ∃ r, Rounded g m (units f c * unitsOne g) (unitsOne f) (signOf f c) r ∧ laneCvt o x = gives t (saturated g o.sat r.1, r.2)) ∧
    (o.df = 9 → ∃ r, Rounded .f64 m (units f c * unitsOne .f64) (unitsOne f) (signOf f c) r ∧ laneCvt o x = givesPair (saturated .f64 o.sat r.1, r.2)) ∧
    (∀ (lo hi k : Int) (t : Tag), (o.df, lo, hi, t) ∈ [(0, -2 ^ 31, 2 ^ 31 - 1, Tag.i32), (1, 0, 2 ^ 32 - 1, .n32),
        (4, -2 ^ 15, 2 ^ 15 - 1, .i32), (5, 0, 2 ^ 16 - 1, .n32), (6, -2 ^ 7, 2 ^ 7 - 1, .i32), (7, 0, 2 ^ 8 - 1, .n32)] →
        RoundsInt m (units f c) (unitsOne f) k →
      (lo ≤ k → k ≤ hi → laneCvt o x = { regs := [⟨BitVec.ofInt 32 k, t⟩], exc := if k * unitsOne f = units f c then 0 else 0x10 }) ∧
      (k < lo → laneCvt o x = { regs := [⟨BitVec.ofInt 32 lo, t⟩], exc := 0x11 }) ∧
      (hi < k → laneCvt o x = { regs := [⟨BitVec.ofInt 32 hi, t⟩], exc := 0x11 })) ∧
    (∀ (w : Nat) (t : Tag), (o.df, w, t) ∈ [(12, 7, Tag.tf8x4), (13, 5, .tf6x5)] →
      (units f c = 0 → laneCvt o x = gives t (0, 0)) ∧
      (units f c ≠ 0 → ∃ k e, Tapers w x.level m (signOf f c) ((units f c).natAbs * 2 ^ 64) (unitsOne f) k e ∧
        laneCvt o x = gives t (if k = 0 then 0 else (if signOf f c then 2 ^ w else 0) + k, e)))) ∧
  (∀ (x : LaneIn) (o : Form.Cvt) (f : FFmt) (c : Nat), 2 ≤ x.level →
      (o.sf, f, c) ∈ [(8, FFmt.f32, x.n 0), (9, .f64, pairCode x 0), (10, .f16, halfOf x 0 0), (11, .bf16, halfOf x 0 0)] →
    (IsNan f c → ((o.df = 0 → laneCvt o x = gives .i32 (0, 1)) ∧ (o.df = 12 → laneCvt o x = gives .tf8x4 (0x80, 1)) ∧
      (o.df = 13 → laneCvt o x = gives .tf6x5 (0x20, 1)))) ∧
    (c % 2 ^ (ebits f + fbits f) = infOf f false → (o.df = 0 → laneCvt o x = gives .i32 (if signOf f c then 2 ^ 31 else 2 ^ 31 - 1, 0x11)) ∧
      (o.df = 12 → laneCvt o x = gives .tf8x4 (if signOf f c then 0xFF else 0x7F, 0x10)) ∧
      (o.df = 13 → laneCvt o x = gives .tf6x5 (if signOf f c then 0x3F else 0x1F, 0x10)))) ∧
  -- PACK and SCALE
  (∀ (x : LaneIn) (f : FFmt) (t : Tag) (y : LaneOut) (least : Nat),
      (f = .f16 ∧ t = .f16x2 ∧ y = lanePackF16 x ∧ least = 1) ∨ (f = .bf16 ∧ t = .bf16x2 ∧ y = lanePackBf16 x ∧ least = 2) →
      least ≤ x.level → IsFinite .f32 (x.n 0) → IsFinite .f32 (x.n 1) →
    ∃ r q, Rounded f .rne (units .f32 (x.n 0) * unitsOne f) (unitsOne .f32) (signOf .f32 (x.n 0)) r ∧
      Rounded f .rne (units .f32 (x.n 1) * unitsOne f) (unitsOne .f32) (signOf .f32 (x.n 1)) q ∧ y = givesLanes t r q) ∧
  (∀ (x : LaneIn) (w : Nat) (t : Tag) (y : LaneOut) (old : Nat) (s : Bool) (k E : Nat) (e : Exc),
      (w = 7 ∧ t = .tf8x4 ∧ y = lanePackTf8 x ∧ old = x.n 2 / 2 ^ 8) ∨ (w = 5 ∧ t = .tf6x5 ∧ y = lanePackTf6 x ∧ old = x.n 2 % 2 ^ 30 / 2 ^ 6) →
      E = x.n 1 % 2 ^ 8 → s = signOf .f32 (x.n 0) →
    (E = 0xFF → y = gives t (old + 2 ^ w * 2 ^ 24, 0x40)) ∧ (E ≠ 0xFF → IsNan .f32 (x.n 0) → y = gives t (old + 2 ^ w * 2 ^ 24, 1)) ∧
    (E ≠ 0xFF → x.n 0 % 2 ^ 31 = 0 → y = gives t (old, 0)) ∧
    (E ≠ 0xFF → 0 < x.level → IsFinite .f32 (x.n 0) → units .f32 (x.n 0) ≠ 0 →
      Tapers w x.level .rne s ((units .f32 (x.n 0)).natAbs * 2 ^ 191) (unitsOne .f32 * 2 ^ E) k e →
      y = gives t (old + (if k = 0 then 0 else (if s then 2 ^ w else 0) + k) * 2 ^ 24, e))) ∧
  (∀ x : LaneIn, (x.n 1 % 2 ^ 8 = 0xFF → laneScale x = gives .f32 (0x7FC00000, 0x40)) ∧
    (x.n 1 % 2 ^ 8 ≠ 0xFF → 0 < x.level → IsFinite .f32 (x.n 0) →
      ∃ r, Rounded .f32 .rne (units .f32 (x.n 0) * 2 ^ (x.n 1 % 2 ^ 8)) (2 ^ 127) (signOf .f32 (x.n 0)) r ∧ laneScale x = gives .f32 r)) ∧
  -- UNPK
  (∀ (x : LaneIn) (o : Form.DAI) (w c : Nat) (y : LaneOut), (w = 7 ∧ y = laneUnpkTf8 o x ∧ c = x.n 0 / 2 ^ (8 * o.imm) % 2 ^ 8) ∨
      (w = 5 ∧ y = laneUnpkTf6 o x ∧ c = x.n 0 / 2 ^ (6 * o.imm) % 2 ^ 6) →
    (c = 2 ^ w → y = gives .f32 (0x7FC00000, 0x40)) ∧
    (c ≠ 2 ^ w → ∃ k, y = gives .f32 (k, 0) ∧ IsFinite .f32 k ∧ signOf .f32 k = decide (2 ^ w < c) ∧
      (units .f32 k).natAbs * 2 ^ 64 = taperedUnits w (c % 2 ^ w) * unitsOne .f32)) ∧
  (∀ (x : LaneIn) (o : Form.DAI) (f : FFmt) (y : LaneOut) (least : Nat),
      (f = .f16 ∧ y = laneUnpkF16 o x ∧ least = 1) ∨ (f = .bf16 ∧ y = laneUnpkBf16 o x ∧ least = 2) → least ≤ x.level →
      IsFinite f (halfOf x 0 o.imm) →
    ∃ k, y = gives .f32 (k, 0) ∧ IsFinite .f32 k ∧ signOf .f32 k = signOf f (halfOf x 0 o.imm) ∧
      units .f32 k * unitsOne f = units f (halfOf x 0 o.imm) * unitsOne .f32)

/-- R181, R182, R183, R193, R278, R284, R286, R189: a load, store, atomic, reduction, acquire load, release store, MWAIT or
PGREQ of virtual memory whose addresses pass the checks takes the lowest free entry of its class, with one access for each
guard-true fibre at the address that the fibre forms; its fibres go on (those of an MWAIT wait), no register and no memory has
changed yet. Of a store's accesses to one address only the highest-numbered fibre's is made, of a PGREQ's to one page only the
lowest-numbered one's; a mirror twin sends none that its primary makes, and its core keeps no copy of their words (log 22). R263: the words of a synchronising access leave the core's L1
now. With no guard true it only goes on. R181: the address is the pair A plus the signed offset; a fault of the checks at issue is
PROTECTION for a non-canonical address, else ALIGNMENT for one that is not aligned to the access, and the wave takes the lowest cause
among its fibres with no effect of the instruction. A 128-bit access is one access in the model (log 29). -/
def Obligations.MemoryInstructionsIssue : Prop :=
  (∀ (i : Instr) (m : MemForm) (s : State) (c : Issue) (G : Group) (W : Wave),
  memForm i = some m → m.space = .virt → Goes i s c G W →
  (acting i c W = [] → exec i s = .next (s.setWave c (W.advance c))) ∧
  (acting i c W ≠ [] → (∀ f ∈ acting i c W, s.addrFault c.grp G .virt (m.ea W f).toNat m.size = none) →
  ∃ slot e V, (opndsOf i).entry.bind W.freeEntry = some slot ∧
    exec i s = .next (if twinSilent i G || m.act.synchronises then
      e.accs.foldl (fun t a => t.forget G a.va.toNat m.size) (s.setWave c V) else s.setWave c V) ∧
    tabGet V.sb slot = some e ∧ e.instr = i ∧ e.pc = c.pc ∧ e.age = W.nextAge ∧ e.accs.map (·.fib) = acting i c W ∧
    (∀ a ∈ e.accs, a.va = m.ea W a.fib ∧ a.data = W.accData (opndsOf i) a.fib ∧
      a.st = if (m.act.stores && (acting i c W).any fun h => decide (a.fib < h) && m.ea W h == m.ea W a.fib) ||
          (m.act == .pgreq && (acting i c W).any fun h => decide (h < a.fib) &&
            s.pageKey G.asid (m.ea W h).toNat == s.pageKey G.asid (m.ea W a.fib).toNat)
        then .done else if twinSilent i G then .sent else .unsent) ∧
    (∀ k, k ≠ slot → tabGet V.sb k = tabGet W.sb k) ∧ V.ks = W.ks ∧ V.masks = W.masks ∧
    ∀ f, V.fib f = fibAfter i c W (fun _ F => if m.act = .mwait then { F with wait := .mwait slot } else F) f)) ∧
  (∀ (i : Instr) (m : MemForm) (s : State) (c : Issue) (G : Group) (W : Wave), memForm i = some m → m.space = .virt →
  (∀ f, m.ea W f = W.readPair f m.a + BitVec.ofInt 64 (sx m.off 32)) ∧
  (∀ va size, canonical va = false → s.addrFault c.grp G .virt va size = some 0x11) ∧
  (∀ va size, canonical va = true → va % size ≠ 0 → s.addrFault c.grp G .virt va size = some 0x12) ∧
  (Goes i s c G W → ∀ f cause, f ∈ acting i c W → s.addrFault c.grp G .virt (m.ea W f).toNat m.size = some cause →
    (∀ h ∈ acting i c W, ∀ k, s.addrFault c.grp G .virt (m.ea W h).toNat m.size = some k → cause ≤ k) →
    ∃ r, r.cause = cause ∧ r.fmask.getLsbD f = true ∧
      exec i s = .next (s.takeFault c r false (maskOf (acting i c W)) .none)))

/-- R190, R193: a store to the group's own scratchpad within its reach (STS, or STNW of the group's own slot) writes its words
at once and leaves no entry; where fibres name one address the highest-numbered one's data stand there; every other word of the
scratchpad and all of memory stay. An access whose fibre has no older access outstanding is performed at
once, and so are these. R190: a load of the group's own scratchpad within its reach (LDS, or LDNW of the group's own
slot) takes a load entry, and the words go to each guard-true fibre by a message; nothing is written. R191, R193: an access
through the quad window reaches the scratchpad of the group that holds its bytes in the core named: a store's words are there at
once, a load's words go to each guard-true fibre by a message. The twin of a mirror group writes its own scratchpad too, and stores
nothing through a window into another group's (log 30). That a quad-window access is performed at its own issue is log 67. R194: an access to bytes that an older scratchpad or window access of its fibre has
still to reach, because it has not left or travels through a mailbox, waits in its entry and touches nothing yet. R193, R295: an access to another group's slot takes its entry and waits to be sent to its mailbox slice.
With no guard true each of these only goes on; a fault of the checks at issue parks the wave, and no word is written. -/
def Obligations.ScratchpadAccesses : Prop :=
  (∀ (i : Instr) (m : MemForm) (s : State) (c : Issue) (G : Group) (W : Wave) (off : Nat → Nat),
  memForm i = some m → m.act.stores = true → Goes i s c G W → tabSorted G.scratch = true → acting i c W ≠ [] →
  (∀ f ∈ acting i c W, s.addrFault c.grp G m.space (m.ea W f).toNat m.size = none ∧ W.olderWaits W.nextAge f = []) →
  ((m.space = .own ∧ ∀ f, off f = (m.ea W f).toNat) ∨
    (m.space = .neigh ∧ (∀ f ∈ acting i c W, (m.ea W f).toNat / 2 ^ 24 % 32 = G.nslot) ∧ ∀ f, off f = (m.ea W f).toNat % 2 ^ 21)) →
  ∃ t H V, exec i s = .next t ∧ t.group c.grp = some H ∧ tabGet H.waves c.wave = some V ∧
    (∀ f ∈ acting i c W, (∀ h ∈ acting i c W, f < h → m.ea W h ≠ m.ea W f) →
      ∀ k < m.size / 4, tabVal 0 H.scratch (off f / 4 + k) = (W.accData (opndsOf i) f).getD k 0) ∧
    (∀ n, (∀ f ∈ acting i c W, n < off f / 4 ∨ off f / 4 + (W.accData (opndsOf i) f).length ≤ n) →
      tabVal 0 H.scratch n = tabVal 0 G.scratch n) ∧
    (∀ k, tabGet V.sb k = tabGet W.sb k) ∧ (∀ f, V.fib f = fibAfter i c W (fun _ F => F) f) ∧ V.ks = W.ks ∧
    (∀ g, g ≠ c.grp → t.group g = s.group g) ∧ t.mem = s.mem ∧ t.slices = s.slices ∧ t.msgs = s.msgs) ∧
  (∀ (i : Instr) (m : MemForm) (s : State) (c : Issue) (G : Group) (W : Wave) (off : Nat → Nat),
  memForm i = some m → m.act.stores = false → Goes i s c G W → acting i c W ≠ [] →
  (∀ f ∈ acting i c W, s.addrFault c.grp G m.space (m.ea W f).toNat m.size = none ∧ W.olderWaits W.nextAge f = []) →
  ((m.space = .own ∧ ∀ f, off f = (m.ea W f).toNat) ∨
    (m.space = .neigh ∧ (∀ f ∈ acting i c W, (m.ea W f).toNat / 2 ^ 24 % 32 = G.nslot) ∧ ∀ f, off f = (m.ea W f).toNat % 2 ^ 21)) →
  ∃ t slot e V, exec i s = .next t ∧ (opndsOf i).entry.bind W.freeEntry = some slot ∧ t.wave c.grp c.wave = some V ∧
    tabGet V.sb slot = some e ∧ e.instr = i ∧ e.accs.map (·.fib) = acting i c W ∧ (∀ a ∈ e.accs, a.st = .sent) ∧
    t.msgs = s.msgs ++ (acting i c W).map (fun f =>
      { core := G.coreNo, grp := c.grp, wave := c.wave, slot := slot, fib := f, asid := G.asid,
        line := (m.ea W f).toNat % 2 ^ 56 / 64, body := .data (lineBytes (G.scrWords (off f) (m.size / 4))) none false }) ∧
    (∀ f, V.fib f = fibAfter i c W (fun _ F => F) f) ∧ V.ks = W.ks ∧ t.mem = s.mem ∧ t.slices = s.slices ∧
    (∀ g, g ≠ c.grp → t.group g = s.group g)) ∧
  (∀ (i : Instr) (m : MemForm) (s : State) (c : Issue) (G : Group) (W : Wave) (h : Nat → Nat) (H : Nat → Group),
  memForm i = some m → m.space = .quad → Goes i s c G W → twinSilent i G = false → acting i c W ≠ [] →
  (∀ f ∈ acting i c W, s.addrFault c.grp G .quad (m.ea W f).toNat m.size = none ∧ W.olderWaits W.nextAge f = [] ∧
    s.quadHolder c.grp G (quadTarget G (m.ea W f).toNat) ((m.ea W f).toNat % 2 ^ 21) m.size = some (h f, H f) ∧
    s.group (h f) = some (H f) ∧ tabSorted (H f).scratch = true) →
  (m.act.stores = true → ∃ t, exec i s = .next t ∧ t.mem = s.mem ∧ t.slices = s.slices ∧
    (∀ f ∈ acting i c W, (∀ k ∈ acting i c W, f < k → m.ea W k ≠ m.ea W f) → ∃ T, t.group (h f) = some T ∧
      ∀ k < m.size / 4, tabVal 0 T.scratch (((m.ea W f).toNat % 2 ^ 21 - (H f).scrBase) / 4 + k) = (W.accData (opndsOf i) f).getD k 0) ∧
    ∀ g, (∀ f ∈ acting i c W, g ≠ h f) → g ≠ c.grp → t.group g = s.group g) ∧
  (m.act.stores = false → ∃ t slot, exec i s = .next t ∧ (opndsOf i).entry.bind W.freeEntry = some slot ∧ t.mem = s.mem ∧
    t.msgs = s.msgs ++ (acting i c W).map (fun f =>
      { core := G.coreNo, grp := c.grp, wave := c.wave, slot := slot, fib := f, asid := G.asid,
        line := (m.ea W f).toNat % 2 ^ 56 / 64,
        body := .data (lineBytes ((H f).scrWords ((m.ea W f).toNat % 2 ^ 21 - (H f).scrBase) (m.size / 4))) none false }) ∧
    ∀ g, g ≠ c.grp → t.group g = s.group g)) ∧
  (∀ (i : Instr) (m : MemForm) (s : State) (c : Issue) (G : Group) (W : Wave) (f : Nat) (p : Nat × Nat) (o : Entry × Acc) (h : MemForm)
    (q : Nat × Nat),
  memForm i = some m → m.space ≠ .virt → Goes i s c G W → acting i c W = [f] →
  s.addrFault c.grp G m.space (m.ea W f).toNat m.size = none → s.scrPlace c.grp G m (m.ea W f).toNat = some p →
  o ∈ W.olderWaits W.nextAge f → memForm o.1.instr = some h → (o.2.st ≠ .sent ∨ s.scrTarget c.grp G h o.2.va.toNat = none) → s.scrPlace c.grp G h o.2.va.toNat = some q →
  q.1 = p.1 → q.2 < p.2 + m.size → p.2 < q.2 + h.size →
  ∃ slot e V, exec i s = .next (s.setWave c V) ∧ (opndsOf i).entry.bind W.freeEntry = some slot ∧ tabGet V.sb slot = some e ∧
    e.instr = i ∧ e.accs.map (·.fib) = [f] ∧ (∀ a ∈ e.accs, a.va = m.ea W f) ∧ (∀ g, V.fib g = fibAfter i c W (fun _ F => F) g) ∧
    V.ks = W.ks) ∧
  (∀ (i : Instr) (m : MemForm) (s : State) (c : Issue) (G : Group) (W : Wave), memForm i = some m → m.space ≠ .virt → Goes i s c G W →
  (acting i c W = [] → exec i s = .next (s.setWave c (W.advance c))) ∧
  (acting i c W ≠ [] → m.space = .neigh →
    (∀ f ∈ acting i c W, s.addrFault c.grp G .neigh (m.ea W f).toNat m.size = none ∧ (m.ea W f).toNat / 2 ^ 24 % 32 ≠ G.nslot) →
    ∃ slot e V, exec i s = .next (s.setWave c V) ∧ (opndsOf i).entry.bind W.freeEntry = some slot ∧ tabGet V.sb slot = some e ∧
      e.instr = i ∧ e.pc = c.pc ∧ e.accs.map (·.fib) = acting i c W ∧ (∀ a ∈ e.accs, a.va = m.ea W a.fib ∧
        a.data = W.accData (opndsOf i) a.fib ∧
        a.st = if m.act.stores && (acting i c W).any (fun h => decide (a.fib < h) && m.ea W h == m.ea W a.fib) then .done
          else if twinSilent i G then .sent else .unsent) ∧
      (∀ k, k ≠ slot → tabGet V.sb k = tabGet W.sb k) ∧ (∀ f, V.fib f = fibAfter i c W (fun _ F => F) f) ∧ V.ks = W.ks ∧
      V.masks = W.masks) ∧
  (∀ f cause, f ∈ acting i c W → s.addrFault c.grp G m.space (m.ea W f).toNat m.size = some cause →
    (∀ h ∈ acting i c W, ∀ k, s.addrFault c.grp G m.space (m.ea W h).toNat m.size = some k → cause ≤ k) →
    ∃ r, r.cause = cause ∧ r.fmask.getLsbD f = true ∧
      exec i s = .next (s.takeFault c r false (maskOf (acting i c W)) .none)))

/-- R200, R204, R207: a copy instruction that passes R208 takes a copy entry and starts one copy for each guard-true fibre, in
ascending order at the end of the queue it names, with the fibre's own source, destination and length, a mirror twin none of its
own; its tag counts them and reads 0; no byte has moved yet. With no guard true it only goes on. R208: a
non-canonical global address is PROTECTION, else a length or a side that is no multiple of 4 ALIGNMENT, else a scratchpad side beyond
the group's scratchpad SCRATCH_RANGE: the wave takes the lowest cause among its fibres, or ILLEGAL_OPERAND for a barrier that it may not
use, and no copy starts. R211, R212: CPFENCE
puts a fence behind the last copy of each queue that it names, once for its bundle; TFIRST gives each guard-true fibre in ascending
order the lowest done tag of its mask and clears it, or 0xFFFF_FFFF, and a tag found is an acquire. That a
mirror twin's CPFENCE puts no fence of its own is log 30. -/
def Obligations.CopyInstructionsIssue : Prop :=
  (∀ (i : Instr) (k : CopyForm) (s : State) (c : Issue) (G : Group) (W : Wave),
  ((∃ o, i = .cpg2s o ∧ k = .short 0xB0 o) ∨ (∃ o, i = .cpg2sExt o ∧ k = .long 0xB0 o) ∨ (∃ o, i = .cps2g o ∧ k = .short 0xB1 o) ∨
    (∃ o, i = .cps2gExt o ∧ k = .long 0xB1 o) ∨ (∃ o, i = .cpx o ∧ k = .short 0xB2 o) ∨ (∃ o, i = .cpxExt o ∧ k = .long 0xB2 o)) →
  Goes i s c G W → (acting i c W = [] → exec i s = .next (s.setWave c (W.advance c))) ∧
  (acting i c W ≠ [] → (∀ f ∈ acting i c W, copyFault G k.op (k.args W f) = none) →
  (∀ b, k.bar = some b → s.barrierOk G b.1 b.2 false = true) →
  ∃ t slot H V e, exec i s = .next t ∧ W.freeEntry .copy = some slot ∧ t.group c.grp = some H ∧ tabGet H.waves c.wave = some V ∧
    tabGet V.sb slot = some e ∧ e.instr = i ∧ e.accs.map (·.fib) = acting i c W ∧
    (∀ f, V.fib f = fibAfter i c W (fun _ F => F) f) ∧ V.ks = W.ks ∧
    tabGet H.tags k.tag = some { count := ((tabGet G.tags k.tag).map (·.count)).getD 0 + (acting i c W).length, done := false, fail := false, recent := false, recentFail := false } ∧
    (∀ n, n ≠ k.tag → tabGet H.tags n = tabGet G.tags n) ∧ (G.isTwin = true → t.eng = s.eng) ∧
    (G.isTwin = false → tabVal [] (t.copyEng G.coreNo).queues k.queue = tabVal [] (s.copyEng G.coreNo).queues k.queue ++
      (List.range (acting i c W).length).map (fun j => .copy (s.eng.nextCopy + j)) ∧
    (∀ j f, (acting i c W)[j]? = some f → ∃ x, tabGet (t.copyEng G.coreNo).copies (s.eng.nextCopy + j) = some x ∧
      x.owner = .wave c.grp c.wave slot f ∧ x.op = k.op ∧ x.tag = k.tag ∧ x.bar = k.bar ∧ x.begun = false ∧
      x.src = (k.args W f).src ∧ x.dst = (k.args W f).dst ∧ x.len = (k.args W f).len)) ∧
    (∀ g, g ≠ c.grp → t.group g = s.group g) ∧ t.mem = s.mem ∧ t.slices = s.slices)) ∧
  ((∀ (G : Group) (op : Nat) (x : CopyArgs) (globals scr : List Nat),
    ((op = 0xB0 ∧ globals = [x.src] ∧ scr = [x.dst]) ∨ (op = 0xB1 ∧ globals = [x.dst] ∧ scr = [x.src]) ∨
      (op = 0xB2 ∧ globals = [x.src, x.dst] ∧ scr = [])) →
    (copyFault G op x = some 0x11 ↔ ∃ a ∈ globals, canonical a = false) ∧
    (copyFault G op x = some 0x12 ↔ (∀ a ∈ globals, canonical a = true) ∧ (x.len % 4 ≠ 0 ∨ x.src % 4 ≠ 0 ∨ x.dst % 4 ≠ 0)) ∧
    (copyFault G op x = some 0x13 ↔ (∀ a ∈ globals, canonical a = true) ∧ x.len % 4 = 0 ∧ x.src % 4 = 0 ∧ x.dst % 4 = 0 ∧
      ∃ a ∈ scr, (G.hdr.scratch + 1023) / 1024 * 1024 < a + x.len) ∧
    (copyFault G op x = none ↔ (∀ a ∈ globals, canonical a = true) ∧ x.len % 4 = 0 ∧ x.src % 4 = 0 ∧ x.dst % 4 = 0 ∧
      ∀ a ∈ scr, a + x.len ≤ (G.hdr.scratch + 1023) / 1024 * 1024)) ∧
  (∀ (i : Instr) (k : CopyForm) (s : State) (c : Issue) (G : Group) (W : Wave) (b : Nat × Nat),
    ((∃ o, i = .cpg2sExt o ∧ k = .long 0xB0 o) ∨ (∃ o, i = .cps2gExt o ∧ k = .long 0xB1 o) ∨ (∃ o, i = .cpxExt o ∧ k = .long 0xB2 o)) →
    k.bar = some b → s.barrierOk G b.1 b.2 false = false → Goes i s c G W → acting i c W ≠ [] →
    exec i s = .next (s.takeFault c { cause := 0x07, fmask := maskOf (acting i c W) } false (maskOf (acting i c W)) .none)) ∧
  (∀ (i : Instr) (k : CopyForm) (s : State) (c : Issue) (G : Group) (W : Wave) (f cause : Nat),
    ((∃ o, i = .cpg2s o ∧ k = .short 0xB0 o) ∨ (∃ o, i = .cpg2sExt o ∧ k = .long 0xB0 o) ∨ (∃ o, i = .cps2g o ∧ k = .short 0xB1 o) ∨
      (∃ o, i = .cps2gExt o ∧ k = .long 0xB1 o) ∨ (∃ o, i = .cpx o ∧ k = .short 0xB2 o) ∨ (∃ o, i = .cpxExt o ∧ k = .long 0xB2 o)) →
    (∀ b, k.bar = some b → s.barrierOk G b.1 b.2 false = true) → Goes i s c G W → f ∈ acting i c W → copyFault G k.op (k.args W f) = some cause →
    (∀ h ∈ acting i c W, ∀ n, copyFault G k.op (k.args W h) = some n → cause ≤ n) →
    ∃ r, r.cause = cause ∧ exec i s = .next (s.takeFault c r false (maskOf (acting i c W)) .none))) ∧
  (∀ (s : State) (c : Issue) (G : Group) (W : Wave),
  (∀ o, Goes (.cpfence o) s c G W → (acting (.cpfence o) c W = [] ∨ G.isTwin = true) →
    exec (.cpfence o) s = .next (s.setWave c (W.advance c))) ∧
  (∀ o, Goes (.cpfence o) s c G W → G.isTwin = false → acting (.cpfence o) c W ≠ [] →
    ∃ t ahead, exec (.cpfence o) s = .next t ∧ t.wave c.grp c.wave = some (W.advance c) ∧ t.mem = s.mem ∧
      (t.copyEng G.coreNo).copies = (s.copyEng G.coreNo).copies ∧
      (∀ q < 4, o.qm.testBit q = true →
        tabVal [] (t.copyEng G.coreNo).queues q = tabVal [] (s.copyEng G.coreNo).queues q ++ [.fence ahead]) ∧
      (∀ q, q < 4 → o.qm.testBit q = false →
        tabVal [] (t.copyEng G.coreNo).queues q = tabVal [] (s.copyEng G.coreNo).queues q) ∧
      ∀ id, id ∈ ahead ↔ ∃ q < 4, o.qm.testBit q = true ∧ .copy id ∈ tabVal [] (s.copyEng G.coreNo).queues q) ∧
  (∀ o, Goes (.tfirst o) s c G W → ∃ (V : Wave) (val : Nat → Nat) (ts : Nat → Tab HeldTag),
    WritesRegs (.tfirst o) c W V [o.d] (fun f => [⟨BitVec.ofNat 32 (val f), .n32⟩]) ∧ keepsPreds W V ∧ ts 0 = G.tags ∧
    (∀ j f, (acting (.tfirst o) c W)[j]? = some f →
      ((∀ n < 64, (Group.ctags { G with tags := ts j } &&& (W.readPair f o.a).toNat).testBit n = false) →
        val f = 0xFFFFFFFF ∧ ts (j + 1) = ts j) ∧
      ∀ n < 64, (Group.ctags { G with tags := ts j } &&& (W.readPair f o.a).toNat).testBit n = true →
        (∀ h < n, (Group.ctags { G with tags := ts j } &&& (W.readPair f o.a).toNat).testBit h = false) →
        val f = n ∧ ts (j + 1) = clearTags true (2 ^ n) (ts j)) ∧
    ((∀ f ∈ acting (.tfirst o) c W, val f = 0xFFFFFFFF) → exec (.tfirst o) s =
      .next ((s.setWave c V).modGroup c.grp fun H => { H with tags := ts (acting (.tfirst o) c W).length })) ∧
    ((∃ f ∈ acting (.tfirst o) c W, val f ≠ 0xFFFFFFFF) → exec (.tfirst o) s =
      .next (((s.setWave c V).modGroup c.grp fun H => { H with tags := ts (acting (.tfirst o) c W).length }).acquire G.coreNo))))

/-- R222, R228: MXGO reserves one pass for each guard-true fibre, in ascending order, on its quad's engine, with the words of the
fibre's parameter block as they stand, a mirror twin none of its own; the instruction holds one tile-operation entry. More than eight
guard-true fibres, or a block that R228 refuses, park the wave with the lowest cause and reserve nothing. R246, R247, R248, R249: the
other tile operations take a tile-operation entry with the words that they will need; MXHIST also joins its quad's histogram queue; an
index, a mask or a block out of range parks the wave. Tiles and registers change when the operation completes, not now. With no guard
true each of them only goes on. -/
def Obligations.TileInstructionsIssue : Prop :=
  (∀ (s : State) (c : Issue) (G : Group) (W : Wave) (o : Form.A1), Goes (.mxgo o) s c G W →
  (acting (.mxgo o) c W = [] → exec (.mxgo o) s = .next (s.setWave c (W.advance c))) ∧
  (8 < (acting (.mxgo o) c W).length → exec (.mxgo o) s = .next (s.takeFault c
    { cause := 0x07, fmask := maskOf (acting (.mxgo o) c W) } false (maskOf (acting (.mxgo o) c W)) .none)) ∧
  (∀ f cause, (acting (.mxgo o) c W).length ≤ 8 → f ∈ acting (.mxgo o) c W → s.mxgoFault c.grp G W o.a f = some cause →
    (∀ h ∈ acting (.mxgo o) c W, ∀ n, s.mxgoFault c.grp G W o.a h = some n → cause ≤ n) →
    ∃ r, r.cause = cause ∧ exec (.mxgo o) s = .next (s.takeFault c r false (maskOf (acting (.mxgo o) c W)) .none)) ∧
  (acting (.mxgo o) c W ≠ [] → (acting (.mxgo o) c W).length ≤ 8 →
  (∀ f ∈ acting (.mxgo o) c W, s.mxgoFault c.grp G W o.a f = none) →
  (s.matrix (quadOf G.coreNo)).entries.length + (acting (.mxgo o) c W).length ≤ 64 →
  ∃ t slot e V, exec (.mxgo o) s = .next t ∧ W.freeEntry .tile = some slot ∧ t.wave c.grp c.wave = some V ∧
    tabGet V.sb slot = some e ∧ e.instr = .mxgo o ∧ e.accs.map (·.fib) = acting (.mxgo o) c W ∧
    (∀ k, k ≠ slot → tabGet V.sb k = tabGet W.sb k) ∧ V.ks = W.ks ∧ V.masks = W.masks ∧
    (∀ f, V.fib f = fibAfter (.mxgo o) c W (fun _ F => F) f) ∧ (G.isTwin = true → t.eng = s.eng) ∧
    (G.isTwin = false → t.eng.nextPass = s.eng.nextPass + (acting (.mxgo o) c W).length ∧
      (∀ j f, (acting (.mxgo o) c W)[j]? = some f → ∃ n p, tabGet (t.matrix (quadOf G.coreNo)).entries n = some p ∧
        p.order = s.eng.nextPass + j ∧ p.at_ = (s.core G.coreNo).cycles ∧ p.grp = c.grp ∧ p.wave = c.wave ∧ p.slot = slot ∧ p.fib = f ∧
        p.core = G.coreNo ∧ p.st = .reserved ∧ p.blk = G.scrWords (W.read f o.a).val.toNat 16) ∧
      (∀ n p, tabGet (s.matrix (quadOf G.coreNo)).entries n = some p →
        tabGet (t.matrix (quadOf G.coreNo)).entries n = some p)) ∧ (∀ g, g ≠ c.grp → t.group g = s.group g) ∧ t.mem = s.mem)) ∧
  (∀ (i : Instr) (s : State) (c : Issue) (G : Group) (W : Wave) (fs : List Nat) (bad : Nat → Option Nat) (data : Nat → List Word),
  Goes i s c G W →
  ((∃ o, i = .mxclr o ∧ (bad = fun _ => if o.tm < 2 ^ G.hdr.tiles then none else some 0x07) ∧ fs = (acting i c W).take 1 ∧
      data = fun _ => [BitVec.ofNat 32 o.tm]) ∨
    (∃ o, i = .mxrd o ∧ (bad = fun f => indexBad G (W.read f o.a).val) ∧ fs = acting i c W ∧
      data = fun f => [(W.read f o.a).val]) ∨
    (∃ o, i = .mxwr o ∧ (bad = fun f => indexBad G (W.read f o.a).val) ∧
      fs = (acting i c W).filter (fun f => !((acting i c W).any fun h => decide (f < h) && (W.read h o.a).val == (W.read f o.a).val)) ∧
      data = fun f => (W.read f o.a).val :: (regRun o.b 4).map fun r => (W.read f r).val) ∨
    (∃ o, i = .mxsc o ∧ (bad = fun _ => none) ∧ fs = acting i c W ∧
      data = fun f => [(W.read f o.a).val, (W.read f (regPlus o.a 1)).val, (W.read f o.b).val]) ∨
    (∃ o, i = .mxhist o ∧ (bad = fun f => histBad G (W.read f o.a).val (W.read f o.b).val) ∧ fs = acting i c W ∧
      data = fun f => [(W.read f o.a).val, (W.read f o.b).val])) →
  (acting i c W = [] → exec i s = .next (s.setWave c (W.advance c))) ∧
  (∀ f cause, f ∈ acting i c W → bad f = some cause → (∀ h ∈ acting i c W, ∀ n, bad h = some n → cause ≤ n) →
    ∃ r, r.cause = cause ∧ exec i s = .next (s.takeFault c r false (maskOf (acting i c W)) .none)) ∧
  (acting i c W ≠ [] → (∀ f ∈ acting i c W, bad f = none) →
  ∃ t slot e V, exec i s = .next t ∧ W.freeEntry .tile = some slot ∧ t.groups = (s.setWave c V).groups ∧ tabGet V.sb slot = some e ∧
    e.instr = i ∧ e.pc = c.pc ∧ e.accs.map (·.fib) = fs ∧ (∀ a ∈ e.accs, a.data = data a.fib ∧ a.st = .sent) ∧
    (∀ k, k ≠ slot → tabGet V.sb k = tabGet W.sb k) ∧
    (∀ f, V.fib f = fibAfter i c W (fun _ F => F) f) ∧ V.ks = W.ks ∧ V.masks = W.masks ∧ t.mem = s.mem ∧
    (t.matrix (quadOf G.coreNo)).entries = (s.matrix (quadOf G.coreNo)).entries ∧
    ((∀ o, i ≠ .mxhist o) ∨ G.isTwin = true → t = s.setWave c V) ∧
    (∀ o, i = .mxhist o → G.isTwin = false → (t.matrix (quadOf G.coreNo)).hist = (s.matrix (quadOf G.coreNo)).hist ++ fs.map fun f =>
      { grp := c.grp, wave := c.wave, slot := slot, fib := f, off := (W.read f o.a).val.toNat, ctl := (W.read f o.b).val })))

/-- R309, R314, R315, R316: an object instruction whose handle or region passes its checks takes its entry with one operation
for each guard-true fibre, on the pair that the fibre gives, which a mirror twin does not send (for OBJREG and OBJDROP log 30); else the wave takes the lowest cause
found. R343, R345, R346: a state-access instruction takes its entry with one access for each guard-true fibre (SHFIN: for the
highest-numbered alone), which holds the record, the selector and what is to be written. With no guard true each only goes on. -/
def Obligations.ObjectAndStateInstructionsIssue : Prop :=
  (∀ (i : Instr) (a : Reg) (bad : Nat → Option Nat) (s : State) (c : Issue) (G : Group) (W : Wave),
  Goes i s c G W →
  ((∃ o, i = .objreg o ∧ a = o.a ∧ bad = fun f => regBad (W.readPair f o.a) (W.read f o.b).val) ∨
    (∃ o, i = .objdrop o ∧ a = o.a ∧ bad = fun f => handleBad G.asid (W.readPair f o.a)) ∨
    (∃ o, i = .clpush o ∧ a = o.a ∧ bad = fun f => handleBad G.asid (W.readPair f o.a)) ∨
    (∃ o, i = .clpop o ∧ a = o.a ∧ bad = fun f => handleBad G.asid (W.readPair f o.a))) →
  (acting i c W = [] → exec i s = .next (s.setWave c (W.advance c))) ∧
  (acting i c W ≠ [] → (∀ f ∈ acting i c W, bad f = none) → ∃ slot e V, exec i s = .next (s.setWave c V) ∧
    (opndsOf i).entry.bind W.freeEntry = some slot ∧ tabGet V.sb slot = some e ∧ e.instr = i ∧
    e.accs.map (·.fib) = acting i c W ∧ (∀ x ∈ e.accs, x.va = W.readPair x.fib a ∧ x.st = (if twinSilent i G then .sent else .unsent) ∧ x.data = W.accData (opndsOf i) x.fib) ∧
    (∀ k, k ≠ slot → tabGet V.sb k = tabGet W.sb k) ∧ (∀ f, V.fib f = fibAfter i c W (fun _ F => F) f) ∧ V.ks = W.ks ∧ V.masks = W.masks) ∧
  (∀ f cause, f ∈ acting i c W → bad f = some cause → (∀ h ∈ acting i c W, ∀ n, bad h = some n → cause ≤ n) →
    ∃ r, r.cause = cause ∧ exec i s = .next (s.takeFault c r false (maskOf (acting i c W)) .none)) ∧
  (∀ h : Addr, handleBad G.asid h = none →
    h ≠ 0 ∧ (hiWord h).toNat % 2 ^ 16 = G.asid ∧ (loWord h).toNat / 2 ^ 7 % 4 ≠ 3 ∧ (loWord h).toNat.testBit 15 = false)) ∧
  (∀ (i : Instr) (s : State) (c : Issue) (G : Group) (W : Wave) (fs : List Nat) (data : Nat → List Word),
  Goes i s c G W →
  ((∃ o, i = .shrd o ∧ fs = acting i c W ∧ data = fun f => [(W.read f o.a).val, (W.read f o.b).val]) ∨
    (∃ o, i = .shrg o ∧ fs = acting i c W ∧ data = fun f => [(W.read f o.a).val, (W.read f o.b).val]) ∨
    (∃ o, i = .shwr o ∧ fs = acting i c W ∧ data = fun f =>
      [(W.read f o.a).val, (W.read f o.b).val, (W.read f o.d).val, BitVec.ofNat 32 (tagCode (W.read f o.d).tag)]) ∨
    (∃ o, i = .shwg o ∧ fs = acting i c W ∧ data = fun f =>
      [(W.read f o.a).val, (W.read f o.b).val, (W.read f o.d).val, BitVec.ofNat 32 (tagCode (W.read f o.d).tag)]) ∨
    (∃ o, i = .shfin o ∧ fs = (acting i c W).getLast?.toList ∧ data = fun f =>
      [(W.read f o.a).val, BitVec.ofNat 32 (o.disp + 4 * o.fail), if o.disp = 2 then (W.read f o.d).val else 0,
       if o.disp = 2 then (W.read f (regPlus o.d 1)).val else 0])) →
  (acting i c W = [] → exec i s = .next (s.setWave c (W.advance c))) ∧
  (acting i c W ≠ [] →
  ∃ slot e V, exec i s = .next (s.setWave c V) ∧ (opndsOf i).entry.bind W.freeEntry = some slot ∧ tabGet V.sb slot = some e ∧
    e.instr = i ∧ e.pc = c.pc ∧ e.accs.map (·.fib) = fs ∧ (∀ a ∈ e.accs, a.data = data a.fib ∧ a.st = .unsent) ∧
    (∀ k, k ≠ slot → tabGet V.sb k = tabGet W.sb k) ∧ (∀ f, V.fib f = fibAfter i c W (fun _ F => F) f) ∧ V.ks = W.ks ∧ V.masks = W.masks))

/-- R75, R358: a word that no instruction owns parks its wave with ZERO_WORD or ILLEGAL_OPCODE; a word that a TRAP slot matches
parks it with the slot's cause, FACET_BADCAUSE in place of one that may not be raised. Nothing else happens. R359: a REWRITE
slot's words are performed in order on the bundle, however many, each reading the results of those before it: an arithmetic word
writes its destinations, predicate and flags as it does when it issues; then the bundle goes on after the matched word. A cause
at decode parks the wave with none of them. A word that finds a mismatched tag, or raises an enabled exception, ends the sequence:
nothing of it is written, the wave parks with that cause, and entry 48 holds the sources that the word found, with SETTLE 0 and no
destination. -/
def Obligations.FacetSlotsAct : Prop :=
  (∀ (s : State) (c : Issue) (G : Group) (W : Wave), Issuing s c G W →
  (exec (.nonInstructionWord 0) s = .next (s.decodeFault c { cause := 0x02 } .none)) ∧
  (∀ w, w ≠ 0 → exec (.nonInstructionWord w) s = .next (s.decodeFault c { cause := 0x01 } .none)) ∧
  (∀ slot p, p = slotParam s.facet.active slot % 2 ^ 7 → p ≠ 0 → p < 0x60 → p ≠ 0x50 →
    exec (.facetTrap slot) s = .next (s.decodeFault c { cause := p } .onResume)) ∧
  (∀ slot, slotParam s.facet.active slot % 2 ^ 7 = 0x50 →
    exec (.facetTrap slot) s = .next (s.decodeFault c { cause := 0x50, detail := slot } .onResume)) ∧
  (∀ slot p, p = slotParam s.facet.active slot % 2 ^ 7 → (p = 0 ∨ 0x60 ≤ p) →
    exec (.facetTrap slot) s = .next (s.decodeFault c { cause := 0x5F } .onResume))) ∧
  (∀ (s : State) (c : Issue) (G : Group) (W : Wave) (slot : Nat), Issuing s c G W →
  (∀ is X, rewriteSeq s.facet.active slot G W c = .ok is → (∀ i ∈ is, W.hazardFree c (opndsOf i) = true) →
    s.runSeq G c is W = .ok X → exec (.facetRewrite slot) s = .next (s.setWave c (X.advance c))) ∧
  (∀ cause, rewriteSeq s.facet.active slot G W c = .error cause →
    exec (.facetRewrite slot) s = .next (s.decodeFault c { cause := cause } .none)) ∧
  (∀ is x, rewriteSeq s.facet.active slot G W c = .ok is → (∀ i ∈ is, W.hazardFree c (opndsOf i) = true) →
    s.runSeq G c is W = .error x → W.inFacet c = false →
    ∃ t V e y, exec (.facetRewrite slot) s = .next t ∧ t.wave c.grp c.wave = some V ∧ V.run = .draining ∧ V.ks = W.ks ∧
      (∀ h, (V.fib h).regs = (W.fib h).regs ∧ (V.fib h).preds = (W.fib h).preds ∧ (V.fib h).flags = (W.fib h).flags ∧
        (V.fib h).pc = (W.fib h).pc) ∧
      tabGet V.sb 48 = some e ∧ e.instr = .facetRewrite slot ∧ e.pc = c.pc ∧ e.settle = 0 ∧
      (∀ a ∈ e.accs, x.raise.fmask.getLsbD a.fib = true ∧ a.data = captured x.wave (opndsOf x.at_) a.fib ∧ a.dst = [] ∧ a.pd = none) ∧
      (t.faultEng G.die).detected = (s.faultEng G.die).detected ++ [y] ∧ y.cause = x.raise.cause ∧ y.late = x.late ∧
      y.fmask = x.raise.fmask ∧ y.grp = G.firstOf c.grp ∧ y.wave = c.wave ∧ t.mem = s.mem) ∧
  (∀ X, s.runSeq G c [] X = .ok X) ∧
  (∀ i is X Y, s.seqStep G c i X = .ok Y → s.runSeq G c (i :: is) X = s.runSeq G c is Y) ∧
  (∀ i is X x, s.seqStep G c i X = .error x → s.runSeq G c (i :: is) X = .error x)) ∧
  (∀ (i : Instr) (lane : LaneIn → LaneOut) (s : State) (c : Issue) (G : Group) (W : Wave),
  laneOf i = some lane → Issuing s c G W →
  (∀ r, W.tagMismatch (opcodeOf i) (opndsOf i) c (acting i c W) = some r →
    ∃ x, s.seqStep G c i W = .error x ∧ x.at_ = i ∧ x.raise = r ∧ x.wave = W ∧ x.late = false) ∧
  (W.tagMismatch (opcodeOf i) (opndsOf i) c (acting i c W) = none →
    (∀ f b, f ∈ acting i c W → b < 7 → (trapping (W.fib f) (lane (s.laneIn G W (opndsOf i) f)).exc).getLsbD b = true →
      (∀ h ∈ acting i c W, ∀ k < b, (trapping (W.fib h) (lane (s.laneIn G W (opndsOf i) h)).exc).getLsbD k = false) →
      ∃ x, s.seqStep G c i W = .error x ∧ x.at_ = i ∧ x.raise.cause = 0x20 + b ∧ x.wave = W ∧ x.late = true ∧
        x.raise.fmask = maskOf ((acting i c W).filter fun h => trapping (W.fib h) (lane (s.laneIn G W (opndsOf i) h)).exc != 0)) ∧
    ((∀ f ∈ acting i c W, trapping (W.fib f) (lane (s.laneIn G W (opndsOf i) f)).exc = 0) →
      (∀ f ∈ c.fibres, ∀ r ∈ (opndsOf i).regs, (W.fib f).inWindow r = true) →
      ∃ V, s.seqStep G c i W = .ok V ∧
        WritesRegs i c W (V.advance c) (opndsOf i).dstRegs (fun f => (lane (s.laneIn G W (opndsOf i) f)).regs) ∧
        (∀ f, (V.fib f).curPc = (W.fib f).curPc) ∧
        (∀ f ∈ acting i c W,
          (V.fib f).curFlags = ((W.fib f).curFlags ||| (lane (s.laneIn G W (opndsOf i) f)).exc) &&& 0x7F ∧
          ∀ p < 8, (V.fib f).pred p =
            if (opndsOf i).pdst = some p then ((lane (s.laneIn G W (opndsOf i) f)).pred).getD ((W.fib f).pred p) else (W.fib f).pred p) ∧
        (∀ f, f ∉ acting i c W → (V.fib f).curFlags = (W.fib f).curFlags ∧ (V.fib f).curPreds = (W.fib f).curPreds))))

/-- R360, R361: a bundle enters the routine of an EMULATE slot when the frame is free or its wave's own: each guard-true fibre
is in facet context with V0 to V2 copied from the registers that the word's fields A, D and B name, zero for one outside its window, the words
in V3 and V4, its flags in V5, in V6 which copies are valid, V7 to V15 and the K registers zero, %trapen as the routine's header gives
it, and its predicates; the others go on; the wave owns the frame.
R363: FCTRET without a cause: each guard-true fibre leaves facet context and goes on after the emulated instruction, with the
frame's predicates and flags where its return word asks for them, and where it sets WD the frame's V2 in the register that
w0[20:14] names, if that is in its window, the last fibre's for a K register; no other register changes; with a cause the wave parks and none of them writes, FACET_TRAP naming the slot (R324). R364,
R369: a wave with a fibre in facet context for ELIM core cycles parks with FACET_LIMIT; the verification of a patch image ends
with its status in D, and the image is staged if that is 0. That FCTRET waits for the routine's accesses is log 21. -/
def Obligations.FacetRoutinesRun : Prop :=
  (∀ (s : State) (c : Issue) (G : Group) (W : Wave) (slot : Nat) (gt : List Nat),
  Issuing s c G W → W.inFacet c = false → gt = W.guardTrue c (c.w0 / 2 ^ 21 % 2 ^ 3) →
  (gt = [] → exec (.facetEmulateEntry slot) s = .next (s.setWave c (W.advance c))) ∧
  (gt ≠ [] → ((s.core G.coreNo).frame = none ∨ (s.core G.coreNo).frame = some (c.grp, c.wave)) → W.entryReady c c.w0 = true →
    ∃ t V, exec (.facetEmulateEntry slot) s = .next t ∧ (t.core G.coreNo).frame = some (c.grp, c.wave) ∧
      t.wave c.grp c.wave = some V ∧ t.mem = s.mem ∧ V.ks = W.ks ∧ V.sb = W.sb ∧
      (∀ f, f ∉ gt → V.fib f = if f ∈ c.fibres then (W.fib f).setPc c.nextPc else W.fib f) ∧
      ∀ f ∈ gt, ∃ x, (V.fib f).facet = some x ∧ (V.fib f).pc = (W.fib f).pc ∧ (V.fib f).regs = (W.fib f).regs ∧
        x.slot = slot ∧ x.w0 = c.w0 ∧ x.pc = BitVec.ofNat 64 (slotParam s.facet.active slot) ∧ x.preds = (W.fib f).preds ∧
        x.flags = 0 ∧ x.entry = (s.core G.coreNo).cycles ∧ x.ks = [] ∧ x.lnk = 0 ∧
        x.trapen = BitVec.ofNat 32 (routineTraps s.facet.active slot) ∧ tabVal zeroReg x.regs 3 = ⟨BitVec.ofNat 32 c.w0, .b32⟩ ∧
        tabVal zeroReg x.regs 4 = ⟨BitVec.ofNat 32 (if hasTwoWords c.w0 then c.w1 else 0), .b32⟩ ∧
        tabVal zeroReg x.regs 5 = ⟨(W.fib f).flags, .b32⟩ ∧ (∀ n, 7 ≤ n → tabVal zeroReg x.regs n = zeroReg) ∧
        (∃ valid, tabVal zeroReg x.regs 6 = ⟨BitVec.ofNat 32 valid, .n32⟩ ∧ valid < 8 ∧
          ∀ n lo, (n = 0 ∧ lo = 7) ∨ (n = 1 ∧ lo = 0) ∨ (n = 2 ∧ lo = 14) →
            (valid.testBit n = (W.fib f).inWindow (regOf (c.w0 / 2 ^ lo % 2 ^ 7))) ∧
            tabVal zeroReg x.regs n = if (W.fib f).inWindow (regOf (c.w0 / 2 ^ lo % 2 ^ 7)) = true
              then W.read f (regOf (c.w0 / 2 ^ lo % 2 ^ 7)) else zeroReg))) ∧
  (∀ (s : State) (c : Issue) (G : Group) (W : Wave) (o : Form.N), Goes (.fctret o) s c G W →
  ((∀ f ∈ acting (.fctret o) c W, ∀ x, (W.fib f).facet = some x → x.ret / 2 ^ 8 % 2 ^ 7 = 0) →
    ∃ t V, exec (.fctret o) s = .next t ∧ t.wave c.grp c.wave = some V ∧ t.mem = s.mem ∧
      (∀ f, f ∉ acting (.fctret o) c W → V.fib f = fibAfter (.fctret o) c W (fun _ F => F) f) ∧
      (∀ m, tabVal zeroReg V.ks m = (((acting (.fctret o) c W).reverse.findSome? fun f => ((W.fib f).facet.bind fun x =>
        if x.ret.testBit 0 = true ∧ regOf (x.w0 / 2 ^ 14 % 2 ^ 7) = .k m then some (tabVal zeroReg x.regs 2) else none)).getD
        (tabVal zeroReg W.ks m))) ∧
      ∀ f ∈ acting (.fctret o) c W, ∀ x, (W.fib f).facet = some x →
        (V.fib f).facet = none ∧ (V.fib f).pc = (W.fib f).pc + (if hasTwoWords x.w0 then 8 else 4) ∧
        (V.fib f).preds = (if x.ret.testBit 1 then x.preds ||| 0x80 else (W.fib f).preds) ∧
        (V.fib f).flags = (if x.ret.testBit 2 then (tabVal zeroReg x.regs 5).val &&& 0x7F else (W.fib f).flags) ∧
        (∀ n d, regOf (x.w0 / 2 ^ 14 % 2 ^ 7) = .v n → V.get f (.v d) =
          if x.ret.testBit 0 = true ∧ d = (W.fib f).base + n ∧ d < (W.fib f).alloc then tabVal zeroReg x.regs 2 else W.get f (.v d)) ∧
        (∀ n d, regOf (x.w0 / 2 ^ 14 % 2 ^ 7) = .k n → V.get f (.v d) = W.get f (.v d))) ∧
  (∀ f x k, f ∈ acting (.fctret o) c W → (W.fib f).facet = some x → x.ret / 2 ^ 8 % 2 ^ 7 = k → k ≠ 0 →
    (∀ h ∈ acting (.fctret o) c W, ∀ y, (W.fib h).facet = some y → y.ret / 2 ^ 8 % 2 ^ 7 = 0 ∨ k ≤ y.ret / 2 ^ 8 % 2 ^ 7) →
    ∃ d r, r.cause = (if k = 0x43 ∨ 0x60 ≤ k then 0x5F else k) ∧ d.grp = c.grp ∧ d.wave = c.wave ∧
      (∀ h, h ∈ d.fibres ↔ h ∈ acting (.fctret o) c W ∧ ∃ y, (W.fib h).facet = some y ∧ y.ret / 2 ^ 8 % 2 ^ 7 = k) ∧
      r.fmask = maskOf d.fibres ∧ (k = 0x50 → ∃ h y, h ∈ d.fibres ∧ (W.fib h).facet = some y ∧ r.detail = y.slot) ∧
      exec (.fctret o) s = .next (s.takeFault d r false (maskOf (acting (.fctret o) c W)) .none))) ∧
  (∀ (s : State),
  (∀ g w G W f, s.group g = some G → tabGet G.waves w = some W → W.run = .running → f ∈ W.live →
    (∃ x, (W.fib f).facet = some x ∧ facetLimit s.facet.active ≤ s.felapsed G x) →
    ∃ c r m, c.grp = g ∧ c.wave = w ∧ f ∈ c.fibres ∧ r.cause = 0x50 ∧
      (∃ h y, h ∈ c.fibres ∧ (W.fib h).facet = some y ∧ r.detail = y.slot) ∧ exec (.emulationLimit g w) s = .next (s.takeFault c r false m .none)) ∧
  (∀ op img st W, s.facet.op = some (.stage op img st) → s.wave op.grp op.wave = some W →
    ∃ t, exec .patchVerificationDone s = .next t ∧ t.mem = s.mem ∧ t.facet.op = none ∧ t.facet.active = s.facet.active ∧
      t.facet.staged = (if st = 0 then img else []) ∧
      t.wave op.grp op.wave = some (W.complete op.entry op.fib [⟨BitVec.ofNat 32 st, .n32⟩] none)))

/-- R369, R370, R371: staging, activating and reading a patch image. R396, R384: QMAP, QUNMAP and PREEMPT answer 2 for a slot
number outside 0 to 55 and 1 for a slot in the wrong state; QMAP maps a free slot from a descriptor that keeps R382, and answers 3 for
one that does not and 4 for one it cannot read; QUNMAP and a saving PREEMPT begin the change and pre-empt every group of the launches
of the slot's queue. That a descriptor of an absent context answers 3 is log 46; that one mapped in another slot, and a PREEMPT
whose B is neither 0 nor 1, answer 1 is log 75. With no guard
true each of them only goes on. Where patch signatures decide (log 14) the statement holds for
every verdict; whose address space a descriptor is read in is log 15. -/
def Obligations.ImageAndQueueInstructions : Prop :=
  (∀ (s : State) (c : Issue) (G : Group) (W : Wave),
  (∀ o x, Goes (.fctstg o) s c G W → acting (.fctstg o) c W ≠ [] → s.facet.op = some x →
    ∃ t, exec (.fctstg o) s = .next t ∧ Answered (.fctstg o) c W t o.d 1 ∧ t.facet = s.facet ∧ t.mem = s.mem) ∧
  (∀ o f, Goes (.fctstg o) s c G W → (acting (.fctstg o) c W).getLast? = some f → s.facet.op = none →
    ∃ t op img st, exec (.fctstg o) s = .next t ∧ Pending (.fctstg o) c W t op ∧ t.facet.op = some (.stage op img st) ∧
      t.facet.active = s.facet.active ∧ t.facet.staged = s.facet.staged ∧
      (st = 6 ∨ st = verifyImage s.facet.active img (W.read f o.b).val.toNat) ∧ t.mem = s.mem) ∧
  (∀ o x, Goes (.fctact o) s c G W → acting (.fctact o) c W ≠ [] → s.facet.op = some x →
    ∃ t, exec (.fctact o) s = .next t ∧ Answered (.fctact o) c W t o.d 1 ∧ t.facet = s.facet) ∧
  (∀ o f, Goes (.fctact o) s c G W → (acting (.fctact o) c W).getLast? = some f → s.facet.op = none →
    (s.facet.staged = [] ∨ imgField s.facet.staged 8 4 ≠ (W.read f o.a).val.toNat) →
    ∃ t, exec (.fctact o) s = .next t ∧ Answered (.fctact o) c W t o.d 2 ∧ t.facet = s.facet) ∧
  (∀ o f, Goes (.fctact o) s c G W → (acting (.fctact o) c W).getLast? = some f → s.facet.op = none →
    s.facet.staged ≠ [] → imgField s.facet.staged 8 4 = (W.read f o.a).val.toNat →
    ∃ t op gs, exec (.fctact o) s = .next t ∧ Pending (.fctact o) c W t op ∧ t.facet = { s.facet with op := some (.activate op gs false) } ∧
      (∀ g H, s.group g = some H → H.firmware = false → H.core?.isSome → ∃ K, t.group g = some K ∧ K.preempt = true) ∧ t.mem = s.mem) ∧
  (∀ o, Goes (.fctrd o) s c G W → (∀ f ∈ acting (.fctrd o) c W, (W.read f o.a).val.toNat < 512) →
    ∃ V, exec (.fctrd o) s = .next (s.setWave c V) ∧ keepsPreds W V ∧ WritesRegs (.fctrd o) c W V [o.d] (fun f =>
      [⟨BitVec.ofNat 32 (slotWord (if (W.read f o.a).val.getLsbD 8 then s.facet.staged else s.facet.active)
        ((W.read f o.a).val.toNat % 16) ((W.read f o.a).val.toNat / 16 % 16)), .b32⟩])) ∧
  (∀ o, Goes (.fctrd o) s c G W → (∃ f ∈ acting (.fctrd o) c W, 512 ≤ (W.read f o.a).val.toNat) →
    ∃ r, r.cause = 0x07 ∧ exec (.fctrd o) s = .next (s.takeFault c r false (maskOf (acting (.fctrd o) c W)) .none))) ∧
  (∀ (i : Instr) (s : State) (c : Issue) (G : Group) (W : Wave), ((∃ o, i = .fctstg o) ∨ (∃ o, i = .fctact o) ∨ (∃ o, i = .qmap o) ∨
      (∃ o, i = .qunmap o) ∨ (∃ o, i = .preempt o)) → Goes i s c G W → acting i c W = [] →
    ∃ V, exec i s = .next (s.setWave c V) ∧ (∀ f, V.fib f = fibAfter i c W (fun _ F => F) f) ∧ V.sb = W.sb ∧ V.ks = W.ks) ∧
  (∀ (s : State) (c : Issue) (G : Group) (W : Wave) (f : Nat),
  (∀ (i : Instr) (d a : Reg), ((∃ o, i = .qmap o ∧ d = o.d ∧ a = o.b) ∨ (∃ o, i = .qunmap o ∧ d = o.d ∧ a = o.a) ∨
      (∃ o, i = .preempt o ∧ d = o.d ∧ a = o.a)) → Goes i s c G W → (acting i c W).getLast? = some f →
    56 ≤ (W.read f a).val.toNat → ∃ t, exec i s = .next t ∧ Answered i c W t d 2 ∧ t.cp = s.cp ∧ t.mem = s.mem) ∧
  (∀ o, Goes (.qmap o) s c G W → (acting (.qmap o) c W).getLast? = some f → (W.read f o.b).val.toNat < 56 →
    ((s.qslot (slotKey G.die (W.read f o.b).val.toNat)).st ≠ .free ∨ (s.slotOfDesc G.die (W.readPair f o.a).toNat).isSome) →
    ∃ t, exec (.qmap o) s = .next t ∧ Answered (.qmap o) c W t o.d 1 ∧ t.cp = s.cp) ∧
  (∀ o n, Goes (.qmap o) s c G W → (acting (.qmap o) c W).getLast? = some f → (W.read f o.b).val.toNat < 56 →
    (s.qslot (slotKey G.die (W.read f o.b).val.toNat)).st = .free → s.slotOfDesc G.die (W.readPair f o.a).toNat = none →
    (match s.readRun (s.descAsid G.asid (W.readPair f o.a).toNat) (W.readPair f o.a).toNat 64 { r := true } with
      | .error _ => n = 4
      | .ok b => n = 3 ∧ s.descOk (W.readPair f o.a).toNat G.die b = false) →
    ∃ t, exec (.qmap o) s = .next t ∧ Answered (.qmap o) c W t o.d n ∧ t.cp = s.cp) ∧
  (∀ o b, Goes (.qmap o) s c G W → (acting (.qmap o) c W).getLast? = some f → (W.read f o.b).val.toNat < 56 →
    (s.qslot (slotKey G.die (W.read f o.b).val.toNat)).st = .free → s.slotOfDesc G.die (W.readPair f o.a).toNat = none →
    (∀ e ∈ s.cp.launches, e.2.desc ≠ (W.readPair f o.a).toNat) →
    s.readRun (s.descAsid G.asid (W.readPair f o.a).toNat) (W.readPair f o.a).toNat 64 { r := true } = .ok b →
    s.descOk (W.readPair f o.a).toNat G.die b = true → hdrField b 0x27 1 ≠ 2 →
    ∃ t, exec (.qmap o) s = .next t ∧
      (t.qslot (slotKey G.die (W.read f o.b).val.toNat)).st = .mapped ∧
      (t.qslot (slotKey G.die (W.read f o.b).val.toNat)).desc = (W.readPair f o.a).toNat ∧
      (t.qslot (slotKey G.die (W.read f o.b).val.toNat)).ring = hdrField b 0 8 ∧
      (t.qslot (slotKey G.die (W.read f o.b).val.toNat)).wr = hdrField b 8 8 ∧
      (t.qslot (slotKey G.die (W.read f o.b).val.toNat)).rd = hdrField b 0x10 8) ∧
  (∀ o, Goes (.qunmap o) s c G W → (acting (.qunmap o) c W).getLast? = some f → (W.read f o.a).val.toNat < 56 →
    ((s.qslot (slotKey G.die (W.read f o.a).val.toNat)).st = .mapped ∨ (s.qslot (slotKey G.die (W.read f o.a).val.toNat)).st = .held) →
    (s.qslot (slotKey G.die (W.read f o.a).val.toNat)).op = none →
    ∃ t op, exec (.qunmap o) s = .next t ∧ (t.qslot (slotKey G.die (W.read f o.a).val.toNat)).st = .unmapping ∧
      (t.qslot (slotKey G.die (W.read f o.a).val.toNat)).op = some op ∧ op.grp = c.grp ∧ op.wave = c.wave ∧ op.fib = f ∧
      t.mem = s.mem ∧ t.cp.launches = s.cp.launches ∧
      (∀ e ∈ s.cp.launches, ∀ g H, e.2.die = G.die → e.2.desc = (s.qslot (slotKey G.die (W.read f o.a).val.toNat)).desc →
        (e.2.st = .running ∨ e.2.st = .saved ∨ e.2.st = .parked) → s.group g = some H → H.launch = e.1 → H.place ≠ .ended →
        (t.group g).map (·.preempt) = some true)) ∧
  (∀ o, Goes (.qunmap o) s c G W → (acting (.qunmap o) c W).getLast? = some f → (W.read f o.a).val.toNat < 56 →
    (((s.qslot (slotKey G.die (W.read f o.a).val.toNat)).st ≠ .mapped ∧ (s.qslot (slotKey G.die (W.read f o.a).val.toNat)).st ≠ .held) ∨
      (s.qslot (slotKey G.die (W.read f o.a).val.toNat)).op.isSome) →
    ∃ t, exec (.qunmap o) s = .next t ∧ Answered (.qunmap o) c W t o.d 1 ∧ t.cp = s.cp) ∧
  (∀ o, Goes (.preempt o) s c G W → (acting (.preempt o) c W).getLast? = some f → (W.read f o.a).val.toNat < 56 →
    ((s.qslot (slotKey G.die (W.read f o.a).val.toNat)).op.isSome ∨
      (¬((W.read f o.b).val.toNat = 0 ∧ (s.qslot (slotKey G.die (W.read f o.a).val.toNat)).st = .mapped) ∧
        ¬((W.read f o.b).val.toNat = 1 ∧ (s.qslot (slotKey G.die (W.read f o.a).val.toNat)).st = .held))) →
    ∃ t, exec (.preempt o) s = .next t ∧ Answered (.preempt o) c W t o.d 1 ∧ t.cp = s.cp) ∧
  (∀ o, Goes (.preempt o) s c G W → (acting (.preempt o) c W).getLast? = some f → (W.read f o.a).val.toNat < 56 →
    (s.qslot (slotKey G.die (W.read f o.a).val.toNat)).op = none →
    ((W.read f o.b).val.toNat = 0 → (s.qslot (slotKey G.die (W.read f o.a).val.toNat)).st = .mapped →
      ∃ t op, exec (.preempt o) s = .next t ∧ (t.qslot (slotKey G.die (W.read f o.a).val.toNat)).st = .held ∧
        (t.qslot (slotKey G.die (W.read f o.a).val.toNat)).op = some op ∧ op.grp = c.grp ∧ op.fib = f ∧ t.mem = s.mem ∧
        (∀ e ∈ s.cp.launches, ∀ g H, e.2.die = G.die → e.2.desc = (s.qslot (slotKey G.die (W.read f o.a).val.toNat)).desc →
        (e.2.st = .running ∨ e.2.st = .saved ∨ e.2.st = .parked) → s.group g = some H → H.launch = e.1 → H.place ≠ .ended →
        (t.group g).map (·.preempt) = some true)) ∧
    ((W.read f o.b).val.toNat = 1 → (s.qslot (slotKey G.die (W.read f o.a).val.toNat)).st = .held →
      ∃ t op, exec (.preempt o) s = .next t ∧ (t.qslot (slotKey G.die (W.read f o.a).val.toNat)).st = .mapped ∧
        (t.qslot (slotKey G.die (W.read f o.a).val.toNat)).op = some op ∧ op.grp = c.grp ∧ op.fib = f ∧ t.mem = s.mem)))

/-- R182, R188, R265, R306, R420: a response reaches its core: the message is gone, its fibre's access is done with the values of a load,
an atomic, an MWAIT, a push or a pop in its destinations; a load's line fills the L1, an owned ACK marks the words owned, the one of a
store of one or two bytes with the word as its slice has it (log 10), a revoke takes a word away and is acknowledged. Nothing in memory changes. R266, R282: an acquire access invalidates its core's L1 as it completes;
where the twin of a pair makes the access with it, its access completes too and its core's L1 is invalidated (R53). -/
def Obligations.MessagesCompleteTheirAccesses : Prop := ∀ (s : State) (k v : Nat) (m : Msg), s.msgAt k = some m →
  (∀ W e a, s.wave m.grp m.wave = some W → tabGet W.sb m.slot = some e → W.acc m.slot m.fib = some a →
    (∀ x, (s.group m.grp).bind (·.twin) = some x → x.1 ≠ m.grp ∧ ∀ P, s.group x.1 = some P → P.core? ≠ some m.core) →
    (∀ f, memForm e.instr = some f → m.slot < 16 → acquiring e.instr = false →
      (∀ bs line inv, m.body = .data bs line inv →
        ∃ t, exec (.loadComplete k v) s = .next t ∧ t.msgs = s.msgs.eraseIdx k ∧ t.mem = s.mem ∧
          t.wave m.grp m.wave = some (W.complete m.slot m.fib (loadValues f.act bs) (some true)) ∧
          (line = none → t.cores = s.cores) ∧
          (∀ ws, line = some ws → v = m.asid * 2 ^ 50 + m.line → t.core m.core = (s.core m.core).fill v ws inv a.skip)) ∧
      (∀ ws, m.body = .value ws →
        ∃ t, exec (.loadComplete k v) s = .next t ∧ t.msgs = s.msgs.eraseIdx k ∧ t.mem = s.mem ∧ t.cores = s.cores ∧
          t.wave m.grp m.wave = some (W.complete m.slot m.fib (loadValues f.act (lineBytes ws)) none)) ∧
      (m.body = .resident →
        ∃ t, exec (.loadComplete k v) s = .next t ∧ t.msgs = s.msgs.eraseIdx k ∧ t.mem = s.mem ∧ t.cores = s.cores ∧
          t.wave m.grp m.wave = some (W.complete m.slot m.fib [] none))) ∧
    (∀ f bs inv p, memForm e.instr = some f → m.slot < 16 → acquiring e.instr = true →
      (m.body = .data bs none inv ∧ p = some true) ∨ (∃ ws, m.body = .value ws ∧ lineBytes ws = bs ∧ p = none) →
      ∃ t V, exec (.loadComplete k v) s = .next t ∧ t.msgs = s.msgs.eraseIdx k ∧ t.mem = s.mem ∧ t.wave m.grp m.wave = some V ∧
        V.fibres = (W.complete m.slot m.fib (loadValues f.act bs) p).fibres ∧
        V.ks = (W.complete m.slot m.fib (loadValues f.act bs) p).ks ∧ t.core m.core = (s.core m.core).acquire) ∧
    (∀ f, memForm e.instr = some f → m.slot < 16 → m.body = .absent →
      ∃ t, exec (.loadComplete k v) s = .next t ∧ t.msgs = s.msgs.eraseIdx k ∧ t.mem = s.mem ∧
        t.wave m.grp m.wave = some (W.complete m.slot m.fib (loadValues f.act (List.replicate f.size 0)) (some false))) ∧
    (∀ f owned, memForm e.instr = some f → 16 ≤ m.slot → acquiring e.instr = false → m.body = .ack owned →
      ∃ t, exec (.storeComplete k) s = .next t ∧ t.msgs = s.msgs.eraseIdx k ∧ t.mem = s.mem ∧
        t.wave m.grp m.wave = some (W.complete m.slot m.fib [] none) ∧
        (owned = false → t.cores = s.cores) ∧
        (owned = true → t.core m.core = (s.core m.core).own (m.asid * 2 ^ 50 + m.line) a.va.toNat f.size)) ∧
    (∀ word i, 16 ≤ m.slot → m.body = .ackWord word → i = a.va.toNat % 64 / 4 →
      ∃ t, exec (.storeComplete k) s = .next t ∧ t.msgs = s.msgs.eraseIdx k ∧ t.mem = s.mem ∧
        t.wave m.grp m.wave = some (W.complete m.slot m.fib [] none) ∧
        (∀ l, tabGet (s.core m.core).l1 (m.asid * 2 ^ 50 + m.line) = some l → ∃ n,
          tabGet (t.core m.core).l1 (m.asid * 2 ^ 50 + m.line) = some n ∧ n.valid = l.valid ∧ n.inv = l.inv ∧
          (l.valid.testBit i = false → n = l) ∧
          (l.valid.testBit i = true → n.owned = l.owned ||| 2 ^ i ∧ (∀ j, j ≠ i → n.words[j]? = l.words[j]?) ∧
            (t.writesOnWay m.core m.asid m.line = [] → i < l.words.length → n.words[i]? = some word)))) ∧
    (m.slot < 16 →
      (∀ code, m.body = .status code → ∃ t, exec (.loadComplete k v) s = .next t ∧ t.msgs = s.msgs.eraseIdx k ∧ t.mem = s.mem ∧
        t.cores = s.cores ∧ t.wave m.grp m.wave = some (W.complete m.slot m.fib [⟨BitVec.ofNat 32 code, .n32⟩] none)) ∧
      (m.body = .popped none → ∃ t, exec (.loadComplete k v) s = .next t ∧ t.msgs = s.msgs.eraseIdx k ∧ t.mem = s.mem ∧
        t.cores = s.cores ∧ t.wave m.grp m.wave = some (W.complete m.slot m.fib [⟨0, .b32⟩] (some false))) ∧
      (∀ w, m.body = .popped (some w) → ∃ t V, exec (.loadComplete k v) s = .next t ∧ t.msgs = s.msgs.eraseIdx k ∧ t.mem = s.mem ∧
        t.wave m.grp m.wave = some V ∧ V.fibres = (W.complete m.slot m.fib [⟨w, .b32⟩] (some true)).fibres ∧
        V.ks = (W.complete m.slot m.fib [⟨w, .b32⟩] (some true)).ks ∧ t.core m.core = (s.core m.core).acquire)) ∧
    (∀ p P U pc x y ws, m.slot < 16 → m.body = .value ws → acquiring e.instr = true → suppressedInTwin e.instr = true →
      (s.group m.grp).bind (·.twin) = some (p, false) → s.group p = some P → P.core? = some pc → s.wave p m.wave = some U →
      U.sb.find? (fun z => z.2.age == e.age && z.1 / 16 == m.slot / 16) = some (x, y) →
      ∃ t V vals, exec (.loadComplete k v) s = .next t ∧ t.wave p m.wave = some V ∧
        vals = (match memForm e.instr with
          | some f => loadValues f.act (lineBytes ws)
          | none => (lineWords (lineBytes ws)).map fun w => ⟨w, .b32⟩) ∧
        V.fibres = (U.complete x m.fib vals none).fibres ∧ V.ks = (U.complete x m.fib vals none).ks ∧
        t.core pc = (s.core pc).acquire)) ∧
  (∀ w, m.body = .revoke w → ∃ t, exec (.l1Revoke k) s = .next t ∧ t.msgs = s.msgs.eraseIdx k ∧ t.mem = s.mem ∧
    t.core m.core = (s.core m.core).l1Drop (m.asid * 2 ^ 50 + m.line) w ∧
    t.revAcks = s.revAcks ++ [{ core := m.core, asid := m.asid, line := m.line, word := w }])

/-- R16, R17, R18, R294: a router takes an entry into its input buffer of 8 or refuses it, and refuses what follows a refused
one; the sender drops an acknowledged entry; at an entry's first refusal it backs off 16 mesh cycles, doubled at each further one of
the same entry up to 1,024, and starts no second back-off while one runs or entries are due for resend; then it sends every
unacknowledged entry again, in order. No other channel changes. The sender sends nothing new in a back-off (log 68). -/
def Obligations.ChannelsReplayInOrder : Prop := ∀ (s : State) (ch : Nat) (c : Chan), s.chan ch = c →
  (∀ i r clean, 512 ≤ chanDst ch → chanDst ch < 608 → nextWire c.window = some (i, r, clean) → ∃ t,
    exec (.channelEntry ch) s = .next t ∧ t.mem = s.mem ∧ t.msgs = s.msgs ∧ (∀ x, x ≠ ch → t.chan x = s.chan x) ∧
    (clean = true ∧ s.routerRoom ch = true → (t.chan ch).buf = c.buf ++ [{ req := r, at_ := s.meshCycles, met := false }] ∧
      (t.chan ch).window = winSet c.window i .acked) ∧
    (clean = false ∨ s.routerRoom ch = false → (t.chan ch).buf = c.buf ∧ (t.chan ch).window = winSet c.window i .nacked)) ∧
  (∀ e rest, c.window = e :: rest → e.st = .acked → ∃ t, exec (.channelAck ch) s = .next t ∧ t.mem = s.mem ∧
    (∀ x, x ≠ ch → t.chan x = s.chan x) ∧ (t.chan ch).window.take rest.length = rest ∧ (t.chan ch).backoff = c.backoff) ∧
  (∀ i e, firstNacked c.window = some i → c.window[i]? = some e → c.holding = false → ∃ t, exec (.channelNack ch) s = .next t ∧
    t.mem = s.mem ∧ (∀ x, x ≠ ch → t.chan x = s.chan x) ∧
    (∀ j, (t.chan ch).window[j]? =
      if j = i then some { e with st := .hold, nacks := e.nacks + 1 } else c.window[j]?) ∧
    (t.chan ch).backoff = some (s.meshCycles + ([16, 32, 64, 128, 256, 512][e.nacks]?).getD 1024)) ∧
  (∀ i, firstNacked c.window = some i → c.holding = true → ∃ t, exec (.channelNack ch) s = .next t ∧ t.mem = s.mem ∧
    t.chan ch = { c with window := winSet c.window i .hold }) ∧
  (∀ b, c.backoff = some b → b ≤ s.meshCycles → ∃ t, exec (.backoffExpiry ch) s = .next t ∧ t.mem = s.mem ∧
    (∀ x, x ≠ ch → t.chan x = s.chan x) ∧ (t.chan ch).backoff = none ∧
    (t.chan ch).window.take c.window.length = c.window.map fun e => if e.st = .acked then e else { e with st := .wire })

/-- R262, R263, R264: a slice performs a request to a line it holds: a load answers with its bytes; a store to words that no
core owns is written and acknowledged and its core owns them, the
acknowledgement of one of one or two bytes bringing the word as it now stands (log 10); a store to a word of another core is written, that core is sent a
revoke, and the ACK is held until the revoke's acknowledgement. A request that misses waits in the miss-table entry of its line, or in a
new one that looks its page up, or is refused where there is no place. R264: the acknowledgement of a revoke gives the word to the core whose store was held, or to none, and
sends the held answer; it waits while a router on its way is off (R447). -/
def Obligations.SlicesServeAndRevoke : Prop :=
  (∀ (s : State) (ch h i : Nat) (r : Req), chanDst ch = 640 + h → h < 128 →
  nextWire (s.chan ch).window = some (i, r, true) →
  (∀ l, tabGet (s.slice h).lines (lineKey r.asid r.va) = some l → l.revoking (touched r.va r.size) = false →
    s.behindFault r = false → s.leafFault r.need l.leaf (l.leaf.pa + r.va % 64) = none →
    ((s.slice h).miss.flatMap (·.2.reqs)).any r.behind = false →
    (∀ inv nf, r.op = .load inv nf → ∃ t, exec (.sliceRequest ch false) s = .next t ∧ exec (.channelEntry ch) s = .next t ∧
      t.mem = s.mem ∧ t.slices = s.slices ∧ (t.chan ch).window = winSet (s.chan ch).window i .acked ∧
      t.msgs = s.msgs ++ [({ respond r (.data (lineGet l.words (r.va % 64) r.size) (some l.words) inv) with src := some r.home } : Msg)]) ∧
    (∀ bs rel, r.op = .store bs rel → (∀ w ∈ touched r.va bs.length, tabGet l.owners w = none) →
      ∃ t x ack, exec (.sliceRequest ch false) s = .next t ∧ t.mem = s.mem ∧ ({ respond r ack with src := some r.home } : Msg) ∈ t.msgs ∧
        (4 ≤ r.size → ack = .ack true) ∧ (r.size < 4 → ack = .ackWord (x.words.getD (r.va % 64 / 4) 0)) ∧
        tabGet (t.slice h).lines (lineKey r.asid r.va) = some x ∧ x.words = linePut l.words (r.va % 64) bs ∧ x.dirty = true ∧
        (∀ w ∈ touched r.va bs.length, tabGet x.owners w = some (.core r.core)) ∧
        ∀ w, w ∉ touched r.va bs.length → tabGet x.owners w = tabGet l.owners w) ∧
    (∀ bs rel w c, r.op = .store bs rel → touched r.va bs.length = [w] → tabGet l.owners w = some (.core c) → c ≠ r.core →
      ∃ t x m ack, exec (.sliceRequest ch false) s = .next t ∧ t.mem = s.mem ∧
        (4 ≤ r.size → ack = .ack true) ∧ (r.size < 4 → ack = .ackWord (x.words.getD (r.va % 64 / 4) 0)) ∧
        tabGet (t.slice h).lines (lineKey r.asid r.va) = some x ∧ x.words = linePut l.words (r.va % 64) bs ∧
        tabGet x.owners w = some (.revoke c (some (r, ack)) (some r.core)) ∧ m ∈ t.msgs ∧ m.core = c ∧ m.body = .revoke w) ∧
    (∀ op b c v, r.op = .atom op b c → atomNew op (leNat (lineGet l.words (r.va % 64) r.size)) b c = some v →
      (∀ w ∈ touched r.va r.size, tabGet l.owners w = none) →
      ∃ t x, exec (.sliceRequest ch false) s = .next t ∧ t.mem = s.mem ∧
        ({ respond r (.value (lineWords (lineGet l.words (r.va % 64) r.size))) with src := some r.home } : Msg) ∈ t.msgs ∧
        tabGet (t.slice h).lines (lineKey r.asid r.va) = some x ∧ x.words = linePut l.words (r.va % 64) (natBytes r.size v) ∧
        x.dirty = true ∧ ∀ w, tabGet x.owners w = tabGet l.owners w)) ∧
  (∀ l q, tabGet (s.slice h).lines (lineKey r.asid r.va) = some l → q ∈ (s.slice h).miss.flatMap (·.2.reqs) → r.behind q = true →
    (match r.op with
      | .load _ _ | .loadAcq | .store _ _ | .atom _ _ _ | .red _ _ _ | .mwait _ => True
      | _ => False) →
    (s.slice h).miss.length < 64 → (s.slice h).missOf r.asid (r.va % 2 ^ 56 / 64) = none →
    ∃ t k, exec (.sliceRequest ch false) s = .next t ∧ t.msgs = s.msgs ∧ (t.slice h).lines = (s.slice h).lines ∧
      tabGet (t.slice h).miss k = some { asid := r.asid, line := r.va % 2 ^ 56 / 64, reqs := [r], st := .ready l.leaf }) ∧
  (∀ inv nf, r.op = .load inv nf → tabGet (s.slice h).lines (lineKey r.asid r.va) = none →
    tabGet (s.slice h).fwd (lineKey r.asid r.va) = none →
    (∀ k x, (s.slice h).missOf r.asid (r.va % 2 ^ 56 / 64) = some (k, x) → x.reqs.length < 8 →
      ∃ t, exec (.sliceRequest ch false) s = .next t ∧ t.msgs = s.msgs ∧
        tabGet (t.slice h).miss k = some { x with reqs := x.reqs ++ [r] }) ∧
    ((s.slice h).missOf r.asid (r.va % 2 ^ 56 / 64) = none → (s.slice h).miss.length < 64 →
      ((s.slice h).miss.flatMap (·.2.reqs)).any r.behind = false → ∃ t k,
        exec (.sliceRequest ch false) s = .next t ∧ t.msgs = s.msgs ∧ (t.slice h).lines = (s.slice h).lines ∧ k < 64 ∧
        tabGet (s.slice h).miss k = none ∧ (∀ j, j ≠ k → tabGet (t.slice h).miss j = tabGet (s.slice h).miss j) ∧
        tabGet (t.slice h).miss k = some { asid := r.asid, line := r.va % 2 ^ 56 / 64, reqs := [r], st := .lookup }) ∧
    ((s.slice h).missOf r.asid (r.va % 2 ^ 56 / 64) = none → 64 ≤ (s.slice h).miss.length → ∃ t,
      exec (.sliceRequest ch false) s = .next t ∧ t.slices = s.slices ∧ t.msgs = s.msgs ∧
      (t.chan ch).window = winSet (s.chan ch).window i .nacked))) ∧
  (∀ (s : State) (k h : Nat) (a : RevAck) (l : SLine) (held : Option (Req × MsgBody))
  (next : Option Nat), s.revAcks[k]? = some a → h = vaHome a.asid (64 * a.line) →
  tabGet (s.slice h).lines (a.asid * 2 ^ 50 + a.line) = some l → tabGet l.owners a.word = some (.revoke a.core held next) →
  (s.slice h).missOf a.asid a.line = none → s.wayOpen h a.core = true →
  ∃ t x, exec (.revokeAck k) s = .next t ∧ t.mem = s.mem ∧ t.revAcks = s.revAcks.eraseIdx k ∧
    tabGet (t.slice h).lines (a.asid * 2 ^ 50 + a.line) = some x ∧ x.words = l.words ∧
    tabGet x.owners a.word = next.map Owner.core ∧ (∀ w, w ≠ a.word → tabGet x.owners w = tabGet l.owners w) ∧
    (held = none → t.msgs = s.msgs) ∧
    (∀ r b, held = some (r, b) → x.stillHeld (r, b) = false → t.msgs = s.msgs ++ [({ respond r b with src := some r.home } : Msg)])) ∧
  (∀ (s : State) (k : Nat) (a : RevAck), s.revAcks[k]? = some a → s.wayOpen (vaHome a.asid (64 * a.line)) a.core = false →
  exec (.revokeAck k) s = .next s)

/-- R261, R412, R413, R415: a miss looks in the TLB, walks where it misses, and then fills its line from memory; a leaf found enters the
TLB if it lets an access of the miss through; a page that is
not mapped or not resident answers its requests with PROTECTION (0x11) or PAGE_ABSENT (0x10). R286, R287, R420: an MWAIT whose time is up is
answered with the word; that of a saved or parked wave has its fired bit set. A PGREQ is answered once its page is resident,
unmapped or without a backing tag; another asks the Cuset of the issuing
die for its page, once for a page (log 44). -/
def Obligations.MissesTranslateAndFill : Prop :=
  (∀ (s : State) (h k v : Nat) (m : Miss), tabGet (s.slice h).miss k = some m →
  (m.st = .lookup → ∃ t st, exec (.tlbLookup h k) s = .next t ∧ tabGet (t.slice h).miss k = some { m with st := st } ∧
    t.mem = s.mem ∧ t.msgs = s.msgs ∧
    st = match s.tlbHit m.asid m.va with | some e => .ready { e.leaf with pa := e.pa m.va } | none => .walking) ∧
  (m.st = .walking →
    (∀ e, s.walk m.asid m.va = .found e → s.heldFrame (e.pa m.va) = false → ∃ t, exec (.walkComplete h k v false) s = .next t ∧
      t.mem = s.mem ∧ t.msgs = s.msgs ∧ tabGet (t.slice h).miss k = some { m with st := .ready { e.leaf with pa := e.pa m.va } } ∧
      ((∃ r ∈ m.reqs, s.leafFault r.need e.leaf (e.pa m.va) = none) → e ∈ tabVal [] t.xl.tlbs (tlbOf e.asid e.va)) ∧
      ((∀ r ∈ m.reqs, s.leafFault r.need e.leaf (e.pa m.va) ≠ none) → t.xl = s.xl)) ∧
    (∀ r, m.reqs = [r] → s.behindFault r = false → (s.slice h).held = [] →
      (s.walk m.asid m.va = .unmapped ∨ s.walk m.asid m.va = .broken → ∃ t, exec (.walkComplete h k v false) s = .next t ∧
        t.mem = s.mem ∧ t.msgs = s.msgs ++ [({ respond r (.fault 0x11) with src := some r.home } : Msg)] ∧ tabGet (t.slice h).miss k = none) ∧
      (∀ x y, s.walk m.asid m.va = .absent x y → r.op ≠ .load true true → r.op ≠ .load false true →
        ∃ t, exec (.walkComplete h k v false) s = .next t ∧ t.mem = s.mem ∧ t.msgs = s.msgs ++ [({ respond r (.fault 0x10) with src := some r.home } : Msg)] ∧
          tabGet (t.slice h).miss k = none) ∧
      (∀ x y inv, s.walk m.asid m.va = .absent x y → r.op = .load inv true →
        ∃ t, exec (.walkComplete h k v false) s = .next t ∧ t.mem = s.mem ∧ t.msgs = s.msgs ++ [({ respond r .absent with src := some r.home } : Msg)]))) ∧
  (∀ l, m.st = .ready l → l.peer = 0 → l.sliceOnly = false → inTier l.pa = true → s.heldFrame l.pa = false → s.inBuffer l.pa = false →
    tabGet (s.slice h).lines (m.asid * 2 ^ 50 + m.line) = none → tabGet (s.slice h).lines (v / 2) = none → v % 2 = 0 →
    (s.slice h).lines.length + (s.slice h).plines.length < 32768 → (s.slice h).held = [] →
    (∀ e ∈ (s.slice h).miss, e.1 ≠ k → e.2.asid * 2 ^ 50 + e.2.line ≠ m.asid * 2 ^ 50 + m.line) →
    (m.reqs = [] → ∃ t, exec (.sliceFill h k v false) s = .next t ∧ t.mem = s.mem ∧ t.msgs = s.msgs ∧
      tabGet (t.slice h).lines (m.asid * 2 ^ 50 + m.line) =
        some { words := lineWords (memBytes s.mem l.pa 64), dirty := false, leaf := l, owners := [] } ∧
      tabGet (t.slice h).miss k = none) ∧
    (∀ r inv, m.reqs = [r] → r.op = .load inv false → r.asid = m.asid → r.va % 2 ^ 56 / 64 = m.line → s.behindFault r = false →
      s.leafFault r.need l (l.pa + r.va % 64) = none →
      (∀ e ∈ (s.slice h).miss, e.1 ≠ k → e.2.reqs.any r.behind = false) → ∃ t, exec (.sliceFill h k v false) s = .next t ∧ t.mem = s.mem ∧
        tabGet (t.slice h).miss k = none ∧ t.msgs = s.msgs ++ [({ respond r (.data
          (lineGet (lineWords (memBytes s.mem l.pa 64)) (r.va % 64) r.size) (some (lineWords (memBytes s.mem l.pa 64))) inv)
          with src := some r.home } : Msg)]))) ∧
  (∀ (s : State),
  (∀ h k m bs, tabGet (s.slice h).monitors k = some m → m.tmo ≠ 0 → m.tmo ≤ s.ticks → m.rebound = false → m.asid ≠ physAsid →
    s.homeRead m.asid m.va 4 { r := true } = .ok bs →
    ∃ t x, exec (.mwaitTimeout h k) s = .next t ∧ t.mem = s.mem ∧ tabGet (t.slice h).monitors k = none ∧ t.msgs = s.msgs ++ [x] ∧
      x.core = m.core ∧ x.grp = m.grp ∧ x.wave = m.wave ∧ x.slot = m.slot ∧ x.fib = m.fib ∧ x.body = .value (lineWords bs)) ∧
  (∀ h k m W, tabGet (s.slice h).monitors k = some m → m.tmo ≠ 0 → m.tmo ≤ s.ticks → m.rebound = true →
    s.wave m.grp m.wave = some W → (W.fib m.fib).st = .live →
    ∃ t V, exec (.mwaitTimeout h k) s = .next t ∧ t.mem = s.mem ∧ tabGet (t.slice h).monitors k = none ∧ t.msgs = s.msgs ∧
      t.wave m.grp m.wave = some V ∧ V.fib m.fib = { W.fib m.fib with fired := true }) ∧
  (∀ k p, s.xl.pgreqs[k]? = some p →
    (∀ tag x, s.walk p.req.asid p.req.va = .absent tag x → tag ≠ 0 → p.posted = false → ∃ t, exec (.pgreqResident k) s = .next t ∧ t.mem = s.mem ∧
      t.msgs = s.msgs ∧ t.xl.pgreqs = s.xl.pgreqs.set k { p with posted := true } ∧
      ((∀ q ∈ s.xl.resids, q.at_ ≠ x) →
        t.xl.resids = s.xl.resids ++ [{ die := dieOf p.req.core, asid := p.req.asid, va := p.req.va, at_ := x }]) ∧
      ((∃ q ∈ s.xl.resids, q.at_ = x) → t.xl.resids = s.xl.resids)) ∧
    (∀ tag x, s.walk p.req.asid p.req.va = .absent tag x → tag ≠ 0 → p.posted = true → exec (.pgreqResident k) s = .next s) ∧
    ((∀ tag x, s.walk p.req.asid p.req.va = .absent tag x → tag = 0) → ∃ t, exec (.pgreqResident k) s = .next t ∧ t.mem = s.mem ∧
      t.msgs = s.msgs ++ [({ respond p.req .resident with src := some p.req.home } : Msg)] ∧ t.xl.pgreqs = s.xl.pgreqs.eraseIdx k)))

/-- R34, R35, R37, R145, R338: what a core does by itself: at a regroup boundary bundles whose fibres are all
ready merge where they share a PC and a window base, and the YIELDs of earlier core cycles are over; the oldest request for registers
that fits is granted, and its fibres' allocation has grown; where every wave waits for registers and no request fits, in a core cycle that freed none (log 66), the wave of the highest class number, of these
the youngest by admission and of equal ones in the highest slot, parks with REG_POOL_DEADLOCK at its WGROW and gives all its register
units back; an ISYNC
completes and its lines are gone; a pre-empted group stops, and its twin with it. That a bundle with a fibre not yet ready takes no part
and stays whole is log 65. -/
def Obligations.CoreServesItsWaves : Prop := ∀ (s : State),
  (∀ core g G w W, s.group g = some G → G.core? = some core → tabGet G.waves w = some W → W.run = .running →
    (s.core core).cycles % 4 = 0 → (g, G) ∈ s.residents core → ((s.residents core).map (·.1)).Nodup →
    ∃ t V, exec (.regroupBoundary core) s = .next t ∧ t.mem = s.mem ∧ t.wave g w = some V ∧
      (∀ f, V.fib f = match (W.fib f).wait with
        | .yield n => if n < (s.core core).cycles then { W.fib f with wait := .none } else W.fib f
        | _ => W.fib f) ∧
      (∀ f h, f < 32 → h < 32 → (V.fib f).bundled = true → (V.fib h).bundled = true →
        (∀ e ∈ [f, h], ∀ x, (V.fib x).bundled = true →
          ((V.fib x).bundleKey = (V.fib e).bundleKey ∨ ∃ b ∈ W.bundles, e ∈ b ∧ x ∈ b) →
          x ∉ W.letGo ∧ s.fibReady core g w G W x = true) →
        ((∃ b ∈ V.bundles, f ∈ b ∧ h ∈ b) ↔ (V.fib h).bundleKey = (V.fib f).bundleKey)) ∧
      ∀ b ∈ W.bundles, (∀ f ∈ b, (W.fib f).bundled = true) →
        (∃ f ∈ b, f ∈ W.letGo ∨ s.fibReady core g w G W f = false) → b ∈ V.bundles) ∧
  (∀ core r fs n W, s.grantable core = some (r, fs, n) → s.wave r.grp r.wave = some W → fs.Nodup →
    (∀ f ∈ fs, (W.fib f).st = .live) → ∃ t V, exec (.wgrowGrant core) s = .next t ∧ t.mem = s.mem ∧ t.wave r.grp r.wave = some V ∧
      n ≤ s.poolFree core ∧ (∀ f ∈ fs, (V.fib f).wait = .none ∧ (V.fib f).curPc = (W.fib f).curPc ∧ (V.fib f).alloc = (W.fib f).alloc + 16 * r.n ∧
        ∀ n < (W.fib f).alloc, tabGet (V.fib f).regs n = tabGet (W.fib f).regs n) ∧
      ∀ f, f ∉ fs → (V.fib f).wait = (W.fib f).wait) ∧
  (∀ core g w G W, (s.core core).freed = 0 → s.allGrow core = true → (∀ x ∈ s.pendingGrow core, s.poolFree core < x.2.2) →
    (g, G) ∈ s.residents core → (w, W) ∈ G.liveWaves → tabGet G.waves w = some W → takesPart G W = true →
    (∀ h H v V, (h, H) ∈ s.residents core → (v, V) ∈ H.liveWaves → takesPart H V = true → (h, v, V) ≠ (g, w, W) →
      H.cls < G.cls ∨ (H.cls = G.cls ∧ (V.admitted < W.admitted ∨ (V.admitted = W.admitted ∧ V.slot < W.slot)))) →
    ∃ t V x, exec (.regPoolDeadlock core) s = .next t ∧ t.mem = s.mem ∧ t.wave g w = some V ∧ V.run = .draining ∧ V.noUnits = true ∧
      V.units G.hdr.units = 0 ∧ (t.core core).freed = W.units G.hdr.units ∧
      (∀ f n at_, f ∈ W.live → (W.fib f).wait = .wgrow n at_ → (V.fib f).pc = at_ ∧ (V.fib f).wait = .none ∧
        (V.fib f).regs = (W.fib f).regs ∧ (V.fib f).alloc = (W.fib f).alloc) ∧
      (t.faultEng G.die).detected = (s.faultEng G.die).detected ++ [x] ∧ x.cause = 0x40 ∧ x.grp = G.firstOf g ∧ x.wave = w) ∧
  (∀ core, 0 < (s.core core).freed → exec (.regPoolDeadlock core) s = .next s) ∧
  (∀ g w slot G W e o, s.group g = some G → G.core?.isSome = true → tabGet G.waves w = some W → tabGet W.sb slot = some e →
    e.instr = .isync o → W.run = .running → (∀ a ∈ e.accs, W.writesDone e.age a.fib = true) →
    ∃ t V, exec (.isyncComplete g w slot) s = .next t ∧ t.mem = s.mem ∧ t.wave g w = some V ∧
      (∀ x ∈ e.accs, ∀ c, ∀ l ∈ (t.core c).icache, icacheHit G.asid x.va.toNat (x.data.getD 0 0).toNat l.1 = false) ∧
      ∀ x, tabGet V.sb slot = some x → ∀ a ∈ x.accs, a.st = .done) ∧
  (∀ g h H core, (s.pairOf g).Nodup → h ∈ s.pairOf g → s.group h = some H → H.place = .core core → H.firmware = false →
    ∃ t, exec (.preemptRequest g) s = .next t ∧ t.mem = s.mem ∧ t.group h = some { H with place := .saving core, preempt := true })

/-- R201, R202: the next copy of a queue begins: it is cut into segments that follow one another from its first byte to its last
and cross no 1 KiB boundary on either side; no other copy of its engine changes and no byte moves. R15, R201: a segment begins where its
engine has fewer than 64 under way: its request leaves on the engine's own channel for the home slice of its source, of its destination for CPS2G (which slice is
log 31). R209, R216: at its slice a segment's words, read at its source, are written at its destination, the scratchpad of the group and
of its twin, or global memory; one that faults is parked alone and nothing is written. It is done when no revoke holds its write. R203,
R204, R219: a copy whose segments are all done leaves its engine: its tag, in each twin, counts one less and is done at 0; a copy of a
saved group is recorded in the saved context instead. -/
def Obligations.CopiesRunToTheirTags : Prop :=
  (∀ (s : State) (core q id : Nat) (C : Copy),
  s.nextCopy core (tabVal [] (s.copyEng core).queues q) = some id → tabGet (s.copyEng core).copies id = some C →
  s.scratchThere C false = true → s.dieClock (dieOf core) ≠ 3 →
  ∃ t X, exec (.copyBegin core q) s = .next t ∧ t.mem = s.mem ∧ t.slices = s.slices ∧ t.groups = s.groups ∧
    tabGet (t.copyEng core).copies id = some X ∧ X.begun = true ∧ X.src = C.src ∧ X.dst = C.dst ∧ X.len = C.len ∧ X.tag = C.tag ∧
    (∀ j, j ≠ id → tabGet (t.copyEng core).copies j = tabGet (s.copyEng core).copies j) ∧
    (X.segs.map (·.len)).sum = C.len ∧
    ∀ k g, X.segs[k]? = some g → g.off = ((X.segs.take k).map (·.len)).sum ∧ 0 < g.len ∧ g.st = .waiting ∧
      g.src = (C.src + g.off) % 2 ^ 64 ∧ g.dst = (C.dst + g.off) % 2 ^ 64 ∧ g.src % 1024 + g.len ≤ 1024 ∧ g.dst % 1024 + g.len ≤ 1024) ∧
  (∀ (s : State) (core id k : Nat) (C : Copy) (g : Seg),
  tabGet (s.copyEng core).copies id = some C → C.segs[k]? = some g →
  (g.st = .waiting → s.scratchThere C false = true → s.segsUnderWay (g.engine core) < 64 → s.dieClock (dieOf (g.engine core)) ≠ 3 →
    ∃ t X r ch, exec (.segmentComplete core id k 0) s = .next t ∧ t.mem = s.mem ∧ t.slices = s.slices ∧ t.groups = s.groups ∧
      tabGet (t.copyEng core).copies id = some X ∧ (X.segs[k]?).map (·.st) = some .sent ∧
      ch = chanId (copyNode (g.engine core)) (routerNode (routerOfCore (g.engine core))) ∧
      (r ∈ (t.chan ch).queue ∨ r ∈ (t.chan ch).window.map (·.req)) ∧ r.op = .seg core id k ∧ r.asid = C.asid ∧ r.size = g.len ∧
      r.va = (if C.op = 0xB1 then g.dst else g.src) ∧ r.home = vaHome C.asid r.va) ∧
  (∀ ch h i r, g.st = .sent → chanDst ch = 640 + h → h < 128 → nextWire (s.chan ch).window = some (i, r, true) →
    r.op = .seg core id k →
    ∃ t X, exec (.channelEntry ch) s = .next t ∧ t.mem = s.mem ∧ t.slices = s.slices ∧ t.groups = s.groups ∧
      (t.chan ch).window = winSet (s.chan ch).window i .acked ∧
      tabGet (t.copyEng core).copies id = some X ∧ (X.segs[k]?).map (·.st) = some .here) ∧
  (g.st = .here → s.scratchThere C true = true →
    (∀ bs, C.op = 0xB0 → (s.pairOf C.grp).Nodup → s.runBusy C.asid g.src g.len = false → canonical g.src = true →
      (∀ d pa, s.locate C.asid g.src (C.need false) ≠ .peer d pa) → s.readRun C.asid g.src g.len (C.need false) = .ok bs →
      ∃ t X, exec (.segmentComplete core id k 0) s = .next t ∧ t.mem = s.mem ∧ t.slices = s.slices ∧
        (∀ h G, h ∈ s.pairOf C.grp → s.group h = some G → t.group h = some (G.putScr g.dst (lineWords bs))) ∧
        (∀ h, h ∉ s.pairOf C.grp → t.group h = s.group h) ∧
        tabGet (t.copyEng core).copies id = some X ∧ (X.segs[k]?).map (·.st) = some .done) ∧
    (∀ G u, C.op = 0xB1 → s.group C.grp = some G → s.runBusy C.asid g.dst g.len = false → canonical g.dst = true →
      (∀ d pa, s.locate C.asid g.dst (C.need true) ≠ .peer d pa) →
      s.writeRun C.asid g.dst (lineBytes (G.scrWords g.src (g.len / 4))) (C.need true) = .ok u →
      ∃ t X, exec (.segmentComplete core id k 0) s = .next t ∧ t.mem = u.mem ∧ t.slices = u.slices ∧ t.groups = u.groups ∧
        t.msgs = u.msgs ∧ tabGet (t.copyEng core).copies id = some X ∧
        (X.segs[k]?).map (·.st) = some (if u.runBusy C.asid g.dst g.len then .written else .done)) ∧
    (∀ u bs, C.op = 0xB2 → s.runBusy C.asid g.src g.len = false → s.runBusy C.asid g.dst g.len = false → canonical g.src = true →
      canonical g.dst = true → (∀ d pa, s.locate C.asid g.src (C.need false) ≠ .peer d pa) →
      (∀ d pa, s.locate C.asid g.dst (C.need true) ≠ .peer d pa) → s.readRun C.asid g.src g.len (C.need false) = .ok bs →
      s.writeRun C.asid g.dst bs (C.need true) = .ok u →
      ∃ t X, exec (.segmentComplete core id k 0) s = .next t ∧ t.mem = u.mem ∧ t.slices = u.slices ∧ t.groups = u.groups ∧
        t.msgs = u.msgs ∧ tabGet (t.copyEng core).copies id = some X ∧
        (X.segs[k]?).map (·.st) = some (if u.runBusy C.asid g.dst g.len then .written else .done)) ∧
    (C.op ≠ 0xB1 → s.runBusy C.asid g.src g.len = false → (C.op ≠ 0xB0 → s.runBusy C.asid g.dst g.len = false) →
      canonical g.src = false → ∃ t X, exec (.segmentComplete core id k 0) s = .next t ∧ t.mem = s.mem ∧ t.slices = s.slices ∧
        t.groups = s.groups ∧ tabGet (t.copyEng core).copies id = some X ∧ (X.segs[k]?).map (·.st) = some .parked)) ∧
  (g.st = .written → s.runBusy C.asid g.dst g.len = false →
    ∃ t X, exec (.segmentComplete core id k 0) s = .next t ∧ t.mem = s.mem ∧ t.slices = s.slices ∧ t.groups = s.groups ∧
      tabGet (t.copyEng core).copies id = some X ∧ (X.segs[k]?).map (·.st) = some .done)) ∧
  (∀ (s : State) (core id : Nat) (C : Copy),
  tabGet (s.copyEng core).copies id = some C → C.complete = true → core ≠ savedCopies →
  (∀ G W e w slot f, C.owner = .wave C.grp w slot f → s.group C.grp = some G → s.isSaved C.grp = false → (s.pairOf C.grp).Nodup →
    tabGet G.waves w = some W → tabGet W.sb slot = some e → C.bar = none →
    ∃ t, exec (.copyCompletion core id) s = .next t ∧ t.mem = s.mem ∧ tabGet (t.copyEng core).copies id = none ∧
      ∀ h ∈ s.pairOf C.grp, ∀ P x, s.group h = some P → tabGet P.tags C.tag = some x → ∃ H, t.group h = some H ∧
        tabGet H.tags C.tag = some { count := x.count - 1, done := x.done || x.count == 1, fail := x.fail || C.failed,
                                     recent := x.recent || x.count == 1, recentFail := x.recentFail || C.failed } ∧
        ∀ n, n ≠ C.tag → tabGet H.tags n = tabGet P.tags n) ∧
  (s.isSaved C.grp = true → ∃ t, exec (.copyCompletion core id) s = .next t ∧ t.mem = s.mem ∧ t.groups = s.groups ∧
    tabGet (t.copyEng core).copies id = none ∧ tabGet (t.copyEng savedCopies).copies id = some C))

/-- R224, R231, R242: a matrix engine grants the highest-ranked eligible pass when it holds fewer than three granted ones and no
late item stops it, and fetches its operands; a late item arrives. R295: a redirected pass asks the mailbox slice of the quad that
holds its tiles for its tile and its scratchpad operands, and sends its values there to be written. R445, R446: an engine whose die is in
state 3, or that is to be gated, grants nothing. R237, R240, R241, R243: a pass whose array made no error
passes the residue check with the sums that its operands give; its commit writes them to its tile, tagged f32, counts one pass
done, gathers its exceptions and frees its reservation. How many passes are granted at once is the model's reading (log 32). -/
def Obligations.PassesRunToTheirCommit : Prop :=
  (∀ (s : State) (q : Nat),
  (∀ k p G a b m, (s.matrix q).gated = false → s.gatePending q = false → s.dieClock (q / 9) ≠ 3 → s.mxStalled q = false →
    ((s.matrix q).entries.filter fun e => e.2.st == .granted).length < 3 → q < 108 →
    s.bestPass ((s.matrix q).entries.filter fun e => s.passEligible e.2) = some (k, p) → tabGet (s.matrix q).entries k = some p →
    s.group p.grp = some G → s.recheckPass G p = none → s.fetchPass G p none = .ok (a, b, m) →
    (∀ r ∈ (blockOf p.blk).opA.runs ++ (blockOf p.blk).opB.runs ++ (blockOf p.blk).metaRuns, s.homeBusy G.asid r.1 r.2 = false) →
    (∀ e ∈ (s.matrix q).entries, s.passEligible e.2 = true → keysBelow (s.passRank e.2) (s.passRank p) = false) ∧
    ∃ t x, exec (.passGrant q none) s = .next t ∧ t.mem = s.mem ∧ t.groups = s.groups ∧ tabGet (t.matrix q).entries k = some x ∧
      x.st = .granted ∧ x.turn = s.eng.nextPass ∧ x.opA = a ∧ x.opB = b ∧ x.meta_ = m ∧ x.blk = p.blk ∧ x.staged = p.staged ∧
      (p.redirected = false → x.path = .direct) ∧
      (p.redirected = true → x.path = .reading ∧ x.late = true ∧ ∃ r ch, ch = chanId (matrixNode q) (routerNode (48 * (q / 54) + q % 54 % 48)) ∧
        (r ∈ (t.chan ch).queue ∨ r ∈ (t.chan ch).window.map (·.req)) ∧ r.op = .pass q s.eng.nextPass false ∧
        r.home = mailboxOf (quadOf p.core))) ∧
  ((s.matrix q).gated = true ∨ s.gatePending q = true ∨ s.dieClock (q / 9) = 3 → exec (.passGrant q none) s = .next s) ∧
  (∀ ch h i r turn k p G, chanDst ch = 640 + h → h < 128 → nextWire (s.chan ch).window = some (i, r, true) → r.op = .pass q turn false →
    ((s.matrix q).entries.find? fun e => e.2.turn == turn && e.2.redirected) = some (k, p) → tabGet (s.matrix q).entries k = some p →
    p.path = .reading → s.group p.grp = some G →
    ∃ t x, exec (.channelEntry ch) s = .next t ∧ t.mem = s.mem ∧ t.groups = s.groups ∧ tabGet (t.matrix q).entries k = some x ∧
      x.path = .read ∧ x.tileIn = some (G.tile p.tile) ∧ x.blk = p.blk ∧ x.st = p.st) ∧
  (∀ k p, (s.matrix q).oldest (·.late) = some (k, p) → tabGet (s.matrix q).entries k = some p →
    p.path ≠ .reading → s.dieClock (q / 9) ≠ 3 →
    ∃ t, exec (.lateItemArrival q) s = .next t ∧ t.mem = s.mem ∧ tabGet (t.matrix q).entries k = some { p with late := false } ∧
      ∀ j, j ≠ k → tabGet (t.matrix q).entries j = tabGet (s.matrix q).entries j) ∧
  (∀ k p va which rest bs, s.scaleLate q = some (k, p) → s.dieClock (q / 9) ≠ 3 → tabGet (s.matrix q).entries k = some p →
    (s.matrix q).scaleMisses (s.passAsid p) p = (va, which) :: rest → s.homeBusy (s.passAsid p) va 64 = false →
    s.homeRead (s.passAsid p) va 64 { r := true } = .ok bs → (s.matrix q).scale.length < scaleCap →
    ∃ t, exec (.scaleLineFill q 0 false) s = .next t ∧ t.mem = s.mem ∧
      tabGet (t.matrix q).entries k = some { p with scale := tabSet p.scale (lineKey (s.passAsid p) va) bs } ∧
      (∀ j, j ≠ k → tabGet (t.matrix q).entries j = tabGet (s.matrix q).entries j) ∧
      tabGet (t.matrix q).scale (lineKey (s.passAsid p) va) = some bs)) ∧
  (∀ (s : State) (q k : Nat) (p : Pass) (G : Group), tabGet (s.matrix q).entries k = some p →
  s.group p.grp = some G → s.dieClock (q / 9) ≠ 3 →
  (((s.matrix q).oldest fun p => p.st == .granted) = some (k, p) → s.mxStalled q = false →
    ∃ t x st, exec (.passResidueCheck q []) s = .next t ∧ t.mem = s.mem ∧ t.groups = s.groups ∧ tabGet (t.matrix q).entries k = some x ∧
      x.st = .committing ∧ x.staged = some st ∧
      st.elems = (mxOutputs (s.matrix q) G.asid G.hdr.level (blockOf p.blk) p (p.tileIn.getD (G.tile p.tile)) []).map fun o =>
        (128 * o.row + o.col, BitVec.ofNat 32 o.val)) ∧
  (∀ x, ((s.matrix q).oldest fun p => p.st == .committing && p.path != .storing) = some (k, p) → s.mxStalled q = false →
    p.staged = some x → p.redirected = true →
    ∃ t r ch, exec (.passCommitDone q) s = .next t ∧ t.mem = s.mem ∧ t.groups = s.groups ∧
      tabGet (t.matrix q).entries k = some { p with path := .storing } ∧
      ch = chanId (matrixNode q) (routerNode (48 * (q / 54) + q % 54 % 48)) ∧
      (r ∈ (t.chan ch).queue ∨ r ∈ (t.chan ch).window.map (·.req)) ∧ r.op = .pass q p.turn true ∧ r.home = mailboxOf (quadOf p.core)) ∧
  (∀ x i, ((i = .passCommitDone q ∧ ((s.matrix q).oldest fun p => p.st == .committing && p.path != .storing) = some (k, p) ∧
      s.mxStalled q = false ∧ p.redirected = false) ∨
      ∃ ch h j r, i = .channelEntry ch ∧ chanDst ch = 640 + h ∧ h < 128 ∧ nextWire (s.chan ch).window = some (j, r, true) ∧
        r.op = .pass q p.turn true ∧ p.path = .storing ∧
        ((s.matrix q).entries.find? fun e => e.2.turn == p.turn && e.2.redirected) = some (k, p)) →
    p.staged = some x → (s.pairOf p.grp).Nodup → (x.elems.map (·.1)).Nodup →
    ∃ t, exec i s = .next t ∧ t.mem = s.mem ∧ tabGet (t.matrix q).entries k = none ∧
      ∀ h ∈ s.pairOf p.grp, ∀ G W, s.group h = some G → tabGet G.waves p.wave = some W → ∃ H V, t.group h = some H ∧
      tabGet H.waves p.wave = some V ∧ (H.tile p.tile).tag = .f32 ∧ (∀ e ∈ x.elems, tabVal 0 (H.tile p.tile).elems e.1 = e.2) ∧
      (∀ n, n ∉ x.elems.map (·.1) → tabVal 0 (H.tile p.tile).elems n = tabVal 0 (G.tile p.tile).elems n) ∧
      (∀ n, n ≠ p.tile → H.tile n = G.tile n) ∧
      V.mxdone = W.mxdone + 1 ∧ V.mxflags = W.mxflags ||| (x.exc &&& 0x5D) ∧ V.mxsig = BitVec.ofNat 32 x.sig ∧
      V.fibres = W.fibres ∧ V.ks = W.ks))

/-- R225, R245 to R249: the other tile operations, once no earlier operation or pass holds their tiles: MXRD reads four elements
of its own group's tile for each fibre, MXCLR clears its tiles, MXWR writes four elements, a higher fibre's last, in both twins' tiles
(R255), MXSC takes the lines of its range from the quad's scale cache; each of these completes its
entry, in both twins. R249: a quad's histogram unit answers its oldest request in
both twins: D is the scale that the values of its block give. -/
def Obligations.TileOperationsComplete : Prop :=
  (∀ (s : State) (g w slot : Nat) (G : Group) (W : Wave) (e : Entry),
  s.group g = some G → tabGet G.waves w = some W → tabGet W.sb slot = some e → (s.pairOf g).Nodup → G.core?.isSome = true →
  40 ≤ slot → slot < 48 → s.dieClock (quadOf G.coreNo / 9) ≠ 3 → s.earlierTile g w G W e.age (s.entryTiles g w slot e) = false →
  (∀ o, e.instr = .mxrd o → s.tileHeld (primaryOf g G) true (s.entryTiles g w slot e) = false →
    ∃ t, exec (.tileOperationComplete g w slot) s = .next t ∧ t.mem = s.mem ∧
      t.wave g w = some ((e.accs.filter fun a => a.st == .sent).foldl (fun X a => X.complete slot a.fib ((List.range 4).map fun i =>
        ⟨tabVal 0 (G.tile (bits (a.data.getD 0 0).toNat 14 4)).elems
          (128 * bits (a.data.getD 0 0).toNat 7 7 + bits (a.data.getD 0 0).toNat 0 7 + i),
          (G.tile (bits (a.data.getD 0 0).toNat 14 4)).tag⟩) none) W)) ∧
  (G.isTwin = false → s.tileHeld g false (s.entryTiles g w slot e) = false →
    (∀ o, e.instr = .mxclr o → ∃ t, exec (.tileOperationComplete g w slot) s = .next t ∧ t.mem = s.mem ∧
      (∀ h ∈ s.pairOf g, ∀ V x, s.wave h w = some V → V.sb.find? (fun y => y.2.age == e.age) = some x → tabGet V.sb x.1 = some x.2 →
        ∃ U, t.wave h w = some U ∧ U.fibres = V.fibres ∧ ∀ y, tabGet U.sb x.1 = some y → ∀ a ∈ y.accs, a.st = .done) ∧
      ∀ h ∈ s.pairOf g, ∀ P, s.group h = some P → ∃ H, t.group h = some H ∧
        ∀ n < 16, H.tile n = if o.tm.testBit n then ⟨.f32, []⟩ else P.tile n) ∧
    (∀ o, e.instr = .mxwr o → ∃ t, exec (.tileOperationComplete g w slot) s = .next t ∧ t.mem = s.mem ∧
      (∀ h ∈ s.pairOf g, ∀ V x, s.wave h w = some V → V.sb.find? (fun y => y.2.age == e.age) = some x → tabGet V.sb x.1 = some x.2 →
        ∃ U, t.wave h w = some U ∧ U.fibres = V.fibres ∧ ∀ y, tabGet U.sb x.1 = some y → ∀ a ∈ y.accs, a.st = .done) ∧
      ∀ h ∈ s.pairOf g, ∀ P, s.group h = some P → ∃ H, t.group h = some H ∧
        (∀ a ∈ e.accs, (H.tile (indexTile (a.data.getD 0 0))).tag = .f32) ∧
        (∀ (k : Nat) (a : Acc), e.accs[k]? = some a → ∀ j < 4,
          (∀ (m : Nat) (b : Acc), k < m → e.accs[m]? = some b → ∀ i < 4, indexTile (b.data.getD 0 0) = indexTile (a.data.getD 0 0) →
            128 * bits (b.data.getD 0 0).toNat 7 7 + bits (b.data.getD 0 0).toNat 0 7 + i ≠
              128 * bits (a.data.getD 0 0).toNat 7 7 + bits (a.data.getD 0 0).toNat 0 7 + j) →
          tabVal 0 (H.tile (indexTile (a.data.getD 0 0))).elems
            (128 * bits (a.data.getD 0 0).toNat 7 7 + bits (a.data.getD 0 0).toNat 0 7 + j) = a.data.getD (1 + j) 0) ∧
        ∀ n, (∀ a ∈ e.accs, indexTile (a.data.getD 0 0) ≠ n) → H.tile n = P.tile n) ∧
    (∀ o, e.instr = .mxsc o → ∃ t, exec (.tileOperationComplete g w slot) s = .next t ∧ t.mem = s.mem ∧ t.slices = s.slices ∧
      (∀ h ∈ s.pairOf g, ∀ V x, s.wave h w = some V → V.sb.find? (fun y => y.2.age == e.age) = some x → tabGet V.sb x.1 = some x.2 →
        ∃ U, t.wave h w = some U ∧ U.fibres = V.fibres ∧ ∀ y, tabGet U.sb x.1 = some y → ∀ a ∈ y.accs, a.st = .done) ∧
      (∀ a ∈ e.accs, ∀ l ∈ (t.matrix (quadOf G.coreNo)).scale, l.1 / 2 ^ 50 = G.asid → ∀ x < (a.data.getD 2 0).toNat,
        ((pair (a.data.getD 0 0) (a.data.getD 1 0)).toNat + x) % 2 ^ 56 / 64 ≠ l.1 % 2 ^ 50) ∧
      ∀ l ∈ (s.matrix (quadOf G.coreNo)).scale, l.1 / 2 ^ 50 ≠ G.asid → l ∈ (t.matrix (quadOf G.coreNo)).scale))) ∧
  (∀ (s : State) (q : Nat) (r : HistReq) (rest : List HistReq) (G : Group) (W : Wave) (e : Entry),
  (s.matrix q).hist = r :: rest → s.group r.grp = some G → tabGet G.waves r.wave = some W → tabGet W.sb r.slot = some e →
  (s.pairOf r.grp).Nodup → s.dieClock (q / 9) ≠ 3 →
  ∃ t, exec (.mxhistServe q) s = .next t ∧ t.mem = s.mem ∧ (t.matrix q).hist = rest ∧
    ∀ h ∈ s.pairOf r.grp, ∀ V x, s.wave h r.wave = some V → V.sb.find? (fun y => y.2.age == e.age) = some x →
      t.wave h r.wave = some (V.complete x.1 r.fib
        [⟨BitVec.ofNat 32 (histScale (G.scrWords r.off (bits r.ctl.toNat 0 16 + 1)) r.ctl G.hdr.level), .e8x4⟩] none))

/-- R303, R304, R305, R306: once the mesh cycle of its arrival has ended, and those before it have been compared and every
generation-table write that came no later has taken effect, an operation that
meets an eligible partner at a router claspes with it: one of the opposite direction with the same words, whose window has not ended, and
that dwelt longest there. The push has status 1, the pop the push's value, and no object changes. Without a partner it dwells at its
injection router or goes on; once its window has ended it departs. R299, R307: an operation at its object: a push on a full object
answers 2 and changes nothing, another stores its value and answers 0; a pop of an empty object answers no value; a stack gives the
value pushed last, a queue the one pushed first. A handle of no live entry, or of another address space's (R309), parks its operation alone with
OBJECT_STALE (R312). -/
def Obligations.ClaspsAndObjects : Prop :=
  (∀ (s : State),
  (∀ (router b : Nat) (r : Req) (j : Nat) (d : Dwell), s.partner router b r = some (j, d) →
    s.mesh.dwells[j]? = some d ∧ d.router = router ∧ partners r d.req = true ∧ s.eligible router d.req = true ∧ b < d.since + d.win ∧
    ∀ x ∈ s.mesh.dwells, x.router = router → partners r x.req = true → s.eligible router x.req = true → b < x.since + x.win →
      d.since ≤ x.since) ∧
  (∀ (k ch i : Nat) (x : BufEntry) (router : Nat) (r : Req), s.meeting[k]? = some (ch, i, x) → router = chanDst ch - 512 → r = x.req →
    x.at_ < s.meshCycles → s.meeting.any (arrivedBefore · (ch, i, x)) = false → s.genDue router x.at_ = false →
    (∀ j d lo hi v, s.eligible router r = true → s.partner router x.at_ r = some (j, d) →
      (r.op = .pop lo hi → d.req.op = .push lo hi v → ∃ t, exec (.claspArrival k) s = .next t ∧ t.mem = s.mem ∧ t.slices = s.slices ∧
        (t.chan ch).buf = (s.chan ch).buf.eraseIdx i ∧ t.mesh.dwells = s.mesh.dwells.eraseIdx j ∧
        t.msgs = s.msgs ++ [{ respond d.req (.status 1) with src := some (128 + router) },
                            { respond r (.popped (some v)) with src := some (128 + router) }]) ∧
      (r.op = .push lo hi v → d.req.op = .pop lo hi → ∃ t, exec (.claspArrival k) s = .next t ∧ t.mem = s.mem ∧ t.slices = s.slices ∧
        (t.chan ch).buf = (s.chan ch).buf.eraseIdx i ∧ t.mesh.dwells = s.mesh.dwells.eraseIdx j ∧
        t.msgs = s.msgs ++ [{ respond r (.status 1) with src := some (128 + router) },
                            { respond d.req (.popped (some v)) with src := some (128 + router) }])) ∧
    (s.eligible router r = true → s.partner router x.at_ r = none → router = routerOfCore r.core → s.dwellingAt router x.at_ < 16 →
      ∃ t, exec (.claspArrival k) s = .next t ∧ t.mem = s.mem ∧ t.msgs = s.msgs ∧ t.slices = s.slices ∧
        (t.chan ch).buf = (s.chan ch).buf.eraseIdx i ∧
        t.mesh.dwells = s.mesh.dwells ++ [{ router := router, since := x.at_, req := r }]) ∧
    (s.eligible router r = false ∨ (s.partner router x.at_ r = none ∧ (router ≠ routerOfCore r.core ∨ 16 ≤ s.dwellingAt router x.at_)) →
      ∃ t, exec (.claspArrival k) s = .next t ∧ t.mem = s.mem ∧ t.msgs = s.msgs ∧ t.slices = s.slices ∧ t.mesh = s.mesh ∧
        ∀ y, (t.chan ch).buf[y]? = ((s.chan ch).buf[y]?).map fun (z : BufEntry) => if y = i then { z with met := true } else z)) ∧
  (∀ (router k i : Nat) (d : Dwell) (ch : Nat),
    ((s.mesh.dwells.mapIdx fun i (d : Dwell) => (i, d)).filter fun x => x.2.router == router)[k]? = some (i, d) →
    (d.since + d.win ≤ s.meshCycles ∧
        (∀ x ∈ s.meeting, chanDst x.1 = routerNode router → d.since + d.win ≤ x.2.2.at_)) ∨ s.leaving d.req = true →
    ch = chanId (routerNode router) (nextNode router d.req.home) →
    ∃ t, exec (.dwellExpiry router k) s = .next t ∧ t.mem = s.mem ∧ t.msgs = s.msgs ∧ t.mesh.dwells = s.mesh.dwells.eraseIdx i ∧
      (d.req ∈ (t.chan ch).queue ∨ d.req ∈ (t.chan ch).window.map (·.req)) ∧ ∀ x, x ≠ ch → t.chan x = s.chan x)) ∧
  (∀ (s : State) (k : Nat) (r : Req) (lo hi : Word) (p : Bool) (o : ObjEntry),
  s.mesh.falls[k]? = some r → r.clasp = some (lo, hi, p) →
  (∀ x ∈ s.mesh.falls.take k, ∀ lo' hi' q, x.clasp = some (lo', hi', q) → handleHome lo' ≠ handleHome lo ∨ handleSlot hi' ≠ handleSlot hi) →
  o = (s.slice r.home).obj (handleSlot hi) →
  (o.used = false ∨ o.gen ≠ handleGen lo ∨ o.asid ≠ bits hi.toNat 0 16 → ∃ t, exec (.fallThrough k false) s = .next t ∧ t.mem = s.mem ∧
    t.slices = s.slices ∧ t.msgs = s.msgs ∧ t.mesh.falls = s.mesh.falls.eraseIdx k ∧ t.groups = s.groups ∧
    ∀ G W e, s.group r.grp = some G → tabGet G.waves r.wave = some W → tabGet W.sb r.slot = some e →
      ∃ y, (t.faultEng G.die).detected = (s.faultEng G.die).detected ++ [y] ∧ y.of = .clasp r ∧ y.cause = 0x14 ∧ y.late = false ∧
        y.grp = r.grp ∧ y.wave = r.wave ∧ y.core = r.core ∧ y.fpc = e.pc.toNat ∧ y.fmask = maskOf [r.fib] ∧
        tabGet y.tail 32 = some lo ∧ tabGet y.tail 33 = some hi) ∧
  (o.used = true → o.gen = handleGen lo → o.asid = bits hi.toNat 0 16 → ∃ t x m, exec (.fallThrough k false) s = .next t ∧ t.mem = s.mem ∧
    t.mesh.falls = s.mesh.falls.eraseIdx k ∧ x = (t.slice r.home).obj (handleSlot hi) ∧
    t.msgs = s.msgs ++ [({ respond r m with src := some r.home } : Msg)] ∧
    (∀ v, r.op = .push lo hi v → o.cap ≤ o.count → x = o ∧ m = .status 2) ∧
    (∀ v, r.op = .push lo hi v → o.count < o.cap → x.count = o.count + 1 ∧ x.head = o.head ∧ m = .status 0 ∧
      tabVal 0 x.slots (if o.kind = 2 then (o.head + o.count) % o.cap else o.count) = v) ∧
    (r.op = .pop lo hi → o.count = 0 → x = o ∧ m = .popped none) ∧
    (r.op = .pop lo hi → 0 < o.count → x.count = o.count - 1 ∧ x.slots = o.slots ∧
      m = .popped (some (tabVal 0 o.slots (if o.kind = 2 then o.head else o.count - 1))) ∧
      x.head = if o.kind = 2 then (o.head + 1) % o.cap else o.head)))

/-- R296, R297, R303, R310: a congestion window ends after 4,096 mesh cycles: a router's NACKs and the mean occupancy of its request
buffers, rounded down to 255ths of full (log 68), are held against MTHRESH; no memory-bound group, no allowance; a congested base
die halves its allowance, down to 1, another doubles it, up to the number of its memory-bound groups; no group is held twice running.
A generation-table write at its router takes effect after those before it on its channel and once the operations that arrived
there in an earlier mesh cycle have been compared, and the last acknowledgement completes a
registration with its handle. -/
def Obligations.MeshTablesAndWindows : Prop := ∀ (s : State),
  (∀ hold0 hold1, s.mesh.winBegan + 4096 ≤ s.meshCycles → ∃ t, exec (.congestionWindowEnd hold0 hold1) s = .next t ∧ t.mem = s.mem ∧
    t.msgs = s.msgs ∧ t.mesh.winBegan = s.mesh.winBegan + 4096 ∧
    (∀ b < 2, ∀ (n : Nat) (occ : Nat → Nat), n = (s.memBound b).length →
      (∀ r, occ r = min 255 (255 * (s.router r).curOcc / (8 * portCount r * (s.meshCycles - s.mesh.winBegan)))) →
      (n = 0 → (t.baseDie b).allow = 0) ∧ (t.baseDie b).nthr = (s.baseDie b).nthr ∧ (t.baseDie b).othr = (s.baseDie b).othr ∧
      (0 < n → (∀ r < 96, r / 48 = b → min (s.router r).curNacks 0xFFFF < (s.baseDie b).nthr ∧ occ r < (s.baseDie b).othr) →
        (t.baseDie b).allow = min n (2 * if (s.baseDie b).allow = 0 then n else min (s.baseDie b).allow n)) ∧
      (0 < n → (∃ r < 96, r / 48 = b ∧ ((s.baseDie b).nthr ≤ min (s.router r).curNacks 0xFFFF ∨ (s.baseDie b).othr ≤ occ r)) →
        (t.baseDie b).allow = max 1 ((if (s.baseDie b).allow = 0 then n else min (s.baseDie b).allow n) / 2))) ∧
    ∀ g G H, s.group g = some G → t.group g = some H → H.heldLast = G.held ∧
      ((∀ p P, s.group p = some P → g ∈ s.pairOf p → P.held = G.held) → G.held = true → H.held = false)) ∧
  (∀ k ch i b w, s.genHere[k]? = some (ch, i, b, w) → (∀ x ∈ s.genHere, x.1 = ch → i ≤ x.2.1) →
    (∀ x ∈ s.meeting, chanDst x.1 = routerNode w.router → b ≤ x.2.2.at_) →
    ∃ t, exec (.genTableWrite k) s = .next t ∧ t.mem = s.mem ∧ t.msgs = s.msgs ∧ (t.chan ch).buf = (s.chan ch).buf.eraseIdx i ∧
      t.mesh.genAcks = s.mesh.genAcks ++ [w] ∧
      tabGet t.mesh.genTable (genKey w.router w.home w.slot) = some ⟨w.valid, w.gen⟩ ∧
      (∀ n, n ≠ genKey w.router w.home w.slot → tabGet t.mesh.genTable n = tabGet s.mesh.genTable n) ∧
      (w.valid = true → t.mesh.dwells = s.mesh.dwells) ∧
      (w.valid = false → ∀ d ∈ t.mesh.dwells, d ∈ s.mesh.dwells ∧ ∀ lo hi p, d.req.clasp = some (lo, hi, p) →
        d.router ≠ w.router ∨ handleHome lo ≠ w.home ∨ handleSlot hi ≠ w.slot ∨ handleGen lo ≠ w.gen)) ∧
  (∀ k w o, s.mesh.genAcks[k]? = some w → tabGet s.mesh.objOps w.op = some o →
    (1 < o.left → ∃ t, exec (.genTableAck k) s = .next t ∧ t.mem = s.mem ∧ t.msgs = s.msgs ∧
      t.mesh.genAcks = s.mesh.genAcks.eraseIdx k ∧ tabGet t.mesh.objOps w.op = some { o with left := o.left - 1 }) ∧
    (o.left ≤ 1 → o.old = none → ∃ t, exec (.genTableAck k) s = .next t ∧ t.mem = s.mem ∧
      tabGet t.mesh.objOps w.op = none ∧
      t.msgs = s.msgs ++ [({ respond o.req (.value o.handle) with src := some o.req.home } : Msg)]) ∧
    (∀ e, o.left ≤ 1 → o.old = some e → ∃ t, exec (.genTableAck k) s = .next t ∧ tabGet t.mesh.objOps w.op = none ∧
      ({ respond o.req (.ack false) with src := some o.req.home } : Msg) ∈ t.msgs))

/-- R324, R325, R327, R330, R331: the first detected subject at rest takes the lowest free record of its die's engine (log 16), PARKED,
and its wave is parked by that record; a held subject takes one once one is free and it is at rest. A record routed to another module whose link
is down is delivered again with REMOTE_ROUTE (R329). R327, R328, R380: the task that stands first in a class slot starts its
handler, a group one level deeper with the record in K0 and the cause in K1, on a core that has room, where no work of a lower class
number could start there (R13); so does the task of another module's record (R437); the Cuset default handler answers PAGE_ABSENT
of a page that is resident at once by RETRY (log 44), so that the record is free. R331, R332: at its deadline a task that has not started moves
to the head of class 0, with DLMISS set, and a running handler parks as a whole; a handler that has used its budget parks. -/
def Obligations.FaultEnginesRun : Prop :=
  (∀ (s : State) (die idx : Nat) (x : Subject), die < 12 →
  freeFrom ((s.faultEng die).recs.map (·.1)) 4096 0 = some idx → s.engineTakes = true → s.depthOf x = 0 →
  ((s.faultEng die).detected.find? s.atRest = some x → s.subjectStands x = true →
    (∀ y ∈ (s.faultEng die).heldSubs, s.depthOf y ≠ 0) →
    ∃ t R, exec (.subjectPark die) s = .next t ∧ t.mem = s.mem ∧ (t.faultEng die).detected = (s.faultEng die).detected.erase x ∧
      tabGet (t.faultEng die).recs idx = some R ∧ R.gen = (s.faultEng die).gen idx ∧ R.st = .parked ∧ R.depth = 0 ∧
      (R.rerouted = false → R.subj = x) ∧ (R.rerouted = true → R.subj = { x with cause := 0x53, detail := x.cause }) ∧
      (∀ j, j ≠ idx → tabGet (t.faultEng die).recs j = tabGet (s.faultEng die).recs j) ∧
      (x.of = .wave → ∃ V, t.wave x.grp x.wave = some V ∧ V.run = .parked (ridOf die idx R.gen))) ∧
  (∀ rest, (s.faultEng die).heldSubs = x :: rest → s.atRest x = true →
    ∃ t R, exec (.heldSubjectRecord die) s = .next t ∧ t.mem = s.mem ∧ (t.faultEng die).heldSubs = rest ∧
      tabGet (t.faultEng die).recs idx = some R ∧ R.gen = (s.faultEng die).gen idx ∧ R.st = .parked ∧ R.depth = 0)) ∧
  (∀ (s : State) (die cls core rid : Nat) (R : Record) (maps : List TableWrite),
  s.switching = false → s.cpRuns = true → s.dieLost die = false → s.dieClock die ≠ 3 →
  s.nextTask (tabVal [] s.cp.tasks (8 * die + cls)) = some (.own rid) → s.record rid = some R → R.st = .parked →
  (∀ h u, R.toFirmware = false → (s.handlerHeader (s.inFirmware R.subj) R.subj.asid R.handler).filter (·.fault) = some h →
    s.lowerWork core cls = false →
    s.admitHandler die core { handlerGroup h R.handler rid R.subj.cause R.depth R.budget R.subj.ctx R.subj.asid cls 0 with
      firmware := s.inFirmware R.subj && h.roles.testBit 3 } = some u →
    ∃ t X H, exec (.faulttask die cls core maps) s = .next t ∧ t.record rid = some X ∧ X.st = .handling ∧
      X.hgrp = some s.nextGroup ∧ X.subj = R.subj ∧ t.group s.nextGroup = some H ∧ H.frec = rid ∧ H.fcause = R.subj.cause ∧
      H.flevel = R.depth + 1 ∧ H.place = .core core ∧
      (∀ w W f, tabGet H.waves w = some W → W.get f (.k 0) = ⟨BitVec.ofNat 32 rid, .n32⟩ ∧
        W.get f (.k 1) = ⟨BitVec.ofNat 32 R.subj.cause, .n32⟩)) ∧
  (∀ e, R.toFirmware = true → R.subj.of = .wave → R.subj.cause = 0x10 → s.walk R.subj.asid R.subj.va = .found e →
    ∃ t, exec (.faulttask die cls core maps) s = .next t ∧ t.record rid = none)) ∧
  (∀ (s : State) (die cls core dev ctx : Nat) (p : List Byte) (late : Bool) (h : Header) (u : State) (maps : List TableWrite),
  s.switching = false → s.cpRuns = true → s.dieLost die = false → s.dieClock die ≠ 3 → s.lowerWork core cls = false →
  s.nextTask (tabVal [] s.cp.tasks (8 * die + cls)) = some (.remote dev ctx p late) →
  (s.readHeader (((s.ctx ctx).map (·.asid)).getD 0) (pkt p 0x10 8)).filter (·.fault) = some h →
  s.admitHandler die core (handlerGroup h (pkt p 0x10 8) (pkt p 8 4) (pkt p 0x0C 1) (pkt p 0x0E 1) (pkt p 0x18 4) ctx
    (((s.ctx ctx).map (·.asid)).getD 0) cls dev) = some u →
  ∃ t H, exec (.faulttask die cls core maps) s = .next t ∧ t.group s.nextGroup = some H ∧ H.frec = pkt p 8 4 ∧ H.origin = dev ∧
    H.fcause = pkt p 0x0C 1 ∧ H.flevel = pkt p 0x0E 1 + 1 ∧ H.tdl = pkt p 0x20 8 ∧ H.place = .core core ∧
      (∀ w W f, tabGet H.waves w = some W → W.get f (.k 0) = ⟨BitVec.ofNat 32 (pkt p 8 4), .n32⟩ ∧
        W.get f (.k 1) = ⟨BitVec.ofNat 32 (pkt p 0x0C 1), .n32⟩)) ∧
  (∀ (s : State) (rid : Nat) (R : Record),
  s.record rid = some R →
  (R.dlmiss = false → R.tdl ≠ 2 ^ 64 - 1 → R.tdl ≤ s.ticks →
    (R.st = .parked → R.queued = true → ∃ t, exec (.taskDeadline rid) s = .next t ∧ t.mem = s.mem ∧ t.groups = s.groups ∧
      t.record rid = some { R with dlmiss := true } ∧ (tabVal [] t.cp.tasks (8 * R.tdie)).head? = some (.own rid)) ∧
    (∀ g G, R.st = .handling → R.owed = false → R.hgrp = some g → s.group g = some G → G.parked = false →
      ∃ t, exec (.taskDeadline rid) s = .next t ∧ t.mem = s.mem ∧ t.record rid = some { R with dlmiss := true } ∧
        ∀ h ∈ s.pairOf g, ∀ H, s.group h = some H → t.group h = some { H with parked := true })) ∧
  (∀ g G, s.group g = some G → G.frec = rid → rid ≠ 0 → G.budget = some 0 → G.parked = false → G.place ≠ .ended → G.isTwin = false →
    (∀ e ∈ s.groups, e.2.frec = rid → e.2.isTwin = false → e = (g, G)) →
    ∃ t, exec (.budgetExpired rid) s = .next t ∧ t.mem = s.mem ∧
      ∀ h ∈ s.pairOf g, ∀ H, s.group h = some H → t.group h = some { H with parked := true }))

/-- R338, R340: a group that has drained leaves its core with its registers and its scratchpad in its saved context, a mirror
pair together; a saved group that has room comes back to a core of its die and stands there, where no work of a lower class number
could start there (R13). R29, R391, R392: a launch whose context's mark covers its private pages, or is raised over the pages that Cuset maps (log 44),
enters the machine with its packet begun: in WAIT, with the lowest free barriers allotted to it, where every quad and die that it is dealt to, the package and
the pod network have as many free as it asks for, else in CHECK with none; a waiting group of a launch that runs is admitted to the core that
it was dealt to. -/
def Obligations.GroupsAreSavedAndStarted : Prop :=
  (∀ (s : State) (g : Nat) (G : Group), s.group g = some G → G.isTwin = false → (s.pairOf g).Nodup →
  ((∀ h ∈ s.pairOf g, s.saveReady h = true) → ∃ t, exec (.groupSave g) s = .next t ∧ t.mem = s.mem ∧
    ∀ h ∈ s.pairOf g, ∀ P, s.group h = some P → ∃ H, t.group h = some H ∧ H.place = .saved P.coreNo ∧
    H.preempt = false ∧ H.scratch = P.scratch ∧
    ∀ w W, tabGet P.waves w = some W → ∃ V, tabGet H.waves w = some V ∧ V.fibres = W.fibres ∧ V.ks = W.ks ∧ V.masks = W.masks) ∧
  (∀ core u, s.seat g core = some u → s.comesWith g G = [] → s.lowerWork core G.cls = false →
    ∃ t H, exec (.groupRestore g core) s = .next t ∧ t.group g = some H ∧ H.place = .core core ∧ H.pinned = none ∧
      ∀ x b, G.twin = some (x, b) → ∃ X, t.group x = some X ∧ X.place = .core (twinCore core))) ∧
  (∀ (s : State),
  (∀ die slot maps p L, slot < 56 → s.dieLost die = false → s.nextPacket (slotKey die slot) = some p → pktType p = 1 →
    pktHeadOk p = true → launchOk p = true → s.dieClock die ≠ 3 → s.newLaunch die (slotKey die slot) (s.qslot (slotKey die slot)).rd p = some L →
    L.groups ≠ 0 → (L.hdr.priv ≤ tabVal 0 s.xl.privhw L.ctx ∨ (s.growPrivate L.ctx L.asid L.hdr.priv maps).isSome = true) →
    ∃ t X, exec (.launchPacket die slot maps) s = .next t ∧
      (t.qslot (slotKey die slot)).rd = (s.qslot (slotKey die slot)).rd + 1 ∧ tabGet t.cp.launches s.nextLaunch = some X ∧
      ((∀ net n m, (net, n, m) ∈ L.wants (L.waiting.flatMap Dealt.cores) → n ≤ (s.freeBars net m).length) → X.st = .wait ∧
        ∀ net n m, (net, n, m) ∈ L.wants (L.waiting.flatMap Dealt.cores) → ∃ bars, tabGet X.allot net = some bars ∧
          bars = (s.freeBars net m).take n ∧ ∀ i ∈ bars, (t.wbar (barKey net i)).owner = some s.nextLaunch) ∧
      ((∃ net n m, (net, n, m) ∈ L.wants (L.waiting.flatMap Dealt.cores) ∧ (s.freeBars net m).length < n) →
        X.st = .check ∧ X.allot = [] ∧ ∀ b, t.wbar b = s.wbar b) ∧ X.hdr = L.hdr ∧ X.entry = pkt p 8 8 ∧ X.arg = pkt p 32 8 ∧ X.waiting = L.waiting) ∧
  (∀ net m i, i ∈ s.freeBars net m ↔ i < m ∧ (s.wbar (barKey net i)).owner = none) ∧
  (∀ (L : Launch) cores net n m, (net, n, m) ∈ L.wants cores ↔ n ≠ 0 ∧
    ((∃ c ∈ cores, net = quadNet (quadOf c) ∧ n = L.want.getD 0 0 ∧ m = 16) ∨ (∃ c ∈ cores, net = dieNet (dieOf c) ∧ n = L.want.getD 1 0 ∧ m = 16) ∨
      (net = pkgNet ∧ n = L.want.getD 2 0 ∧ m = 8) ∨ (net = podNet ∧ n = L.want.getD 3 0 ∧ m = 4))) ∧
  (∀ id L k u, tabGet s.cp.launches id = some L → s.slotOfDesc L.die L.desc = some k → (s.qslot k).st = .mapped →
    s.switching = false → s.cpRuns = true → L.st = .running → s.startOne id L = some u →
    ∃ t x H X, exec (.groupAdmit id) s = .next t ∧ x ∈ L.waiting ∧ t.group s.nextGroup = some H ∧ H.launch = id ∧ H.gid = x.gid ∧
      H.place = .core x.core ∧ H.hdr = L.hdr ∧ tabGet t.cp.launches id = some X ∧ X.st = .running ∧ X.waiting = L.waiting.erase x))

/-- R386, R388, R402: a packet that may begin, keeps R386 and names no COMPL: a NOP, a SIGNAL whose address is mapped and a
STEPMARK begin and complete, so that RD and DONE count it, a SIGNAL once no revoke holds the answer to its write (R264); a BARRIER or a QFENCE that is satisfied does; one that is not begins
and waits. R386, R389: a packet of a TYPE that no queue may hold is refused: its queue enters STATE 2 and every announced packet
counts as begun. R389, R390: the packets of a slot that wait are tested: a BARRIER whose signals are all 0, or a QFENCE whose
counts are reached, completes. -/
def Obligations.PacketsRun : Prop :=
  (∀ (s : State) (die slot k : Nat) (q : QSlot) (p : List Byte), slot < 56 →
  s.dieLost die = false → s.dieClock die ≠ 3 → k = slotKey die slot → s.qslot k = q → s.nextPacket k = some p → pktHeadOk p = true → pktCompl p = 0 →
  q.begun = [] → q.done = q.rd →
  (pktType p = 0 → zeroAt p [(8, 56)] = true → ∃ t, exec (.nopPacket die slot) s = .next t ∧
    (t.qslot k).rd = q.rd + 1 ∧ (t.qslot k).done = q.rd + 1 ∧ (t.qslot k).wr = q.wr) ∧
  (∀ u, pktType p = 3 → canonical (pkt p 8 8) = true → pkt p 8 8 % 8 = 0 → zeroAt p [(17, 7), (32, 32)] = true →
    pkt p 16 1 = 0 ∨ (pkt p 16 1 = 1 ∧ 1 ≤ signed64 (pkt p 24 8)) → s.signalHeld q.asid (pkt p 8 8) = false →
    (s.beginPacket k p .finished).signal q.asid (pkt p 8 8)
      (if pkt p 16 1 = 0 then fun _ => signed64 (pkt p 24 8)
       else fun old => if 0 < old then max (old - signed64 (pkt p 24 8)) 0 else old) = some u →
    ∃ t, exec (.signalPacket die slot) s = .next t ∧ (t.qslot k).rd = q.rd + 1 ∧
      (t.qslot k).done = (if u.signalHeld q.asid (pkt p 8 8) then q.rd else q.rd + 1)) ∧
  (pktType p = 6 → canonical (pkt p 8 8) = true → 1 ≤ pkt p 24 1 → pkt p 24 1 ≤ 12 → zeroAt p [(25, 39)] = true →
    ∃ t, exec (.stepmarkPacket die slot) s = .next t ∧ (t.qslot k).rd = q.rd + 1 ∧ (t.qslot k).done = q.rd + 1 ∧
      ∀ id L, tabGet s.cp.launches id = some L → L.desc = pkt p 8 8 → L.pkt = pkt p 16 8 → L.asid = q.asid → L.hdr.elastic = true →
        L.st = .running → tabGet t.cp.launches id = some { L with target := max L.hdr.minDies (min L.hdr.maxDies (pkt p 24 1)) }) ∧
  (pktType p = 2 → (barrierSignals p).all signalOk = true →
    ((s.beginPacket k p (.barrier (barrierSignals p))).readSignals q.asid (barrierSignals p) = .satisfied →
      ∃ t, exec (.barrierPacket die slot) s = .next t ∧ (t.qslot k).rd = q.rd + 1 ∧ (t.qslot k).done = q.rd + 1) ∧
    ((s.beginPacket k p (.barrier (barrierSignals p))).readSignals q.asid (barrierSignals p) = .pending →
      ∃ t, exec (.barrierPacket die slot) s = .next t ∧ (t.qslot k).rd = q.rd + 1 ∧ (t.qslot k).done = q.rd ∧
        (t.qslot k).begun.map (·.fl) = [.barrier (barrierSignals p)])) ∧
  (pktType p = 5 → ((qfenceWaits p).all fun w => canonical w.1 && w.1 % 64 == 0) = true → zeroAt p [(56, 8)] = true →
    ((s.beginPacket k p (.qfence (qfenceWaits p))).countsReached q.asid (qfenceWaits p) = some true →
      ∃ t, exec (.qfencePacket die slot) s = .next t ∧ (t.qslot k).rd = q.rd + 1 ∧ (t.qslot k).done = q.rd + 1) ∧
    ((s.beginPacket k p (.qfence (qfenceWaits p))).countsReached q.asid (qfenceWaits p) = some false →
      ∃ t, exec (.qfencePacket die slot) s = .next t ∧ (t.qslot k).rd = q.rd + 1 ∧ (t.qslot k).done = q.rd)) ∧
  (∀ site, pktType p = 4 → s.fwSite die = some site → (s.copyEng (36 * die + site)).copies.length < 512 →
    canonical (pkt p 8 8) = true → canonical (pkt p 16 8) = true → pkt p 8 8 % 4 = 0 → pkt p 16 8 % 4 = 0 → pkt p 24 8 % 4 = 0 →
    pkt p 24 8 < 2 ^ 32 → zeroAt p [(32, 32)] = true →
    ∃ t X, exec (.copyPacket die slot) s = .next t ∧ (t.qslot k).rd = q.rd + 1 ∧ (t.qslot k).done = q.rd ∧
      tabGet (t.copyEng (36 * die + site)).copies s.eng.nextCopy = some X ∧ X.src = pkt p 8 8 ∧ X.dst = pkt p 16 8 ∧
      X.len = pkt p 24 8 ∧ X.asid = q.asid ∧ X.owner = .packet die slot ∧ X.begun = false)) ∧
  (∀ (s : State) (die slot k : Nat) (p : List Byte), slot < 56 →
  s.dieLost die = false → s.dieClock die ≠ 3 → k = slotKey die slot → s.nextPacket k = some p → 7 ≤ pktType p →
  ∃ t, exec (.nopPacket die slot) s = .next t ∧ (t.qslot k).qstate = 2 ∧ (t.qslot k).rd = (s.qslot k).wr ∧ (t.qslot k).wr = (s.qslot k).wr) ∧
  (∀ (s : State) (die slot k : Nat) (b : Begun), k = slotKey die slot →
  (s.qslot k).st = .mapped → s.cpRuns = true → s.dieLost die = false → s.dieClock die ≠ 3 → (s.qslot k).begun = [b] → b.idx = (s.qslot k).done → b.compl = 0 →
  (∀ ss, b.fl = .barrier ss → s.readSignals (s.qslot k).asid ss = .satisfied →
    ∃ t, exec (.barrierResolve die slot) s = .next t ∧ (t.qslot k).done = b.idx + 1 ∧ (t.qslot k).begun = []) ∧
  (∀ ss, b.fl = .barrier ss → s.readSignals (s.qslot k).asid ss = .pending → exec (.barrierResolve die slot) s = .next s) ∧
  (∀ ws, b.fl = .qfence ws → s.countsReached (s.qslot k).asid ws = some true →
    ∃ t, exec (.qfenceSatisfied die slot) s = .next t ∧ (t.qslot k).done = b.idx + 1 ∧ (t.qslot k).begun = []) ∧
  (∀ ws, b.fl = .qfence ws → s.countsReached (s.qslot k).asid ws = some false → exec (.qfenceSatisfied die slot) s = .next s))

/-- R384, R385, R395, R397: a free slot takes the waiting queue whose turn it is (log 62), and an idle queue leaves its slot
when its class waits for one; one interrupt covers every completion held on its vector; a host abort parks every group of a
launch and starts no other; a lost die is lost for good and keeps no queue slot. That an aborted launch's groups not yet admitted are
dropped and that a lost die's slots become free is log 46. -/
def Obligations.QueuesGiveWay : Prop := ∀ (s : State),
  (∀ die slot k, k = slotKey die slot → slot < 56 → die < 12 → s.dieLost die = false → s.dieClock die ≠ 3 → (s.qslot k).st = .free →
    (s.qslot k).op = none → s.cpRuns = true → ∀ w b, s.nextWaiting die none = some w → s.waitingDesc die w = some b →
    exec (.queueTimeslice die slot) s = .next (s.mapQueue k (s.slotFrom w.1 b (s.borrows die (hdrField b 0x21 1))))) ∧
  (∀ die slot k, k = slotKey die slot → slot < 56 → die < 12 → s.dieLost die = false → s.dieClock die ≠ 3 → (s.qslot k).st = .mapped →
    (s.qslot k).op = none → s.cpRuns = true → s.classWaits die (s.qslot k).cls = true → s.idleQueue k = true →
    ∃ t, exec (.queueTimeslice die slot) s = .next t ∧ t.mem = s.mem ∧ (t.qslot k).st = .unmapping ∧
      (t.qslot k).heir = some (s.qslot k).cls) ∧
  (∀ fn vec h, h ∈ s.cp.held → h.fn = fn → h.vec = vec → h.deadline ≤ s.ticks → ∃ t, exec (.msixDeadline fn vec) s = .next t ∧
    t.mem = s.mem ∧ t.cp.msix = (fn, vec) :: s.cp.msix ∧
    t.cp.held = s.cp.held.filter fun h => !(h.fn == fn && h.vec == vec)) ∧
  (∀ id L g G k, tabGet s.cp.launches id = some L → L.st ≠ .done → L.st ≠ .refused → s.group g = some G → G.launch = id →
    G.place ≠ .ended → G.isTwin = false → s.slotOfDesc L.die L.desc = some k →
    ∃ t H X, exec (.hostAbort id) s = .next t ∧ t.group g = some H ∧ H.parked = true ∧ tabGet t.cp.launches id = some X ∧
      X.waiting = [] ∧ (t.qslot k).qstate = 2) ∧
  (∀ die, die < 12 → s.dieLost die = false → ∃ t, exec (.dieLost die) s = .next t ∧ t.cp.lost = s.cp.lost ++ [die] ∧
    t.dieLost die = true ∧ ∀ e ∈ t.cp.slots, e.1 / 64 ≠ die)

/-- R377, R417, R421, R422, R423, R442: a store of firmware to a device register takes effect after its fibre's earlier ones and is
acknowledged: SPARES and SLOTMIN ignore a value beyond their limits; a high-water mark and TBASE are written; TLBINV drops the
leaves of its range from every TLB, in the step that writes it (log 55); FWREADY marks its firmware core ready; SWCTL.GO starts a swap, or leaves the engine refused with a code. R417, R423: a running
TLBINV ends; a swap whose mesh cycles have passed has exchanged the bytes of its two frames, and its engine is done. The bytes
are those of the tiers where no slice caches a line of the slice-only class, beside the entries that the swap itself rewrites.
When a swap exchanges its bytes, and its codes, are the model's reading (log 33). -/
def Obligations.DeviceRegistersAndSwaps : Prop :=
  (∀ (s : State) (k : Nat) (d : DevWrite), s.devAt k = some d →
  (d.off = 0x3000 → ∃ t, exec (.sparesWrite k) s = .next t ∧ t.mem = s.mem ∧ t.host.devq = s.host.devq.eraseIdx k ∧
    t.cp.spares = if popBits 12 d.val ≤ 2 then d.val % 4096 else s.cp.spares) ∧
  (∀ (c : Nat) (v : Nat → Nat), c < 8 → d.off = 0x3008 + 8 * c → (∀ j, v j = if j = c then d.val % 64 else tabVal 7 s.cp.slotMin j) →
    ∃ t, exec (.slotminWrite k) s = .next t ∧ t.mem = s.mem ∧ t.host.devq = s.host.devq.eraseIdx k ∧
      ∀ j < 8, tabVal 7 t.cp.slotMin j =
        if v 0 + v 1 + v 2 + v 3 + v 4 + v 5 + v 6 + v 7 ≤ 56 then v j else tabVal 7 s.cp.slotMin j) ∧
  (∀ c, c < 4096 → d.off = 0x8000 + 8 * c → ∃ t, exec (.privhwWrite k) s = .next t ∧ t.mem = s.mem ∧
    t.host.devq = s.host.devq.eraseIdx k ∧ tabVal 0 t.xl.privhw c = d.val % 2 ^ 24 ∧
    ∀ j, j ≠ c → tabVal 0 t.xl.privhw j = tabVal 0 s.xl.privhw j) ∧
  (d.off = 0x6008 → s.xl.inval = none → ∃ t, exec (.tlbinv k) s = .next t ∧ t.host.devq = s.host.devq.eraseIdx k ∧
    t.xl.inval = some (invalOf d.val) ∧
    ∀ l ∈ t.xl.tlbs, ∀ e ∈ l.2, e.asid = bits d.val 0 16 → (invalOf d.val).covers e.va (2 ^ pageShift e.size) = false) ∧
  (d.off = 0x6008 → s.xl.inval ≠ none → ∃ t, exec (.tlbinv k) s = .next t ∧ t.xl = s.xl ∧ t.mem = s.mem) ∧
  (∀ e, e < 32 → d.off = 0x7020 + 0x40 * e → d.val.testBit 2 = true → ∃ t, exec (.swapGo k) s = .next t ∧ t.mem = s.mem ∧
    t.host.devq = s.host.devq.eraseIdx k ∧
    (s.swapCode e (d.val % 4) = 0 → (t.swap e).state = 1 ∧ (t.swap e).runA = (s.swap e).fa ∧ (t.swap e).runB = (s.swap e).fb ∧
      (t.swap e).begun = s.meshCycles ∧ (t.swap e).size = d.val % 4) ∧
    (s.swapCode e (d.val % 4) ≠ 0 → (s.swap e).state ≠ 1 → (t.swap e).state = 3 ∧ (t.swap e).code = s.swapCode e (d.val % 4))) ∧
  (d.off = 0x3100 → d.val = 1 → s.fw.committed = none → ∃ t, exec (.fwreadyWrite k) s = .next t ∧ t.mem = s.mem ∧
    t.host.devq = s.host.devq.eraseIdx k ∧ (t.core d.core).fwReady = true) ∧
  (d.off = 0x6000 → ∃ t, exec (.registerWrite (.core k)) s = .next t ∧ t.mem = s.mem ∧ t.host.devq = s.host.devq.eraseIdx k ∧
    t.xl.tbase = bits d.val 19 29 * 2 ^ 19)) ∧
  (∀ (s : State),
  (∀ x, s.xl.inval = some x → ∃ t, exec .tlbinvDone s = .next t ∧ t.mem = s.mem ∧ t.xl.inval = none) ∧
  (∀ e x n, s.swap e = x → x.state = 1 → n = 2 ^ pageShift x.size → x.begun + n / 64 + 1 ≤ s.meshCycles → x.runA % n = 0 →
    x.runB % n = 0 → x.runA ≠ x.runB → (∀ y ∈ s.slices, y.2.plines = []) → Memory.wf s.mem = true →
    ∃ t, exec (.swapDone e) s = .next t ∧ (t.swap e).state = 2 ∧ (t.swap e).lines = n / 64 ∧
      ∀ o < n,
        ((∀ a, a = x.leafA ∨ a = x.leafB → a ≠ 0 → x.runA + o < a ∨ a + 8 ≤ x.runA + o) →
          memByte t.mem (x.runA + o) = memByte s.mem (x.runB + o)) ∧
        ((∀ a, a = x.leafA ∨ a = x.leafB → a ≠ 0 → x.runB + o < a ∨ a + 8 ≤ x.runB + o) →
          memByte t.mem (x.runB + o) = memByte s.mem (x.runA + o))))

/-- R4, R264, R383, R425, R426, R427, R431, R441: writes of the host: a doorbell of a context that the function has notes its queue, and
one that comes while firmware changes image is latched; arguments, LKTO, the aperture and DEVNUM are written; MBGO starts a command with
the arguments as they stand, STATUS busy, and is dropped while BUSY is set (that STATUS then reads 1 is log 26); a virtual function is bound; BAR2 reads the bytes of the aperture, and all ones beyond the tiers; it writes a byte to its place, or, where a slice holds
the line by virtual address, to that line, and revokes the owner of its word (R264); an access to a word that is being revoked waits.
That a BAR2 read is of 8 bytes is the model's (log 34). -/
def Obligations.HostWritesTakeEffect : Prop := ∀ (s : State),
  (∀ fn ctx val c, fn ≤ 12 → ctx < 4096 → val < 2 ^ 64 → s.changing = false → s.ctx ctx = some c → canonical val = true →
    s.fnHas fn c.part = true → s.slotsOfQueue ctx val = [] → (val, ctx) ∉ s.cp.seen →
    ∃ t, exec (.doorbell fn (0x1000000 + 0x1000 * ctx) val) s = .next t ∧ t.mem = s.mem ∧ t.cp.seen = s.cp.seen ++ [(val, ctx)]) ∧
  (∀ fn ctx val, fn ≤ 12 → ctx < 4096 → val < 2 ^ 64 → s.changing = true →
    ∃ t, exec (.doorbell fn (0x1000000 + 0x1000 * ctx) val) s = .next t ∧ t.mem = s.mem ∧ t.cp = s.cp ∧
      t.fw.latched = s.fw.latched ++ [(fn, 0x1000000 + 0x1000 * ctx, val)]) ∧
  (∀ fn i val, fn ≤ 12 → i < 4 → val < 2 ^ 64 →
    ∃ t, exec (.registerWrite (.host fn (8 * i) val)) s = .next t ∧ t.mem = s.mem ∧ (t.box fn).args = (s.box fn).args.set i val) ∧
  (∀ fn val, fn ≤ 12 → (s.box fn).busy = true → exec (.registerWrite (.host fn 0x20 val)) s = .next s) ∧
  (∀ fn val, fn ≤ 12 → val < 2 ^ 64 → (s.box fn).busy = false →
    ∃ t, exec (.registerWrite (.host fn 0x20 val)) s = .next t ∧ t.mem = s.mem ∧ (t.box fn).busy = true ∧
      (t.box fn).cmd = val % 256 ∧ (t.box fn).given = (s.box fn).args ∧ (t.box fn).status = 1) ∧
  (∀ val, val < 2 ^ 64 → (∃ t, exec (.registerWrite (.host 0 0x20008 val)) s = .next t ∧ t.mem = s.mem ∧ t.links.lkto = val % 2 ^ 32) ∧
    (∃ t, exec (.registerWrite (.host 0 0x100000 val)) s = .next t ∧ t.mem = s.mem ∧ t.host.aperture = bits val 36 12 * 2 ^ 36) ∧
    ∃ t, exec (.devnumWrite val) s = .next t ∧ t.mem = s.mem ∧ t.links.devnum = val % 4096) ∧
  (∀ vf part, 0 < vf → vf ≤ 12 → ∃ t, exec (.vfPartitionBinding vf part) s = .next t ∧ t.mem = s.mem ∧
    tabVal 0 t.host.vfs vf = part % 4096) ∧
  (∀ off data, s.physBusy (s.host.aperture + off) (match data with | some bs => bs.length | none => 8) = true →
    exec (.bar2Access off data) s = .next s) ∧
  (∀ off, off + 8 ≤ 2 ^ 36 → s.physBusy (s.host.aperture + off) 8 = false → ∃ t, exec (.bar2Access off none) s = .next t ∧ t.mem = s.mem ∧ t.host.lastRead.length = 8 ∧
    ∀ i < 8, t.host.lastRead.getD i 0 =
      if inTier (s.host.aperture + off + i) then s.physByte (s.host.aperture + off + i) else 0xFF) ∧
  (∀ off b, off < 2 ^ 36 → inTier (s.host.aperture + off) = true → (∀ y ∈ s.slices, y.2.plines = []) →
    s.linesAt (s.host.aperture + off) = [] →
    ∃ t, exec (.bar2Access off (some [b])) s = .next t ∧ memByte t.mem (s.host.aperture + off) = b ∧
      ∀ a, a ≠ s.host.aperture + off → memByte t.mem a = memByte s.mem a) ∧
  (∀ off b h key l, off < 2 ^ 36 → inTier (s.host.aperture + off) = true → s.linesAt (s.host.aperture + off) = [(h, key)] →
    tabGet (s.slice h).lines key = some l → s.physBusy (s.host.aperture + off) 1 = false →
    ∃ t m, exec (.bar2Access off (some [b])) s = .next t ∧ t.mem = s.mem ∧ tabGet (t.slice h).lines key = some m ∧ m.dirty = true ∧
      m.words = linePut l.words ((s.host.aperture + off) % 64) [b] ∧
      ∀ c, tabGet l.owners ((s.host.aperture + off) % 64 / 4) = some (.core c) →
        tabGet m.owners ((s.host.aperture + off) % 64 / 4) = some (.revoke c none none))

/-- R381, R427, R428, R429, R453: a mailbox command that has been started runs: contexts are created and destroyed, peer lists
and bindings replaced, a register read into host memory; an unknown command ends with status 2, a command of the PF from a
virtual function with 5; while firmware changes image every one waits in its mailbox (R441); then its completion clears BUSY and interrupts its function. R427: the completion of a command: BUSY
clears, STATUS and RESULT stay, and the function's vector 0 is sent. The layout of a peer list is the model's reading (log 35).
-/
def Obligations.MailboxRuns : Prop :=
  (∀ (s : State) (fn : Nat) (b : Mailbox), s.box fn = b → b.busy = true → b.ran = false →
  s.changing = false → s.fw.recovery = false →
  (∀ as c ctx, b.cmd = 1 → fn = 0 → b.given = as → ctx = bits (arg as 0) 0 12 → bits (arg as 0) 12 4 = 0 → bits (arg as 0) 44 4 = 0 →
    bits (arg as 0) 54 10 = 0 → arg as 2 = 0 → arg as 3 = 0 → canonical (arg as 1) = true → arg as 1 % 64 = 0 → s.ctx ctx = none →
    c = ({ asid := bits (arg as 0) 16 16, part := bits (arg as 0) 32 12, routes := arg as 1, allow := bits (arg as 0) 48 6 } : Ctx) →
    (∀ e ∈ s.cp.ctxs, e.2.asid = c.asid ∨ e.2.part &&& c.part = 0) →
    ∃ t, exec (.ctxCreate fn) s = .next t ∧ t.mem = s.mem ∧ (t.box fn).ran = true ∧ (t.box fn).status = 0 ∧
      tabGet t.cp.ctxs ctx = some c ∧ ∀ x, x ≠ ctx → tabGet t.cp.ctxs x = tabGet s.cp.ctxs x) ∧
  (b.cmd = 2 → fn = 0 → s.ctx (arg b.given 0) ≠ none → (∀ e ∈ s.cp.slots, e.2.st = .free ∨ e.2.ctx ≠ arg b.given 0) →
    ∃ t, exec (.ctxDestroy fn) s = .next t ∧ t.mem = s.mem ∧ (t.box fn).status = 0 ∧ tabGet t.cp.ctxs (arg b.given 0) = none ∧
      (∀ e ∈ t.host.binds, e.2 ≠ arg b.given 0) ∧ ∀ e ∈ t.cp.seen, e.2 ≠ arg b.given 0) ∧
  (∀ v, b.cmd = 3 → fn = 0 → arg b.given 0 ≠ 0x3100 → s.devRead 0 (arg b.given 0) = some v →
    ∃ t, exec (.regRead fn) s = .next t ∧ t.mem = s.mem ∧ (t.box fn).status = 0 ∧
      t.host.hostMem = memPutBytes s.host.hostMem (arg b.given 1) (natBytes 8 v)) ∧
  (∀ l, b.cmd = 10 → fn = 0 → arg b.given 0 < 4096 → l = ((List.range 16).map fun i => leNat (s.hostBytes (arg b.given 1 + 2 * i) 2)) →
    (∀ d ∈ l, d < 4096) → ∃ t, exec (.partPeers fn) s = .next t ∧ t.mem = s.mem ∧ (t.box fn).status = 0 ∧
      tabVal [] t.host.peers (arg b.given 0) = l.filter (· != 0)) ∧
  (∀ dev src, b.cmd = 11 → fn = 0 → arg b.given 0 < 4096 → arg b.given 1 = dev + src * 2 ^ 16 → 0 < dev → dev < 4096 → src < 4096 →
    arg b.given 3 = 0 →
    (arg b.given 2 = 0 → ∃ t, exec (.ctxBind fn) s = .next t ∧ t.mem = s.mem ∧ (t.box fn).status = 0 ∧
      tabGet t.host.binds (4096 * dev + src) = none) ∧
    (arg b.given 2 = 1 → s.host.binds.length < 4096 → ∃ t, exec (.ctxBind fn) s = .next t ∧ t.mem = s.mem ∧ (t.box fn).status = 0 ∧
      tabGet t.host.binds (4096 * dev + src) = some (arg b.given 0))) ∧
  (b.cmd = 0 ∨ 11 < b.cmd → ∃ t, exec (.unknownCommand fn) s = .next t ∧ t.mem = s.mem ∧ (t.box fn).ran = true ∧ (t.box fn).status = 2) ∧
  (b.cmd = 1 → fn ≠ 0 → ∃ t, exec (.ctxCreate fn) s = .next t ∧ t.cp = s.cp ∧ (t.box fn).ran = true ∧ (t.box fn).status = 5)) ∧
  (∀ (s : State) (fn : Nat), s.changing = true → exec (.ctxCreate fn) s = .next s ∧ exec (.ctxDestroy fn) s = .next s ∧
    exec (.regRead fn) s = .next s ∧ exec (.partPeers fn) s = .next s ∧ exec (.ctxBind fn) s = .next s ∧
    exec (.unknownCommand fn) s = .next s) ∧
  (∀ (s : State) (fn : Nat), (s.box fn).busy = true → (s.box fn).ran = true →
  ∃ t, exec (.mailboxComplete fn) s = .next t ∧ t.mem = s.mem ∧ (t.box fn).busy = false ∧ (t.box fn).status = (s.box fn).status ∧
    (t.box fn).result = (s.box fn).result ∧ t.cp.msix = (fn, 0) :: s.cp.msix)

/-- R399, R439 to R442: sealing writes the HMAC of a buffer behind it and checking compares it; a report is 512 signed bytes; an
image is staged if its buffer can be read and it keeps its layout, its signature and the least version; its commit waits until the
firmware cores have finished their steps, and then it is taken; 50 ms after the commit point, with a firmware core that is not ready, the
recovery loader takes every firmware core. What keys and signatures give, and which buffers of the host cannot be read, is left open
(log 25); where SEAL writes is log 36; what a finished step is, and that every firmware group is ended at a failed hand-over, is log 56. -/
def Obligations.SecurityAndFirmware : Prop :=
  (∀ (s : State) (fn : Nat) (b : Mailbox), s.changing = false → s.box fn = b →
  b.busy = true → b.ran = false → s.fw.recovery = false →
  (b.cmd = 4 → ∃ t, exec (.sealEntry fn) s = .next t ∧ t.mem = s.mem ∧ (t.box fn).status = 0 ∧ t.host.hostMem =
    memPutBytes s.host.hostMem (arg b.given 0 + arg b.given 1) (hmacOf (s.hostBytes (arg b.given 0) (arg b.given 1)))) ∧
  (b.cmd = 5 → ∃ t, exec (.checkEntry fn) s = .next t ∧ t.mem = s.mem ∧ t.host.hostMem = s.host.hostMem ∧ (t.box fn).status = 0 ∧
    ((t.box fn).result = 1 ↔ 64 ≤ arg b.given 1 ∧
      s.hostBytes (arg b.given 0 + (arg b.given 1 - 64)) 64 = hmacOf (s.hostBytes (arg b.given 0) (arg b.given 1 - 64)))) ∧
  (b.cmd = 6 → ∃ t h, exec (.attest fn) s = .next t ∧ t.mem = s.mem ∧ (t.box fn).status = 0 ∧
    h = s.reportHead fn (s.hostBytes (arg b.given 0) 64) ∧ h.length = 512 ∧
    t.host.hostMem = memPutBytes s.host.hostMem (arg b.given 1) (h ++ exactly 512 (Config.identitySignature h))) ∧
  (b.cmd = 7 → ∃ t, exec (.cert fn) s = .next t ∧ t.mem = s.mem ∧ (t.box fn).status = 0 ∧
    t.host.hostMem = memPutBytes s.host.hostMem (arg b.given 0) Config.certificate) ∧
  (∀ i, b.cmd = 8 → fn = 0 → i = s.hostBytes (arg b.given 0) (arg b.given 1) → ∃ t, exec (.fwStage fn) s = .next t ∧ t.mem = s.mem ∧
    (Config.hostUnreadable (arg b.given 0) (arg b.given 1) = true → (t.box fn).status = 2 ∧ t.fw = s.fw) ∧
    (Config.hostUnreadable (arg b.given 0) (arg b.given 1) = false →
    (fwLayoutOk i = true → Config.firmwareSigned i = true → s.fw.minVersion ≤ imageVersion i → (t.box fn).status = 0 ∧ t.fw.staged = some i) ∧
    (fwLayoutOk i = false ∨ Config.firmwareSigned i = false → (t.box fn).status = 3 ∧ t.fw = s.fw) ∧
    (fwLayoutOk i = true → Config.firmwareSigned i = true → imageVersion i < s.fw.minVersion → (t.box fn).status = 4 ∧ t.fw = s.fw)))) ∧
  (∀ (s : State) (fn : Nat) (b : Mailbox) (i : List Byte), s.fw.committed = none → s.box fn = b → b.busy = true → b.ran = false →
  b.cmd = 9 → fn = 0 → s.fw.staged = some i → (s.fw.stopping = true ∨ imageVersion i = arg b.given 0) →
  (s.fwQuiet = true → ∃ t, exec (.fwCommit fn) s = .next t ∧
    t.mem = s.mem ∧ (t.box fn).ran = true ∧ (t.box fn).status = 0 ∧ t.fw.image = i ∧ t.fw.version = imageVersion i ∧
    t.fw.staged = none ∧ t.fw.committed = some s.ticks ∧ t.fw.stopping = false ∧ t.cp = s.cp ∧ ∀ c, (t.core c).fwReady = false) ∧
  (s.fwQuiet = false → exec (.fwCommit fn) s = .next { s with fw := { s.fw with stopping := true } })) ∧
  (∀ (s : State) (c : Nat), s.fw.committed = some c → s.allReady = false →
  c + 5000000 ≤ s.ticks → s.fw.latched = [] →
  ∃ t, exec .fwReadyTimeout s = .next t ∧ t.mem = s.mem ∧ t.fw.committed = none ∧ t.fw.recovery = true ∧ t.fw.image = s.fw.image ∧
    ∀ g G, s.group g = some G → G.firmware = true → ∃ H, t.group g = some H ∧ H.place = .ended)

/-- R432, R433: a good DATA flit in sequence is accepted, acknowledged, and its record waits to be performed; one with a bad CRC is asked
for again and nothing of it is taken; an acknowledgement frees the replay buffer; a NACK has every flit of it sent again. With LINKCTL, at
the port that retrains as at one that is UP, sequencing restarts from 0 and all records that were not acknowledged, and no others, are sent
again in new flits or wait for the window. A record leaves in flits, or waits behind a full window, where an IDLE flit goes. That an IDLE
flit carries the answer of a flit, and that a LINKCTL outside this end's retrain is answered with one, is log 57. R434, R435, R264: a
request of a peer within a range that INWIN admits is performed and answered on its port with status 0, and with status 1, doing
nothing, outside every range; it waits for a word that is being revoked, and the answer of a write that revokes waits for the revoke; the
answers of a peer complete the access or the segment that they belong to; the word that a narrow store has read is written back with the
store's bytes (log 57). Exclusive limits of a peer's range are log 37. -/
def Obligations.PeerLinksCarryRequests : Prop :=
  (∀ (s : State) (p : Nat) (b : List Byte) (q : Port), s.port p = q → p < 16 →
  s.links.devnum ≠ 0 → q.up = true →
  (∀ r rest, flitGood b = true → flitField b 0 1 % 16 = 1 → (flitField b 3 2).testBit 12 = false → (flitField b 3 2).testBit 13 = false →
    flitField b 1 2 % 4096 = (if q.rxAny then (q.lastRx + 1) % 4096 else 0) → flitField b 7 2 % 4096 = s.links.devnum →
    flitRecs q.partialRec b = ([r], rest) → r.valid = true →
    (r.once = true → ∀ e ∈ s.links.served, e.1 = flitField b 5 2 % 4096 → e.2.1 ≠ r.tid) →
    ∃ t, exec (.dataFlit p b) s = .next t ∧ t.mem = s.mem ∧ (t.port p).lastRx = flitField b 1 2 % 4096 ∧ (t.port p).rxAny = true ∧
      t.links.inbox = s.links.inbox ++ [{ dev := flitField b 5 2 % 4096, port := p, body := r }] ∧
      t.links.wire = (p, flitBytes 0 0 ((t.port p).ackField false) s.links.devnum (s.portDev p) 0 0 []) :: s.links.wire) ∧
  (flitGood b = false → ∃ t, exec (.dataFlit p b) s = .next t ∧ t.mem = s.mem ∧ t.port p = q ∧ t.links.inbox = s.links.inbox ∧
    t.links.wire = (p, flitBytes 0 0 (q.ackField true) s.links.devnum (s.portDev p) 0 0 []) :: s.links.wire) ∧
  (∀ i, flitGood b = true → flitField b 0 1 % 16 = 0 → (flitField b 3 2).testBit 12 = true → (flitField b 3 2).testBit 13 = false →
    (q.unacked.findIdx? fun f => f.seq == flitField b 3 2 % 4096) = some i → q.backlog = [] →
    ∃ t, exec (.idleFlit p b) s = .next t ∧ t.mem = s.mem ∧ (t.port p).unacked = q.unacked.drop (i + 1) ∧
      t.links.inbox = s.links.inbox) ∧
  (∀ f rest, flitGood b = true → flitField b 0 1 % 16 = 0 → (flitField b 3 2).testBit 12 = false → (flitField b 3 2).testBit 13 = true →
    q.unacked = f :: rest → f.fails ≠ 7 → ∃ t, exec (.idleFlit p b) s = .next t ∧ t.mem = s.mem ∧
      (t.port p).unacked = { f with fails := f.fails + 1 } :: rest ∧ t.links.inbox = s.links.inbox ∧
      t.links.wire = ((f :: rest).map fun u => (p, u.bytes (q.ackField false) s.links.devnum)).reverse ++ s.links.wire)) ∧
  (∀ (s : State) (p : Nat) (b : List Byte) (q : Port), s.port p = q → p < 16 → s.links.devnum ≠ 0 → flitGood b = true →
  flitField b 0 1 % 16 = 2 → ∃ t, exec (.linkctlFlit p b) s = .next t ∧ t.mem = s.mem ∧ t.links.inbox = s.links.inbox ∧
    (t.port p).up = true ∧ (t.port p).retraining = false ∧ (t.port p).rxAny = false ∧ (t.port p).partialRec = [] ∧
    (t.port p).nextSeq = (t.port p).unacked.length % 4096 ∧
    (∀ i u, (t.port p).unacked[i]? = some u → u.seq = i % 4096 ∧ u.fails = 0) ∧
    (∀ f ∈ q.unacked, ∀ r ∈ f.recs, (∃ u ∈ (t.port p).unacked, u.dev = f.dev ∧ r ∈ u.recs) ∨ (f.dev, r) ∈ (t.port p).backlog) ∧
    (∀ u ∈ (t.port p).unacked, ∀ r ∈ u.recs, (u.dev, r) ∈ q.backlog ∨ ∃ f ∈ q.unacked, f.dev = u.dev ∧ r ∈ f.recs) ∧
    t.links.wire = ((t.port p).unacked.map fun u => (p, u.bytes 0 s.links.devnum)).reverse ++ (if q.retraining then [] else
      [(p, flitBytes 2 0 (q.ackField false) s.links.devnum (s.portDev p) 0 0 (natBytes 2 s.links.devnum))]) ++ s.links.wire) ∧
  (∀ (s : State) (p dev : Nat) (r : Rec) (q : Port), s.port p = q → q.nextSeq < 4096 → q.backlog = [] → q.retraining = false →
    (q.unacked.length + flitsOf r ≤ 512 → (s.putRec p dev r).links.wire = ((List.range (flitsOf r)).map fun i =>
      (p, ({ seq := (q.nextSeq + i) % 4096, dev := dev, recs := [r], fails := 0, part := i } : Flit).bytes (q.ackField false)
        s.links.devnum)).reverse ++ s.links.wire) ∧
    (512 < q.unacked.length + flitsOf r → ((s.putRec p dev r).port p).backlog = [(dev, r)] ∧ (s.putRec p dev r).links.wire =
      (p, flitBytes 0 0 (q.ackField false) s.links.devnum (s.portDev p) 0 0 []) :: s.links.wire)) ∧
  (∀ (s : State) (k : Nat) (r : InRec), s.links.inbox[k]? = some r →
  (∀ x ∈ s.links.inbox.take k, x.port ≠ r.port) →
  (r.body.kind = 1 → s.recBusy InRec.readLen r = true → exec (.readRec k false) s = .next s) ∧
  (r.body.kind = 1 → bits r.body.arg 48 9 < 256 → s.recBusy InRec.readLen r = false → ∃ t, exec (.readRec k false) s = .next t ∧ t.mem = s.mem ∧
    t.links.inbox = s.links.inbox.eraseIdx k ∧
    (s.admits r.dev (bits r.body.arg 0 48) (4 * (bits r.body.arg 48 9 + 1)) false = true → t.port r.port = (s.port r.port).put r.dev
      { kind := 3, status := 0, tid := r.body.tid, arg := 0, data := s.physBytes (bits r.body.arg 0 48) (4 * (bits r.body.arg 48 9 + 1)) }) ∧
    (s.admits r.dev (bits r.body.arg 0 48) (4 * (bits r.body.arg 48 9 + 1)) false = false → t.port r.port = (s.port r.port).put r.dev
      { kind := 3, status := 1, tid := r.body.tid, arg := 0, data := [] })) ∧
  (r.body.kind = 1 → 256 ≤ bits r.body.arg 48 9 → s.recBusy InRec.readLen r = false → ∃ t, exec (.readRec k false) s = .next t ∧ t.mem = s.mem ∧
    t.port r.port = (s.port r.port).put r.dev { kind := 3, status := 1, tid := r.body.tid, arg := 0, data := [] }) ∧
  (r.body.kind = 2 → s.physBusy (bits r.body.arg 0 48) r.body.data.length = true → exec (.writeRec k) s = .next s) ∧
  (r.body.kind = 2 → s.physBusy (bits r.body.arg 0 48) r.body.data.length = false → r.written = true →
    ∃ t, exec (.writeRec k) s = .next t ∧ t.mem = s.mem ∧ t.links.inbox = s.links.inbox.eraseIdx k ∧
      t.port r.port = (s.port r.port).put r.dev { kind := 4, status := 0, tid := r.body.tid, arg := 0, data := [] }) ∧
  (∀ pa h key l c, r.body.kind = 2 → r.written = false → pa = bits r.body.arg 0 48 → pa % 4 = 0 → r.body.data.length = 4 →
    s.admits r.dev pa 4 true = true → s.linesAt pa = [(h, key)] → tabGet (s.slice h).lines key = some l → l.leaf.peer = 0 →
    l.leaf.pa / 64 = pa / 64 → tabGet l.owners (pa % 64 / 4) = some (.core c) →
    ∃ t m, exec (.writeRec k) s = .next t ∧ t.mem = s.mem ∧ t.links.inbox[k]? = some { r with written := true } ∧ t.port r.port = s.port r.port ∧
      tabGet (t.slice h).lines key = some m ∧ m.words = linePut l.words (pa % 64) r.body.data ∧
      tabGet m.owners (pa % 64 / 4) = some (.revoke c none none)) ∧
  (r.body.kind = 2 → r.written = false → (∀ y ∈ s.slices, y.2.plines = [] ∧ y.2.lines = []) → ∃ t, exec (.writeRec k) s = .next t ∧ t.links.inbox = s.links.inbox.eraseIdx k ∧
    (s.admits r.dev (bits r.body.arg 0 48) r.body.data.length true = true →
      (∀ i < r.body.data.length, memByte t.mem (bits r.body.arg 0 48 + i) = r.body.data.getD i 0) ∧
      (∀ a, a < bits r.body.arg 0 48 ∨ bits r.body.arg 0 48 + r.body.data.length ≤ a → memByte t.mem a = memByte s.mem a) ∧
      t.port r.port = (s.port r.port).put r.dev { kind := 4, status := 0, tid := r.body.tid, arg := 0, data := [] }) ∧
    (s.admits r.dev (bits r.body.arg 0 48) r.body.data.length true = false → t.mem = s.mem ∧
      t.port r.port = (s.port r.port).put r.dev { kind := 4, status := 1, tid := r.body.tid, arg := 0, data := [] })) ∧
  (∀ x q, s.xferOf r.dev r.body.tid = some x → x.of = .access q → r.body.status = 0 →
    (r.body.kind = 3 → s.segWaits r = false → ∃ t, exec (.rdresp k) s = .next t ∧ t.mem = s.mem ∧ tabGet t.links.xfers r.body.tid = none ∧
      t.msgs = s.msgs ++ [({ respond q (.data (q.remoteBytes r.body.data) none false) with src := some q.home } : Msg)]) ∧
    (r.body.kind = 4 → ∃ t, exec (.wrack k) s = .next t ∧ t.mem = s.mem ∧ tabGet t.links.xfers r.body.tid = none ∧
      t.msgs = s.msgs ++ [({ respond q (.ack false) with src := some q.home } : Msg)])) ∧
  (∀ x q data rel e p, s.xferOf r.dev r.body.tid = some x → x.of = .merge q → q.op = .store data rel → r.body.status = 0 → r.body.kind = 3 →
    s.portFor x.dev (bits x.body.arg 0 48 / 1024) = some p → e = r.body.data →
    ∃ t y, exec (.rdresp k) s = .next t ∧ t.mem = s.mem ∧ t.msgs = s.msgs ∧ tabGet t.links.xfers s.links.nextTid = some y ∧ y.dev = x.dev ∧
      y.of = .merge q ∧ y.body.kind = 2 ∧ y.body.arg = bits x.body.arg 0 48 ∧
      y.body.data = e.take (q.va % 4) ++ data ++ e.drop (q.va % 4 + data.length)) ∧
  (∀ x core id seg C g, s.xferOf r.dev r.body.tid = some x → x.of = .segWrite core id seg → r.body.status = 0 → r.body.kind = 4 →
    tabGet (s.copyEng core).copies id = some C → C.segs[seg]? = some g →
    ∃ t X, exec (.wrack k) s = .next t ∧ t.mem = s.mem ∧ tabGet (t.copyEng core).copies id = some X ∧
      (X.segs[seg]?).map (·.st) = some .done))

/-- R436, R437: the root of a pod barrier takes a module with its EXP and counts each arrival once; the root's completion ends
the phase of the module that it reaches (that an arrival seen before is acknowledged and not counted is log 57). A remote fault task waits in its class under the context that its source is bound to; a
proxied access is performed and answered, of a record that its sender does not handle with PROTECTION (R342), and its answer reaches the
handler's register. R432, R436: a transfer that is not answered within LKTO of its sending is detached, and its access meets LINK_TIMEOUT
(0x35); a pod barrier's message is sent again under its identifier and stays (log 57). Which die takes a remote task is log 26. -/
def Obligations.PodBarriersProxiesAndTimeouts : Prop :=
  (∀ (s : State) (k : Nat) (r : InRec), s.links.inbox[k]? = some r →
  (∀ x ∈ s.links.inbox.take k, x.port ≠ r.port) →
  (∀ i, i = r.body.arg % 4 → r.body.kind = 5 → s.isPodRoot i = true → (s.podRootOf i).sum < bits r.body.arg 16 16 →
    ∃ t, exec (.podreg k) s = .next t ∧ t.mem = s.mem ∧ (t.podRootOf i).exp = bits r.body.arg 16 16 ∧ r.dev ∈ (t.podRootOf i).mods ∧
      (t.podRootOf i).sum = (s.podRootOf i).sum) ∧
  (∀ i, i = r.body.arg % 4 → r.body.kind = 6 → s.isPodRoot i = true → bits r.body.arg 2 1 = (s.podRootOf i).phase →
    (s.podRootOf i).sum + bits r.body.arg 16 16 < (s.podRootOf i).exp →
    ∃ t, exec (.podarr k) s = .next t ∧ t.mem = s.mem ∧ (t.podRootOf i).sum = (s.podRootOf i).sum +
      if (s.podRootOf i).seen.contains (r.dev, r.body.tid) then 0 else bits r.body.arg 16 16) ∧
  (∀ i, i = r.body.arg % 4 → r.body.kind = 7 → ∃ t, exec (.poddone k) s = .next t ∧ t.mem = s.mem ∧
    (bits r.body.arg 2 1 = (s.wbar (barKey podNet i)).phase → (t.wbar (barKey podNet i)).phase = 1 - (s.wbar (barKey podNet i)).phase ∧
      (t.wbar (barKey podNet i)).arr = 0) ∧
    (bits r.body.arg 2 1 ≠ (s.wbar (barKey podNet i)).phase → t.wbar (barKey podNet i) = s.wbar (barKey podNet i))) ∧
  (∀ ctx d cls, r.body.kind = 8 → tabGet s.host.binds (4096 * r.dev + flitField r.body.data 64 8 % 4096) = some ctx →
    s.remoteDie ctx = some d → cls = flitField r.body.data 0x0D 1 % 8 →
    ∃ t, exec (.ftask k) s = .next t ∧ t.mem = s.mem ∧
      tabVal [] t.cp.tasks (8 * d + cls) = tabVal [] s.cp.tasks (8 * d + cls) ++ [.remote r.dev ctx (r.body.data.take 64) false] ∧
      t.port r.port = (s.port r.port).put r.dev { kind := 4, status := 0, tid := r.body.tid, arg := 0, data := [] }) ∧
  (∀ rid R, r.body.kind = 9 → bits r.body.arg 32 3 = 0 → rid = bits r.body.arg 0 32 → s.record rid = some R → R.st ≠ .settling →
    (R.rerouted = true → R.wasPeer ≠ r.dev) → (R.remote = false ∨ R.peer ≠ r.dev → ∃ t, exec (.proxy k) s = .next t ∧ t.mem = s.mem ∧
      t.port r.port = (s.port r.port).put r.dev { kind := 10, status := 4, tid := r.body.tid, arg := 0x11, data := [] }) ∧
    (R.remote = true → R.peer = r.dev → ∀ u v, ({ s with links := { s.links with inbox := s.links.inbox.eraseIdx k } } : State).stateAccess 0
      rid R (BitVec.ofNat 32 (flitField r.body.data 0 4)) ⟨BitVec.ofNat 32 (flitField r.body.data 4 4), .b32⟩ = .ok (u, v) →
    ∃ t, exec (.proxy k) s = .next t ∧ t.mem = u.mem ∧ t.port r.port = (u.port r.port).put r.dev
      { kind := 10, status := 0, tid := r.body.tid, arg := 0, data := natBytes 4 v.val.toNat ++ natBytes 4 (tagCode v.tag) })) ∧
  (∀ x g w slot f W, r.body.kind = 10 → s.xferOf r.dev r.body.tid = some x → x.of = .proxy g w slot f → r.body.status = 0 →
    s.wave g w = some W → ∃ t, exec (.proxyresp k) s = .next t ∧ t.mem = s.mem ∧ tabGet t.links.xfers r.body.tid = none ∧
      t.wave g w = some (W.complete slot f [⟨BitVec.ofNat 32 (flitField r.body.data 0 4),
        (tagOf (flitField r.body.data 4 4 % 16)).getD .b32⟩] none))) ∧
  (∀ (s : State) (k : Nat) (x : Xfer), tabGet s.links.xfers k = some x →
  x.sent + max 1 s.links.lkto ≤ s.ticks →
  (s.keptBack k x = true → exec (.linkTimeout k) s = .next s) ∧
  (s.keptBack k x = false →
  (∀ q, x.of = .access q → ∃ t, exec (.linkTimeout k) s = .next t ∧ t.mem = s.mem ∧ tabGet t.links.xfers k = none ∧
    t.msgs = s.msgs ++ [({ respond q (.fault 0x35) with src := some q.home } : Msg)]) ∧
  (x.of = .pod → ∃ t, exec (.linkTimeout k) s = .next t ∧ t.mem = s.mem ∧ t.msgs = s.msgs ∧
    tabGet t.links.xfers k = some { x with sent := s.ticks, port := (s.portFor x.dev (x.body.arg % 4)).getD x.port } ∧
    ∀ p, s.portFor x.dev (x.body.arg % 4) = some p → t.port p = (s.port p).put x.dev x.body)))

/-- R444 to R447: a power command in progress takes effect where its rule lets it: a die's state, a matrix engine's gate once it
has no granted pass, a router group's gate once nothing is in it or on its way to it; its end clears BUSY. The first entry
toward a gated router wakes its group, which is on 64 mesh cycles later. That ungating a router group is immediate is log 38. -/
def Obligations.PowerCommandsTakeEffect : Prop := ∀ (s : State),
  (∀ v, s.pw.cmd = some v → s.pw.applied = false → pwOk v = true →
    (pwOp v = 0 → ∃ t, exec .dieState s = .next t ∧ t.mem = s.mem ∧ t.pw.applied = true ∧
      (pwLvl v = 3 ∧ (s.cp.spareDies.contains (pwTgt v) = false ∨ s.hostsGroup (pwTgt v) = true) → t.pw.status = 3 ∧ t.pw.dieState = s.pw.dieState) ∧
      (pwLvl v ≠ 3 ∨ (s.cp.spareDies.contains (pwTgt v) = true ∧ s.hostsGroup (pwTgt v) = false) →
        t.pw.status = 0 ∧ tabVal 0 t.pw.dieState (pwTgt v) = pwLvl v)) ∧
    (pwOp v = 1 → (pwLvl v = 0 ∨ (s.matrix (pwTgt v)).busy = false) → ∃ t, exec .matrixGate s = .next t ∧ t.mem = s.mem ∧
      t.pw.applied = true ∧ t.pw.status = 0 ∧ (t.matrix (pwTgt v)).gated = (pwLvl v == 1)) ∧
    (pwOp v = 1 → pwLvl v = 1 → (s.matrix (pwTgt v)).busy = true → exec .matrixGate s = .next s) ∧
    (pwOp v = 2 → pwLvl v = 1 → ∃ t, exec .routerGate s = .next t ∧ t.mem = s.mem ∧ t.pw.applied = true ∧
      (pwTgt v = 5 ∨ pwTgt v = 11 → t.pw.status = 3 ∧ t.pw.groups = s.pw.groups) ∧
      (pwTgt v ≠ 5 → pwTgt v ≠ 11 → s.groupHolds (pwTgt v) = false → s.sentToward (pwTgt v) = false → s.rgState (pwTgt v) = .on →
        t.pw.status = 0 ∧ t.rgState (pwTgt v) = .gated) ∧
      (pwTgt v ≠ 5 → pwTgt v ≠ 11 → s.groupHolds (pwTgt v) = true → t.pw.status = 1 ∧ t.pw.groups = s.pw.groups))) ∧
  (∀ v, s.pw.cmd = some v → (s.pw.applied = true ∨ pwOk v = false) → ∃ t, exec .powerCommandDone s = .next t ∧ t.mem = s.mem ∧
    t.pw.cmd = none ∧ t.pw.status = (if s.pw.applied then s.pw.status else 2) ∧ t.cp.msix = (0, 12) :: s.cp.msix) ∧
  (∀ g, s.rgState g = .gated → s.sentToward g = true → ∃ t, exec (.routerWake g) s = .next t ∧ t.mem = s.mem ∧
    t.rgState g = .waking s.meshCycles) ∧
  (∀ g c, s.rgState g = .waking c → c + 64 ≤ s.meshCycles → ∃ t, exec (.routerGroupOn g) s = .next t ∧ t.mem = s.mem ∧
    t.rgState g = .on)

/-- R448, R449, R451, R452: FREEZE stops every clock at an edge of device time with the links down; its release restarts
nothing; the TAP shifts out the identification, nothing, or words of the state, and zeros outside a freeze; a cold reset leaves
what reset leaves, with fuses and what lies outside the module as they were; a sensor's limit raises the alert. The numbers of
IDCODE and BYPASS (log 28), the words of SCANOUT without a stated layout (log 27), where SCANOUT starts and goes on (log 59), and what
a cold reset keeps (log 60) are the model's. -/
def Obligations.FreezeAndManagement : Prop := ∀ (s : State),
  (s.pw.frozen = false → ∃ t, exec .freeze s = .next t ∧ t.mem = s.mem ∧ t.slices = s.slices ∧ t.pw.frozen = true ∧ t.now % 260 = 0 ∧
    s.now ≤ t.now ∧ t.now < s.now + 260 ∧ ∀ p < 16, (t.port p).up = false) ∧
  (∃ t, exec .freezeRelease s = .next t ∧ t = { s with pw := { s.pw with freezePin := false } }) ∧
  (s.pw.frozen = true → ∃ t, exec .tapIdcode s = .next t ∧ t.pw.tapOut = [BitVec.ofNat 32 Config.idcode] ∧
    t = { s with pw := { s.pw with tap := t.pw.tap, tapPos := 0, tapOut := t.pw.tapOut } }) ∧
  (s.pw.frozen = true → ∃ t, exec .tapBypass s = .next t ∧ t.pw.tapOut = []) ∧
  (∀ n, ∃ t, exec (.tapScanout n) s = .next t ∧ t.pw.tapOut.length = n ∧ t.mem = s.mem ∧
    (s.pw.frozen = false → ∀ w ∈ t.pw.tapOut, w = 0) ∧
    (s.pw.frozen = true → s.pw.tap ≠ 0x2A → t.pw.tapOut = (List.range n).map s.scanWord ∧ t.pw.tapPos = n) ∧
    (s.pw.frozen = true → s.pw.tap = 0x2A → t.pw.tapOut = ((List.range n).map fun i => s.scanWord (s.pw.tapPos + i)) ∧
      t.pw.tapPos = s.pw.tapPos + n)) ∧
  (∃ t, exec .coldReset s = .next t ∧ t.mem = State.reset.mem ∧ t.groups = State.reset.groups ∧ t.cores = State.reset.cores ∧
    t.slices = State.reset.slices ∧ t.pw = State.reset.pw ∧ t.links = State.reset.links ∧ t.cp.fused = s.cp.fused ∧ t.cp.mxbad = s.cp.mxbad ∧
    t.host.hostMem = s.host.hostMem ∧ t.fw.minVersion = s.fw.minVersion) ∧
  (∀ n, ∃ t, exec (.smbalert n) s = .next t ∧ t.mem = s.mem ∧ t.pw.alert = true)
end

