-- ==== Sys2Proof/Laws/Digest.lean ====
section
/-! SUPPORT. The lengths of digests and of a report's head (R399, R440). -/
namespace Sys2Proof.Machine

theorem natBytes_length (n v : Nat) : (natBytes n v).length = n := by
  induction n generalizing v with
  | zero => rfl
  | succ n ih => simp [natBytes, ih]

theorem bigBytes_length (n v : Nat) : (bigBytes n v).length = n := by simp [bigBytes, natBytes_length]

/-- A round keeps the eight working words eight. -/
theorem shaRound_length {v : List (BitVec 64)} (h : v.length = 8) (kw : BitVec 64 × BitVec 64) : (shaRound v kw).length = 8 := by
  unfold shaRound
  split <;> simp_all

theorem shaRounds_length {v : List (BitVec 64)} (h : v.length = 8) (kws : List (BitVec 64 × BitVec 64)) :
    (kws.foldl shaRound v).length = 8 := by
  induction kws generalizing v with
  | nil => exact h
  | cons kw kws ih => exact ih (shaRound_length h kw)

theorem shaBlock_length {h : List (BitVec 64)} (n : h.length = 8) (block : List Byte) : (shaBlock h block).length = 8 := by
  simp [shaBlock, n, shaRounds_length n]

theorem shaBlocks_length (n : Nat) {h : List (BitVec 64)} (k : h.length = 8) (m : List Byte) : (shaBlocks n h m).length = 8 := by
  induction n generalizing h m with
  | zero => exact k
  | succ n ih => exact ih (shaBlock_length k _) _

/-- A digest has 64 bytes. -/
theorem sha512_length (m : List Byte) : (sha512 m).length = 64 := by
  simp [sha512, List.length_flatMap, bigBytes_length, shaBlocks_length _ (show shaInit.length = 8 from rfl)]

theorem hmac512_length (key m : List Byte) : (hmac512 key m).length = 64 := sha512_length _

theorem exactly_length (n : Nat) (l : List Byte) : (exactly n l).length = n := by simp [exactly]

/-- The head of an attestation report has 512 bytes. -/
theorem reportHead_length (s : State) (fn : Nat) (nonce : List Byte) : (s.reportHead fn nonce).length = 512 := by
  unfold State.reportHead
  simp only [List.length_append, List.length_cons, List.length_nil, List.length_replicate, natBytes_length, exactly_length, digestOf,
    apply_ite List.length, sha512_length, ite_self]

end Sys2Proof.Machine
end

