-- ==== Sys2Proof/Laws/State.lean ====
section
/-! SUPPORT. Laws of the state's updates: what each leaves as it is, one lemma for each other field, true by definition. -/
namespace Sys2Proof.Machine

/-! ## State.modGroup -/

@[simp] theorem State.modGroup_agenda (s : State) (g : Nat) (f : Group → Group) : (s.modGroup g f).agenda = s.agenda := rfl
@[simp] theorem State.modGroup_cur (s : State) (g : Nat) (f : Group → Group) : (s.modGroup g f).cur = s.cur := rfl
@[simp] theorem State.modGroup_fresh (s : State) (g : Nat) (f : Group → Group) : (s.modGroup g f).fresh = s.fresh := rfl
@[simp] theorem State.modGroup_now (s : State) (g : Nat) (f : Group → Group) : (s.modGroup g f).now = s.now := rfl
@[simp] theorem State.modGroup_mem (s : State) (g : Nat) (f : Group → Group) : (s.modGroup g f).mem = s.mem := rfl
@[simp] theorem State.modGroup_cores (s : State) (g : Nat) (f : Group → Group) : (s.modGroup g f).cores = s.cores := rfl
@[simp] theorem State.modGroup_chans (s : State) (g : Nat) (f : Group → Group) : (s.modGroup g f).chans = s.chans := rfl
@[simp] theorem State.modGroup_msgs (s : State) (g : Nat) (f : Group → Group) : (s.modGroup g f).msgs = s.msgs := rfl
@[simp] theorem State.modGroup_revAcks (s : State) (g : Nat) (f : Group → Group) : (s.modGroup g f).revAcks = s.revAcks := rfl
@[simp] theorem State.modGroup_slices (s : State) (g : Nat) (f : Group → Group) : (s.modGroup g f).slices = s.slices := rfl
@[simp] theorem State.modGroup_xl (s : State) (g : Nat) (f : Group → Group) : (s.modGroup g f).xl = s.xl := rfl
@[simp] theorem State.modGroup_mesh (s : State) (g : Nat) (f : Group → Group) : (s.modGroup g f).mesh = s.mesh := rfl
@[simp] theorem State.modGroup_eng (s : State) (g : Nat) (f : Group → Group) : (s.modGroup g f).eng = s.eng := rfl
@[simp] theorem State.modGroup_cp (s : State) (g : Nat) (f : Group → Group) : (s.modGroup g f).cp = s.cp := rfl
@[simp] theorem State.modGroup_host (s : State) (g : Nat) (f : Group → Group) : (s.modGroup g f).host = s.host := rfl
@[simp] theorem State.modGroup_links (s : State) (g : Nat) (f : Group → Group) : (s.modGroup g f).links = s.links := rfl
@[simp] theorem State.modGroup_facet (s : State) (g : Nat) (f : Group → Group) : (s.modGroup g f).facet = s.facet := rfl
@[simp] theorem State.modGroup_fw (s : State) (g : Nat) (f : Group → Group) : (s.modGroup g f).fw = s.fw := rfl
@[simp] theorem State.modGroup_pw (s : State) (g : Nat) (f : Group → Group) : (s.modGroup g f).pw = s.pw := rfl

/-! ## State.modWave -/

@[simp] theorem State.modWave_agenda (s : State) (g w : Nat) (f : Wave → Wave) : (s.modWave g w f).agenda = s.agenda := rfl
@[simp] theorem State.modWave_cur (s : State) (g w : Nat) (f : Wave → Wave) : (s.modWave g w f).cur = s.cur := rfl
@[simp] theorem State.modWave_fresh (s : State) (g w : Nat) (f : Wave → Wave) : (s.modWave g w f).fresh = s.fresh := rfl
@[simp] theorem State.modWave_now (s : State) (g w : Nat) (f : Wave → Wave) : (s.modWave g w f).now = s.now := rfl
@[simp] theorem State.modWave_mem (s : State) (g w : Nat) (f : Wave → Wave) : (s.modWave g w f).mem = s.mem := rfl
@[simp] theorem State.modWave_cores (s : State) (g w : Nat) (f : Wave → Wave) : (s.modWave g w f).cores = s.cores := rfl
@[simp] theorem State.modWave_chans (s : State) (g w : Nat) (f : Wave → Wave) : (s.modWave g w f).chans = s.chans := rfl
@[simp] theorem State.modWave_msgs (s : State) (g w : Nat) (f : Wave → Wave) : (s.modWave g w f).msgs = s.msgs := rfl
@[simp] theorem State.modWave_revAcks (s : State) (g w : Nat) (f : Wave → Wave) : (s.modWave g w f).revAcks = s.revAcks := rfl
@[simp] theorem State.modWave_slices (s : State) (g w : Nat) (f : Wave → Wave) : (s.modWave g w f).slices = s.slices := rfl
@[simp] theorem State.modWave_xl (s : State) (g w : Nat) (f : Wave → Wave) : (s.modWave g w f).xl = s.xl := rfl
@[simp] theorem State.modWave_mesh (s : State) (g w : Nat) (f : Wave → Wave) : (s.modWave g w f).mesh = s.mesh := rfl
@[simp] theorem State.modWave_eng (s : State) (g w : Nat) (f : Wave → Wave) : (s.modWave g w f).eng = s.eng := rfl
@[simp] theorem State.modWave_cp (s : State) (g w : Nat) (f : Wave → Wave) : (s.modWave g w f).cp = s.cp := rfl
@[simp] theorem State.modWave_host (s : State) (g w : Nat) (f : Wave → Wave) : (s.modWave g w f).host = s.host := rfl
@[simp] theorem State.modWave_links (s : State) (g w : Nat) (f : Wave → Wave) : (s.modWave g w f).links = s.links := rfl
@[simp] theorem State.modWave_facet (s : State) (g w : Nat) (f : Wave → Wave) : (s.modWave g w f).facet = s.facet := rfl
@[simp] theorem State.modWave_fw (s : State) (g w : Nat) (f : Wave → Wave) : (s.modWave g w f).fw = s.fw := rfl
@[simp] theorem State.modWave_pw (s : State) (g w : Nat) (f : Wave → Wave) : (s.modWave g w f).pw = s.pw := rfl

/-! ## State.modFib -/

@[simp] theorem State.modFib_agenda (s : State) (g w n : Nat) (f : Fibre → Fibre) : (s.modFib g w n f).agenda = s.agenda := rfl
@[simp] theorem State.modFib_cur (s : State) (g w n : Nat) (f : Fibre → Fibre) : (s.modFib g w n f).cur = s.cur := rfl
@[simp] theorem State.modFib_fresh (s : State) (g w n : Nat) (f : Fibre → Fibre) : (s.modFib g w n f).fresh = s.fresh := rfl
@[simp] theorem State.modFib_now (s : State) (g w n : Nat) (f : Fibre → Fibre) : (s.modFib g w n f).now = s.now := rfl
@[simp] theorem State.modFib_mem (s : State) (g w n : Nat) (f : Fibre → Fibre) : (s.modFib g w n f).mem = s.mem := rfl
@[simp] theorem State.modFib_cores (s : State) (g w n : Nat) (f : Fibre → Fibre) : (s.modFib g w n f).cores = s.cores := rfl
@[simp] theorem State.modFib_chans (s : State) (g w n : Nat) (f : Fibre → Fibre) : (s.modFib g w n f).chans = s.chans := rfl
@[simp] theorem State.modFib_msgs (s : State) (g w n : Nat) (f : Fibre → Fibre) : (s.modFib g w n f).msgs = s.msgs := rfl
@[simp] theorem State.modFib_revAcks (s : State) (g w n : Nat) (f : Fibre → Fibre) : (s.modFib g w n f).revAcks = s.revAcks := rfl
@[simp] theorem State.modFib_slices (s : State) (g w n : Nat) (f : Fibre → Fibre) : (s.modFib g w n f).slices = s.slices := rfl
@[simp] theorem State.modFib_xl (s : State) (g w n : Nat) (f : Fibre → Fibre) : (s.modFib g w n f).xl = s.xl := rfl
@[simp] theorem State.modFib_mesh (s : State) (g w n : Nat) (f : Fibre → Fibre) : (s.modFib g w n f).mesh = s.mesh := rfl
@[simp] theorem State.modFib_eng (s : State) (g w n : Nat) (f : Fibre → Fibre) : (s.modFib g w n f).eng = s.eng := rfl
@[simp] theorem State.modFib_cp (s : State) (g w n : Nat) (f : Fibre → Fibre) : (s.modFib g w n f).cp = s.cp := rfl
@[simp] theorem State.modFib_host (s : State) (g w n : Nat) (f : Fibre → Fibre) : (s.modFib g w n f).host = s.host := rfl
@[simp] theorem State.modFib_links (s : State) (g w n : Nat) (f : Fibre → Fibre) : (s.modFib g w n f).links = s.links := rfl
@[simp] theorem State.modFib_facet (s : State) (g w n : Nat) (f : Fibre → Fibre) : (s.modFib g w n f).facet = s.facet := rfl
@[simp] theorem State.modFib_fw (s : State) (g w n : Nat) (f : Fibre → Fibre) : (s.modFib g w n f).fw = s.fw := rfl
@[simp] theorem State.modFib_pw (s : State) (g w n : Nat) (f : Fibre → Fibre) : (s.modFib g w n f).pw = s.pw := rfl

/-! ## State.setWave -/

@[simp] theorem State.setWave_agenda (s : State) (c : Issue) (W : Wave) : (s.setWave c W).agenda = s.agenda := rfl
@[simp] theorem State.setWave_cur (s : State) (c : Issue) (W : Wave) : (s.setWave c W).cur = s.cur := rfl
@[simp] theorem State.setWave_fresh (s : State) (c : Issue) (W : Wave) : (s.setWave c W).fresh = s.fresh := rfl
@[simp] theorem State.setWave_now (s : State) (c : Issue) (W : Wave) : (s.setWave c W).now = s.now := rfl
@[simp] theorem State.setWave_mem (s : State) (c : Issue) (W : Wave) : (s.setWave c W).mem = s.mem := rfl
@[simp] theorem State.setWave_cores (s : State) (c : Issue) (W : Wave) : (s.setWave c W).cores = s.cores := rfl
@[simp] theorem State.setWave_chans (s : State) (c : Issue) (W : Wave) : (s.setWave c W).chans = s.chans := rfl
@[simp] theorem State.setWave_msgs (s : State) (c : Issue) (W : Wave) : (s.setWave c W).msgs = s.msgs := rfl
@[simp] theorem State.setWave_revAcks (s : State) (c : Issue) (W : Wave) : (s.setWave c W).revAcks = s.revAcks := rfl
@[simp] theorem State.setWave_slices (s : State) (c : Issue) (W : Wave) : (s.setWave c W).slices = s.slices := rfl
@[simp] theorem State.setWave_xl (s : State) (c : Issue) (W : Wave) : (s.setWave c W).xl = s.xl := rfl
@[simp] theorem State.setWave_mesh (s : State) (c : Issue) (W : Wave) : (s.setWave c W).mesh = s.mesh := rfl
@[simp] theorem State.setWave_eng (s : State) (c : Issue) (W : Wave) : (s.setWave c W).eng = s.eng := rfl
@[simp] theorem State.setWave_cp (s : State) (c : Issue) (W : Wave) : (s.setWave c W).cp = s.cp := rfl
@[simp] theorem State.setWave_host (s : State) (c : Issue) (W : Wave) : (s.setWave c W).host = s.host := rfl
@[simp] theorem State.setWave_links (s : State) (c : Issue) (W : Wave) : (s.setWave c W).links = s.links := rfl
@[simp] theorem State.setWave_facet (s : State) (c : Issue) (W : Wave) : (s.setWave c W).facet = s.facet := rfl
@[simp] theorem State.setWave_fw (s : State) (c : Issue) (W : Wave) : (s.setWave c W).fw = s.fw := rfl
@[simp] theorem State.setWave_pw (s : State) (c : Issue) (W : Wave) : (s.setWave c W).pw = s.pw := rfl

/-! ## State.modCore -/

@[simp] theorem State.modCore_agenda (s : State) (c : Nat) (f : Core → Core) : (s.modCore c f).agenda = s.agenda := rfl
@[simp] theorem State.modCore_cur (s : State) (c : Nat) (f : Core → Core) : (s.modCore c f).cur = s.cur := rfl
@[simp] theorem State.modCore_fresh (s : State) (c : Nat) (f : Core → Core) : (s.modCore c f).fresh = s.fresh := rfl
@[simp] theorem State.modCore_now (s : State) (c : Nat) (f : Core → Core) : (s.modCore c f).now = s.now := rfl
@[simp] theorem State.modCore_mem (s : State) (c : Nat) (f : Core → Core) : (s.modCore c f).mem = s.mem := rfl
@[simp] theorem State.modCore_groups (s : State) (c : Nat) (f : Core → Core) : (s.modCore c f).groups = s.groups := rfl
@[simp] theorem State.modCore_chans (s : State) (c : Nat) (f : Core → Core) : (s.modCore c f).chans = s.chans := rfl
@[simp] theorem State.modCore_msgs (s : State) (c : Nat) (f : Core → Core) : (s.modCore c f).msgs = s.msgs := rfl
@[simp] theorem State.modCore_revAcks (s : State) (c : Nat) (f : Core → Core) : (s.modCore c f).revAcks = s.revAcks := rfl
@[simp] theorem State.modCore_slices (s : State) (c : Nat) (f : Core → Core) : (s.modCore c f).slices = s.slices := rfl
@[simp] theorem State.modCore_xl (s : State) (c : Nat) (f : Core → Core) : (s.modCore c f).xl = s.xl := rfl
@[simp] theorem State.modCore_mesh (s : State) (c : Nat) (f : Core → Core) : (s.modCore c f).mesh = s.mesh := rfl
@[simp] theorem State.modCore_eng (s : State) (c : Nat) (f : Core → Core) : (s.modCore c f).eng = s.eng := rfl
@[simp] theorem State.modCore_cp (s : State) (c : Nat) (f : Core → Core) : (s.modCore c f).cp = s.cp := rfl
@[simp] theorem State.modCore_host (s : State) (c : Nat) (f : Core → Core) : (s.modCore c f).host = s.host := rfl
@[simp] theorem State.modCore_links (s : State) (c : Nat) (f : Core → Core) : (s.modCore c f).links = s.links := rfl
@[simp] theorem State.modCore_facet (s : State) (c : Nat) (f : Core → Core) : (s.modCore c f).facet = s.facet := rfl
@[simp] theorem State.modCore_fw (s : State) (c : Nat) (f : Core → Core) : (s.modCore c f).fw = s.fw := rfl
@[simp] theorem State.modCore_pw (s : State) (c : Nat) (f : Core → Core) : (s.modCore c f).pw = s.pw := rfl

/-! ## State.modSlice -/

@[simp] theorem State.modSlice_agenda (s : State) (h : Nat) (f : Slice → Slice) : (s.modSlice h f).agenda = s.agenda := rfl
@[simp] theorem State.modSlice_cur (s : State) (h : Nat) (f : Slice → Slice) : (s.modSlice h f).cur = s.cur := rfl
@[simp] theorem State.modSlice_fresh (s : State) (h : Nat) (f : Slice → Slice) : (s.modSlice h f).fresh = s.fresh := rfl
@[simp] theorem State.modSlice_now (s : State) (h : Nat) (f : Slice → Slice) : (s.modSlice h f).now = s.now := rfl
@[simp] theorem State.modSlice_mem (s : State) (h : Nat) (f : Slice → Slice) : (s.modSlice h f).mem = s.mem := rfl
@[simp] theorem State.modSlice_groups (s : State) (h : Nat) (f : Slice → Slice) : (s.modSlice h f).groups = s.groups := rfl
@[simp] theorem State.modSlice_cores (s : State) (h : Nat) (f : Slice → Slice) : (s.modSlice h f).cores = s.cores := rfl
@[simp] theorem State.modSlice_chans (s : State) (h : Nat) (f : Slice → Slice) : (s.modSlice h f).chans = s.chans := rfl
@[simp] theorem State.modSlice_msgs (s : State) (h : Nat) (f : Slice → Slice) : (s.modSlice h f).msgs = s.msgs := rfl
@[simp] theorem State.modSlice_revAcks (s : State) (h : Nat) (f : Slice → Slice) : (s.modSlice h f).revAcks = s.revAcks := rfl
@[simp] theorem State.modSlice_xl (s : State) (h : Nat) (f : Slice → Slice) : (s.modSlice h f).xl = s.xl := rfl
@[simp] theorem State.modSlice_mesh (s : State) (h : Nat) (f : Slice → Slice) : (s.modSlice h f).mesh = s.mesh := rfl
@[simp] theorem State.modSlice_eng (s : State) (h : Nat) (f : Slice → Slice) : (s.modSlice h f).eng = s.eng := rfl
@[simp] theorem State.modSlice_cp (s : State) (h : Nat) (f : Slice → Slice) : (s.modSlice h f).cp = s.cp := rfl
@[simp] theorem State.modSlice_host (s : State) (h : Nat) (f : Slice → Slice) : (s.modSlice h f).host = s.host := rfl
@[simp] theorem State.modSlice_links (s : State) (h : Nat) (f : Slice → Slice) : (s.modSlice h f).links = s.links := rfl
@[simp] theorem State.modSlice_facet (s : State) (h : Nat) (f : Slice → Slice) : (s.modSlice h f).facet = s.facet := rfl
@[simp] theorem State.modSlice_fw (s : State) (h : Nat) (f : Slice → Slice) : (s.modSlice h f).fw = s.fw := rfl
@[simp] theorem State.modSlice_pw (s : State) (h : Nat) (f : Slice → Slice) : (s.modSlice h f).pw = s.pw := rfl

/-! ## State.modFault -/

@[simp] theorem State.modFault_agenda (s : State) (d : Nat) (f : FaultEng → FaultEng) : (s.modFault d f).agenda = s.agenda := rfl
@[simp] theorem State.modFault_cur (s : State) (d : Nat) (f : FaultEng → FaultEng) : (s.modFault d f).cur = s.cur := rfl
@[simp] theorem State.modFault_fresh (s : State) (d : Nat) (f : FaultEng → FaultEng) : (s.modFault d f).fresh = s.fresh := rfl
@[simp] theorem State.modFault_now (s : State) (d : Nat) (f : FaultEng → FaultEng) : (s.modFault d f).now = s.now := rfl
@[simp] theorem State.modFault_mem (s : State) (d : Nat) (f : FaultEng → FaultEng) : (s.modFault d f).mem = s.mem := rfl
@[simp] theorem State.modFault_groups (s : State) (d : Nat) (f : FaultEng → FaultEng) : (s.modFault d f).groups = s.groups := rfl
@[simp] theorem State.modFault_cores (s : State) (d : Nat) (f : FaultEng → FaultEng) : (s.modFault d f).cores = s.cores := rfl
@[simp] theorem State.modFault_chans (s : State) (d : Nat) (f : FaultEng → FaultEng) : (s.modFault d f).chans = s.chans := rfl
@[simp] theorem State.modFault_msgs (s : State) (d : Nat) (f : FaultEng → FaultEng) : (s.modFault d f).msgs = s.msgs := rfl
@[simp] theorem State.modFault_revAcks (s : State) (d : Nat) (f : FaultEng → FaultEng) : (s.modFault d f).revAcks = s.revAcks := rfl
@[simp] theorem State.modFault_slices (s : State) (d : Nat) (f : FaultEng → FaultEng) : (s.modFault d f).slices = s.slices := rfl
@[simp] theorem State.modFault_xl (s : State) (d : Nat) (f : FaultEng → FaultEng) : (s.modFault d f).xl = s.xl := rfl
@[simp] theorem State.modFault_mesh (s : State) (d : Nat) (f : FaultEng → FaultEng) : (s.modFault d f).mesh = s.mesh := rfl
@[simp] theorem State.modFault_cp (s : State) (d : Nat) (f : FaultEng → FaultEng) : (s.modFault d f).cp = s.cp := rfl
@[simp] theorem State.modFault_host (s : State) (d : Nat) (f : FaultEng → FaultEng) : (s.modFault d f).host = s.host := rfl
@[simp] theorem State.modFault_links (s : State) (d : Nat) (f : FaultEng → FaultEng) : (s.modFault d f).links = s.links := rfl
@[simp] theorem State.modFault_facet (s : State) (d : Nat) (f : FaultEng → FaultEng) : (s.modFault d f).facet = s.facet := rfl
@[simp] theorem State.modFault_fw (s : State) (d : Nat) (f : FaultEng → FaultEng) : (s.modFault d f).fw = s.fw := rfl
@[simp] theorem State.modFault_pw (s : State) (d : Nat) (f : FaultEng → FaultEng) : (s.modFault d f).pw = s.pw := rfl

/-! ## State.detect -/

@[simp] theorem State.detect_agenda (s : State) (d : Nat) (x : Subject) : (s.detect d x).agenda = s.agenda := rfl
@[simp] theorem State.detect_cur (s : State) (d : Nat) (x : Subject) : (s.detect d x).cur = s.cur := rfl
@[simp] theorem State.detect_fresh (s : State) (d : Nat) (x : Subject) : (s.detect d x).fresh = s.fresh := rfl
@[simp] theorem State.detect_now (s : State) (d : Nat) (x : Subject) : (s.detect d x).now = s.now := rfl
@[simp] theorem State.detect_mem (s : State) (d : Nat) (x : Subject) : (s.detect d x).mem = s.mem := rfl
@[simp] theorem State.detect_groups (s : State) (d : Nat) (x : Subject) : (s.detect d x).groups = s.groups := rfl
@[simp] theorem State.detect_cores (s : State) (d : Nat) (x : Subject) : (s.detect d x).cores = s.cores := rfl
@[simp] theorem State.detect_chans (s : State) (d : Nat) (x : Subject) : (s.detect d x).chans = s.chans := rfl
@[simp] theorem State.detect_msgs (s : State) (d : Nat) (x : Subject) : (s.detect d x).msgs = s.msgs := rfl
@[simp] theorem State.detect_revAcks (s : State) (d : Nat) (x : Subject) : (s.detect d x).revAcks = s.revAcks := rfl
@[simp] theorem State.detect_slices (s : State) (d : Nat) (x : Subject) : (s.detect d x).slices = s.slices := rfl
@[simp] theorem State.detect_xl (s : State) (d : Nat) (x : Subject) : (s.detect d x).xl = s.xl := rfl
@[simp] theorem State.detect_mesh (s : State) (d : Nat) (x : Subject) : (s.detect d x).mesh = s.mesh := rfl
@[simp] theorem State.detect_cp (s : State) (d : Nat) (x : Subject) : (s.detect d x).cp = s.cp := rfl
@[simp] theorem State.detect_host (s : State) (d : Nat) (x : Subject) : (s.detect d x).host = s.host := rfl
@[simp] theorem State.detect_links (s : State) (d : Nat) (x : Subject) : (s.detect d x).links = s.links := rfl
@[simp] theorem State.detect_facet (s : State) (d : Nat) (x : Subject) : (s.detect d x).facet = s.facet := rfl
@[simp] theorem State.detect_fw (s : State) (d : Nat) (x : Subject) : (s.detect d x).fw = s.fw := rfl
@[simp] theorem State.detect_pw (s : State) (d : Nat) (x : Subject) : (s.detect d x).pw = s.pw := rfl

/-! ## State.modRecord -/

@[simp] theorem State.modRecord_agenda (s : State) (rid : Nat) (f : Record → Record) : (s.modRecord rid f).agenda = s.agenda := rfl
@[simp] theorem State.modRecord_cur (s : State) (rid : Nat) (f : Record → Record) : (s.modRecord rid f).cur = s.cur := rfl
@[simp] theorem State.modRecord_fresh (s : State) (rid : Nat) (f : Record → Record) : (s.modRecord rid f).fresh = s.fresh := rfl
@[simp] theorem State.modRecord_now (s : State) (rid : Nat) (f : Record → Record) : (s.modRecord rid f).now = s.now := rfl
@[simp] theorem State.modRecord_mem (s : State) (rid : Nat) (f : Record → Record) : (s.modRecord rid f).mem = s.mem := rfl
@[simp] theorem State.modRecord_groups (s : State) (rid : Nat) (f : Record → Record) : (s.modRecord rid f).groups = s.groups := rfl
@[simp] theorem State.modRecord_cores (s : State) (rid : Nat) (f : Record → Record) : (s.modRecord rid f).cores = s.cores := rfl
@[simp] theorem State.modRecord_chans (s : State) (rid : Nat) (f : Record → Record) : (s.modRecord rid f).chans = s.chans := rfl
@[simp] theorem State.modRecord_msgs (s : State) (rid : Nat) (f : Record → Record) : (s.modRecord rid f).msgs = s.msgs := rfl
@[simp] theorem State.modRecord_revAcks (s : State) (rid : Nat) (f : Record → Record) : (s.modRecord rid f).revAcks = s.revAcks := rfl
@[simp] theorem State.modRecord_slices (s : State) (rid : Nat) (f : Record → Record) : (s.modRecord rid f).slices = s.slices := rfl
@[simp] theorem State.modRecord_xl (s : State) (rid : Nat) (f : Record → Record) : (s.modRecord rid f).xl = s.xl := rfl
@[simp] theorem State.modRecord_mesh (s : State) (rid : Nat) (f : Record → Record) : (s.modRecord rid f).mesh = s.mesh := rfl
@[simp] theorem State.modRecord_cp (s : State) (rid : Nat) (f : Record → Record) : (s.modRecord rid f).cp = s.cp := rfl
@[simp] theorem State.modRecord_host (s : State) (rid : Nat) (f : Record → Record) : (s.modRecord rid f).host = s.host := rfl
@[simp] theorem State.modRecord_links (s : State) (rid : Nat) (f : Record → Record) : (s.modRecord rid f).links = s.links := rfl
@[simp] theorem State.modRecord_facet (s : State) (rid : Nat) (f : Record → Record) : (s.modRecord rid f).facet = s.facet := rfl
@[simp] theorem State.modRecord_fw (s : State) (rid : Nat) (f : Record → Record) : (s.modRecord rid f).fw = s.fw := rfl
@[simp] theorem State.modRecord_pw (s : State) (rid : Nat) (f : Record → Record) : (s.modRecord rid f).pw = s.pw := rfl

/-! ## State.modCopyEng -/

@[simp] theorem State.modCopyEng_agenda (s : State) (c : Nat) (f : CopyEng → CopyEng) : (s.modCopyEng c f).agenda = s.agenda := rfl
@[simp] theorem State.modCopyEng_cur (s : State) (c : Nat) (f : CopyEng → CopyEng) : (s.modCopyEng c f).cur = s.cur := rfl
@[simp] theorem State.modCopyEng_fresh (s : State) (c : Nat) (f : CopyEng → CopyEng) : (s.modCopyEng c f).fresh = s.fresh := rfl
@[simp] theorem State.modCopyEng_now (s : State) (c : Nat) (f : CopyEng → CopyEng) : (s.modCopyEng c f).now = s.now := rfl
@[simp] theorem State.modCopyEng_mem (s : State) (c : Nat) (f : CopyEng → CopyEng) : (s.modCopyEng c f).mem = s.mem := rfl
@[simp] theorem State.modCopyEng_groups (s : State) (c : Nat) (f : CopyEng → CopyEng) : (s.modCopyEng c f).groups = s.groups := rfl
@[simp] theorem State.modCopyEng_cores (s : State) (c : Nat) (f : CopyEng → CopyEng) : (s.modCopyEng c f).cores = s.cores := rfl
@[simp] theorem State.modCopyEng_chans (s : State) (c : Nat) (f : CopyEng → CopyEng) : (s.modCopyEng c f).chans = s.chans := rfl
@[simp] theorem State.modCopyEng_msgs (s : State) (c : Nat) (f : CopyEng → CopyEng) : (s.modCopyEng c f).msgs = s.msgs := rfl
@[simp] theorem State.modCopyEng_revAcks (s : State) (c : Nat) (f : CopyEng → CopyEng) : (s.modCopyEng c f).revAcks = s.revAcks := rfl
@[simp] theorem State.modCopyEng_slices (s : State) (c : Nat) (f : CopyEng → CopyEng) : (s.modCopyEng c f).slices = s.slices := rfl
@[simp] theorem State.modCopyEng_xl (s : State) (c : Nat) (f : CopyEng → CopyEng) : (s.modCopyEng c f).xl = s.xl := rfl
@[simp] theorem State.modCopyEng_mesh (s : State) (c : Nat) (f : CopyEng → CopyEng) : (s.modCopyEng c f).mesh = s.mesh := rfl
@[simp] theorem State.modCopyEng_cp (s : State) (c : Nat) (f : CopyEng → CopyEng) : (s.modCopyEng c f).cp = s.cp := rfl
@[simp] theorem State.modCopyEng_host (s : State) (c : Nat) (f : CopyEng → CopyEng) : (s.modCopyEng c f).host = s.host := rfl
@[simp] theorem State.modCopyEng_links (s : State) (c : Nat) (f : CopyEng → CopyEng) : (s.modCopyEng c f).links = s.links := rfl
@[simp] theorem State.modCopyEng_facet (s : State) (c : Nat) (f : CopyEng → CopyEng) : (s.modCopyEng c f).facet = s.facet := rfl
@[simp] theorem State.modCopyEng_fw (s : State) (c : Nat) (f : CopyEng → CopyEng) : (s.modCopyEng c f).fw = s.fw := rfl
@[simp] theorem State.modCopyEng_pw (s : State) (c : Nat) (f : CopyEng → CopyEng) : (s.modCopyEng c f).pw = s.pw := rfl

/-! ## State.modMatrix -/

@[simp] theorem State.modMatrix_agenda (s : State) (q : Nat) (f : Matrix → Matrix) : (s.modMatrix q f).agenda = s.agenda := rfl
@[simp] theorem State.modMatrix_cur (s : State) (q : Nat) (f : Matrix → Matrix) : (s.modMatrix q f).cur = s.cur := rfl
@[simp] theorem State.modMatrix_fresh (s : State) (q : Nat) (f : Matrix → Matrix) : (s.modMatrix q f).fresh = s.fresh := rfl
@[simp] theorem State.modMatrix_now (s : State) (q : Nat) (f : Matrix → Matrix) : (s.modMatrix q f).now = s.now := rfl
@[simp] theorem State.modMatrix_mem (s : State) (q : Nat) (f : Matrix → Matrix) : (s.modMatrix q f).mem = s.mem := rfl
@[simp] theorem State.modMatrix_groups (s : State) (q : Nat) (f : Matrix → Matrix) : (s.modMatrix q f).groups = s.groups := rfl
@[simp] theorem State.modMatrix_cores (s : State) (q : Nat) (f : Matrix → Matrix) : (s.modMatrix q f).cores = s.cores := rfl
@[simp] theorem State.modMatrix_chans (s : State) (q : Nat) (f : Matrix → Matrix) : (s.modMatrix q f).chans = s.chans := rfl
@[simp] theorem State.modMatrix_msgs (s : State) (q : Nat) (f : Matrix → Matrix) : (s.modMatrix q f).msgs = s.msgs := rfl
@[simp] theorem State.modMatrix_revAcks (s : State) (q : Nat) (f : Matrix → Matrix) : (s.modMatrix q f).revAcks = s.revAcks := rfl
@[simp] theorem State.modMatrix_slices (s : State) (q : Nat) (f : Matrix → Matrix) : (s.modMatrix q f).slices = s.slices := rfl
@[simp] theorem State.modMatrix_xl (s : State) (q : Nat) (f : Matrix → Matrix) : (s.modMatrix q f).xl = s.xl := rfl
@[simp] theorem State.modMatrix_mesh (s : State) (q : Nat) (f : Matrix → Matrix) : (s.modMatrix q f).mesh = s.mesh := rfl
@[simp] theorem State.modMatrix_cp (s : State) (q : Nat) (f : Matrix → Matrix) : (s.modMatrix q f).cp = s.cp := rfl
@[simp] theorem State.modMatrix_host (s : State) (q : Nat) (f : Matrix → Matrix) : (s.modMatrix q f).host = s.host := rfl
@[simp] theorem State.modMatrix_links (s : State) (q : Nat) (f : Matrix → Matrix) : (s.modMatrix q f).links = s.links := rfl
@[simp] theorem State.modMatrix_facet (s : State) (q : Nat) (f : Matrix → Matrix) : (s.modMatrix q f).facet = s.facet := rfl
@[simp] theorem State.modMatrix_fw (s : State) (q : Nat) (f : Matrix → Matrix) : (s.modMatrix q f).fw = s.fw := rfl
@[simp] theorem State.modMatrix_pw (s : State) (q : Nat) (f : Matrix → Matrix) : (s.modMatrix q f).pw = s.pw := rfl

/-! ## State.modWbar -/

@[simp] theorem State.modWbar_agenda (s : State) (k : Nat) (f : WideBarrier → WideBarrier) : (s.modWbar k f).agenda = s.agenda := rfl
@[simp] theorem State.modWbar_cur (s : State) (k : Nat) (f : WideBarrier → WideBarrier) : (s.modWbar k f).cur = s.cur := rfl
@[simp] theorem State.modWbar_fresh (s : State) (k : Nat) (f : WideBarrier → WideBarrier) : (s.modWbar k f).fresh = s.fresh := rfl
@[simp] theorem State.modWbar_now (s : State) (k : Nat) (f : WideBarrier → WideBarrier) : (s.modWbar k f).now = s.now := rfl
@[simp] theorem State.modWbar_mem (s : State) (k : Nat) (f : WideBarrier → WideBarrier) : (s.modWbar k f).mem = s.mem := rfl
@[simp] theorem State.modWbar_groups (s : State) (k : Nat) (f : WideBarrier → WideBarrier) : (s.modWbar k f).groups = s.groups := rfl
@[simp] theorem State.modWbar_cores (s : State) (k : Nat) (f : WideBarrier → WideBarrier) : (s.modWbar k f).cores = s.cores := rfl
@[simp] theorem State.modWbar_chans (s : State) (k : Nat) (f : WideBarrier → WideBarrier) : (s.modWbar k f).chans = s.chans := rfl
@[simp] theorem State.modWbar_msgs (s : State) (k : Nat) (f : WideBarrier → WideBarrier) : (s.modWbar k f).msgs = s.msgs := rfl
@[simp] theorem State.modWbar_revAcks (s : State) (k : Nat) (f : WideBarrier → WideBarrier) : (s.modWbar k f).revAcks = s.revAcks := rfl
@[simp] theorem State.modWbar_slices (s : State) (k : Nat) (f : WideBarrier → WideBarrier) : (s.modWbar k f).slices = s.slices := rfl
@[simp] theorem State.modWbar_xl (s : State) (k : Nat) (f : WideBarrier → WideBarrier) : (s.modWbar k f).xl = s.xl := rfl
@[simp] theorem State.modWbar_mesh (s : State) (k : Nat) (f : WideBarrier → WideBarrier) : (s.modWbar k f).mesh = s.mesh := rfl
@[simp] theorem State.modWbar_cp (s : State) (k : Nat) (f : WideBarrier → WideBarrier) : (s.modWbar k f).cp = s.cp := rfl
@[simp] theorem State.modWbar_host (s : State) (k : Nat) (f : WideBarrier → WideBarrier) : (s.modWbar k f).host = s.host := rfl
@[simp] theorem State.modWbar_links (s : State) (k : Nat) (f : WideBarrier → WideBarrier) : (s.modWbar k f).links = s.links := rfl
@[simp] theorem State.modWbar_facet (s : State) (k : Nat) (f : WideBarrier → WideBarrier) : (s.modWbar k f).facet = s.facet := rfl
@[simp] theorem State.modWbar_fw (s : State) (k : Nat) (f : WideBarrier → WideBarrier) : (s.modWbar k f).fw = s.fw := rfl
@[simp] theorem State.modWbar_pw (s : State) (k : Nat) (f : WideBarrier → WideBarrier) : (s.modWbar k f).pw = s.pw := rfl

/-! ## State.modSlot -/

@[simp] theorem State.modSlot_agenda (s : State) (k : Nat) (f : QSlot → QSlot) : (s.modSlot k f).agenda = s.agenda := rfl
@[simp] theorem State.modSlot_cur (s : State) (k : Nat) (f : QSlot → QSlot) : (s.modSlot k f).cur = s.cur := rfl
@[simp] theorem State.modSlot_fresh (s : State) (k : Nat) (f : QSlot → QSlot) : (s.modSlot k f).fresh = s.fresh := rfl
@[simp] theorem State.modSlot_now (s : State) (k : Nat) (f : QSlot → QSlot) : (s.modSlot k f).now = s.now := rfl
@[simp] theorem State.modSlot_mem (s : State) (k : Nat) (f : QSlot → QSlot) : (s.modSlot k f).mem = s.mem := rfl
@[simp] theorem State.modSlot_groups (s : State) (k : Nat) (f : QSlot → QSlot) : (s.modSlot k f).groups = s.groups := rfl
@[simp] theorem State.modSlot_cores (s : State) (k : Nat) (f : QSlot → QSlot) : (s.modSlot k f).cores = s.cores := rfl
@[simp] theorem State.modSlot_chans (s : State) (k : Nat) (f : QSlot → QSlot) : (s.modSlot k f).chans = s.chans := rfl
@[simp] theorem State.modSlot_msgs (s : State) (k : Nat) (f : QSlot → QSlot) : (s.modSlot k f).msgs = s.msgs := rfl
@[simp] theorem State.modSlot_revAcks (s : State) (k : Nat) (f : QSlot → QSlot) : (s.modSlot k f).revAcks = s.revAcks := rfl
@[simp] theorem State.modSlot_slices (s : State) (k : Nat) (f : QSlot → QSlot) : (s.modSlot k f).slices = s.slices := rfl
@[simp] theorem State.modSlot_xl (s : State) (k : Nat) (f : QSlot → QSlot) : (s.modSlot k f).xl = s.xl := rfl
@[simp] theorem State.modSlot_mesh (s : State) (k : Nat) (f : QSlot → QSlot) : (s.modSlot k f).mesh = s.mesh := rfl
@[simp] theorem State.modSlot_eng (s : State) (k : Nat) (f : QSlot → QSlot) : (s.modSlot k f).eng = s.eng := rfl
@[simp] theorem State.modSlot_host (s : State) (k : Nat) (f : QSlot → QSlot) : (s.modSlot k f).host = s.host := rfl
@[simp] theorem State.modSlot_links (s : State) (k : Nat) (f : QSlot → QSlot) : (s.modSlot k f).links = s.links := rfl
@[simp] theorem State.modSlot_facet (s : State) (k : Nat) (f : QSlot → QSlot) : (s.modSlot k f).facet = s.facet := rfl
@[simp] theorem State.modSlot_fw (s : State) (k : Nat) (f : QSlot → QSlot) : (s.modSlot k f).fw = s.fw := rfl
@[simp] theorem State.modSlot_pw (s : State) (k : Nat) (f : QSlot → QSlot) : (s.modSlot k f).pw = s.pw := rfl

/-! ## State.modLaunch -/

@[simp] theorem State.modLaunch_agenda (s : State) (id : Nat) (f : Launch → Launch) : (s.modLaunch id f).agenda = s.agenda := rfl
@[simp] theorem State.modLaunch_cur (s : State) (id : Nat) (f : Launch → Launch) : (s.modLaunch id f).cur = s.cur := rfl
@[simp] theorem State.modLaunch_fresh (s : State) (id : Nat) (f : Launch → Launch) : (s.modLaunch id f).fresh = s.fresh := rfl
@[simp] theorem State.modLaunch_now (s : State) (id : Nat) (f : Launch → Launch) : (s.modLaunch id f).now = s.now := rfl
@[simp] theorem State.modLaunch_mem (s : State) (id : Nat) (f : Launch → Launch) : (s.modLaunch id f).mem = s.mem := rfl
@[simp] theorem State.modLaunch_groups (s : State) (id : Nat) (f : Launch → Launch) : (s.modLaunch id f).groups = s.groups := rfl
@[simp] theorem State.modLaunch_cores (s : State) (id : Nat) (f : Launch → Launch) : (s.modLaunch id f).cores = s.cores := rfl
@[simp] theorem State.modLaunch_chans (s : State) (id : Nat) (f : Launch → Launch) : (s.modLaunch id f).chans = s.chans := rfl
@[simp] theorem State.modLaunch_msgs (s : State) (id : Nat) (f : Launch → Launch) : (s.modLaunch id f).msgs = s.msgs := rfl
@[simp] theorem State.modLaunch_revAcks (s : State) (id : Nat) (f : Launch → Launch) : (s.modLaunch id f).revAcks = s.revAcks := rfl
@[simp] theorem State.modLaunch_slices (s : State) (id : Nat) (f : Launch → Launch) : (s.modLaunch id f).slices = s.slices := rfl
@[simp] theorem State.modLaunch_xl (s : State) (id : Nat) (f : Launch → Launch) : (s.modLaunch id f).xl = s.xl := rfl
@[simp] theorem State.modLaunch_mesh (s : State) (id : Nat) (f : Launch → Launch) : (s.modLaunch id f).mesh = s.mesh := rfl
@[simp] theorem State.modLaunch_eng (s : State) (id : Nat) (f : Launch → Launch) : (s.modLaunch id f).eng = s.eng := rfl
@[simp] theorem State.modLaunch_host (s : State) (id : Nat) (f : Launch → Launch) : (s.modLaunch id f).host = s.host := rfl
@[simp] theorem State.modLaunch_links (s : State) (id : Nat) (f : Launch → Launch) : (s.modLaunch id f).links = s.links := rfl
@[simp] theorem State.modLaunch_facet (s : State) (id : Nat) (f : Launch → Launch) : (s.modLaunch id f).facet = s.facet := rfl
@[simp] theorem State.modLaunch_fw (s : State) (id : Nat) (f : Launch → Launch) : (s.modLaunch id f).fw = s.fw := rfl
@[simp] theorem State.modLaunch_pw (s : State) (id : Nat) (f : Launch → Launch) : (s.modLaunch id f).pw = s.pw := rfl

/-! ## State.modBox -/

@[simp] theorem State.modBox_agenda (s : State) (fn : Nat) (f : Mailbox → Mailbox) : (s.modBox fn f).agenda = s.agenda := rfl
@[simp] theorem State.modBox_cur (s : State) (fn : Nat) (f : Mailbox → Mailbox) : (s.modBox fn f).cur = s.cur := rfl
@[simp] theorem State.modBox_fresh (s : State) (fn : Nat) (f : Mailbox → Mailbox) : (s.modBox fn f).fresh = s.fresh := rfl
@[simp] theorem State.modBox_now (s : State) (fn : Nat) (f : Mailbox → Mailbox) : (s.modBox fn f).now = s.now := rfl
@[simp] theorem State.modBox_mem (s : State) (fn : Nat) (f : Mailbox → Mailbox) : (s.modBox fn f).mem = s.mem := rfl
@[simp] theorem State.modBox_groups (s : State) (fn : Nat) (f : Mailbox → Mailbox) : (s.modBox fn f).groups = s.groups := rfl
@[simp] theorem State.modBox_cores (s : State) (fn : Nat) (f : Mailbox → Mailbox) : (s.modBox fn f).cores = s.cores := rfl
@[simp] theorem State.modBox_chans (s : State) (fn : Nat) (f : Mailbox → Mailbox) : (s.modBox fn f).chans = s.chans := rfl
@[simp] theorem State.modBox_msgs (s : State) (fn : Nat) (f : Mailbox → Mailbox) : (s.modBox fn f).msgs = s.msgs := rfl
@[simp] theorem State.modBox_revAcks (s : State) (fn : Nat) (f : Mailbox → Mailbox) : (s.modBox fn f).revAcks = s.revAcks := rfl
@[simp] theorem State.modBox_slices (s : State) (fn : Nat) (f : Mailbox → Mailbox) : (s.modBox fn f).slices = s.slices := rfl
@[simp] theorem State.modBox_xl (s : State) (fn : Nat) (f : Mailbox → Mailbox) : (s.modBox fn f).xl = s.xl := rfl
@[simp] theorem State.modBox_mesh (s : State) (fn : Nat) (f : Mailbox → Mailbox) : (s.modBox fn f).mesh = s.mesh := rfl
@[simp] theorem State.modBox_eng (s : State) (fn : Nat) (f : Mailbox → Mailbox) : (s.modBox fn f).eng = s.eng := rfl
@[simp] theorem State.modBox_cp (s : State) (fn : Nat) (f : Mailbox → Mailbox) : (s.modBox fn f).cp = s.cp := rfl
@[simp] theorem State.modBox_links (s : State) (fn : Nat) (f : Mailbox → Mailbox) : (s.modBox fn f).links = s.links := rfl
@[simp] theorem State.modBox_facet (s : State) (fn : Nat) (f : Mailbox → Mailbox) : (s.modBox fn f).facet = s.facet := rfl
@[simp] theorem State.modBox_fw (s : State) (fn : Nat) (f : Mailbox → Mailbox) : (s.modBox fn f).fw = s.fw := rfl
@[simp] theorem State.modBox_pw (s : State) (fn : Nat) (f : Mailbox → Mailbox) : (s.modBox fn f).pw = s.pw := rfl

/-! ## State.hostPut -/

@[simp] theorem State.hostPut_agenda (s : State) (a : Nat) (bs : List Byte) : (s.hostPut a bs).agenda = s.agenda := rfl
@[simp] theorem State.hostPut_cur (s : State) (a : Nat) (bs : List Byte) : (s.hostPut a bs).cur = s.cur := rfl
@[simp] theorem State.hostPut_fresh (s : State) (a : Nat) (bs : List Byte) : (s.hostPut a bs).fresh = s.fresh := rfl
@[simp] theorem State.hostPut_now (s : State) (a : Nat) (bs : List Byte) : (s.hostPut a bs).now = s.now := rfl
@[simp] theorem State.hostPut_mem (s : State) (a : Nat) (bs : List Byte) : (s.hostPut a bs).mem = s.mem := rfl
@[simp] theorem State.hostPut_groups (s : State) (a : Nat) (bs : List Byte) : (s.hostPut a bs).groups = s.groups := rfl
@[simp] theorem State.hostPut_cores (s : State) (a : Nat) (bs : List Byte) : (s.hostPut a bs).cores = s.cores := rfl
@[simp] theorem State.hostPut_chans (s : State) (a : Nat) (bs : List Byte) : (s.hostPut a bs).chans = s.chans := rfl
@[simp] theorem State.hostPut_msgs (s : State) (a : Nat) (bs : List Byte) : (s.hostPut a bs).msgs = s.msgs := rfl
@[simp] theorem State.hostPut_revAcks (s : State) (a : Nat) (bs : List Byte) : (s.hostPut a bs).revAcks = s.revAcks := rfl
@[simp] theorem State.hostPut_slices (s : State) (a : Nat) (bs : List Byte) : (s.hostPut a bs).slices = s.slices := rfl
@[simp] theorem State.hostPut_xl (s : State) (a : Nat) (bs : List Byte) : (s.hostPut a bs).xl = s.xl := rfl
@[simp] theorem State.hostPut_mesh (s : State) (a : Nat) (bs : List Byte) : (s.hostPut a bs).mesh = s.mesh := rfl
@[simp] theorem State.hostPut_eng (s : State) (a : Nat) (bs : List Byte) : (s.hostPut a bs).eng = s.eng := rfl
@[simp] theorem State.hostPut_cp (s : State) (a : Nat) (bs : List Byte) : (s.hostPut a bs).cp = s.cp := rfl
@[simp] theorem State.hostPut_links (s : State) (a : Nat) (bs : List Byte) : (s.hostPut a bs).links = s.links := rfl
@[simp] theorem State.hostPut_facet (s : State) (a : Nat) (bs : List Byte) : (s.hostPut a bs).facet = s.facet := rfl
@[simp] theorem State.hostPut_fw (s : State) (a : Nat) (bs : List Byte) : (s.hostPut a bs).fw = s.fw := rfl
@[simp] theorem State.hostPut_pw (s : State) (a : Nat) (bs : List Byte) : (s.hostPut a bs).pw = s.pw := rfl

/-! ## State.modPort -/

@[simp] theorem State.modPort_agenda (s : State) (p : Nat) (f : Port → Port) : (s.modPort p f).agenda = s.agenda := rfl
@[simp] theorem State.modPort_cur (s : State) (p : Nat) (f : Port → Port) : (s.modPort p f).cur = s.cur := rfl
@[simp] theorem State.modPort_fresh (s : State) (p : Nat) (f : Port → Port) : (s.modPort p f).fresh = s.fresh := rfl
@[simp] theorem State.modPort_now (s : State) (p : Nat) (f : Port → Port) : (s.modPort p f).now = s.now := rfl
@[simp] theorem State.modPort_mem (s : State) (p : Nat) (f : Port → Port) : (s.modPort p f).mem = s.mem := rfl
@[simp] theorem State.modPort_groups (s : State) (p : Nat) (f : Port → Port) : (s.modPort p f).groups = s.groups := rfl
@[simp] theorem State.modPort_cores (s : State) (p : Nat) (f : Port → Port) : (s.modPort p f).cores = s.cores := rfl
@[simp] theorem State.modPort_chans (s : State) (p : Nat) (f : Port → Port) : (s.modPort p f).chans = s.chans := rfl
@[simp] theorem State.modPort_msgs (s : State) (p : Nat) (f : Port → Port) : (s.modPort p f).msgs = s.msgs := rfl
@[simp] theorem State.modPort_revAcks (s : State) (p : Nat) (f : Port → Port) : (s.modPort p f).revAcks = s.revAcks := rfl
@[simp] theorem State.modPort_slices (s : State) (p : Nat) (f : Port → Port) : (s.modPort p f).slices = s.slices := rfl
@[simp] theorem State.modPort_xl (s : State) (p : Nat) (f : Port → Port) : (s.modPort p f).xl = s.xl := rfl
@[simp] theorem State.modPort_mesh (s : State) (p : Nat) (f : Port → Port) : (s.modPort p f).mesh = s.mesh := rfl
@[simp] theorem State.modPort_eng (s : State) (p : Nat) (f : Port → Port) : (s.modPort p f).eng = s.eng := rfl
@[simp] theorem State.modPort_cp (s : State) (p : Nat) (f : Port → Port) : (s.modPort p f).cp = s.cp := rfl
@[simp] theorem State.modPort_host (s : State) (p : Nat) (f : Port → Port) : (s.modPort p f).host = s.host := rfl
@[simp] theorem State.modPort_facet (s : State) (p : Nat) (f : Port → Port) : (s.modPort p f).facet = s.facet := rfl
@[simp] theorem State.modPort_fw (s : State) (p : Nat) (f : Port → Port) : (s.modPort p f).fw = s.fw := rfl
@[simp] theorem State.modPort_pw (s : State) (p : Nat) (f : Port → Port) : (s.modPort p f).pw = s.pw := rfl

/-! ## State.modChan -/

@[simp] theorem State.modChan_agenda (s : State) (ch : Nat) (f : Chan → Chan) : (s.modChan ch f).agenda = s.agenda := rfl
@[simp] theorem State.modChan_cur (s : State) (ch : Nat) (f : Chan → Chan) : (s.modChan ch f).cur = s.cur := rfl
@[simp] theorem State.modChan_fresh (s : State) (ch : Nat) (f : Chan → Chan) : (s.modChan ch f).fresh = s.fresh := rfl
@[simp] theorem State.modChan_now (s : State) (ch : Nat) (f : Chan → Chan) : (s.modChan ch f).now = s.now := rfl
@[simp] theorem State.modChan_mem (s : State) (ch : Nat) (f : Chan → Chan) : (s.modChan ch f).mem = s.mem := rfl
@[simp] theorem State.modChan_groups (s : State) (ch : Nat) (f : Chan → Chan) : (s.modChan ch f).groups = s.groups := rfl
@[simp] theorem State.modChan_cores (s : State) (ch : Nat) (f : Chan → Chan) : (s.modChan ch f).cores = s.cores := rfl
@[simp] theorem State.modChan_msgs (s : State) (ch : Nat) (f : Chan → Chan) : (s.modChan ch f).msgs = s.msgs := rfl
@[simp] theorem State.modChan_revAcks (s : State) (ch : Nat) (f : Chan → Chan) : (s.modChan ch f).revAcks = s.revAcks := rfl
@[simp] theorem State.modChan_slices (s : State) (ch : Nat) (f : Chan → Chan) : (s.modChan ch f).slices = s.slices := rfl
@[simp] theorem State.modChan_xl (s : State) (ch : Nat) (f : Chan → Chan) : (s.modChan ch f).xl = s.xl := rfl
@[simp] theorem State.modChan_mesh (s : State) (ch : Nat) (f : Chan → Chan) : (s.modChan ch f).mesh = s.mesh := rfl
@[simp] theorem State.modChan_eng (s : State) (ch : Nat) (f : Chan → Chan) : (s.modChan ch f).eng = s.eng := rfl
@[simp] theorem State.modChan_cp (s : State) (ch : Nat) (f : Chan → Chan) : (s.modChan ch f).cp = s.cp := rfl
@[simp] theorem State.modChan_host (s : State) (ch : Nat) (f : Chan → Chan) : (s.modChan ch f).host = s.host := rfl
@[simp] theorem State.modChan_links (s : State) (ch : Nat) (f : Chan → Chan) : (s.modChan ch f).links = s.links := rfl
@[simp] theorem State.modChan_facet (s : State) (ch : Nat) (f : Chan → Chan) : (s.modChan ch f).facet = s.facet := rfl
@[simp] theorem State.modChan_fw (s : State) (ch : Nat) (f : Chan → Chan) : (s.modChan ch f).fw = s.fw := rfl
@[simp] theorem State.modChan_pw (s : State) (ch : Nat) (f : Chan → Chan) : (s.modChan ch f).pw = s.pw := rfl

/-! ## State.post -/

@[simp] theorem State.post_agenda (s : State) (m : Msg) : (s.post m).agenda = s.agenda := rfl
@[simp] theorem State.post_cur (s : State) (m : Msg) : (s.post m).cur = s.cur := rfl
@[simp] theorem State.post_fresh (s : State) (m : Msg) : (s.post m).fresh = s.fresh := rfl
@[simp] theorem State.post_now (s : State) (m : Msg) : (s.post m).now = s.now := rfl
@[simp] theorem State.post_mem (s : State) (m : Msg) : (s.post m).mem = s.mem := rfl
@[simp] theorem State.post_groups (s : State) (m : Msg) : (s.post m).groups = s.groups := rfl
@[simp] theorem State.post_cores (s : State) (m : Msg) : (s.post m).cores = s.cores := rfl
@[simp] theorem State.post_chans (s : State) (m : Msg) : (s.post m).chans = s.chans := rfl
@[simp] theorem State.post_revAcks (s : State) (m : Msg) : (s.post m).revAcks = s.revAcks := rfl
@[simp] theorem State.post_slices (s : State) (m : Msg) : (s.post m).slices = s.slices := rfl
@[simp] theorem State.post_xl (s : State) (m : Msg) : (s.post m).xl = s.xl := rfl
@[simp] theorem State.post_mesh (s : State) (m : Msg) : (s.post m).mesh = s.mesh := rfl
@[simp] theorem State.post_eng (s : State) (m : Msg) : (s.post m).eng = s.eng := rfl
@[simp] theorem State.post_cp (s : State) (m : Msg) : (s.post m).cp = s.cp := rfl
@[simp] theorem State.post_host (s : State) (m : Msg) : (s.post m).host = s.host := rfl
@[simp] theorem State.post_links (s : State) (m : Msg) : (s.post m).links = s.links := rfl
@[simp] theorem State.post_facet (s : State) (m : Msg) : (s.post m).facet = s.facet := rfl
@[simp] theorem State.post_fw (s : State) (m : Msg) : (s.post m).fw = s.fw := rfl
@[simp] theorem State.post_pw (s : State) (m : Msg) : (s.post m).pw = s.pw := rfl

/-! ## State.issuing -/

@[simp] theorem State.issuing_agenda (s : State) (c : Option Issue) : (s.issuing c).agenda = s.agenda := rfl
@[simp] theorem State.issuing_fresh (s : State) (c : Option Issue) : (s.issuing c).fresh = s.fresh := rfl
@[simp] theorem State.issuing_now (s : State) (c : Option Issue) : (s.issuing c).now = s.now := rfl
@[simp] theorem State.issuing_mem (s : State) (c : Option Issue) : (s.issuing c).mem = s.mem := rfl
@[simp] theorem State.issuing_groups (s : State) (c : Option Issue) : (s.issuing c).groups = s.groups := rfl
@[simp] theorem State.issuing_cores (s : State) (c : Option Issue) : (s.issuing c).cores = s.cores := rfl
@[simp] theorem State.issuing_chans (s : State) (c : Option Issue) : (s.issuing c).chans = s.chans := rfl
@[simp] theorem State.issuing_msgs (s : State) (c : Option Issue) : (s.issuing c).msgs = s.msgs := rfl
@[simp] theorem State.issuing_revAcks (s : State) (c : Option Issue) : (s.issuing c).revAcks = s.revAcks := rfl
@[simp] theorem State.issuing_slices (s : State) (c : Option Issue) : (s.issuing c).slices = s.slices := rfl
@[simp] theorem State.issuing_xl (s : State) (c : Option Issue) : (s.issuing c).xl = s.xl := rfl
@[simp] theorem State.issuing_mesh (s : State) (c : Option Issue) : (s.issuing c).mesh = s.mesh := rfl
@[simp] theorem State.issuing_eng (s : State) (c : Option Issue) : (s.issuing c).eng = s.eng := rfl
@[simp] theorem State.issuing_cp (s : State) (c : Option Issue) : (s.issuing c).cp = s.cp := rfl
@[simp] theorem State.issuing_host (s : State) (c : Option Issue) : (s.issuing c).host = s.host := rfl
@[simp] theorem State.issuing_links (s : State) (c : Option Issue) : (s.issuing c).links = s.links := rfl
@[simp] theorem State.issuing_facet (s : State) (c : Option Issue) : (s.issuing c).facet = s.facet := rfl
@[simp] theorem State.issuing_fw (s : State) (c : Option Issue) : (s.issuing c).fw = s.fw := rfl
@[simp] theorem State.issuing_pw (s : State) (c : Option Issue) : (s.issuing c).pw = s.pw := rfl

/-! ## State.modSwap -/

@[simp] theorem State.modSwap_agenda (s : State) (e : Nat) (f : Swap → Swap) : (s.modSwap e f).agenda = s.agenda := rfl
@[simp] theorem State.modSwap_cur (s : State) (e : Nat) (f : Swap → Swap) : (s.modSwap e f).cur = s.cur := rfl
@[simp] theorem State.modSwap_fresh (s : State) (e : Nat) (f : Swap → Swap) : (s.modSwap e f).fresh = s.fresh := rfl
@[simp] theorem State.modSwap_now (s : State) (e : Nat) (f : Swap → Swap) : (s.modSwap e f).now = s.now := rfl
@[simp] theorem State.modSwap_mem (s : State) (e : Nat) (f : Swap → Swap) : (s.modSwap e f).mem = s.mem := rfl
@[simp] theorem State.modSwap_groups (s : State) (e : Nat) (f : Swap → Swap) : (s.modSwap e f).groups = s.groups := rfl
@[simp] theorem State.modSwap_cores (s : State) (e : Nat) (f : Swap → Swap) : (s.modSwap e f).cores = s.cores := rfl
@[simp] theorem State.modSwap_chans (s : State) (e : Nat) (f : Swap → Swap) : (s.modSwap e f).chans = s.chans := rfl
@[simp] theorem State.modSwap_msgs (s : State) (e : Nat) (f : Swap → Swap) : (s.modSwap e f).msgs = s.msgs := rfl
@[simp] theorem State.modSwap_revAcks (s : State) (e : Nat) (f : Swap → Swap) : (s.modSwap e f).revAcks = s.revAcks := rfl
@[simp] theorem State.modSwap_slices (s : State) (e : Nat) (f : Swap → Swap) : (s.modSwap e f).slices = s.slices := rfl
@[simp] theorem State.modSwap_mesh (s : State) (e : Nat) (f : Swap → Swap) : (s.modSwap e f).mesh = s.mesh := rfl
@[simp] theorem State.modSwap_eng (s : State) (e : Nat) (f : Swap → Swap) : (s.modSwap e f).eng = s.eng := rfl
@[simp] theorem State.modSwap_cp (s : State) (e : Nat) (f : Swap → Swap) : (s.modSwap e f).cp = s.cp := rfl
@[simp] theorem State.modSwap_host (s : State) (e : Nat) (f : Swap → Swap) : (s.modSwap e f).host = s.host := rfl
@[simp] theorem State.modSwap_links (s : State) (e : Nat) (f : Swap → Swap) : (s.modSwap e f).links = s.links := rfl
@[simp] theorem State.modSwap_facet (s : State) (e : Nat) (f : Swap → Swap) : (s.modSwap e f).facet = s.facet := rfl
@[simp] theorem State.modSwap_fw (s : State) (e : Nat) (f : Swap → Swap) : (s.modSwap e f).fw = s.fw := rfl
@[simp] theorem State.modSwap_pw (s : State) (e : Nat) (f : Swap → Swap) : (s.modSwap e f).pw = s.pw := rfl

/-! ## State.setMark -/

@[simp] theorem State.setMark_agenda (s : State) (c v : Nat) : (s.setMark c v).agenda = s.agenda := rfl
@[simp] theorem State.setMark_cur (s : State) (c v : Nat) : (s.setMark c v).cur = s.cur := rfl
@[simp] theorem State.setMark_fresh (s : State) (c v : Nat) : (s.setMark c v).fresh = s.fresh := rfl
@[simp] theorem State.setMark_now (s : State) (c v : Nat) : (s.setMark c v).now = s.now := rfl
@[simp] theorem State.setMark_mem (s : State) (c v : Nat) : (s.setMark c v).mem = s.mem := rfl
@[simp] theorem State.setMark_groups (s : State) (c v : Nat) : (s.setMark c v).groups = s.groups := rfl
@[simp] theorem State.setMark_cores (s : State) (c v : Nat) : (s.setMark c v).cores = s.cores := rfl
@[simp] theorem State.setMark_chans (s : State) (c v : Nat) : (s.setMark c v).chans = s.chans := rfl
@[simp] theorem State.setMark_msgs (s : State) (c v : Nat) : (s.setMark c v).msgs = s.msgs := rfl
@[simp] theorem State.setMark_revAcks (s : State) (c v : Nat) : (s.setMark c v).revAcks = s.revAcks := rfl
@[simp] theorem State.setMark_slices (s : State) (c v : Nat) : (s.setMark c v).slices = s.slices := rfl
@[simp] theorem State.setMark_mesh (s : State) (c v : Nat) : (s.setMark c v).mesh = s.mesh := rfl
@[simp] theorem State.setMark_eng (s : State) (c v : Nat) : (s.setMark c v).eng = s.eng := rfl
@[simp] theorem State.setMark_cp (s : State) (c v : Nat) : (s.setMark c v).cp = s.cp := rfl
@[simp] theorem State.setMark_host (s : State) (c v : Nat) : (s.setMark c v).host = s.host := rfl
@[simp] theorem State.setMark_links (s : State) (c v : Nat) : (s.setMark c v).links = s.links := rfl
@[simp] theorem State.setMark_facet (s : State) (c v : Nat) : (s.setMark c v).facet = s.facet := rfl
@[simp] theorem State.setMark_fw (s : State) (c v : Nat) : (s.setMark c v).fw = s.fw := rfl
@[simp] theorem State.setMark_pw (s : State) (c v : Nat) : (s.setMark c v).pw = s.pw := rfl

end Sys2Proof.Machine
end

