-- ==== Sys2Proof/Laws/Tab.lean ====
section
/-! SUPPORT. Laws of the sorted tables: reading after writing, and the strictly rising order that every operation keeps. -/
namespace Sys2Proof.Machine

variable {α : Type}

@[simp] theorem tabGet_nil (k : Nat) : tabGet ([] : Tab α) k = none := rfl

@[simp] theorem tabVal_nil (d : α) (k : Nat) : tabVal d ([] : Tab α) k = d := rfl

/-! ## Reading after writing -/

@[simp] theorem tabGet_tabSet_self (t : Tab α) (k : Nat) (v : α) : tabGet (tabSet t k v) k = some v := by
  induction t with
  | nil => simp [tabSet, tabGet]
  | cons e r ih =>
    obtain ⟨j, w⟩ := e
    unfold tabSet
    split
    · simp [tabGet]
    · split
      · simp [tabGet]
      · have : j ≠ k := by omega
        simp [tabGet, this, ih]

@[simp] theorem tabGet_tabSet_ne (t : Tab α) (k l : Nat) (v : α) (h : l ≠ k) : tabGet (tabSet t k v) l = tabGet t l := by
  have h' : k ≠ l := fun e => h e.symm
  induction t with
  | nil => simp [tabSet, tabGet, h']
  | cons e r ih =>
    obtain ⟨j, w⟩ := e
    unfold tabSet
    split
    · simp [tabGet, h']
    · split
      · next hkj => subst hkj; simp [tabGet, h']
      · simp [tabGet, ih]

@[simp] theorem tabGet_tabErase_ne (t : Tab α) (k l : Nat) (h : l ≠ k) : tabGet (tabErase t k) l = tabGet t l := by
  induction t with
  | nil => rfl
  | cons e r ih =>
    obtain ⟨j, w⟩ := e
    unfold tabErase
    split
    · next hj => subst hj; have : j ≠ l := fun e => h e.symm
                 simp [tabGet, this, ih]
    · simp [tabGet, ih]

@[simp] theorem tabGet_tabMod_self (t : Tab α) (k : Nat) (f : α → α) : tabGet (tabMod t k f) k = (tabGet t k).map f := by
  induction t with
  | nil => rfl
  | cons e r ih =>
    obtain ⟨j, w⟩ := e
    by_cases h : j = k <;> simp [tabMod, tabGet, h, ih]

@[simp] theorem tabGet_tabMod_ne (t : Tab α) (k l : Nat) (f : α → α) (h : l ≠ k) : tabGet (tabMod t k f) l = tabGet t l := by
  induction t with
  | nil => rfl
  | cons e r ih =>
    obtain ⟨j, w⟩ := e
    by_cases hj : j = k
    · subst hj; have : j ≠ l := fun e => h e.symm
      simp [tabMod, tabGet, this]
    · simp [tabMod, tabGet, hj, ih]

@[simp] theorem tabGet_tabMap (t : Tab α) (k : Nat) (f : Nat → α → α) : tabGet (tabMap t f) k = (tabGet t k).map (f k) := by
  induction t with
  | nil => rfl
  | cons e r ih =>
    obtain ⟨j, w⟩ := e
    by_cases h : j = k
    · subst h; simp [tabMap, tabGet]
    · have : tabGet (List.map (fun e => (e.1, f e.1 e.2)) r) k = Option.map (f k) (tabGet r k) := ih
      simp [tabMap, tabGet, h, this]

theorem tabVal_tabSet_self (d : α) (t : Tab α) (k : Nat) (v : α) : tabVal d (tabSet t k v) k = v := by simp [tabVal]

theorem tabVal_tabSet_ne (d : α) (t : Tab α) (k l : Nat) (v : α) (h : l ≠ k) : tabVal d (tabSet t k v) l = tabVal d t l := by
  simp [tabVal, h]

@[simp] theorem tabVal_tabPut_ne [DecidableEq α] (d : α) (t : Tab α) (k l : Nat) (v : α) (h : l ≠ k) :
    tabVal d (tabPut d t k v) l = tabVal d t l := by
  unfold tabPut tabVal
  split <;> simp [h]

/-- A value other than the default is read back from every table, sorted or not. -/
theorem tabVal_tabPut_some [DecidableEq α] (d : α) (t : Tab α) (k : Nat) (v : α) (h : v ≠ d) :
    tabVal d (tabPut d t k v) k = v := by
  simp [tabPut, tabVal, h]

/-! ## Order -/

theorem tabSorted_tail {e : Nat × α} {r : Tab α} (h : tabSorted (e :: r) = true) : tabSorted r = true := by
  cases r with
  | nil => rfl
  | cons e2 r2 => obtain ⟨j, v⟩ := e; obtain ⟨k, w⟩ := e2; simp [tabSorted] at h; exact h.2

/-- A key below every key of a sorted table is not in it. -/
theorem tabGet_below {r : Tab α} {j : Nat} {v : α} (h : tabSorted ((j, v) :: r) = true) : ∀ k ≤ j, tabGet r k = none := by
  induction r generalizing j v with
  | nil => intros; rfl
  | cons e r ih =>
    obtain ⟨i, w⟩ := e
    simp only [tabSorted, Bool.and_eq_true, decide_eq_true_eq] at h
    intro k hk
    have hne : i ≠ k := by omega
    simp only [tabGet, hne, if_false]
    exact ih h.2 k (by omega)

theorem tabSorted_cons {j : Nat} {v : α} {r : Tab α} (hr : tabSorted r = true) (hlt : ∀ e ∈ r, j < e.1) :
    tabSorted ((j, v) :: r) = true := by
  cases r with
  | nil => rfl
  | cons e r2 =>
    obtain ⟨k, w⟩ := e
    have := hlt (k, w) (by simp)
    simp [tabSorted, hr]
    exact this

theorem tabSorted_lt {j : Nat} {v : α} {r : Tab α} (h : tabSorted ((j, v) :: r) = true) : ∀ e ∈ r, j < e.1 := by
  induction r generalizing j v with
  | nil => intro e he; cases he
  | cons e r ih =>
    obtain ⟨k, w⟩ := e
    simp only [tabSorted, Bool.and_eq_true, decide_eq_true_eq] at h
    intro x hx
    rcases List.mem_cons.mp hx with rfl | hx
    · exact h.1
    · have := ih h.2 x hx; omega

theorem mem_tabSet {t : Tab α} {k : Nat} {v : α} {x : Nat × α} (h : x ∈ tabSet t k v) : x = (k, v) ∨ x ∈ t := by
  induction t with
  | nil => simp [tabSet] at h; exact .inl h
  | cons e r ih =>
    obtain ⟨j, w⟩ := e
    unfold tabSet at h
    split at h
    · rcases List.mem_cons.mp h with h | h
      · exact .inl h
      · exact .inr h
    · split at h
      · rcases List.mem_cons.mp h with h | h
        · exact .inl h
        · exact .inr (List.mem_cons_of_mem _ h)
      · rcases List.mem_cons.mp h with h | h
        · exact .inr (by simp [h])
        · rcases ih h with h | h
          · exact .inl h
          · exact .inr (List.mem_cons_of_mem _ h)

theorem mem_tabErase {t : Tab α} {k : Nat} {x : Nat × α} (h : x ∈ tabErase t k) : x ∈ t := by
  induction t with
  | nil => exact h
  | cons e r ih =>
    obtain ⟨j, w⟩ := e
    unfold tabErase at h
    split at h
    · exact List.mem_cons_of_mem _ (ih h)
    · rcases List.mem_cons.mp h with h | h
      · simp [h]
      · exact List.mem_cons_of_mem _ (ih h)

theorem tabSorted_tabSet {t : Tab α} (k : Nat) (v : α) (h : tabSorted t = true) : tabSorted (tabSet t k v) = true := by
  induction t with
  | nil => rfl
  | cons e r ih =>
    obtain ⟨j, w⟩ := e
    unfold tabSet
    split
    · next hk => simp [tabSorted, h, hk]
    · split
      · next hk => subst hk; exact tabSorted_cons (tabSorted_tail h) (tabSorted_lt h)
      · next h1 h2 =>
        refine tabSorted_cons (ih (tabSorted_tail h)) fun x hx => ?_
        rcases mem_tabSet hx with rfl | hx
        · show j < k; omega
        · exact tabSorted_lt h x hx

theorem tabSorted_tabErase {t : Tab α} (k : Nat) (h : tabSorted t = true) : tabSorted (tabErase t k) = true := by
  induction t with
  | nil => rfl
  | cons e r ih =>
    obtain ⟨j, w⟩ := e
    unfold tabErase
    split
    · exact ih (tabSorted_tail h)
    · exact tabSorted_cons (ih (tabSorted_tail h)) fun x hx => tabSorted_lt h x (mem_tabErase hx)

theorem tabSorted_tabPut [DecidableEq α] {t : Tab α} (d : α) (k : Nat) (v : α) (h : tabSorted t = true) :
    tabSorted (tabPut d t k v) = true := by
  unfold tabPut
  split
  · exact tabSorted_tabErase k h
  · exact tabSorted_tabSet k v h

theorem tabSorted_filter {t : Tab α} (p : Nat × α → Bool) (h : tabSorted t = true) : tabSorted (t.filter p) = true := by
  induction t with
  | nil => rfl
  | cons e r ih =>
    obtain ⟨j, w⟩ := e
    rw [List.filter_cons]
    split
    · exact tabSorted_cons (ih (tabSorted_tail h)) fun x hx => tabSorted_lt h x (List.mem_of_mem_filter hx)
    · exact ih (tabSorted_tail h)

/-- An erased number reads as unlisted. -/
@[simp] theorem tabGet_tabErase_self (t : Tab α) (k : Nat) : tabGet (tabErase t k) k = none := by
  induction t with
  | nil => rfl
  | cons e r ih =>
    obtain ⟨j, w⟩ := e
    unfold tabErase
    split
    · exact ih
    · next hj => simp [tabGet, hj, ih]

/-- Every value put is read back. -/
@[simp] theorem tabVal_tabPut_self [DecidableEq α] (d : α) (t : Tab α) (k : Nat) (v : α) :
    tabVal d (tabPut d t k v) k = v := by
  unfold tabPut
  split
  · next hv => simp [tabVal, hv]
  · simp [tabVal]

end Sys2Proof.Machine
end

