-- ==== Sys2Proof/Laws/Wave.lean ====
section
/-! SUPPORT. Laws of fibres and registers: what one update of a wave leaves of every fibre and register. -/
namespace Sys2Proof.Machine

/-! ## Groups and waves of the state -/

@[simp] theorem State.group_modGroup_self (s : State) (g : Nat) (f : Group → Group) :
    (s.modGroup g f).group g = (s.group g).map f := tabGet_tabMod_self _ _ _

@[simp] theorem State.group_modGroup_ne (s : State) (g h : Nat) (f : Group → Group) (hne : h ≠ g) :
    (s.modGroup g f).group h = s.group h := tabGet_tabMod_ne _ _ _ _ hne

theorem State.group_setWave (s : State) (c : Issue) (V : Wave) :
    (s.setWave c V).group c.grp = (s.group c.grp).map fun G => G.modWave c.wave fun _ => V := tabGet_tabMod_self _ _ _

/-- The wave set is the wave read. -/
theorem State.wave_setWave {s : State} {c : Issue} {W : Wave} (V : Wave) (h : s.wave c.grp c.wave = some W) :
    (s.setWave c V).wave c.grp c.wave = some V := by
  unfold State.wave at *
  rw [State.group_setWave]
  cases hg : s.group c.grp with
  | none => simp [hg] at h
  | some G => simp [hg] at h; simp [Group.modWave, h]

/-- A group changed by two updates in a row. -/
theorem State.modGroup_modGroup (s : State) (g : Nat) (f h : Group → Group) :
    (s.modGroup g f).modGroup g h = s.modGroup g fun G => h (f G) := by
  unfold State.modGroup
  congr 1
  generalize s.groups = t
  induction t with
  | nil => rfl
  | cons e r ih =>
    obtain ⟨j, v⟩ := e
    by_cases hj : j = g <;> simp_all [tabMod]

/-! ## Fibres of a wave -/

@[simp] theorem Wave.fib_modFib_ne (W : Wave) (f g : Nat) (h : Fibre → Fibre) (hne : g ≠ f) : (W.modFib f h).fib g = W.fib g :=
  tabVal_tabPut_ne _ _ _ _ _ hne

theorem Wave.fib_modFib_self (W : Wave) (f : Nat) (h : Fibre → Fibre) (hl : (h (W.fib f)).st = .live) :
    (W.modFib f h).fib f = h (W.fib f) := by
  apply tabVal_tabPut_some
  intro e
  rw [e] at hl
  exact absurd hl (by decide)

theorem Wave.modFib_rest (W : Wave) (f : Nat) (h : Fibre → Fibre) :
    W.modFib f h = { W with fibres := (W.modFib f h).fibres } := rfl

theorem Wave.isLive_of_mem {W : Wave} {f : Nat} (h : f ∈ W.live) : (W.fib f).st = .live := by
  simpa [Wave.live, Fibre.isLive] using (List.mem_filter.mp h).2

@[simp] theorem Fibre.setPc_st (F : Fibre) (pc : Addr) : (F.setPc pc).st = F.st := by unfold Fibre.setPc; split <;> rfl
@[simp] theorem Fibre.setPc_curPc (F : Fibre) (pc : Addr) : (F.setPc pc).curPc = pc := by
  cases h : F.facet <;> simp [Fibre.setPc, Fibre.curPc, h]
@[simp] theorem Fibre.setPc_setPc (F : Fibre) (p q : Addr) : (F.setPc p).setPc q = F.setPc q := by
  cases h : F.facet <;> simp [Fibre.setPc, h]
@[simp] theorem Fibre.setPc_base (F : Fibre) (pc : Addr) : (F.setPc pc).base = F.base := by unfold Fibre.setPc; split <;> rfl
@[simp] theorem Fibre.setPc_alloc (F : Fibre) (pc : Addr) : (F.setPc pc).alloc = F.alloc := by unfold Fibre.setPc; split <;> rfl
@[simp] theorem Fibre.setPc_regs (F : Fibre) (pc : Addr) : (F.setPc pc).regs = F.regs := by unfold Fibre.setPc; split <;> rfl
@[simp] theorem Fibre.setPc_wait (F : Fibre) (pc : Addr) : (F.setPc pc).wait = F.wait := by unfold Fibre.setPc; split <;> rfl
@[simp] theorem Fibre.setPc_fired (F : Fibre) (pc : Addr) : (F.setPc pc).fired = F.fired := by unfold Fibre.setPc; split <;> rfl
@[simp] theorem Fibre.setPc_curPreds (F : Fibre) (pc : Addr) : (F.setPc pc).curPreds = F.curPreds := by
  cases h : F.facet <;> simp [Fibre.setPc, Fibre.curPreds, h]
@[simp] theorem Fibre.setPc_curFlags (F : Fibre) (pc : Addr) : (F.setPc pc).curFlags = F.curFlags := by
  cases h : F.facet <;> simp [Fibre.setPc, Fibre.curFlags, h]
@[simp] theorem Fibre.setPc_curTrapen (F : Fibre) (pc : Addr) : (F.setPc pc).curTrapen = F.curTrapen := by
  cases h : F.facet <;> simp [Fibre.setPc, Fibre.curTrapen, h]
@[simp] theorem Fibre.setPc_curLnk (F : Fibre) (pc : Addr) : (F.setPc pc).curLnk = F.curLnk := by
  cases h : F.facet <;> simp [Fibre.setPc, Fibre.curLnk, h]
@[simp] theorem Fibre.setPc_dreg (F : Fibre) (pc : Addr) (r : Reg) : (F.setPc pc).dreg r = F.dreg r := by
  cases h : F.facet <;> cases r <;> simp [Fibre.setPc, Fibre.dreg, h]
@[simp] theorem Fibre.setPc_facet_isSome (F : Fibre) (pc : Addr) : (F.setPc pc).facet.isSome = F.facet.isSome := by
  cases h : F.facet <;> simp [Fibre.setPc, h]

/-! ## A fold over different fibres -/

/-- Each fibre of a list without repeats is changed once, every other one stays. -/
theorem Wave.fib_foldl_modFib (fs : List Nat) (W : Wave) (h : Nat → Fibre → Fibre) (hn : fs.Nodup)
    (hl : ∀ f ∈ fs, (h f (W.fib f)).st = .live) (f : Nat) :
    (fs.foldl (fun X f => X.modFib f (h f)) W).fib f = if f ∈ fs then h f (W.fib f) else W.fib f := by
  induction fs generalizing W with
  | nil => simp
  | cons g fs ih =>
    obtain ⟨hg, hn⟩ := List.nodup_cons.mp hn
    simp only [List.foldl_cons]
    rw [ih _ hn]
    · by_cases hf : f = g
      · subst hf
        simp [hg, Wave.fib_modFib_self W f (h f) (hl f (by simp))]
      · simp [hf]
    · intro k hk
      have : k ≠ g := fun e => hg (e ▸ hk)
      rw [Wave.fib_modFib_ne _ _ _ _ this]
      exact hl k (by simp [hk])

theorem Wave.foldl_modFib_rest (fs : List Nat) (W : Wave) (h : Nat → Fibre → Fibre) :
    fs.foldl (fun X f => X.modFib f (h f)) W = { W with fibres := (fs.foldl (fun X f => X.modFib f (h f)) W).fibres } := by
  induction fs generalizing W with
  | nil => rfl
  | cons g fs ih => simp only [List.foldl_cons]; rw [ih]; rfl

theorem Wave.fib_advance (W : Wave) (c : Issue) (hn : c.fibres.Nodup) (hl : ∀ f ∈ c.fibres, f ∈ W.live) (f : Nat) :
    (W.advance c).fib f = if f ∈ c.fibres then (W.fib f).setPc c.nextPc else W.fib f :=
  Wave.fib_foldl_modFib c.fibres W (fun _ F => F.setPc c.nextPc) hn
    (fun g hg => by simpa using Wave.isLive_of_mem (hl g hg)) f

theorem Wave.advance_rest (W : Wave) (c : Issue) : W.advance c = { W with fibres := (W.advance c).fibres } :=
  Wave.foldl_modFib_rest c.fibres W fun _ F => F.setPc c.nextPc

@[simp] theorem Wave.advance_masks (W : Wave) (c : Issue) : (W.advance c).masks = W.masks := by rw [Wave.advance_rest]
@[simp] theorem Wave.advance_ks (W : Wave) (c : Issue) : (W.advance c).ks = W.ks := by rw [Wave.advance_rest]
@[simp] theorem Wave.advance_sb (W : Wave) (c : Issue) : (W.advance c).sb = W.sb := by rw [Wave.advance_rest]
@[simp] theorem Wave.advance_nextAge (W : Wave) (c : Issue) : (W.advance c).nextAge = W.nextAge := by rw [Wave.advance_rest]
@[simp] theorem Wave.advance_run (W : Wave) (c : Issue) : (W.advance c).run = W.run := by rw [Wave.advance_rest]

/-! ## Registers -/

/-- A register put is read back, when the fibre is live, and the register one that the fibre has. -/
theorem Wave.get_put_self {W : Wave} (f : Nat) (d : DReg) (t : Tagged) (hl : (W.fib f).st = .live)
    (hd : match d with | .v i => i < (W.fib f).alloc | .k _ => True | .fv _ => (W.fib f).facet.isSome = true | .fk _ => (W.fib f).facet.isSome = true) :
    (W.put f d t).get f d = t := by
  cases d with
  | v i =>
    simp only [Wave.put, Wave.get]
    rw [Wave.fib_modFib_self] <;> simp only at hd <;> simp [hd, hl, tabVal_tabPut_self]
  | k n => simp [Wave.put, Wave.get, tabVal_tabPut_self]
  | fv n =>
    simp only at hd
    obtain ⟨x, hx⟩ := Option.isSome_iff_exists.mp hd
    simp only [Wave.put, Wave.get]
    rw [Wave.fib_modFib_self _ _ _ hl]
    simp [hx, tabVal_tabPut_self]
  | fk n =>
    simp only at hd
    obtain ⟨x, hx⟩ := Option.isSome_iff_exists.mp hd
    simp only [Wave.put, Wave.get]
    rw [Wave.fib_modFib_self _ _ _ hl]
    simp [hx, tabVal_tabPut_self]

end Sys2Proof.Machine
end

