-- ==== Sys2Proof/Laws/Issue.lean ====
section
/-! SUPPORT. What an instruction of a bundle can do, once for all of them: it goes, waits, or raises (R76). -/
namespace Sys2Proof.Machine
open Sys2Proof.Safety

theorem issueWith_go {i : Instr} {s : State} {c : Issue} {G : Group} {W : Wave} (h : Goes i s c G W)
    (run : Issue → Group → Wave → List Nat → Host.Outcome State Fault Refusal) :
    issueWith i s run = run c G W (acting i c W) := by
  simp only [issueWith, h.cur, h.group, h.wave, h.gate, acting]

theorem issueWith_stall {i : Instr} {s : State} {c : Issue} {G : Group} {W : Wave} (h : Issuing s c G W)
    (hg : gate i s G W c = .stall) (run : Issue → Group → Wave → List Nat → Host.Outcome State Fault Refusal) :
    issueWith i s run = .next s := by
  simp only [issueWith, h.cur, h.group, h.wave, hg]

theorem issueWith_raise {i : Instr} {s : State} {c : Issue} {G : Group} {W : Wave} {r : Raise} (h : Issuing s c G W)
    (hg : gate i s G W c = .raise r) (run : Issue → Group → Wave → List Nat → Host.Outcome State Fault Refusal) :
    issueWith i s run = .next (s.takeFault c r false (maskOf (acting i c W)) .none) := by
  simp only [issueWith, h.cur, h.group, h.wave, hg, acting]

theorem bundleStep_run {s : State} {c : Issue} {G : Group} {W : Wave} (h : Issuing s c G W)
    (run : Issue → Group → Wave → Host.Outcome State Fault Refusal) : bundleStep s run = run c G W := by
  simp only [bundleStep, h.cur, h.group, h.wave]

/-- The guard-true fibres are fibres of the bundle. -/
theorem acting_sub {i : Instr} {c : Issue} {W : Wave} {f : Nat} (h : f ∈ acting i c W) : f ∈ c.fibres :=
  List.mem_of_mem_filter h

theorem acting_nodup {i : Instr} {c : Issue} {W : Wave} (h : c.fibres.Nodup) : (acting i c W).Nodup := h.filter _

/-- Moving every fibre of the bundle on, then changing each guard-true fibre once. -/
theorem fib_acting {i : Instr} {s : State} {c : Issue} {G : Group} {W : Wave} (g : Goes i s c G W) (h : Nat → Fibre → Fibre)
    (hl : ∀ f ∈ acting i c W, (h f ((W.fib f).setPc c.nextPc)).st = .live) (f : Nat) :
    ((acting i c W).foldl (fun X f => X.modFib f (h f)) (W.advance c)).fib f = fibAfter i c W h f := by
  have ha := Wave.fib_advance W c g.nodup g.live
  rw [Wave.fib_foldl_modFib _ _ _ (acting_nodup g.nodup)]
  · unfold fibAfter
    split
    · next hm => rw [ha, if_pos (acting_sub hm)]
    · exact ha f
  · intro k hk
    rw [ha, if_pos (acting_sub hk)]
    exact hl k hk

theorem foldl_advance_rest (fs : List Nat) (W : Wave) (c : Issue) (h : Nat → Fibre → Fibre) :
    fs.foldl (fun X f => X.modFib f (h f)) (W.advance c) =
      { W with fibres := (fs.foldl (fun X f => X.modFib f (h f)) (W.advance c)).fibres } := by
  rw [Wave.foldl_modFib_rest fs (W.advance c) h, Wave.advance_rest]

/-- The shared shape of the instructions that change fibres and nothing else. -/
theorem movesFibres_of {i : Instr} {s : State} {c : Issue} {G : Group} {W : Wave} (g : Goes i s c G W) (h : Nat → Fibre → Fibre)
    (hl : ∀ f ∈ acting i c W, (h f ((W.fib f).setPc c.nextPc)).st = .live)
    (he : exec i s = .next (s.setWave c ((acting i c W).foldl (fun X f => X.modFib f (h f)) (W.advance c)))) :
    MovesFibres i s c W h :=
  ⟨_, he, foldl_advance_rest _ W c h, fib_acting g h hl⟩

end Sys2Proof.Machine
end

