-- ==== Sys2Proof/Laws/Links.lean ====
section
/-! SUPPORT. What sending a transfer record changes (R432, R433): ports, wires and the times of transfers, nothing else. -/
namespace Sys2Proof.Machine

/-- The second state differs from the first in its ports, in what stands on its wires and in the times of its transfers at most. -/
def State.sentFrom (s t : State) : Prop :=
  ∃ ports wire xfers, t = { s with links := { s.links with ports := ports, wire := wire, xfers := xfers } }

theorem State.sentFrom.refl (s : State) : s.sentFrom s := ⟨_, _, _, rfl⟩

theorem State.sentFrom.trans {s t u : State} (h : s.sentFrom t) (k : t.sentFrom u) : s.sentFrom u := by
  obtain ⟨_, _, _, rfl⟩ := h
  obtain ⟨_, _, _, rfl⟩ := k
  exact ⟨_, _, _, rfl⟩

/-- A fold of steps each of which only sends only sends. -/
theorem State.sentFrom.fold {α : Type} {f : State → α → State} (h : ∀ (s : State) (a : α), s.sentFrom (f s a)) (l : List α) (s : State) :
    s.sentFrom (l.foldl f s) := by
  induction l generalizing s with
  | nil => exact .refl s
  | cons a l ih => exact (h s a).trans (ih _)

theorem State.sentFrom_modPort (s : State) (p : Nat) (f : Port → Port) : s.sentFrom (s.modPort p f) := ⟨_, _, _, rfl⟩
theorem State.sentFrom_onWire (s : State) (p : Nat) (b : List Byte) : s.sentFrom (s.onWire p b) := ⟨_, _, _, rfl⟩

theorem State.sentFrom_startTimer (s : State) (e : Nat × Rec) : s.sentFrom (s.startTimer e) := by
  unfold State.startTimer
  split
  · exact .refl s
  · exact ⟨_, _, _, rfl⟩

theorem State.sentFrom_portTo (s : State) (p : Nat) (q : Port) (fs : List Flit) : s.sentFrom (s.portTo p q fs) :=
  ((s.sentFrom_modPort p _).trans (.fold (fun t _ => t.sentFrom_onWire p _) fs _)).trans (.fold State.sentFrom_startTimer _ _)

theorem State.sentFrom_putRec (s : State) (p dev : Nat) (r : Rec) : s.sentFrom (s.putRec p dev r) := by
  unfold State.putRec
  dsimp only
  split
  · exact (s.sentFrom_portTo p _ _).trans (State.sentFrom_onWire _ p _)
  · exact s.sentFrom_portTo p _ _

/-- What a step that only sends keeps. -/
theorem State.sentFrom.keeps {s t : State} (h : s.sentFrom t) :
    t.mem = s.mem ∧ t.msgs = s.msgs ∧ t.slices = s.slices ∧ t.groups = s.groups ∧ t.cores = s.cores ∧ t.cp = s.cp ∧ t.host = s.host ∧
      t.links.inbox = s.links.inbox ∧ t.links.nextTid = s.links.nextTid ∧ t.links.devnum = s.links.devnum ∧
      t.links.peerMap = s.links.peerMap ∧ t.links.served = s.links.served ∧ t.links.ways = s.links.ways := by
  obtain ⟨_, _, _, rfl⟩ := h
  exact ⟨rfl, rfl, rfl, rfl, rfl, rfl, rfl, rfl, rfl, rfl, rfl, rfl, rfl⟩

/-- What steps leave of one port, where each leaves it. -/
theorem State.port_fold {α : Type} {f : State → α → State} {p : Nat} (h : ∀ (s : State) (a : α), (f s a).port p = s.port p) (l : List α) (s : State) :
    (l.foldl f s).port p = s.port p := by
  induction l generalizing s with
  | nil => rfl
  | cons a l ih => exact (ih _).trans (h s a)

theorem State.port_startTimer (s : State) (e : Nat × Rec) (p : Nat) : (s.startTimer e).port p = s.port p := by
  unfold State.startTimer
  split <;> rfl

theorem State.port_modPort (s : State) (p : Nat) (f : Port → Port) : (s.modPort p f).port p = f (s.port p) := by
  simp [State.port, State.modPort]

theorem State.port_sendFlits (s : State) (p : Nat) (fs : List Flit) : (s.sendFlits p fs).port p = s.port p := by
  unfold State.sendFlits
  exact State.port_fold (p := p) (fun t g => show (t.onWire p (g.bytes ((t.port p).ackField false) t.links.devnum)).port p = t.port p from rfl) fs s

/-- A port given a state has it. -/
theorem State.port_portTo (s : State) (p : Nat) (q : Port) (fs : List Flit) : (s.portTo p q fs).port p = q :=
  (State.port_fold (fun t e => t.port_startTimer e p) _ _).trans ((State.port_sendFlits _ p fs).trans (s.port_modPort p _))

/-- A record put on a port stands in that port's flits, or behind them. -/
theorem State.port_putRec (s : State) (p dev : Nat) (r : Rec) : (s.putRec p dev r).port p = (s.port p).put dev r := by
  unfold State.putRec
  dsimp only
  split
  · exact s.port_portTo p _ _
  · exact s.port_portTo p _ _

end Sys2Proof.Machine
end

