-- ==== Sys2Proof/Laws/Memory.lean ====
section
/-! SUPPORT. Laws of physical and host memory: every operation on either keeps the canonical form (log 5), and a byte written is
the byte read. -/
namespace Sys2Proof.Machine

theorem Memory.wf_iff (m : List Host.Cell) : Memory.wf m = true ↔ tabSorted m = true ∧ ∀ e ∈ m, e.2 ≠ unwritten := by
  simp [Memory.wf]

theorem Memory.wf_nil : Memory.wf [] = true := rfl

theorem Memory.wf_filter {m : List Host.Cell} (p : Host.Cell → Bool) (h : Memory.wf m = true) :
    Memory.wf (m.filter p) = true := by
  rw [Memory.wf_iff] at *
  exact ⟨tabSorted_filter p h.1, fun e he => h.2 e (List.mem_of_mem_filter he)⟩

theorem Memory.wf_memPut {m : List Host.Cell} (a : Nat) (b : Byte) (h : Memory.wf m = true) :
    Memory.wf (memPut m a b) = true := by
  rw [Memory.wf_iff] at *
  refine ⟨tabSorted_tabPut _ _ _ h.1, fun e he => ?_⟩
  unfold memPut tabPut at he
  split at he
  · exact h.2 e (mem_tabErase he)
  · next hb =>
    rcases mem_tabSet he with rfl | he
    · exact hb
    · exact h.2 e he

theorem Memory.wf_memPutBytes {m : List Host.Cell} (a : Nat) (bs : List Byte) (h : Memory.wf m = true) :
    Memory.wf (memPutBytes m a bs) = true := by
  induction bs generalizing m a with
  | nil => exact h
  | cons b bs ih => exact ih (a + 1) (Memory.wf_memPut a b h)

theorem Memory.wf_swapCells (x : Swap) {m : List Host.Cell} (h : Memory.wf m = true) : Memory.wf (swapCells x m) = true := by
  unfold swapCells
  have key : ∀ (l : List Host.Cell) (t : List Host.Cell), Memory.wf t = true →
      Memory.wf (l.foldl (fun t c => tabPut unwritten t (x.cross c.1) c.2) t) = true := by
    intro l
    induction l with
    | nil => intro t ht; exact ht
    | cons c l ih => intro t ht; exact ih _ (Memory.wf_memPut (x.cross c.1) c.2 ht)
  exact key _ _ (Memory.wf_filter _ h)

/-- Reading the byte that was written. -/
theorem memByte_memPut_self (m : List Host.Cell) (a : Nat) (b : Byte) : memByte (memPut m a b) a = b :=
  tabVal_tabPut_self _ _ a b

/-- Every other byte reads as before. -/
theorem memByte_memPut_ne (m : List Host.Cell) (a c : Nat) (b : Byte) (h : c ≠ a) : memByte (memPut m a b) c = memByte m c :=
  tabVal_tabPut_ne _ _ _ _ _ h

theorem memByte_memPutBytes_out (m : List Host.Cell) (a c : Nat) (bs : List Byte) (h : c < a ∨ a + bs.length ≤ c) :
    memByte (memPutBytes m a bs) c = memByte m c := by
  induction bs generalizing m a with
  | nil => rfl
  | cons b bs ih =>
    simp only [memPutBytes, List.length_cons] at *
    rw [ih (memPut m a b) (a + 1) (by omega), memByte_memPut_ne _ _ _ _ (by omega)]

theorem State.putPaByte_memory_wf {s : State} (pa : Nat) (b : Byte) (h : Memory.wf s.mem = true) :
    Memory.wf (s.putPaByte pa b).mem = true := by
  unfold State.putPaByte
  split
  · exact h
  · exact Memory.wf_memPut pa b h

theorem State.putPaBytes_memory_wf {s : State} (pa : Nat) (bs : List Byte) (h : Memory.wf s.mem = true) :
    Memory.wf (s.putPaBytes pa bs).mem = true := by
  induction bs generalizing s pa with
  | nil => exact h
  | cons b bs ih => exact ih (pa + 1) (State.putPaByte_memory_wf pa b h)

theorem State.writeBack_memory_wf {s : State} (l : SLine) (h : Memory.wf s.mem = true) : Memory.wf (s.writeBack l).mem = true := by
  unfold State.writeBack
  split
  · exact Memory.wf_memPutBytes _ _ h
  · exact h

theorem State.hostPut_memory_wf {s : State} (a : Nat) (bs : List Byte) (h : Memory.wf s.host.hostMem = true) :
    Memory.wf (s.hostPut a bs).host.hostMem = true := Memory.wf_memPutBytes a bs h

theorem State.mapPages_memory_wf {s : State} (ms : List TableWrite) (h : Memory.wf s.mem = true) :
    Memory.wf (s.mapPages ms).mem = true := by
  unfold State.mapPages
  induction ms.filter TableWrite.allowed generalizing s with
  | nil => exact h
  | cons m ms ih =>
    simp only [List.foldl_cons]
    apply ih
    apply State.putPaBytes_memory_wf
    split
    · exact Memory.wf_filter _ h
    · exact h

end Sys2Proof.Machine
end

