-- ==== Sys2Proof/Tests/Slice0.lean ====
section
/-! SUPPORT. Tests: decoding by words written out from the spec's formats, well-formedness, results from the spec's own examples, and
for every statement states that meet its hypotheses. -/
namespace Sys2Proof.Tests
open Sys2Proof Sys2Proof.Machine Sys2Proof.Safety

set_option Elab.async false

/-! ## Well-formedness -/

/-- A field too wide for its place, for each kind of field (R60, R64, R66-R70). -/
theorem test_field_too_wide_refused : ∀ i ∈ ([
  .nop { g := 8 }, .bra { g := 7, off := 2 ^ 21 }, .trap { g := 7, imm := 2 ^ 14 }, .gets { g := 7, d := .v 96, imm := 0 },
  .iadd { g := 7, d := .v 0, a := .k 32, b := .v 0 }, .shli { g := 7, d := .v 0, a := .v 0, imm := 128 },
  .icmpI32 { g := 7, pd := 8, cc := 0, a := .v 0, b := .v 0 }, .icmpI32 { g := 7, pd := 0, cc := 16, a := .v 0, b := .v 0 },
  .mjoin { g := 7, md := 16 }, .bara { g := 7, scope := 8, id := 0, a := .v 0, token := 0 },
  .bara { g := 7, scope := 0, id := 256, a := .v 0, token := 0 }, .waitc { g := 7, nl := 16, ns := 0, nc := 0, nt := 0 },
  .plog { g := 7, pd := 0, pa := 0, pb := 0, tt := 16 }, .movl { g := 7, d := .v 0, ty := 0, imm := 2 ^ 32 },
  .ldOff { g := 7, d := .v 0, a := .v 0, w := 0, ty := 0, off := 2 ^ 32 }, .cpx { g := 7, tag := 64, a := .v 0, b := .v 0 },
  .cpxExt { g := 7, tag := 0, a := .v 0, b := .v 0, queue := 4, bar := 0, scope := 0, id := 0 }, .mxclr { g := 7, tm := 2 ^ 16 },
  .lea { g := 7, d := .v 0, a := .v 0, b := .v 0, sh := 8 }] : List Instr), wellFormed i = false := by decide

/-- A reserved value, for each rule that names one. -/
theorem test_reserved_value_refused : ∀ i ∈ ([
  .wgrow { g := 7, imm := 0 }, .wshrink { g := 7, imm := 30 }, .wmove { g := 7, imm := 30 }, .mjoin { g := 7, md := 12 },
  .mlog { g := 7, md := 1, ma := 0, mb := 0, op := 5 }, .mlog { g := 7, md := 1, ma := 0, mb := 1, op := 4 },
  .mrd { g := 7, d := .v 0, ma := 12 }, .mwr { g := 7, md := 13, a := .v 0 },
  .shfl { g := 7, d := .v 0, a := .v 0, b := .v 0, ma := 12, pd := 0 }, .vote { g := 7, pd := 0, op := 3, ma := 0, pa := 0 },
  .ballot { g := 7, d := .v 0, ma := 14, pa := 0 }, .bara { g := 7, scope := 5, id := 0, a := .v 0, token := 1 },
  .bara { g := 7, scope := 0, id := 0, a := .v 1, token := 0 }, .bars { g := 7, scope := 5, id := 0 },
  .shli { g := 7, d := .v 0, a := .v 0, imm := 32 }, .movl { g := 7, d := .v 0, ty := 13, imm := 0 },
  .icmpI32 { g := 7, pd := 0, cc := 8, a := .v 0, b := .v 0 }, .fcmpF32 { g := 7, pd := 0, cc := 8, a := .v 0, b := .v 0 },
  .fdivF32 { g := 7, d := .v 0, a := .v 0, b := .v 0, rnd := 5, sat := 0, na := 0, nb := 0 },
  .cvt { g := 7, d := .v 0, a := .v 0, df := 3, sf := 3, rnd := 0, sat := 0 }, .unpkTf8 { g := 7, d := .v 0, a := .v 0, imm := 4 },
  .unpkTf6 { g := 7, d := .v 0, a := .v 0, imm := 5 }, .unpkF16 { g := 7, d := .v 0, a := .v 0, imm := 2 },
  .retag { g := 7, d := .v 0, a := .v 0, ty := 13 }, .ld { g := 7, d := .v 0, a := .v 0, w := 3, ty := 0 },
  .ld { g := 7, d := .v 0, a := .v 0, w := 0, ty := 8 }, .ldb { g := 7, d := .v 0, a := .v 0, w := 2, ty := 0 },
  .ldAcq { g := 7, d := .v 0, a := .v 0, w := 2, ty := 0 },
  .cpxExt { g := 7, tag := 0, a := .v 0, b := .v 0, queue := 0, bar := 0, scope := 5, id := 0 }, .cpfence { g := 7, qm := 0 },
  .redaddF32 { g := 7, a := .v 0, b := .v 0, ord := 1 }, .mxclr { g := 7, tm := 0 }, .fence { g := 7, kind := 3 },
  .shfin { g := 7, d := .v 0, a := .v 0, fail := 1, disp := 0 }, .shfin { g := 7, d := .v 1, a := .v 0, fail := 0, disp := 0 }] :
  List Instr), encodable i = true ∧ wellFormed i = false := by decide

/-- An operand that R65, R71 or R147 forbids: an odd pair, a group past its class, M0 or P7 written, a special register that may not be
named. -/
theorem test_illegal_operand_refused : ∀ i ∈ ([
  .movB64 { g := 7, d := .v 1, a := .v 0 }, .movB64 { g := 7, d := .v 0, a := .v 95 }, .brx { g := 7, a := .k 31 },
  .ld { g := 7, d := .v 2, a := .v 0, w := 2, ty := 0 }, .mjoin { g := 7, md := 0 }, .mwr { g := 7, md := 0, a := .v 0 },
  .mlog { g := 7, md := 0, ma := 0, mb := 0, op := 0 }, .icmpI32 { g := 7, pd := 7, cc := 0, a := .v 0, b := .v 0 },
  .plog { g := 7, pd := 7, pa := 0, pb := 0, tt := 0 }, .clpop { g := 7, d := .v 0, a := .v 0, pd := 7 },
  .gets { g := 7, d := .v 0, imm := 0x011 }, .sets { g := 7, d := .v 0, imm := 0x000 }] : List Instr),
  encodable i = true ∧ reservedValue i = false ∧ wellFormed i = false := by decide

/-- MWAITM may name M0, and a source predicate may be P7 (R71). -/
theorem test_legal_operands_accepted : ∀ i ∈ ([.mwaitm { g := 7, md := 0 }, .plog { g := 7, pd := 0, pa := 7, pb := 7, tt := 2 },
  .movB64 { g := 7, d := .k 30, a := .v 94 }] : List Instr), wellFormed i = true := by decide

/-! ## Results that the spec states -/

/-- Sources of one fibre, all tagged i32, with P7 alone true. -/
def src (vs : List Word) : LaneIn := { r := vs.map fun v => ⟨v, .i32⟩, p := 0x80, level := 2 }
/-- The value that a lane writes first. -/
def out (x : LaneOut) : Option Word := x.regs.head?.map (·.val)

/-- The examples of division (R150, table after R158). -/
theorem test_division : out (laneIdivI32 (src [-7, 2])) = some (-3) ∧ out (laneIremI32 (src [-7, 2])) = some (-1) ∧
    out (laneIdivN32 (src [9, 0])) = some 0xFFFFFFFF ∧ (laneIdivN32 (src [9, 0])).exc = 0x20 ∧
    out (laneIdivI32 (src [0x80000000, -1])) = some 0x80000000 ∧ out (laneIremI32 (src [0x80000000, -1])) = some 0 := by decide

/-- The other examples of the table after R158. -/
theorem test_integer_table : out (laneImulhN32 (src [0xFFFFFFFF, 0xFFFFFFFF])) = some 0xFFFFFFFE ∧
    out (laneImulhI32 (src [0xFFFFFFFF, 0xFFFFFFFF])) = some 0 ∧ out (laneImad (src [3, -4, 20])) = some 8 ∧
    out (laneBfxI32 (src [0x0000F0A5, 0x0808])) = some 0xFFFFFFF0 ∧ out (laneBfxN32 (src [0x0000F0A5, 0x0808])) = some 0xF0 ∧
    out (laneRotl (src [0x80000001, 4])) = some 0x18 ∧ out (laneSar (src [0x80000000, 4])) = some 0xF8000000 ∧
    out (laneShr (src [0x12345678, 40])) = some 0 ∧ out (lanePopc (src [0xF0F00001])) = some 9 ∧ out (laneClz (src [0])) = some 32 ∧
    out (laneBrev (src [1])) = some 0x80000000 ∧
    (laneIaddB64 (src [0xFFFFFFFF, 1, 1, 0])).regs.map (·.val) = [0, 2] := by decide

/-- ICMPI.i32.lt P2, V4, -3 (R156): true of -4, false of -3. -/
theorem test_compare_immediate :
    (laneIcmpiI32 { g := 7, pd := 2, cc := 2, a := .v 4, imm := 0x7D } (src [-4])).pred = some true ∧
    (laneIcmpiI32 { g := 7, pd := 2, cc := 2, a := .v 4, imm := 0x7D } (src [-3])).pred = some false := by decide


/-- One word of each instruction of row 0 of the opcode map (R72), written out from its format (R66-R70). -/
theorem test_decode_row_0 : ∀ x ∈ ([
  (0x01A00000, 0x00000000, .nop { g := 5 }),
  (0x02A1F0F4, 0x00000000, .bra { g := 5, off := 0x1f0f4 }),
  (0x03A00600, 0x00000000, .brx { g := 5, a := .v 12 }),
  (0x04A1F0F4, 0x00000000, .call { g := 5, off := 0x1f0f4 }),
  (0x05A00600, 0x00000000, .callx { g := 5, a := .v 12 }),
  (0x06A00000, 0x00000000, .ret { g := 5 }),
  (0x07A02A5B, 0x00000000, .trap { g := 5, imm := 0x2a5b }),
  (0x08A00000, 0x00000000, .yield { g := 5 }),
  (0x09A00000, 0x00000000, .stepMark { g := 5 }),
  (0x0AA00664, 0x00000000, .isync { g := 5, a := .v 12, b := .k 4 }),
  (0x0BA20664, 0x00000000, .fspawn { g := 5, d := .v 8, a := .v 12, b := .k 4 }),
  (0x0CA00000, 0x00000000, .fexit { g := 5 }),
  (0x0DA03A6D, 0x00000000, .waitc { g := 5, nl := 3, ns := 10, nc := 6, nt := 13 }),
  (0x0EA22A5B, 0x00000000, .gets { g := 5, d := .v 8, imm := 0x2a5b }),
  (0x0FA22A5B, 0x00000000, .sets { g := 5, d := .v 8, imm := 0x2a5b })] : List (Nat × Nat × Instr)), decodeWords x.1 x.2.1 = .ok x.2.2 := by decide

/-- One word of each instruction of row 1 of the opcode map (R72), written out from its format (R66-R70). -/
theorem test_decode_row_1 : ∀ x ∈ ([
  (0x10B20000, 0x00000000, .mjoin { g := 5, md := 9 }),
  (0x11B20000, 0x00000000, .mleave { g := 5, md := 9 }),
  (0x12B20000, 0x00000000, .mwaitm { g := 5, md := 9 }),
  (0x13B2D680, 0x00000000, .mlog { g := 5, md := 9, ma := 6, mb := 11, op := 2 }),
  (0x14A21800, 0x00000000, .mrd { g := 5, d := .v 8, ma := 6 }),
  (0x15B20600, 0x00000000, .mwr { g := 5, md := 9, a := .v 12 }),
  (0x16A20664, 0x00CC0000, .shfl { g := 5, d := .v 8, a := .v 12, b := .k 4, ma := 6, pd := 3 }),
  (0x17AE6800, 0x00000000, .vote { g := 5, pd := 3, op := 2, ma := 6, pa := 4 }),
  (0x18A21A00, 0x00000000, .ballot { g := 5, d := .v 8, ma := 6, pa := 4 }),
  (0x19AE7061, 0x00000000, .bara { g := 5, scope := 3, id := 156, a := .v 12, token := 1 }),
  (0x1AAE7060, 0x00000000, .barw { g := 5, scope := 3, id := 156, a := .v 12 }),
  (0x1BAE7000, 0x00000000, .bars { g := 5, scope := 3, id := 156 }),
  (0x1CAE7060, 0x00000000, .barc { g := 5, scope := 3, id := 156, a := .v 12 }),
  (0x1DA02A5B, 0x00000000, .wgrow { g := 5, imm := 0x2a5b }),
  (0x1EA02A5B, 0x00000000, .wshrink { g := 5, imm := 0x2a5b }),
  (0x1FA02A5B, 0x00000000, .wmove { g := 5, imm := 0x2a5b })] : List (Nat × Nat × Instr)), decodeWords x.1 x.2.1 = .ok x.2.2 := by decide

/-- One word of each instruction of row 2 of the opcode map (R72), written out from its format (R66-R70). -/
theorem test_decode_row_2 : ∀ x ∈ ([
  (0x20A20664, 0x00000000, .iadd { g := 5, d := .v 8, a := .v 12, b := .k 4 }),
  (0x21A20664, 0x00000000, .isub { g := 5, d := .v 8, a := .v 12, b := .k 4 }),
  (0x22A20664, 0x00000000, .imul { g := 5, d := .v 8, a := .v 12, b := .k 4 }),
  (0x23A20664, 0x00000000, .imulhI32 { g := 5, d := .v 8, a := .v 12, b := .k 4 }),
  (0x24A20664, 0x00000000, .imulhN32 { g := 5, d := .v 8, a := .v 12, b := .k 4 }),
  (0x25A20664, 0x00000000, .idivI32 { g := 5, d := .v 8, a := .v 12, b := .k 4 }),
  (0x26A20664, 0x00000000, .idivN32 { g := 5, d := .v 8, a := .v 12, b := .k 4 }),
  (0x27A20664, 0x00000000, .iremI32 { g := 5, d := .v 8, a := .v 12, b := .k 4 }),
  (0x28A20664, 0x00000000, .iremN32 { g := 5, d := .v 8, a := .v 12, b := .k 4 }),
  (0x29A20664, 0x00000000, .iminI32 { g := 5, d := .v 8, a := .v 12, b := .k 4 }),
  (0x2AA20664, 0x00000000, .iminN32 { g := 5, d := .v 8, a := .v 12, b := .k 4 }),
  (0x2BA20664, 0x00000000, .imaxI32 { g := 5, d := .v 8, a := .v 12, b := .k 4 }),
  (0x2CA20664, 0x00000000, .imaxN32 { g := 5, d := .v 8, a := .v 12, b := .k 4 }),
  (0x2DA20600, 0x00000000, .iabs { g := 5, d := .v 8, a := .v 12 }),
  (0x2EA20600, 0x00000000, .ineg { g := 5, d := .v 8, a := .v 12 }),
  (0x2FA20664, 0x20000000, .imad { g := 5, d := .v 8, a := .v 12, b := .k 4, c := .v 16 })] : List (Nat × Nat × Instr)), decodeWords x.1 x.2.1 = .ok x.2.2 := by decide

/-- One word of each instruction of row 3 of the opcode map (R72), written out from its format (R66-R70). -/
theorem test_decode_row_3 : ∀ x ∈ ([
  (0x30A20664, 0x00000000, .andOp { g := 5, d := .v 8, a := .v 12, b := .k 4 }),
  (0x31A20664, 0x00000000, .orOp { g := 5, d := .v 8, a := .v 12, b := .k 4 }),
  (0x32A20664, 0x00000000, .xorOp { g := 5, d := .v 8, a := .v 12, b := .k 4 }),
  (0x33A20664, 0x00000000, .andn { g := 5, d := .v 8, a := .v 12, b := .k 4 }),
  (0x34A20600, 0x00000000, .notOp { g := 5, d := .v 8, a := .v 12 }),
  (0x35A20664, 0x00000000, .shl { g := 5, d := .v 8, a := .v 12, b := .k 4 }),
  (0x36A20664, 0x00000000, .shr { g := 5, d := .v 8, a := .v 12, b := .k 4 }),
  (0x37A20664, 0x00000000, .sar { g := 5, d := .v 8, a := .v 12, b := .k 4 }),
  (0x38A20664, 0x00000000, .rotl { g := 5, d := .v 8, a := .v 12, b := .k 4 }),
  (0x39A20600, 0x00000000, .popc { g := 5, d := .v 8, a := .v 12 }),
  (0x3AA20600, 0x00000000, .clz { g := 5, d := .v 8, a := .v 12 }),
  (0x3BA20600, 0x00000000, .brev { g := 5, d := .v 8, a := .v 12 }),
  (0x3CA20664, 0x00000000, .bfxI32 { g := 5, d := .v 8, a := .v 12, b := .k 4 }),
  (0x3DA20664, 0x00000000, .bfxN32 { g := 5, d := .v 8, a := .v 12, b := .k 4 }),
  (0x3EA20664, 0x20000000, .bfi { g := 5, d := .v 8, a := .v 12, b := .k 4, c := .v 16 }),
  (0x3FA20664, 0x01400000, .sel { g := 5, d := .v 8, a := .v 12, b := .k 4, ps := 5 })] : List (Nat × Nat × Instr)), decodeWords x.1 x.2.1 = .ok x.2.2 := by decide

/-- One word of each instruction of row 4 of the opcode map (R72), written out from its format (R66-R70). -/
theorem test_decode_row_4 : ∀ x ∈ ([
  (0x40A22A5B, 0x00000000, .iaddi { g := 5, d := .v 8, imm := 0x2a5b }),
  (0x41A22A5B, 0x00000000, .andi { g := 5, d := .v 8, imm := 0x2a5b }),
  (0x42A22A5B, 0x00000000, .ori { g := 5, d := .v 8, imm := 0x2a5b }),
  (0x43A22A5B, 0x00000000, .xori { g := 5, d := .v 8, imm := 0x2a5b }),
  (0x44A20655, 0x00000000, .shli { g := 5, d := .v 8, a := .v 12, imm := 85 }),
  (0x45A20655, 0x00000000, .shri { g := 5, d := .v 8, a := .v 12, imm := 85 }),
  (0x46A20655, 0x00000000, .sari { g := 5, d := .v 8, a := .v 12, imm := 85 }),
  (0x47A22A5B, 0x00000000, .movi { g := 5, d := .v 8, imm := 0x2a5b }),
  (0x48A20005, 0xC0DE1234, .movl { g := 5, d := .v 8, ty := 5, imm := 0xc0de1234 }),
  (0x49A20600, 0x00000000, .mov { g := 5, d := .v 8, a := .v 12 }),
  (0x4AAE4664, 0x00000000, .icmpI32 { g := 5, pd := 3, cc := 9, a := .v 12, b := .k 4 }),
  (0x4BAE4664, 0x00000000, .icmpN32 { g := 5, pd := 3, cc := 9, a := .v 12, b := .k 4 }),
  (0x4CAE4655, 0x00000000, .icmpiI32 { g := 5, pd := 3, cc := 9, a := .v 12, imm := 85 }),
  (0x4DAE4655, 0x00000000, .icmpiN32 { g := 5, pd := 3, cc := 9, a := .v 12, imm := 85 }),
  (0x4EAE6A00, 0x00000000, .plog { g := 5, pd := 3, pa := 4, pb := 6, tt := 10 }),
  (0x4FA20600, 0xC0DE1234, .iaddl { g := 5, d := .v 8, a := .v 12, imm := 0xc0de1234 })] : List (Nat × Nat × Instr)), decodeWords x.1 x.2.1 = .ok x.2.2 := by decide

/-- One word of each instruction of row 5 of the opcode map (R72), written out from its format (R66-R70). -/
theorem test_decode_row_5 : ∀ x ∈ ([
  (0x50A20664, 0x00000000, .iaddB64 { g := 5, d := .v 8, a := .v 12, b := .k 4 }),
  (0x51A20664, 0x00000000, .isubB64 { g := 5, d := .v 8, a := .v 12, b := .k 4 }),
  (0x52A20664, 0x00000000, .imulwI32 { g := 5, d := .v 8, a := .v 12, b := .k 4 }),
  (0x53A20664, 0x00000000, .imulwN32 { g := 5, d := .v 8, a := .v 12, b := .k 4 }),
  (0x54A20664, 0x00000000, .shlB64 { g := 5, d := .v 8, a := .v 12, b := .k 4 }),
  (0x55A20664, 0x00000000, .shrB64 { g := 5, d := .v 8, a := .v 12, b := .k 4 }),
  (0x56A20664, 0x00000000, .sarB64 { g := 5, d := .v 8, a := .v 12, b := .k 4 }),
  (0x57AE4664, 0x00000000, .icmpI64 { g := 5, pd := 3, cc := 9, a := .v 12, b := .k 4 }),
  (0x58AE4664, 0x00000000, .icmpN64 { g := 5, pd := 3, cc := 9, a := .v 12, b := .k 4 }),
  (0x59A20600, 0x00000000, .movB64 { g := 5, d := .v 8, a := .v 12 }),
  (0x5AA20664, 0x01800000, .lea { g := 5, d := .v 8, a := .v 12, b := .k 4, sh := 6 })] : List (Nat × Nat × Instr)), decodeWords x.1 x.2.1 = .ok x.2.2 := by decide

/-- One word of each instruction of row 6 of the opcode map (R72), written out from its format (R66-R70). -/
theorem test_decode_row_6 : ∀ x ∈ ([
  (0x60A20664, 0x00000000, .faddF32 { g := 5, d := .v 8, a := .v 12, b := .k 4 }),
  (0x61A20664, 0x00000000, .fsubF32 { g := 5, d := .v 8, a := .v 12, b := .k 4 }),
  (0x62A20664, 0x00000000, .fmulF32 { g := 5, d := .v 8, a := .v 12, b := .k 4 }),
  (0x63A20664, 0x00000000, .ffmaF32 { g := 5, d := .v 8, a := .v 12, b := .k 4 }),
  (0x64A20664, 0x00000000, .fminF32 { g := 5, d := .v 8, a := .v 12, b := .k 4 }),
  (0x65A20664, 0x00000000, .fmaxF32 { g := 5, d := .v 8, a := .v 12, b := .k 4 }),
  (0x66A20600, 0x00000000, .fabsF32 { g := 5, d := .v 8, a := .v 12 }),
  (0x67A20600, 0x00000000, .fnegF32 { g := 5, d := .v 8, a := .v 12 }),
  (0x68AE4664, 0x00000000, .fcmpF32 { g := 5, pd := 3, cc := 9, a := .v 12, b := .k 4 }),
  (0x69A20600, 0x00000000, .frcpF32 { g := 5, d := .v 8, a := .v 12 }),
  (0x6AA20600, 0x00000000, .frsqF32 { g := 5, d := .v 8, a := .v 12 }),
  (0x6BA20600, 0x00000000, .fsqrtF32 { g := 5, d := .v 8, a := .v 12 }),
  (0x6CA20600, 0x00000000, .fexp2F32 { g := 5, d := .v 8, a := .v 12 }),
  (0x6DA20600, 0x00000000, .flog2F32 { g := 5, d := .v 8, a := .v 12 }),
  (0x6EA20600, 0x00000000, .fsinF32 { g := 5, d := .v 8, a := .v 12 }),
  (0x6FA20600, 0x00000000, .fcosF32 { g := 5, d := .v 8, a := .v 12 })] : List (Nat × Nat × Instr)), decodeWords x.1 x.2.1 = .ok x.2.2 := by decide

/-- One word of each instruction of row 7 of the opcode map (R72), written out from its format (R66-R70). -/
theorem test_decode_row_7 : ∀ x ∈ ([
  (0x70A20664, 0x00A80000, .faddF32Long { g := 5, d := .v 8, a := .v 12, b := .k 4, rnd := 2, sat := 1, na := 0, nb := 1 }),
  (0x71A20664, 0x00A80000, .fsubF32Long { g := 5, d := .v 8, a := .v 12, b := .k 4, rnd := 2, sat := 1, na := 0, nb := 1 }),
  (0x72A20664, 0x00A80000, .fmulF32Long { g := 5, d := .v 8, a := .v 12, b := .k 4, rnd := 2, sat := 1, na := 0, nb := 1 }),
  (0x73A20664, 0x20A80000, .ffmaF32Long { g := 5, d := .v 8, a := .v 12, b := .k 4, c := .v 16, rnd := 2, sat := 1, na := 0, nb := 1, nc := 0 }),
  (0x74A20664, 0x00A80000, .fdivF32 { g := 5, d := .v 8, a := .v 12, b := .k 4, rnd := 2, sat := 1, na := 0, nb := 1 }),
  (0x75A20600, 0x00A00000, .frcpF32Long { g := 5, d := .v 8, a := .v 12, rnd := 2, sat := 1, na := 0 }),
  (0x76A20600, 0x00A00000, .frsqF32Long { g := 5, d := .v 8, a := .v 12, rnd := 2, sat := 1, na := 0 }),
  (0x77A20600, 0x00A00000, .fsqrtF32Long { g := 5, d := .v 8, a := .v 12, rnd := 2, sat := 1, na := 0 })] : List (Nat × Nat × Instr)), decodeWords x.1 x.2.1 = .ok x.2.2 := by decide

/-- One word of each instruction of row 8 of the opcode map (R72), written out from its format (R66-R70). -/
theorem test_decode_row_8 : ∀ x ∈ ([
  (0x80A20664, 0x00A80000, .faddF64 { g := 5, d := .v 8, a := .v 12, b := .k 4, rnd := 2, sat := 1, na := 0, nb := 1 }),
  (0x81A20664, 0x00A80000, .fmulF64 { g := 5, d := .v 8, a := .v 12, b := .k 4, rnd := 2, sat := 1, na := 0, nb := 1 }),
  (0x82A20664, 0x20A80000, .ffmaF64 { g := 5, d := .v 8, a := .v 12, b := .k 4, c := .v 16, rnd := 2, sat := 1, na := 0, nb := 1, nc := 0 }),
  (0x83A20664, 0x00A80000, .fdivF64 { g := 5, d := .v 8, a := .v 12, b := .k 4, rnd := 2, sat := 1, na := 0, nb := 1 }),
  (0x84A20600, 0x00A00000, .fsqrtF64 { g := 5, d := .v 8, a := .v 12, rnd := 2, sat := 1, na := 0 }),
  (0x85A20664, 0x00000000, .fminF64 { g := 5, d := .v 8, a := .v 12, b := .k 4 }),
  (0x86A20664, 0x00000000, .fmaxF64 { g := 5, d := .v 8, a := .v 12, b := .k 4 }),
  (0x87AE4664, 0x00000000, .fcmpF64 { g := 5, pd := 3, cc := 9, a := .v 12, b := .k 4 }),
  (0x88A20664, 0x00A80000, .faddF16x2 { g := 5, d := .v 8, a := .v 12, b := .k 4, rnd := 2, sat := 1, na := 0, nb := 1 }),
  (0x89A20664, 0x00A80000, .fmulF16x2 { g := 5, d := .v 8, a := .v 12, b := .k 4, rnd := 2, sat := 1, na := 0, nb := 1 }),
  (0x8AA20664, 0x20A80000, .ffmaF16x2 { g := 5, d := .v 8, a := .v 12, b := .k 4, c := .v 16, rnd := 2, sat := 1, na := 0, nb := 1, nc := 0 }),
  (0x8BA20664, 0x00A80000, .faddBf16x2 { g := 5, d := .v 8, a := .v 12, b := .k 4, rnd := 2, sat := 1, na := 0, nb := 1 }),
  (0x8CA20664, 0x00A80000, .fmulBf16x2 { g := 5, d := .v 8, a := .v 12, b := .k 4, rnd := 2, sat := 1, na := 0, nb := 1 }),
  (0x8DA20664, 0x20A80000, .ffmaBf16x2 { g := 5, d := .v 8, a := .v 12, b := .k 4, c := .v 16, rnd := 2, sat := 1, na := 0, nb := 1, nc := 0 }),
  (0x8EA20664, 0x20A80000, .fdotF16x2 { g := 5, d := .v 8, a := .v 12, b := .k 4, c := .v 16, rnd := 2, sat := 1, na := 0, nb := 1, nc := 0 }),
  (0x8FA20664, 0x20A80000, .fdotBf16x2 { g := 5, d := .v 8, a := .v 12, b := .k 4, c := .v 16, rnd := 2, sat := 1, na := 0, nb := 1, nc := 0 })] : List (Nat × Nat × Instr)), decodeWords x.1 x.2.1 = .ok x.2.2 := by decide

/-- One word of each instruction of row 9 of the opcode map (R72), written out from its format (R66-R70). -/
theorem test_decode_row_9 : ∀ x ∈ ([
  (0x90A20600, 0x69500000, .cvt { g := 5, d := .v 8, a := .v 12, df := 6, sf := 9, rnd := 2, sat := 1 }),
  (0x91A20664, 0x00000000, .packTf8 { g := 5, d := .v 8, a := .v 12, b := .k 4 }),
  (0x92A20664, 0x00000000, .packTf6 { g := 5, d := .v 8, a := .v 12, b := .k 4 }),
  (0x93A20664, 0x00000000, .packF16 { g := 5, d := .v 8, a := .v 12, b := .k 4 }),
  (0x94A20664, 0x00000000, .packBf16 { g := 5, d := .v 8, a := .v 12, b := .k 4 }),
  (0x95A20655, 0x00000000, .unpkTf8 { g := 5, d := .v 8, a := .v 12, imm := 85 }),
  (0x96A20655, 0x00000000, .unpkTf6 { g := 5, d := .v 8, a := .v 12, imm := 85 }),
  (0x97A20655, 0x00000000, .unpkF16 { g := 5, d := .v 8, a := .v 12, imm := 85 }),
  (0x98A20655, 0x00000000, .unpkBf16 { g := 5, d := .v 8, a := .v 12, imm := 85 }),
  (0x99A20664, 0x00000000, .schist { g := 5, d := .v 8, a := .v 12, b := .k 4 }),
  (0x9AA20664, 0x00000000, .scale { g := 5, d := .v 8, a := .v 12, b := .k 4 }),
  (0x9BA20605, 0x00000000, .retag { g := 5, d := .v 8, a := .v 12, ty := 5 })] : List (Nat × Nat × Instr)), decodeWords x.1 x.2.1 = .ok x.2.2 := by decide

/-- One word of each instruction of row A of the opcode map (R72), written out from its format (R66-R70). -/
theorem test_decode_row_a : ∀ x ∈ ([
  (0xA0A2062A, 0x00000000, .ld { g := 5, d := .v 8, a := .v 12, w := 1, ty := 5 }),
  (0xA0A2062B, 0xC0DE1234, .ldOff { g := 5, d := .v 8, a := .v 12, w := 1, ty := 5, off := 0xc0de1234 }),
  (0xA1A2062A, 0x00000000, .ldInv { g := 5, d := .v 8, a := .v 12, w := 1, ty := 5 }),
  (0xA1A2062B, 0xC0DE1234, .ldInvOff { g := 5, d := .v 8, a := .v 12, w := 1, ty := 5, off := 0xc0de1234 }),
  (0xA2A2062A, 0x00000000, .ldNf { g := 5, d := .v 8, a := .v 12, w := 1, ty := 5 }),
  (0xA2A2062B, 0xC0DE1234, .ldNfOff { g := 5, d := .v 8, a := .v 12, w := 1, ty := 5, off := 0xc0de1234 }),
  (0xA3A2062A, 0x00000000, .ldInvNf { g := 5, d := .v 8, a := .v 12, w := 1, ty := 5 }),
  (0xA3A2062B, 0xC0DE1234, .ldInvNfOff { g := 5, d := .v 8, a := .v 12, w := 1, ty := 5, off := 0xc0de1234 }),
  (0xA4A2062A, 0x00000000, .st { g := 5, d := .v 8, a := .v 12, w := 1, ty := 5 }),
  (0xA4A2062B, 0xC0DE1234, .stOff { g := 5, d := .v 8, a := .v 12, w := 1, ty := 5, off := 0xc0de1234 }),
  (0xA5A2062A, 0x00000000, .ldb { g := 5, d := .v 8, a := .v 12, w := 1, ty := 5 }),
  (0xA5A2062B, 0xC0DE1234, .ldbOff { g := 5, d := .v 8, a := .v 12, w := 1, ty := 5, off := 0xc0de1234 }),
  (0xA6A2062A, 0x00000000, .ldbInv { g := 5, d := .v 8, a := .v 12, w := 1, ty := 5 }),
  (0xA6A2062B, 0xC0DE1234, .ldbInvOff { g := 5, d := .v 8, a := .v 12, w := 1, ty := 5, off := 0xc0de1234 }),
  (0xA7A2062A, 0x00000000, .ldbNf { g := 5, d := .v 8, a := .v 12, w := 1, ty := 5 }),
  (0xA7A2062B, 0xC0DE1234, .ldbNfOff { g := 5, d := .v 8, a := .v 12, w := 1, ty := 5, off := 0xc0de1234 }),
  (0xA8A2062A, 0x00000000, .stb { g := 5, d := .v 8, a := .v 12, w := 1, ty := 5 }),
  (0xA8A2062B, 0xC0DE1234, .stbOff { g := 5, d := .v 8, a := .v 12, w := 1, ty := 5, off := 0xc0de1234 }),
  (0xA9A00600, 0x00000000, .pgreq { g := 5, a := .v 12 }),
  (0xA9A00601, 0xC0DE1234, .pgreqOff { g := 5, a := .v 12, off := 0xc0de1234 }),
  (0xAAA2062A, 0x00000000, .lds { g := 5, d := .v 8, a := .v 12, w := 1, ty := 5 }),
  (0xAAA2062B, 0xC0DE1234, .ldsOff { g := 5, d := .v 8, a := .v 12, w := 1, ty := 5, off := 0xc0de1234 }),
  (0xABA2062A, 0x00000000, .sts { g := 5, d := .v 8, a := .v 12, w := 1, ty := 5 }),
  (0xABA2062B, 0xC0DE1234, .stsOff { g := 5, d := .v 8, a := .v 12, w := 1, ty := 5, off := 0xc0de1234 }),
  (0xACA2062A, 0x00000000, .ldq { g := 5, d := .v 8, a := .v 12, w := 1, ty := 5 }),
  (0xACA2062B, 0xC0DE1234, .ldqOff { g := 5, d := .v 8, a := .v 12, w := 1, ty := 5, off := 0xc0de1234 }),
  (0xADA2062A, 0x00000000, .stq { g := 5, d := .v 8, a := .v 12, w := 1, ty := 5 }),
  (0xADA2062B, 0xC0DE1234, .stqOff { g := 5, d := .v 8, a := .v 12, w := 1, ty := 5, off := 0xc0de1234 }),
  (0xAEA2062A, 0x00000000, .ldnw { g := 5, d := .v 8, a := .v 12, w := 1, ty := 5 }),
  (0xAEA2062B, 0xC0DE1234, .ldnwOff { g := 5, d := .v 8, a := .v 12, w := 1, ty := 5, off := 0xc0de1234 }),
  (0xAFA2062A, 0x00000000, .stnw { g := 5, d := .v 8, a := .v 12, w := 1, ty := 5 }),
  (0xAFA2062B, 0xC0DE1234, .stnwOff { g := 5, d := .v 8, a := .v 12, w := 1, ty := 5, off := 0xc0de1234 })] : List (Nat × Nat × Instr)), decodeWords x.1 x.2.1 = .ok x.2.2 := by decide

/-- One word of each instruction of row B of the opcode map (R72), written out from its format (R66-R70). -/
theorem test_decode_row_b : ∀ x ∈ ([
  (0xB0B58CC8, 0x00000000, .cpg2s { g := 5, tag := 43, a := .v 12, b := .k 4 }),
  (0xB0B58CC9, 0x0000271E, .cpg2sExt { g := 5, tag := 43, a := .v 12, b := .k 4, queue := 2, bar := 1, scope := 3, id := 156 }),
  (0xB1B58CC8, 0x00000000, .cps2g { g := 5, tag := 43, a := .v 12, b := .k 4 }),
  (0xB1B58CC9, 0x0000271E, .cps2gExt { g := 5, tag := 43, a := .v 12, b := .k 4, queue := 2, bar := 1, scope := 3, id := 156 }),
  (0xB2B58CC8, 0x00000000, .cpx { g := 5, tag := 43, a := .v 12, b := .k 4 }),
  (0xB2B58CC9, 0x0000271E, .cpxExt { g := 5, tag := 43, a := .v 12, b := .k 4, queue := 2, bar := 1, scope := 3, id := 156 }),
  (0xB3A00009, 0x00000000, .cpfence { g := 5, qm := 9 }),
  (0xB4A20600, 0x00000000, .twany { g := 5, d := .v 8, a := .v 12 }),
  (0xB5A00600, 0x00000000, .twall { g := 5, a := .v 12 }),
  (0xB6A20600, 0x00000000, .tfirst { g := 5, d := .v 8, a := .v 12 }),
  (0xB8A00600, 0x00000000, .mxgo { g := 5, a := .v 12 }),
  (0xB9A08421, 0x00000000, .mxclr { g := 5, tm := 0x8421 }),
  (0xBAA20600, 0x00000000, .mxrd { g := 5, d := .v 8, a := .v 12 }),
  (0xBBA00664, 0x00000000, .mxwr { g := 5, a := .v 12, b := .k 4 }),
  (0xBCA00664, 0x00000000, .mxsc { g := 5, a := .v 12, b := .k 4 }),
  (0xBDA20664, 0x00000000, .mxhist { g := 5, d := .v 8, a := .v 12, b := .k 4 }),
  (0xBEA00000, 0x00000000, .mxwait { g := 5 })] : List (Nat × Nat × Instr)), decodeWords x.1 x.2.1 = .ok x.2.2 := by decide

/-- One word of each instruction of row C of the opcode map (R72), written out from its format (R66-R70). -/
theorem test_decode_row_c : ∀ x ∈ ([
  (0xC0A20664, 0x01000000, .atadd { g := 5, d := .v 8, a := .v 12, b := .k 4, ord := 2 }),
  (0xC1A20664, 0x01000000, .atminI32 { g := 5, d := .v 8, a := .v 12, b := .k 4, ord := 2 }),
  (0xC2A20664, 0x01000000, .atminN32 { g := 5, d := .v 8, a := .v 12, b := .k 4, ord := 2 }),
  (0xC3A20664, 0x01000000, .atmaxI32 { g := 5, d := .v 8, a := .v 12, b := .k 4, ord := 2 }),
  (0xC4A20664, 0x01000000, .atmaxN32 { g := 5, d := .v 8, a := .v 12, b := .k 4, ord := 2 }),
  (0xC5A20664, 0x01000000, .atand { g := 5, d := .v 8, a := .v 12, b := .k 4, ord := 2 }),
  (0xC6A20664, 0x01000000, .ator { g := 5, d := .v 8, a := .v 12, b := .k 4, ord := 2 }),
  (0xC7A20664, 0x01000000, .atxor { g := 5, d := .v 8, a := .v 12, b := .k 4, ord := 2 }),
  (0xC8A20664, 0x01000000, .atxchg { g := 5, d := .v 8, a := .v 12, b := .k 4, ord := 2 }),
  (0xC9A20664, 0x21000000, .atcas { g := 5, d := .v 8, a := .v 12, b := .k 4, c := .v 16, ord := 2 }),
  (0xCAA20664, 0x01000000, .ataddB64 { g := 5, d := .v 8, a := .v 12, b := .k 4, ord := 2 }),
  (0xCBA20664, 0x21000000, .atcasB64 { g := 5, d := .v 8, a := .v 12, b := .k 4, c := .v 16, ord := 2 }),
  (0xCCA00664, 0x01000000, .redaddF32 { g := 5, a := .v 12, b := .k 4, ord := 2 }),
  (0xCDA00664, 0x01000000, .redaddBf16x2 { g := 5, a := .v 12, b := .k 4, ord := 2 }),
  (0xCEA2062A, 0x00000000, .ldAcq { g := 5, d := .v 8, a := .v 12, w := 1, ty := 5 }),
  (0xCEA2062B, 0xC0DE1234, .ldAcqOff { g := 5, d := .v 8, a := .v 12, w := 1, ty := 5, off := 0xc0de1234 }),
  (0xCFA2062A, 0x00000000, .stRel { g := 5, d := .v 8, a := .v 12, w := 1, ty := 5 }),
  (0xCFA2062B, 0xC0DE1234, .stRelOff { g := 5, d := .v 8, a := .v 12, w := 1, ty := 5, off := 0xc0de1234 })] : List (Nat × Nat × Instr)), decodeWords x.1 x.2.1 = .ok x.2.2 := by decide

/-- One word of each instruction of row D of the opcode map (R72), written out from its format (R66-R70). -/
theorem test_decode_row_d : ∀ x ∈ ([
  (0xD0AC0000, 0x00000000, .fence { g := 5, kind := 3 }),
  (0xD1A20664, 0x20000000, .mwait { g := 5, d := .v 8, a := .v 12, b := .k 4, c := .v 16 }),
  (0xD2A20664, 0x00000000, .objreg { g := 5, d := .v 8, a := .v 12, b := .k 4 }),
  (0xD3A00600, 0x00000000, .objdrop { g := 5, a := .v 12 }),
  (0xD4A20664, 0x00000000, .clpush { g := 5, d := .v 8, a := .v 12, b := .k 4 }),
  (0xD5A20600, 0x00C00000, .clpop { g := 5, d := .v 8, a := .v 12, pd := 3 }),
  (0xD6A20664, 0x00000000, .shrd { g := 5, d := .v 8, a := .v 12, b := .k 4 }),
  (0xD7A20664, 0x00000000, .shwr { g := 5, d := .v 8, a := .v 12, b := .k 4 }),
  (0xD8A20664, 0x00000000, .shrg { g := 5, d := .v 8, a := .v 12, b := .k 4 }),
  (0xD9A20664, 0x00000000, .shwg { g := 5, d := .v 8, a := .v 12, b := .k 4 }),
  (0xDAA20606, 0x00000000, .shfin { g := 5, d := .v 8, a := .v 12, fail := 1, disp := 2 })] : List (Nat × Nat × Instr)), decodeWords x.1 x.2.1 = .ok x.2.2 := by decide

/-- One word of each instruction of row E of the opcode map (R72), written out from its format (R66-R70). -/
theorem test_decode_row_e : ∀ x ∈ ([
  (0xE0A00000, 0x00000000, .fctret { g := 5 }),
  (0xE1A20664, 0x00000000, .fctstg { g := 5, d := .v 8, a := .v 12, b := .k 4 }),
  (0xE2A20600, 0x00000000, .fctact { g := 5, d := .v 8, a := .v 12 }),
  (0xE3A20600, 0x00000000, .fctrd { g := 5, d := .v 8, a := .v 12 }),
  (0xE4A20664, 0x00000000, .qmap { g := 5, d := .v 8, a := .v 12, b := .k 4 }),
  (0xE5A20600, 0x00000000, .qunmap { g := 5, d := .v 8, a := .v 12 }),
  (0xE6A20664, 0x00000000, .preempt { g := 5, d := .v 8, a := .v 12, b := .k 4 })] : List (Nat × Nat × Instr)), decodeWords x.1 x.2.1 = .ok x.2.2 := by decide


/-- Its words. -/
def words (i : Instr) : Nat × Nat := match encode i with | some (a, some b) => (a, b) | some (a, none) => (a, 0) | none => (0, 0)
/-- One fibre of one wave issues it. -/
def issueOf (i : Instr) : Issue := { grp := 1, wave := 0, fibres := [0], pc := BitVec.ofNat 64 loadPc, w0 := (words i).1, w1 := (words i).2 }
/-- A program of it loaded, as `withFetchWord` loads it. -/
def loadedWith (i : Instr) : State := State.reset.withFetchWord 64 ((words i).1 + (words i).2 * 2 ^ 32)
/-- Its group, changed by `f`. -/
def groupWith (f : Group → Group) (i : Instr) : Group :=
  match (loadedWith i).group 1 with | some G => f G | none => f (loadGroup 2 false false)
/-- The wave of a loaded program. -/
def loadWave (facet : Bool) : Wave :=
  match (loadGroup 2 false facet).waves with
  | (_, W) :: _ => W
  | [] =>
  { slot := 0, fibres := [], masks := [], ks := [], sb := [], nextAge := 0, starve := 0, admitted := 0, mxflags := 0, mxdone := 0,
    mxsig := 0, run := .running, bundles := [], ready := [], letGo := [], ageMark := 0, stepArrived := false, noUnits := false }
/-- Its wave. -/
def waveWith (f : Group → Group) (i : Instr) : Wave := tabVal (loadWave false) (groupWith f i).waves 0
/-- The state in which it issues, changed by `h`. -/
def stateWith (h : State → State) (f : Group → Group) (i : Instr) : State :=
  h { loadedWith i with groups := [(1, groupWith f i)], cur := some (issueOf i) }

/-- What `Goes` asks, as a computation. -/
def goesB (i : Instr) (s : State) (c : Issue) (G : Group) (W : Wave) : Bool :=
  decide (s.cur = some c) && decide (s.group c.grp = some G) && decide (tabGet G.waves c.wave = some W) &&
    (c.fibres.all W.live.contains) && decide c.fibres.Nodup && (c.fibres.all fun f => (W.fib f).facet.isSome == W.inFacet c) &&
    decide (gate i s G W c = .go)

theorem goes_of_goesB {i : Instr} {s : State} {c : Issue} {G : Group} {W : Wave} (h : goesB i s c G W = true) : Goes i s c G W := by
  simp only [goesB, Bool.and_eq_true, decide_eq_true_eq, List.all_eq_true, List.contains_iff_mem, beq_iff_eq] at h
  obtain ⟨⟨⟨⟨⟨⟨h1, h2⟩, h3⟩, h4⟩, h5⟩, h6⟩, h7⟩ := h
  exact { cur := h1, group := h2, wave := h3, live := h4, nodup := h5, uniform := h6, gate := h7 }

/-- The instruction goes in that state, and one fibre acts. -/
def goesIn (h : State → State) (f : Group → Group) (i : Instr) : Bool :=
  goesB i (stateWith h f i) (issueOf i) (groupWith f i) (waveWith f i) && decide (acting i (issueOf i) (waveWith f i) = [0])


/-- Every instruction of the opcode map has a state in which it passes every check with a fibre that acts, its group without a twin:
the hypotheses that the statements about completion share. Here and below, every instruction once. -/
theorem witness_instructions_go_0 : ∀ i ∈ ([.nop { g := 7 }, .bra { g := 7, off := 0 }, .brx { g := 7, a := .v 8 }, .call { g := 7, off := 0 },
   .callx { g := 7, a := .v 8 }, .ret { g := 7 }, .trap { g := 7, imm := 0 }, .yield { g := 7 }, .stepMark { g := 7 },
   .isync { g := 7, a := .v 8, b := .v 12 }, .fspawn { g := 7, d := .v 4, a := .v 8, b := .v 12 }, .fexit { g := 7 },
   .waitc { g := 7, nl := 0, ns := 0, nc := 0, nt := 0 }, .gets { g := 7, d := .v 4, imm := 0 },
   .sets { g := 7, d := .v 4, imm := 8 }, .mjoin { g := 7, md := 1 }, .mleave { g := 7, md := 1 }, .mwaitm { g := 7, md := 0 },
   .mlog { g := 7, md := 1, ma := 0, mb := 0, op := 0 }, .mrd { g := 7, d := .v 4, ma := 0 },
   .mwr { g := 7, md := 1, a := .v 8 }, .shfl { g := 7, d := .v 4, a := .v 8, b := .v 12, ma := 0, pd := 0 },
   .vote { g := 7, pd := 0, op := 0, ma := 0, pa := 0 }, .ballot { g := 7, d := .v 4, ma := 0, pa := 0 },
   .bara { g := 7, scope := 0, id := 0, a := .v 0, token := 0 }, .barw { g := 7, scope := 0, id := 0, a := .v 8 },
   .bars { g := 7, scope := 0, id := 0 }, .barc { g := 7, scope := 0, id := 0, a := .v 8 }, .wgrow { g := 7, imm := 1 },
   .wshrink { g := 7, imm := 1 }, .wmove { g := 7, imm := 1 }, .iadd { g := 7, d := .v 4, a := .v 8, b := .v 12 },
   .isub { g := 7, d := .v 4, a := .v 8, b := .v 12 }, .imul { g := 7, d := .v 4, a := .v 8, b := .v 12 },
   .imulhI32 { g := 7, d := .v 4, a := .v 8, b := .v 12 }, .imulhN32 { g := 7, d := .v 4, a := .v 8, b := .v 12 },
   .idivI32 { g := 7, d := .v 4, a := .v 8, b := .v 12 }, .idivN32 { g := 7, d := .v 4, a := .v 8, b := .v 12 },
   .iremI32 { g := 7, d := .v 4, a := .v 8, b := .v 12 }, .iremN32 { g := 7, d := .v 4, a := .v 8, b := .v 12 },
   .iminI32 { g := 7, d := .v 4, a := .v 8, b := .v 12 }, .iminN32 { g := 7, d := .v 4, a := .v 8, b := .v 12 },
   .imaxI32 { g := 7, d := .v 4, a := .v 8, b := .v 12 }, .imaxN32 { g := 7, d := .v 4, a := .v 8, b := .v 12 }] : List Instr),
    goesIn id id i = true ∧ (groupWith id i).twin = none := by decide +kernel

/-- See `witness_instructions_go_0`. -/
theorem witness_instructions_go_1 : ∀ i ∈ ([.iabs { g := 7, d := .v 4, a := .v 8 }, .ineg { g := 7, d := .v 4, a := .v 8 },
   .imad { g := 7, d := .v 4, a := .v 8, b := .v 12, c := .v 16 }, .andOp { g := 7, d := .v 4, a := .v 8, b := .v 12 },
   .orOp { g := 7, d := .v 4, a := .v 8, b := .v 12 }, .xorOp { g := 7, d := .v 4, a := .v 8, b := .v 12 },
   .andn { g := 7, d := .v 4, a := .v 8, b := .v 12 }, .notOp { g := 7, d := .v 4, a := .v 8 },
   .shl { g := 7, d := .v 4, a := .v 8, b := .v 12 }, .shr { g := 7, d := .v 4, a := .v 8, b := .v 12 },
   .sar { g := 7, d := .v 4, a := .v 8, b := .v 12 }, .rotl { g := 7, d := .v 4, a := .v 8, b := .v 12 },
   .popc { g := 7, d := .v 4, a := .v 8 }, .clz { g := 7, d := .v 4, a := .v 8 }, .brev { g := 7, d := .v 4, a := .v 8 },
   .bfxI32 { g := 7, d := .v 4, a := .v 8, b := .v 12 }, .bfxN32 { g := 7, d := .v 4, a := .v 8, b := .v 12 },
   .bfi { g := 7, d := .v 4, a := .v 8, b := .v 12, c := .v 16 }, .sel { g := 7, d := .v 4, a := .v 8, b := .v 12, ps := 0 },
   .iaddi { g := 7, d := .v 4, imm := 0 }, .andi { g := 7, d := .v 4, imm := 0 }, .ori { g := 7, d := .v 4, imm := 0 },
   .xori { g := 7, d := .v 4, imm := 0 }, .shli { g := 7, d := .v 4, a := .v 8, imm := 0 },
   .shri { g := 7, d := .v 4, a := .v 8, imm := 0 }, .sari { g := 7, d := .v 4, a := .v 8, imm := 0 },
   .movi { g := 7, d := .v 4, imm := 0 }, .movl { g := 7, d := .v 4, ty := 0, imm := 0 }, .mov { g := 7, d := .v 4, a := .v 8 },
   .icmpI32 { g := 7, pd := 0, cc := 0, a := .v 8, b := .v 12 }, .icmpN32 { g := 7, pd := 0, cc := 0, a := .v 8, b := .v 12 },
   .icmpiI32 { g := 7, pd := 0, cc := 0, a := .v 8, imm := 0 }, .icmpiN32 { g := 7, pd := 0, cc := 0, a := .v 8, imm := 0 },
   .plog { g := 7, pd := 0, pa := 0, pb := 0, tt := 0 }, .iaddl { g := 7, d := .v 4, a := .v 8, imm := 0 },
   .iaddB64 { g := 7, d := .v 4, a := .v 8, b := .v 12 }, .isubB64 { g := 7, d := .v 4, a := .v 8, b := .v 12 }] : List Instr),
    goesIn id id i = true ∧ (groupWith id i).twin = none := by decide +kernel

/-- See `witness_instructions_go_0`. -/
theorem witness_instructions_go_2 : ∀ i ∈ ([.imulwI32 { g := 7, d := .v 4, a := .v 8, b := .v 12 }, .imulwN32 { g := 7, d := .v 4, a := .v 8, b := .v 12 },
   .shlB64 { g := 7, d := .v 4, a := .v 8, b := .v 12 }, .shrB64 { g := 7, d := .v 4, a := .v 8, b := .v 12 },
   .sarB64 { g := 7, d := .v 4, a := .v 8, b := .v 12 }, .icmpI64 { g := 7, pd := 0, cc := 0, a := .v 8, b := .v 12 },
   .icmpN64 { g := 7, pd := 0, cc := 0, a := .v 8, b := .v 12 }, .movB64 { g := 7, d := .v 4, a := .v 8 },
   .lea { g := 7, d := .v 4, a := .v 8, b := .v 12, sh := 0 }, .faddF32 { g := 7, d := .v 4, a := .v 8, b := .v 12 },
   .fsubF32 { g := 7, d := .v 4, a := .v 8, b := .v 12 }, .fmulF32 { g := 7, d := .v 4, a := .v 8, b := .v 12 },
   .ffmaF32 { g := 7, d := .v 4, a := .v 8, b := .v 12 }, .fminF32 { g := 7, d := .v 4, a := .v 8, b := .v 12 },
   .fmaxF32 { g := 7, d := .v 4, a := .v 8, b := .v 12 }, .fabsF32 { g := 7, d := .v 4, a := .v 8 },
   .fnegF32 { g := 7, d := .v 4, a := .v 8 }, .fcmpF32 { g := 7, pd := 0, cc := 0, a := .v 8, b := .v 12 },
   .frcpF32 { g := 7, d := .v 4, a := .v 8 }, .frsqF32 { g := 7, d := .v 4, a := .v 8 },
   .fsqrtF32 { g := 7, d := .v 4, a := .v 8 }, .fexp2F32 { g := 7, d := .v 4, a := .v 8 },
   .flog2F32 { g := 7, d := .v 4, a := .v 8 }, .fsinF32 { g := 7, d := .v 4, a := .v 8 },
   .fcosF32 { g := 7, d := .v 4, a := .v 8 },
   .faddF32Long { g := 7, d := .v 4, a := .v 8, b := .v 12, rnd := 0, sat := 0, na := 0, nb := 0 },
   .fsubF32Long { g := 7, d := .v 4, a := .v 8, b := .v 12, rnd := 0, sat := 0, na := 0, nb := 0 },
   .fmulF32Long { g := 7, d := .v 4, a := .v 8, b := .v 12, rnd := 0, sat := 0, na := 0, nb := 0 },
   .ffmaF32Long { g := 7, d := .v 4, a := .v 8, b := .v 12, c := .v 16, rnd := 0, sat := 0, na := 0, nb := 0, nc := 0 }] : List Instr),
    goesIn id id i = true ∧ (groupWith id i).twin = none := by decide +kernel

/-- See `witness_instructions_go_0`. -/
theorem witness_instructions_go_3 : ∀ i ∈ ([.fdivF32 { g := 7, d := .v 4, a := .v 8, b := .v 12, rnd := 0, sat := 0, na := 0, nb := 0 },
   .frcpF32Long { g := 7, d := .v 4, a := .v 8, rnd := 0, sat := 0, na := 0 },
   .frsqF32Long { g := 7, d := .v 4, a := .v 8, rnd := 0, sat := 0, na := 0 },
   .fsqrtF32Long { g := 7, d := .v 4, a := .v 8, rnd := 0, sat := 0, na := 0 },
   .faddF64 { g := 7, d := .v 4, a := .v 8, b := .v 12, rnd := 0, sat := 0, na := 0, nb := 0 },
   .fmulF64 { g := 7, d := .v 4, a := .v 8, b := .v 12, rnd := 0, sat := 0, na := 0, nb := 0 },
   .ffmaF64 { g := 7, d := .v 4, a := .v 8, b := .v 12, c := .v 16, rnd := 0, sat := 0, na := 0, nb := 0, nc := 0 },
   .fdivF64 { g := 7, d := .v 4, a := .v 8, b := .v 12, rnd := 0, sat := 0, na := 0, nb := 0 },
   .fsqrtF64 { g := 7, d := .v 4, a := .v 8, rnd := 0, sat := 0, na := 0 },
   .fminF64 { g := 7, d := .v 4, a := .v 8, b := .v 12 }, .fmaxF64 { g := 7, d := .v 4, a := .v 8, b := .v 12 },
   .fcmpF64 { g := 7, pd := 0, cc := 0, a := .v 8, b := .v 12 },
   .faddF16x2 { g := 7, d := .v 4, a := .v 8, b := .v 12, rnd := 0, sat := 0, na := 0, nb := 0 },
   .fmulF16x2 { g := 7, d := .v 4, a := .v 8, b := .v 12, rnd := 0, sat := 0, na := 0, nb := 0 },
   .ffmaF16x2 { g := 7, d := .v 4, a := .v 8, b := .v 12, c := .v 16, rnd := 0, sat := 0, na := 0, nb := 0, nc := 0 },
   .faddBf16x2 { g := 7, d := .v 4, a := .v 8, b := .v 12, rnd := 0, sat := 0, na := 0, nb := 0 },
   .fmulBf16x2 { g := 7, d := .v 4, a := .v 8, b := .v 12, rnd := 0, sat := 0, na := 0, nb := 0 },
   .ffmaBf16x2 { g := 7, d := .v 4, a := .v 8, b := .v 12, c := .v 16, rnd := 0, sat := 0, na := 0, nb := 0, nc := 0 }] : List Instr),
    goesIn id id i = true ∧ (groupWith id i).twin = none := by decide +kernel

/-- See `witness_instructions_go_0`. -/
theorem witness_instructions_go_4 : ∀ i ∈ ([.fdotF16x2 { g := 7, d := .v 4, a := .v 8, b := .v 12, c := .v 16, rnd := 0, sat := 0, na := 0, nb := 0, nc := 0 },
   .fdotBf16x2 { g := 7, d := .v 4, a := .v 8, b := .v 12, c := .v 16, rnd := 0, sat := 0, na := 0, nb := 0, nc := 0 },
   .cvt { g := 7, d := .v 4, a := .v 8, df := 4, sf := 3, rnd := 0, sat := 0 },
   .packTf8 { g := 7, d := .v 4, a := .v 8, b := .v 12 }, .packTf6 { g := 7, d := .v 4, a := .v 8, b := .v 12 },
   .packF16 { g := 7, d := .v 4, a := .v 8, b := .v 12 }, .packBf16 { g := 7, d := .v 4, a := .v 8, b := .v 12 },
   .unpkTf8 { g := 7, d := .v 4, a := .v 8, imm := 0 }, .unpkTf6 { g := 7, d := .v 4, a := .v 8, imm := 0 },
   .unpkF16 { g := 7, d := .v 4, a := .v 8, imm := 0 }, .unpkBf16 { g := 7, d := .v 4, a := .v 8, imm := 0 },
   .schist { g := 7, d := .v 4, a := .v 8, b := .v 12 }, .scale { g := 7, d := .v 4, a := .v 8, b := .v 12 },
   .retag { g := 7, d := .v 4, a := .v 8, ty := 0 }, .ld { g := 7, d := .v 4, a := .v 8, w := 0, ty := 0 },
   .ldOff { g := 7, d := .v 4, a := .v 8, w := 0, ty := 0, off := 0 }, .ldInv { g := 7, d := .v 4, a := .v 8, w := 0, ty := 0 },
   .ldInvOff { g := 7, d := .v 4, a := .v 8, w := 0, ty := 0, off := 0 },
   .ldNf { g := 7, d := .v 4, a := .v 8, w := 0, ty := 0 },
   .ldNfOff { g := 7, d := .v 4, a := .v 8, w := 0, ty := 0, off := 0 },
   .ldInvNf { g := 7, d := .v 4, a := .v 8, w := 0, ty := 0 },
   .ldInvNfOff { g := 7, d := .v 4, a := .v 8, w := 0, ty := 0, off := 0 },
   .st { g := 7, d := .v 4, a := .v 8, w := 0, ty := 0 }, .stOff { g := 7, d := .v 4, a := .v 8, w := 0, ty := 0, off := 0 },
   .ldb { g := 7, d := .v 4, a := .v 8, w := 0, ty := 0 }, .ldbOff { g := 7, d := .v 4, a := .v 8, w := 0, ty := 0, off := 0 }] : List Instr),
    goesIn id id i = true ∧ (groupWith id i).twin = none := by decide +kernel

/-- See `witness_instructions_go_0`. -/
theorem witness_instructions_go_5 : ∀ i ∈ ([.ldbInv { g := 7, d := .v 4, a := .v 8, w := 0, ty := 0 },
   .ldbInvOff { g := 7, d := .v 4, a := .v 8, w := 0, ty := 0, off := 0 },
   .ldbNf { g := 7, d := .v 4, a := .v 8, w := 0, ty := 0 },
   .ldbNfOff { g := 7, d := .v 4, a := .v 8, w := 0, ty := 0, off := 0 },
   .stb { g := 7, d := .v 4, a := .v 8, w := 0, ty := 0 }, .stbOff { g := 7, d := .v 4, a := .v 8, w := 0, ty := 0, off := 0 },
   .pgreq { g := 7, a := .v 8 }, .pgreqOff { g := 7, a := .v 8, off := 0 },
   .lds { g := 7, d := .v 4, a := .v 8, w := 0, ty := 0 }, .ldsOff { g := 7, d := .v 4, a := .v 8, w := 0, ty := 0, off := 0 },
   .sts { g := 7, d := .v 4, a := .v 8, w := 0, ty := 0 }, .stsOff { g := 7, d := .v 4, a := .v 8, w := 0, ty := 0, off := 0 },
   .ldq { g := 7, d := .v 4, a := .v 8, w := 0, ty := 0 }, .ldqOff { g := 7, d := .v 4, a := .v 8, w := 0, ty := 0, off := 0 },
   .stq { g := 7, d := .v 4, a := .v 8, w := 0, ty := 0 }, .stqOff { g := 7, d := .v 4, a := .v 8, w := 0, ty := 0, off := 0 },
   .ldnw { g := 7, d := .v 4, a := .v 8, w := 0, ty := 0 },
   .ldnwOff { g := 7, d := .v 4, a := .v 8, w := 0, ty := 0, off := 0 },
   .stnw { g := 7, d := .v 4, a := .v 8, w := 0, ty := 0 },
   .stnwOff { g := 7, d := .v 4, a := .v 8, w := 0, ty := 0, off := 0 }, .cpg2s { g := 7, tag := 0, a := .v 8, b := .v 12 },
   .cpg2sExt { g := 7, tag := 0, a := .v 8, b := .v 12, queue := 0, bar := 0, scope := 0, id := 0 },
   .cps2g { g := 7, tag := 0, a := .v 8, b := .v 12 },
   .cps2gExt { g := 7, tag := 0, a := .v 8, b := .v 12, queue := 0, bar := 0, scope := 0, id := 0 }] : List Instr),
    goesIn id id i = true ∧ (groupWith id i).twin = none := by decide +kernel

/-- See `witness_instructions_go_0`. -/
theorem witness_instructions_go_6 : ∀ i ∈ ([.cpx { g := 7, tag := 0, a := .v 8, b := .v 12 },
   .cpxExt { g := 7, tag := 0, a := .v 8, b := .v 12, queue := 0, bar := 0, scope := 0, id := 0 }, .cpfence { g := 7, qm := 1 },
   .twany { g := 7, d := .v 4, a := .v 8 }, .twall { g := 7, a := .v 8 }, .tfirst { g := 7, d := .v 4, a := .v 8 },
   .mxgo { g := 7, a := .v 8 }, .mxclr { g := 7, tm := 1 }, .mxrd { g := 7, d := .v 4, a := .v 8 },
   .mxwr { g := 7, a := .v 8, b := .v 12 }, .mxsc { g := 7, a := .v 8, b := .v 12 },
   .mxhist { g := 7, d := .v 4, a := .v 8, b := .v 12 }, .mxwait { g := 7 },
   .atadd { g := 7, d := .v 4, a := .v 8, b := .v 12, ord := 0 },
   .atminI32 { g := 7, d := .v 4, a := .v 8, b := .v 12, ord := 0 },
   .atminN32 { g := 7, d := .v 4, a := .v 8, b := .v 12, ord := 0 },
   .atmaxI32 { g := 7, d := .v 4, a := .v 8, b := .v 12, ord := 0 },
   .atmaxN32 { g := 7, d := .v 4, a := .v 8, b := .v 12, ord := 0 },
   .atand { g := 7, d := .v 4, a := .v 8, b := .v 12, ord := 0 }, .ator { g := 7, d := .v 4, a := .v 8, b := .v 12, ord := 0 },
   .atxor { g := 7, d := .v 4, a := .v 8, b := .v 12, ord := 0 },
   .atxchg { g := 7, d := .v 4, a := .v 8, b := .v 12, ord := 0 },
   .atcas { g := 7, d := .v 4, a := .v 8, b := .v 12, c := .v 16, ord := 0 },
   .ataddB64 { g := 7, d := .v 4, a := .v 8, b := .v 12, ord := 0 },
   .atcasB64 { g := 7, d := .v 4, a := .v 8, b := .v 12, c := .v 16, ord := 0 }] : List Instr),
    goesIn id id i = true ∧ (groupWith id i).twin = none := by decide +kernel

/-- See `witness_instructions_go_0`. -/
theorem witness_instructions_go_7 : ∀ i ∈ ([.redaddF32 { g := 7, a := .v 8, b := .v 12, ord := 0 }, .redaddBf16x2 { g := 7, a := .v 8, b := .v 12, ord := 0 },
   .ldAcq { g := 7, d := .v 4, a := .v 8, w := 0, ty := 0 },
   .ldAcqOff { g := 7, d := .v 4, a := .v 8, w := 0, ty := 0, off := 0 },
   .stRel { g := 7, d := .v 4, a := .v 8, w := 0, ty := 0 },
   .stRelOff { g := 7, d := .v 4, a := .v 8, w := 0, ty := 0, off := 0 }, .fence { g := 7, kind := 0 },
   .mwait { g := 7, d := .v 4, a := .v 8, b := .v 12, c := .v 16 }, .objreg { g := 7, d := .v 4, a := .v 8, b := .v 12 },
   .objdrop { g := 7, a := .v 8 }, .clpush { g := 7, d := .v 4, a := .v 8, b := .v 12 },
   .clpop { g := 7, d := .v 4, a := .v 8, pd := 0 }, .shrd { g := 7, d := .v 4, a := .v 8, b := .v 12 },
   .shwr { g := 7, d := .v 4, a := .v 8, b := .v 12 }, .shrg { g := 7, d := .v 4, a := .v 8, b := .v 12 },
   .shwg { g := 7, d := .v 4, a := .v 8, b := .v 12 }, .shfin { g := 7, d := .v 0, a := .v 8, fail := 0, disp := 0 },
   .fctret { g := 7 }, .fctstg { g := 7, d := .v 4, a := .v 8, b := .v 12 }, .fctact { g := 7, d := .v 4, a := .v 8 },
   .fctrd { g := 7, d := .v 4, a := .v 8 }, .qmap { g := 7, d := .v 4, a := .v 8, b := .v 12 },
   .qunmap { g := 7, d := .v 4, a := .v 8 }, .preempt { g := 7, d := .v 4, a := .v 8, b := .v 12 }] : List Instr),
    goesIn id id i = true ∧ (groupWith id i).twin = none := by decide +kernel



/-! ## Hypotheses of statements about instructions -/

/-- Fibre 0 changed. -/
def fibre (k : Fibre → Fibre) (G : Group) : Group :=
  { G with waves := tabMap G.waves fun _ W => { W with fibres := tabMap W.fibres fun _ F => k F } }
/-- V registers of fibre 0 set, tagged b32. -/
def vregs (l : List (Nat × Word)) : Group → Group := fibre fun F => { F with regs := l.map fun e => (e.1, ⟨e.2, .b32⟩) }
/-- A launch that runs on die 0. -/
def aLaunch : Launch :=
  { die := 0, slot := 0, desc := 0, pkt := 0, ctx := 0, asid := 0, cls := 0, entry := 0, arg := 0, hdr := loadHeader, st := .running,
    dies := [0], groups := 1, waiting := [], left := 1, joined := [0], landed := [], target := 0, step := 0, want := [],
    allot := [], failed := false }
/-- A barrier of the group armed. -/
def armedBar (b : CoreBarrier) (G : Group) : Group := { G with bars := [(0, b)] }

/-- R126, R127, R144: targets that R127 allows, and a STEP of an elastic launch. -/
theorem witness_ControlInstructionsComplete :
    (goesIn id id (.brx { g := 7, a := .v 8 }) = true ∧ targetOk ((waveWith id (.brx { g := 7, a := .v 8 })).readPair 0 (.v 8)) = true) ∧
    (goesIn id id (.ret { g := 7 }) = true ∧ targetOk ((waveWith id (.ret { g := 7 })).fib 0).curLnk = true) ∧
    (let f := fun G => { G with launch := 5, hdr := { G.hdr with flags := 4 } }
     goesIn id f (.stepMark { g := 7 }) = true ∧ (groupWith f (.stepMark { g := 7 })).hdr.flags.testBit 2 = true ∧
      (groupWith f (.stepMark { g := 7 })).launch ≠ 0) := by decide +kernel

/-- A state with more groups than the issuing one. -/
def withTwin (h : State → State) (f : Group → Group) (i : Instr) : State := h (stateWith id f i)

/-- The instruction goes in that state, and no fibre acts. -/
def restsIn (h : State → State) (f : Group → Group) (i : Instr) : Bool :=
  goesB i (stateWith h f i) (issueOf i) (groupWith f i) (waveWith f i) && decide (acting i (issueOf i) (waveWith f i) = [])
/-- The group as the twin of group 2. -/
def asTwin (G : Group) : Group := { G with twin := some (2, true) }
/-- A store entry of the wave with one access of fibre 0 to an address. -/
def storeAhead (i : Instr) (va : Addr) (G : Group) : Group :=
  let a : Acc :=
    { fib := 0, va := va, data := [], st := .unsent, dst := [], pd := none, skip := 0, drop := false, tmo := 0, inFacet := false }
  let e : Entry := { instr := i, pc := 0, age := 0, accs := [a], faulted := false, settle := 0 }
  { G with waves := tabMap G.waves fun _ W => { W with sb := tabSet W.sb 16 e, nextAge := 1 } }

/-- A target that is not aligned; windows that leave their ranges; TRAP outside facet context, with no guard true, and in a mirror pair. -/
theorem witness_ControlInstructionsFault :
    (∀ i ∈ ([.brx { g := 7, a := .v 8 }, .callx { g := 7, a := .v 8 }, .fspawn { g := 7, d := .v 4, a := .v 8, b := .v 12 }] : List Instr),
      goesIn id (vregs [(8, 2)]) i = true ∧ targetOk ((waveWith (vregs [(8, 2)]) i).readPair 0 (.v 8)) = false) ∧
    (goesIn id (fibre fun F => { F with lnk := 2 }) (.ret { g := 7 }) = true) ∧
    (goesIn id id (.wmove { g := 7, imm := 2 ^ 14 - 1 }) = true ∧
      ((waveWith id (.wmove { g := 7, imm := 2 ^ 14 - 1 })).fib 0).base + 16 * sx (2 ^ 14 - 1) 14 < (0 : Int)) ∧
    (goesIn id (fibre fun F => { F with alloc := 32 }) (.wshrink { g := 7, imm := 2 }) = true) ∧
    (goesIn id id (.wgrow { g := 7, imm := 1 }) = true ∧ 480 < ((waveWith id (.wgrow { g := 7, imm := 1 })).fib 0).alloc + 16) ∧
    (goesIn id id (.trap { g := 7, imm := 0 }) = true ∧ (waveWith id (.trap { g := 7, imm := 0 })).inFacet (issueOf (.trap { g := 7, imm := 0 })) = false) ∧
    (goesB (.trap { g := 0, imm := 0 }) (stateWith id id (.trap { g := 0, imm := 0 })) (issueOf (.trap { g := 0, imm := 0 }))
        (groupWith id (.trap { g := 0, imm := 0 })) (waveWith id (.trap { g := 0, imm := 0 })) = true ∧
      acting (.trap { g := 0, imm := 0 }) (issueOf (.trap { g := 0, imm := 0 })) (waveWith id (.trap { g := 0, imm := 0 })) = []) ∧
    (let i : Instr := .trap { g := 7, imm := 0 }
     let f : Group → Group := fun G => { G with twin := some (2, false) }
     let h : State → State := fun s => { s with groups := s.groups ++ [(2, groupWith id i)] }
     goesB i (withTwin h f i) (issueOf i) (groupWith f i) (waveWith f i) = true ∧
       (withTwin h f i).wave 2 0 = some (waveWith id i)) := by
  decide +kernel

/-- A pool with room and one without, for WGROW; WMOVE and WSHRINK at the ends of their ranges. -/
theorem witness_WindowInstructionsComplete :
    (goesIn id id (.wmove { g := 7, imm := 29 }) = true ∧ 16 * sx 29 14 ≤ (((waveWith id (.wmove { g := 7, imm := 29 })).fib 0).alloc : Int) - 16) ∧
    (goesIn id id (.wshrink { g := 7, imm := 29 }) = true ∧ 16 + 16 * 29 ≤ ((waveWith id (.wshrink { g := 7, imm := 29 })).fib 0).alloc) ∧
    (let i : Instr := .wgrow { g := 7, imm := 1 }
     let f : Group → Group := fun G => fibre (fun F => { F with alloc := 16 }) { G with hdr := { G.hdr with units := 1 } }
     goesIn id f i = true ∧ ((stateWith id f i).core 2).grow = [] ∧
      growNeed (groupWith f i).hdr.units 1 ((waveWith f i).fib 0) ≤ (stateWith id f i).poolFree 2 ∧
      (let h : State → State := fun s => s.modCore 2 fun C => { C with regg := 0 }
       goesIn h f i = true ∧ (stateWith h f i).poolFree 2 < growNeed (groupWith f i).hdr.units 1 ((waveWith f i).fib 0)) ∧
      (let h : State → State := fun s => s.modCore 2 fun C => { C with grow := [⟨3, 0, [0], 1, 1⟩] }
       goesIn h f i = true ∧ ((stateWith h f i).core 2).grow ≠ [])) ∧
    (let i : Instr := .wgrow { g := 0, imm := 1 }
     goesB i (stateWith id id i) (issueOf i) (groupWith id i) (waveWith id i) = true ∧ acting i (issueOf i) (waveWith id i) = []) ∧
    (let i : Instr := .wshrink { g := 7, imm := 1 }
     let a : Acc := { fib := 0, va := 0, data := [], st := .sent, dst := [.v 470, .v 4], pd := none, skip := 0, drop := false, tmo := 0, inFacet := false }
     let f : Group → Group := fun G =>
       { G with waves := tabMap G.waves fun _ W => { W with sb := [(0, { instr := i, pc := 0, age := 0, accs := [a], faulted := false, settle := 0 })] } }
     goesIn id f i = true ∧ ((waveWith f i).fib 0).alloc - 16 ≤ 470 ∧ (groupWith f i).core? = some 2) := by
  decide +kernel

/-- A wave of a group without a twin. -/
theorem witness_TakingAFault :
    let i : Instr := .nop { g := 7 }
    (stateWith id id i).group (issueOf i).grp = some (groupWith id i) ∧
      tabGet (groupWith id i).waves (issueOf i).wave = some (waveWith id i) ∧ (groupWith id i).twin = none ∧
      (waveWith id i).inFacet (issueOf i) = false := by decide +kernel

/-- FSPAWN with a target that R127 allows, with a free slot and with none. -/
theorem witness_FibresEndAndBegin :
    let i : Instr := .fspawn { g := 7, d := .v 4, a := .v 8, b := .v 12 }
    (goesIn id id i = true ∧ targetOk ((waveWith id i).readPair 0 (.v 8)) = true) ∧
    (((waveWith id i).fib 1).isLive = false ∧ ∀ j < 1, ((waveWith id i).fib j).isLive = true) ∧
    (let W : Wave := { waveWith id i with fibres := (List.range 32).map fun f => (f, (waveWith id i).fib 0) }
     ∀ j < 32, (W.fib j).isLive = true) := by decide +kernel

/-- TWANY on a mask that is zero and on one that is not; ISYNC with no guard true; a resident fibre at each wait. -/
theorem witness_WaitingInstructionsWait :
    (let i : Instr := .twany { g := 7, d := .v 4, a := .v 8 }
     goesIn id (vregs [(8, 1)]) i = true ∧ (waveWith (vregs [(8, 1)]) i).readPair 0 (.v 8) ≠ 0 ∧
     goesIn id id i = true ∧ (waveWith id i).readPair 0 (.v 8) = 0) ∧
    (let i : Instr := .isync { g := 0, a := .v 8, b := .v 12 }
     goesB i (stateWith id id i) (issueOf i) (groupWith id i) (waveWith id i) = true ∧ acting i (issueOf i) (waveWith id i) = []) ∧
    (∀ w ∈ ([.mwaitm 1 0, .twall 8, .twany 8 [.v 4], .isync 16, .mwait 0, .barrier 0 0 0, .waitc 0 0 0 0] : List Wait),
      let i : Instr := .nop { g := 7 }
      let f := fibre fun F => { F with wait := w }
      let s := stateWith id f i
      s.group 1 = some (groupWith f i) ∧ tabGet (groupWith f i).waves 0 = some (waveWith f i) ∧ (groupWith f i).core?.isSome = true ∧
        0 ∈ (waveWith f i).live ∧ testsMasks (groupWith f i) (waveWith f i) = true ∧ (s.releaseWave 1 0).wave 1 0 ≠ none ∧
        ((waveWith f i).fib 0).wait = w) := by decide +kernel

/-- An arrival of each collective with the lanes it needs: a present source lane and an absent one. -/
theorem witness_CollectiveResults :
    let a : Arrival := { fib := 0, coll := .shfl 1, guard := true, srcs := [⟨5, .n32⟩, ⟨0, .b32⟩], src := true, dst := [] }
    let b : Arrival := { a with srcs := [⟨5, .n32⟩, ⟨9, .b32⟩] }
    (a.coll = .shfl 1 ∧ a ∈ [a] ∧ a.fib = (a.srcs.getD 1 zeroReg).val.toNat % 32 ∧ ∀ x ∈ [a], x.fib = a.fib → x = a) ∧
    (b.coll = .shfl 1 ∧ ∀ x ∈ [a], x.fib ≠ (b.srcs.getD 1 zeroReg).val.toNat % 32) ∧
    (∀ op < 3, ({ a with coll := .vote op 1 } : Arrival).coll = .vote op 1) ∧ ({ a with coll := .ballot } : Arrival).coll = .ballot := by
  decide

/-- A shuffle whose one member has arrived, and one that still waits for a member. -/
theorem witness_CollectivesRelease :
    let i : Instr := .nop { g := 7 }
    let f := fibre fun F => { F with wait := .coll (.shfl 1) 0 0 true [⟨5, .n32⟩, ⟨0, .b32⟩] false [.v 4] }
    let two : Group → Group := fun G => { f G with waves := tabMap (f G).waves fun _ W => { W with fibres := W.fibres ++ [(1, loadFibre false)] } }
    ∀ h ∈ [f, two], ∃ W x, (stateWith id h i).group 1 = some (groupWith h i) ∧ tabGet (groupWith h i).waves 0 = some W ∧
      testsMasks (groupWith h i) W = true ∧ x ∈ W.arrivals 0 0 false ∧ x.dst = [.v 4] ∧ x.guard = true ∧
      ((stateWith id h i).releaseWave 1 0).wave 1 0 ≠ none := by
  intro i f two h hh
  refine ⟨waveWith h i, ⟨0, .shfl 1, true, [⟨5, .n32⟩, ⟨0, .b32⟩], false, [.v 4]⟩, ?_⟩
  revert h
  decide +kernel

/-- Both kinds of that wave: every member arrived, and one not. -/
theorem witness_CollectivesReleaseCases :
    let f := fibre fun F => { F with wait := .coll (.shfl 1) 0 0 true [⟨5, .n32⟩, ⟨0, .b32⟩] false [.v 4] }
    let W := waveWith f (.nop { g := 7 })
    let V : Wave := { W with fibres := W.fibres ++ [(1, loadFibre false)] }
    (∀ f ∈ W.members 0, f ∈ (W.arrivals 0 0 false).map (·.fib)) ∧ ∃ f ∈ V.members 0, f ∉ (V.arrivals 0 0 false).map (·.fib) := by
  decide +kernel

/-- Barrier 0 of a core and of a quad, that the group may use; one that it may not. -/
theorem witness_BarrierInstructionsComplete :
    (∀ i ∈ ([.bara { g := 7, scope := 0, id := 0, a := .v 4, token := 1 }, .barw { g := 7, scope := 0, id := 0, a := .v 4 },
        .bars { g := 7, scope := 0, id := 0 }] : List Instr),
      goesIn id (armedBar ⟨4, 0, 0, false, true, 1, false⟩) i = true ∧
      (stateWith id (armedBar ⟨4, 0, 0, false, true, 1, false⟩) i).barrierOk (groupWith (armedBar ⟨4, 0, 0, false, true, 1, false⟩) i) 0 0 false = true) ∧
    (let i : Instr := .barc { g := 7, scope := 0, id := 0, a := .v 4 }
     let f := vregs [(4, 2)]
     goesIn id f i = true ∧ (stateWith id f i).barrierOk (groupWith f i) 0 0 true = true ∧
      barcOk 0 ((waveWith f i).read 0 (.v 4)).val ((waveWith f i).read 0 (regPlus (.v 4) 1)).val = true) ∧
    (let i : Instr := .barc { g := 7, scope := 1, id := 0, a := .v 4 }
     let f : Group → Group := fun G => vregs [(4, 2)] { G with launch := 1 }
     let L : Launch := { aLaunch with want := [1, 0, 0, 0], allot := [(quadOf 2, [3])] }
     let h : State → State := fun s => { s with cp := { s.cp with launches := [(1, L)] } }
     goesIn h f i = true ∧ (stateWith h f i).barrierOk (groupWith f i) 1 0 true = true ∧
      barcOk 1 ((waveWith f i).read 0 (.v 4)).val ((waveWith f i).read 0 (regPlus (.v 4) 1)).val = true) ∧
    (∀ i ∈ ([.bara { g := 7, scope := 0, id := 0, a := .v 4, token := 1 }, .bars { g := 7, scope := 4, id := 3 }] : List Instr),
      goesIn id id i = true ∧ (stateWith id id i).barrierOk (groupWith id i) 0 0 false = false) := by decide +kernel

/-- Armed barriers: a core barrier in each mode, below EXP and reaching it; a wide one that a wave reaches for the first and second time. -/
theorem witness_BarriersCountArrivals :
    (∀ b ∈ [(⟨4, 1, 0, false, true, 1, false⟩ : CoreBarrier), ⟨2, 2, 0, false, true, 1, true⟩, ⟨0, 1, 0, true, true, 1, true⟩,
        ⟨3, 0, 0, true, true, 2, true⟩],
      let G := groupWith (armedBar b) (.nop { g := 7 })
      (stateWith id (armedBar b) (.nop { g := 7 })).group 1 = some G ∧ (G.bar 0).armed = true ∧ tabSorted G.bars = true ∧
        (stateWith id (armedBar b) (.nop { g := 7 })).dieClock (dieOf 2) ≠ 3 ∧
        (1, G) ∈ (stateWith id (armedBar b) (.nop { g := 7 })).residents 2 ∧
        (((stateWith id (armedBar b) (.nop { g := 7 })).residents 2).map (·.1)).Nodup) ∧
    (let w : WideBarrier := ⟨3, 1, 0, true, [(1, 0)], some 1, 0⟩
     let s : State := { State.reset with eng := { State.reset.eng with wbars := [(7, w)] } }
     (s.wbar 7).armed = true ∧ (1, 0) ∈ (s.wbar 7).came ∧ (2, 0) ∉ (s.wbar 7).came ∧ (s.wbar 7).arr + 1 < (s.wbar 7).exp ∧
      ¬ (s.wbar 7).exp ≤ (s.wbar 7).arr + 1 ∧
      (let u : State := { s with eng := { s.eng with wbars := [(7, { w with exp := 2 })] } }
       (u.wbar 7).exp ≤ (u.wbar 7).arr + 1)) := by decide +kernel

/-- A group's done tags, and each register that SETS may name. -/
theorem witness_SpecialRegistersReadAndWritten :
    (∀ k ∈ [0x008, 0x009, 0x00B, 0x060, 0x00C, 0x040], goesIn id id (.sets { g := 7, d := .v 4, imm := k }) = true) ∧
    (∀ k ∈ [0x000, 0x001, 0x002, 0x003, 0x008, 0x00B, 0x00C, 0x00D], goesIn id id (.gets { g := 7, d := .v 4, imm := k }) = true) ∧
    (∀ x ∈ [(⟨0, true, false, false, false⟩ : HeldTag), ⟨1, true, true, true, true⟩],
     let t : Tab HeldTag := [(3, x)]
     tabSorted t = true ∧ tabGet t 3 = some x ∧ x.done = true ∧ (8 : Nat).testBit 3 = true) := by decide +kernel

/-- IADD, which raises nothing; and division by zero with its exception enabled, which traps. -/
theorem witness_Arithmetic :
    (let i : Instr := .iadd { g := 7, d := .v 4, a := .v 8, b := .v 12 }
     goesIn id id i = true ∧ (laneOf i).isSome = true ∧
      trapping ((waveWith id i).fib 0) (laneIadd ((stateWith id id i).laneIn (groupWith id i) (waveWith id i) (opndsOf i) 0)).exc = 0) ∧
    (let i : Instr := .idivN32 { g := 7, d := .v 4, a := .v 8, b := .v 12 }
     let f := fibre fun F => { F with trapen := 0x20 }
     goesIn id f i = true ∧ (waveWith f i).inFacet (issueOf i) = false ∧
      (trapping ((waveWith f i).fib 0) (laneIdivN32 ((stateWith id f i).laneIn (groupWith f i) (waveWith f i) (opndsOf i) 0)).exc).getLsbD 5 = true ∧
      ∀ k < 5, (trapping ((waveWith f i).fib 0)
        (laneIdivN32 ((stateWith id f i).laneIn (groupWith f i) (waveWith f i) (opndsOf i) 0)).exc).getLsbD k = false) := by decide +kernel

/-- A quiet NaN beside a number; the codes and truth tables in their ranges. -/
theorem witness_CompareSelectAndPairResults :
    let x : LaneIn := { r := [⟨0x7FC00000, .f32⟩, ⟨0x3F800000, .f32⟩], p := 0x80, level := 2 }
    0 < x.level ∧ x.n 0 / 2 ^ 23 % 256 = 255 ∧ x.n 0 % 2 ^ 23 ≥ 2 ^ 22 ∧ x.n 1 / 2 ^ 23 % 256 < 255 ∧
      x.p.getLsbD 7 = true ∧ x.p.getLsbD 0 = false := by decide

/-- A memory instruction whose address passes the checks, and one that fails each. -/
theorem witness_MemoryInstructionsIssue :
    (∀ i ∈ ([.ld { g := 7, d := .v 4, a := .v 8, w := 0, ty := 0 }, .st { g := 7, d := .v 4, a := .v 8, w := 0, ty := 0 },
        .mwait { g := 7, d := .v 4, a := .v 8, b := .v 12, c := .v 16 }, .pgreq { g := 7, a := .v 8 },
        .atadd { g := 7, d := .v 4, a := .v 8, b := .v 12, ord := 0 }] : List Instr),
      goesIn id id i = true ∧ (memForm i).map (·.space) = some .virt ∧
      (stateWith id id i).addrFault 1 (groupWith id i) .virt 0 4 = none) ∧
    canonical (2 ^ 55) = false ∧ (canonical 2 = true ∧ 2 % 4 ≠ 0) ∧
    (let i : Instr := .ld { g := 7, d := .v 4, a := .v 8, w := 0, ty := 0 }
     goesIn id (vregs [(8, 2)]) i = true ∧
      (stateWith id (vregs [(8, 2)]) i).addrFault 1 (groupWith (vregs [(8, 2)]) i) .virt 2 4 = some 0x12 ∧
      restsIn id id (.ld { g := 0, d := .v 4, a := .v 8, w := 0, ty := 0 }) = true) ∧
    (let i : Instr := .st { g := 7, d := .v 4, a := .v 8, w := 0, ty := 0 }
     goesIn id asTwin i = true ∧ twinSilent i (groupWith asTwin i) = true ∧ twinSilent i (groupWith id i) = false) := by decide +kernel

/-- Accesses within the own scratchpad, and through the quad window to it. -/
theorem witness_ScratchpadAccesses :
    (∀ i ∈ ([.sts { g := 7, d := .v 4, a := .v 8, w := 0, ty := 0 }, .lds { g := 7, d := .v 4, a := .v 8, w := 0, ty := 0 }] : List Instr),
      goesIn id id i = true ∧ (memForm i).map (·.space) = some .own ∧
      (stateWith id id i).addrFault 1 (groupWith id i) .own 0 4 = none ∧ tabSorted (groupWith id i).scratch = true) ∧
    (∀ i ∈ ([.stnw { g := 7, d := .v 4, a := .v 8, w := 0, ty := 0 }, .ldnw { g := 7, d := .v 4, a := .v 8, w := 0, ty := 0 }] : List Instr),
      let f : Group → Group := fun G => { G with launch := 1, hdr := { G.hdr with flags := 8, rows := 1, cols := 1 } }
      goesIn id f i = true ∧ (memForm i).map (·.space) = some .neigh ∧
      (stateWith id f i).addrFault 1 (groupWith f i) .neigh 0 4 = none ∧ 0 / 2 ^ 24 % 32 = (groupWith f i).nslot) ∧
    (∀ i ∈ ([.stq { g := 7, d := .v 4, a := .v 8, w := 0, ty := 0 }, .ldq { g := 7, d := .v 4, a := .v 8, w := 0, ty := 0 }] : List Instr),
      goesIn id id i = true ∧ (memForm i).map (·.space) = some .quad ∧
      (stateWith id id i).addrFault 1 (groupWith id i) .quad 0 4 = none ∧
      (stateWith id id i).quadHolder 1 (groupWith id i) (quadTarget (groupWith id i) 0) 0 4 = some (1, groupWith id i) ∧
      twinSilent i (groupWith id i) = false ∧ (waveWith id i).olderWaits (waveWith id i).nextAge 0 = []) := by
  decide +kernel

/-- No guard true; an access behind a window access to the same bytes; one to another slot; one beyond the scratchpad. -/
theorem witness_ScratchpadWaits :
    (restsIn id id (.sts { g := 0, d := .v 4, a := .v 8, w := 0, ty := 0 }) = true) ∧
    (let i : Instr := .lds { g := 7, d := .v 4, a := .v 8, w := 0, ty := 0 }
     let h : Instr := .stnw { g := 7, d := .v 4, a := .v 8, w := 0, ty := 0 }
     let f : Group → Group := fun G => storeAhead h 0 { G with launch := 1, hdr := { G.hdr with flags := 8, rows := 1, cols := 1 } }
     let s := stateWith id f i
     goesIn id f i = true ∧ s.addrFault 1 (groupWith f i) .own 0 4 = none ∧
       (∀ m ∈ (memForm i).toList, s.scrPlace 1 (groupWith f i) m 0 = some (1, 0)) ∧
       (∀ m ∈ (memForm h).toList, m.space ≠ .own ∧ s.scrPlace 1 (groupWith f i) m 0 = some (1, 0)) ∧
       ((waveWith f i).olderWaits (waveWith f i).nextAge 0).length = 1) ∧
    (∀ i ∈ ([.stnw { g := 7, d := .v 4, a := .v 8, w := 0, ty := 0 }, .ldnw { g := 7, d := .v 4, a := .v 8, w := 0, ty := 0 }] : List Instr),
      let f : Group → Group := fun G => vregs [(8, 2 ^ 24)] { G with launch := 1, hdr := { G.hdr with flags := 8, rows := 1, cols := 2 } }
      goesIn id f i = true ∧ (memForm i).map (·.space) = some .neigh ∧ ((memForm i).map fun m => (m.ea (waveWith f i) 0).toNat) = some (2 ^ 24) ∧
      (stateWith id f i).addrFault 1 (groupWith f i) .neigh (2 ^ 24) 4 = none ∧ 2 ^ 24 / 2 ^ 24 % 32 ≠ (groupWith f i).nslot) ∧
    (let i : Instr := .sts { g := 7, d := .v 4, a := .v 8, w := 0, ty := 0 }
     goesIn id (vregs [(8, 2)]) i = true ∧ (stateWith id (vregs [(8, 2)]) i).addrFault 1 (groupWith (vregs [(8, 2)]) i) .own 2 4 = some 0x12) := by
  decide +kernel

/-- A copy of no bytes, one of a length that is no multiple of 4, and one from an address that is not canonical. -/
theorem witness_CopyInstructionsIssue :
    (∀ i ∈ ([.cpg2s { g := 7, tag := 0, a := .v 8, b := .v 12 }, .cps2g { g := 7, tag := 0, a := .v 8, b := .v 12 },
        .cpx { g := 7, tag := 0, a := .v 8, b := .v 12 }] : List Instr), goesIn id id i = true) ∧
    (∀ k ∈ ([.short 0xB0 { g := 7, tag := 0, a := .v 8, b := .v 12 }, .short 0xB2 { g := 7, tag := 0, a := .v 8, b := .v 12 }] : List CopyForm),
      copyFault (groupWith id (.nop { g := 7 })) k.op (k.args (waveWith id (.nop { g := 7 })) 0) = none ∧ k.bar = none ∧
      copyFault (groupWith (vregs [(14, 2)]) (.nop { g := 7 })) k.op (k.args (waveWith (vregs [(14, 2)]) (.nop { g := 7 })) 0) = some 0x12) ∧
    canonical (2 ^ 55) = false ∧
    (∀ l ∈ ([[], [(8, 1)]] : List (List (Nat × Word))), goesIn id (vregs l) (.tfirst { g := 7, d := .v 4, a := .v 8 }) = true) ∧
    (let f : Group → Group := fun G => vregs [(8, 8)] { G with tags := [(3, ⟨0, true, false, false, false⟩)] }
     let i : Instr := .tfirst { g := 7, d := .v 4, a := .v 8 }
     goesIn id f i = true ∧ ((groupWith f i).ctags &&& ((waveWith f i).readPair 0 (.v 8)).toNat) = 8) ∧
    (∀ i ∈ ([.cpg2s { g := 0, tag := 0, a := .v 8, b := .v 12 }, .cpfence { g := 0, qm := 1 }] : List Instr), restsIn id id i = true) ∧
    (∀ i ∈ ([.cpg2s { g := 7, tag := 0, a := .v 8, b := .v 12 }, .cpfence { g := 7, qm := 1 }] : List Instr), goesIn id asTwin i = true) ∧
    (copyFault (groupWith id (.nop { g := 7 })) 0xB0 { src := 0, dst := 0, len := 8 } = none ∧
      ∀ op ∈ [0xB0, 0xB1, 0xB2], copyFault (groupWith id (.nop { g := 7 })) op { src := 2, dst := 0, len := 8 } ≠ none) := by decide +kernel

/-- A parameter block that passes R228 and one that does not, nine fibres that act, no guard true, a twin; the operands that the other tile
operations allow, and some that they do not. -/
theorem witness_TileInstructionsIssue :
    (let f : Group → Group := fun G => { G with scratch := [(1, 16), (2, 16 * 2 ^ 16), (3, 16 * 2 ^ 16)] }
     let i : Instr := .mxgo { g := 7, a := .v 8 }
     goesIn id f i = true ∧ (stateWith id f i).mxgoFault 1 (groupWith f i) (waveWith f i) (.v 8) 0 = none ∧
      ((stateWith id f i).matrix (quadOf 2)).entries = []) ∧
    1 < 2 ^ (groupWith id (.mxclr { g := 7, tm := 1 })).hdr.tiles ∧
    indexBad (groupWith id (.nop { g := 7 })) 0 = none ∧ histBad (groupWith id (.nop { g := 7 })) 0 0 = none ∧
    (∀ i ∈ ([.mxgo { g := 0, a := .v 8 }, .mxclr { g := 0, tm := 1 }] : List Instr), restsIn id id i = true) ∧
    (goesIn id asTwin (.mxgo { g := 7, a := .v 8 }) = true ∧ goesIn id asTwin (.mxhist { g := 7, d := .v 4, a := .v 8, b := .v 12 }) = true) ∧
    (let i : Instr := .mxgo { g := 7, a := .v 8 }
     goesIn id (vregs [(8, 2)]) i = true ∧
       (stateWith id (vregs [(8, 2)]) i).mxgoFault 1 (groupWith (vregs [(8, 2)]) i) (waveWith (vregs [(8, 2)]) i) (.v 8) 0 ≠ none) ∧
    (let i : Instr := .mxgo { g := 7, a := .v 8 }
     let f : Group → Group := fun G => { G with waves := tabMap G.waves fun _ W =>
       { W with fibres := (List.range 9).map (fun n => (n, loadFibre false)), bundles := [List.range 9] } }
     goesB i (stateWith (fun s => { s with cur := some { issueOf i with fibres := List.range 9 } }) f i) { issueOf i with fibres := List.range 9 }
         (groupWith f i) (waveWith f i) = true ∧
       (acting i { issueOf i with fibres := List.range 9 } (waveWith f i)).length = 9) ∧
    (let f : Group → Group := fun G => { G with hdr := { G.hdr with tiles := 2 } }
     goesIn id f (.mxclr { g := 7, tm := 4 }) = true ∧ ¬ 4 < 2 ^ (groupWith f (.mxclr { g := 7, tm := 4 })).hdr.tiles) ∧
    (goesIn id (vregs [(8, 0xFFFF)]) (.mxrd { g := 7, d := .v 4, a := .v 8 }) = true ∧
      indexBad (groupWith id (.nop { g := 7 })) 0xFFFF ≠ none ∧ histBad (groupWith id (.nop { g := 7 })) 0xFFFF 0 ≠ none) := by decide +kernel

/-- A region and a handle that pass their checks; a null handle. -/
theorem witness_ObjectAndStateInstructionsIssue :
    regBad 0 (BitVec.ofNat 32 (2 + 4 * 2 ^ 16)) = none ∧ handleBad 0 (BitVec.ofNat 64 1) = none ∧ handleBad 0 0 = some 0x07 ∧
    (∀ i ∈ ([.objreg { g := 0, d := .v 4, a := .v 8, b := .v 12 }, .shrd { g := 0, d := .v 4, a := .v 8, b := .v 12 },
      .shfin { g := 0, d := .v 0, a := .v 8, fail := 0, disp := 0 }] : List Instr), restsIn id id i = true) ∧
    (∀ i ∈ ([.objdrop { g := 7, a := .v 8 }, .clpush { g := 7, d := .v 4, a := .v 8, b := .v 12 }, .clpop { g := 7, d := .v 4, a := .v 8, pd := 0 }] :
      List Instr), goesIn id id i = true ∧ goesIn id (vregs [(8, 1)]) i = true ∧ (waveWith (vregs [(8, 1)]) i).readPair 0 (.v 8) = 1 ∧
        goesIn id asTwin i = true ∧ twinSilent i (groupWith asTwin i) = true) := by decide +kernel

/-- A bundle issues a word that no instruction owns; the causes that a TRAP slot may hold; an image whose first slot rewrites a word. -/
theorem witness_FacetSlotsAct :
    (∀ i ∈ ([.nonInstructionWord 0, .nonInstructionWord 0xFF000000, .facetTrap 0, .facetRewrite 0] : List Instr),
      (stateWith id id i).cur = some (issueOf i) ∧ (stateWith id id i).group 1 = some (groupWith id i)) ∧
    (let img : List Byte := List.replicate 0x4C 0 ++ [0x21, 0, 0, 0] ++ List.replicate 60 0
     slotParam img 0 % 2 ^ 7 = 0x21) ∧
    (let img : List Byte := List.replicate 0x4C 0 ++ [0x50, 0, 0, 0] ++ List.replicate 60 0
     slotParam img 0 % 2 ^ 7 = 0x50) ∧ slotParam [] 0 % 2 ^ 7 = 0 := by decide +kernel


/-! ## Hypotheses of statements about facets and queues -/

/-- Slot 0 with two replacement words. -/
def rewriteImage (a b : Nat) : List Byte := List.replicate 0x4C 0 ++ leBytes 4 2 ++ leBytes 4 a ++ leBytes 4 b

/-- A REWRITE of two words that decode and perform, and one whose second word does not decode. -/
theorem witness_RewritePerformsItsWords :
    let i : Instr := .nop { g := 7 }
    let c := issueOf i
    let G := groupWith id i
    let W := waveWith id i
    let a : Instr := .iadd { g := 7, d := .v 4, a := .v 4, b := .v 5 }
    let good : Except Nat (List Instr) := rewriteSeq (rewriteImage 0x20E10205 0x20E10205) 0 G W c
    (match good with | .ok is => decide (is = [a, a]) | .error _ => false) = true ∧ W.hazardFree c (opndsOf a) = true ∧
    (match (stateWith id id i).runSeq G c [a, a] W with | .ok _ => true | .error _ => false) = true ∧
    (match rewriteSeq (rewriteImage 0x20E10205 0xFFFFFFFF) 0 G W c with | .ok _ => false | .error e => e == 1) = true ∧
    (match (stateWith id (fibre fun F => { F with regs := [(4, ⟨0, .f32⟩)] }) i).seqStep G c a (waveWith (fibre fun F =>
        { F with regs := [(4, ⟨0, .f32⟩)] }) i) with | .ok _ => false | .error x => x.raise.cause == 0x03) = true := by decide +kernel

/-- A bundle outside the frame, with its guard true and false, and the frame free. -/
theorem witness_EmulateEntersTheFrame :
    let i : Instr := .nop { g := 7 }
    let j : Instr := .nop { g := 0 }
    (waveWith id i).inFacet (issueOf i) = false ∧
    ((waveWith id i).guardTrue (issueOf i) ((issueOf i).w0 / 2 ^ 21 % 2 ^ 3) = [0] ∧ ((stateWith id id i).core 2).frame = none ∧
      (waveWith id i).entryReady (issueOf i) (issueOf i).w0 = true) ∧
    (waveWith id j).guardTrue (issueOf j) ((issueOf j).w0 / 2 ^ 21 % 2 ^ 3) = [] := by decide +kernel

/-- A routine that returns without a cause and with one; one that has run too long; a staging whose verification ends. -/
theorem witness_FacetRoutinesRun :
    (let i : Instr := .fctret { g := 7 }
     let ret := fun (n : Nat) => fibre fun F => { F with facet := F.facet.map fun x => { x with regs := [(7, ⟨BitVec.ofNat 32 n, .b32⟩)] } }
     goesIn id id i = true ∧ goesIn id (ret 7) i = true ∧ goesIn id (ret 0x5F00) i = true ∧ goesIn id (ret 0x5000) i = true ∧
     (((waveWith (ret 0x5000) i).fib 0).facet.map fun x => x.ret / 2 ^ 8 % 2 ^ 7) = some 0x50 ∧
     (((waveWith (ret 7) i).fib 0).facet.map fun x => x.ret / 2 ^ 8 % 2 ^ 7) = some 0 ∧
     (((waveWith (ret 0x5F00) i).fib 0).facet.map fun x => x.ret / 2 ^ 8 % 2 ^ 7) = some 0x5F ∧
     (let s := stateWith (fun s => s.modCore 2 fun C => { C with cycles := 5 }) id i
      s.group 1 = some (groupWith id i) ∧ tabGet (groupWith id i).waves 0 = some (waveWith id i) ∧ (waveWith id i).run = .running ∧
      0 ∈ (waveWith id i).live ∧
      (((waveWith id i).fib 0).facet.map fun x => decide (facetLimit s.facet.active ≤ s.felapsed (groupWith id i) x)) = some true)) ∧
    (let i : Instr := .nop { g := 7 }
     let op : SlotOp := { core := 0, grp := 1, wave := 0, entry := 48, fib := 0 }
     let s := stateWith (fun s => { s with facet := { s.facet with op := some (.stage op [] 2) } }) id i
     s.facet.op = some (.stage op [] 2) ∧ s.wave op.grp op.wave = some (waveWith id i)) := by decide +kernel

/-- An image in staging, none in staging, a staged image that is asked for. -/
theorem witness_FacetImageInstructions :
    (∀ i ∈ ([.fctstg { g := 7, d := .v 4, a := .v 8, b := .v 12 }, .fctact { g := 7, d := .v 4, a := .v 8 },
        .fctrd { g := 7, d := .v 4, a := .v 8 }] : List Instr),
      let h : State → State := fun s => { s with facet := { s.facet with op := some (.stage ⟨0, 1, 0, 48, 0⟩ [] 2) } }
      goesIn h id i = true ∧ goesIn id id i = true ∧ (stateWith id id i).facet.op = none ∧ (stateWith id id i).facet.staged = [] ∧
      (stateWith h id i).facet.op = some (.stage ⟨0, 1, 0, 48, 0⟩ [] 2)) ∧
    (let h : State → State := fun s => { s with facet := { s.facet with staged := List.replicate 16 0 } }
     let i : Instr := .fctact { g := 7, d := .v 4, a := .v 8 }
     goesIn h id i = true ∧ imgField (stateWith h id i).facet.staged 8 4 = ((waveWith id i).read 0 (.v 8)).val.toNat) ∧
    (let i : Instr := .fctrd { g := 7, d := .v 4, a := .v 8 }
     goesIn id (vregs [(8, 512)]) i = true ∧ 512 ≤ ((waveWith (vregs [(8, 512)]) i).read 0 (.v 8)).val.toNat) := by decide +kernel

/-- A page table of context 0 that maps the first GiB; `last` is the leaf's first byte. -/
def tableMem (last : Nat) : List Host.Cell :=
  [(0, 0x01), (1, 0x10), (0x1000, 0x01), (0x1001, 0x20), (0x2000, 0x01), (0x2001, 0x30), (0x3000, BitVec.ofNat 8 last), (0x3003, 0x40)]
/-- A slot in a state. -/
def slotIn (n : SlotSt) (s : State) : State := { s with cp := { s.cp with slots := [(0, { QSlot.free with st := n })] } }

/-- Slots beyond the range, in the wrong state, and in the state that the change needs. -/
theorem witness_QueueInstructions :
    (let m : Instr := .qmap { g := 7, d := .v 4, a := .v 8, b := .v 12 }
     let u : Instr := .qunmap { g := 7, d := .v 4, a := .v 8 }
     let p : Instr := .preempt { g := 7, d := .v 4, a := .v 8, b := .v 12 }
     (∀ i ∈ ([m, u, p] : List Instr), goesIn id (vregs [(8, 56), (12, 56)]) i = true) ∧
     (goesIn (slotIn .mapped) id m = true ∧ (slotIn .mapped State.reset).qslot (slotKey 0 0) ≠ QSlot.free) ∧
     (goesIn (slotIn .mapped) id u = true ∧ goesIn (slotIn .held) id u = true) ∧
     (goesIn (slotIn .mapped) id p = true ∧ goesIn (slotIn .held) (vregs [(12, 1)]) p = true ∧
      ((slotIn .held State.reset).qslot (slotKey 0 0)).st = .held ∧ ((slotIn .held State.reset).qslot (slotKey 0 0)).op = none) ∧
     (goesIn id id u = true ∧ goesIn (slotIn .held) id p = true ∧ (∀ i ∈ ([.fctstg { g := 0, d := .v 4, a := .v 8, b := .v 12 },
       .qmap { g := 0, d := .v 4, a := .v 8, b := .v 12 }, .qunmap { g := 0, d := .v 4, a := .v 8 }] : List Instr), restsIn id id i = true))) := by
  decide +kernel

/-- A descriptor that no table maps, one of zeros, and one of 16 packets in a context that exists. -/
theorem witness_QueueDescriptors :
    let i : Instr := .qmap { g := 7, d := .v 4, a := .v 8, b := .v 12 }
    let h := fun (m : List Host.Cell) (s : State) => { s with mem := m, cp := { s.cp with ctxs := [(0, ⟨0, 1, 0, 16⟩)] } }
    let st := fun m => stateWith (h m) id i
    (∀ m ∈ [[], tableMem 0x3F, tableMem 0x3F ++ [(0x40000020, 4), (0x40000024, 16)]], goesIn (h m) id i = true ∧ ((st m).qslot (slotKey 0 0)).st = .free ∧
      (st m).slotOfDesc 0 0 = none ∧ (st m).cp.launches = [] ∧ (st m).descAsid 0 0 = 0) ∧
    (match (st []).readRun 0 0 64 { r := true } with | .error _ => true | .ok _ => false) = true ∧
    (match (st (tableMem 0x3F)).readRun 0 0 64 { r := true } with
      | .error _ => false | .ok b => !(st (tableMem 0x3F)).descOk 0 0 b) = true ∧
    (match (st (tableMem 0x3F ++ [(0x40000020, 4), (0x40000024, 16)])).readRun 0 0 64 { r := true } with
      | .error _ => false | .ok b => (st (tableMem 0x3F ++ [(0x40000020, 4), (0x40000024, 16)])).descOk 0 0 b && hdrField b 0x27 1 != 2) = true := by decide +kernel


/-! ## Hypotheses of statements about messages, channels, slices, translation and cores -/

/-- A NOP of a loaded program. -/
def idleI : Instr := .nop { g := 7 }
/-- A state with one group, changed. -/
def withGroup (f : Group → Group) (h : State → State) : State := stateWith h f idleI
/-- A scoreboard entry in the group's wave. -/
def entryIn (slot : Nat) (e : Entry) (G : Group) : Group :=
  { G with waves := tabMap G.waves fun _ W => { W with sb := tabSet W.sb slot e } }
/-- The group's wave changed. -/
def inWave (k : Wave → Wave) (G : Group) : Group := { G with waves := tabMap G.waves fun _ W => k W }
/-- An access of fibre 0, and an entry with it. -/
def anAcc : Acc :=
  { fib := 0, va := 0x100, data := [], st := .sent, dst := [.v 4], pd := none, skip := 0, drop := false, tmo := 0, inFacet := false }
def anEntry (i : Instr) (a : Acc) : Entry := { instr := i, pc := 0, age := 0, accs := [a], faulted := false, settle := 0 }
/-- Loads and stores. -/
def ldI : Instr := .ld { g := 7, d := .v 4, a := .v 8, w := 0, ty := 3 }
def ldAcqI : Instr := .ldAcq { g := 7, d := .v 4, a := .v 8, w := 0, ty := 3 }
def stI : Instr := .st { g := 7, d := .v 4, a := .v 8, w := 0, ty := 3 }
def atI : Instr := .atadd { g := 7, d := .v 4, a := .v 8, b := .v 12, ord := 0 }
def pgI : Instr := .pgreq { g := 7, a := .v 8 }
/-- A request of core 2 and its message. -/
def aReq (op : ReqOp) : Req :=
  { core := 2, grp := 1, wave := 0, slot := 0, fib := 0, ctx := 0, asid := 0, va := 0x100, size := 4, home := vaHome 0 0x100, op := op }
def aMsg (slot : Nat) (b : MsgBody) : Msg := { core := 2, grp := 1, wave := 0, slot := slot, fib := 0, asid := 0, line := 4, body := b }
/-- A state in which a message waits for an entry of the loaded wave. -/
def msgState (i : Instr) (slot : Nat) (b : MsgBody) : State :=
  withGroup (entryIn slot (anEntry i anAcc)) fun s => { s with msgs := [aMsg slot b] }
/-- What a clause of the statement about messages asks of it. -/
def msgMet (i : Instr) (slot : Nat) (b : MsgBody) : Bool :=
  let s := msgState i slot b
  decide (s.msgAt 0 = some (aMsg slot b)) &&
    match s.wave 1 0 with
    | none => false
    | some W => decide (tabGet W.sb slot = some (anEntry i anAcc)) && decide (W.acc slot 0 = some anAcc) &&
        decide ((s.group 1).bind (·.twin) = none)

/-- Load data with and without a line, an acquiring load, an atomic's value, an absent page, a page that is there, a store's ACK, a push's
status, a pop, a revoke. -/
theorem witness_MessagesCompleteTheirAccesses :
    msgMet ldI 0 (.data [1, 2, 3, 4] none false) = true ∧ msgMet ldI 15 (.data [1, 2, 3, 4] (some (List.replicate 16 0)) false) = true ∧
    acquiring ldI = false ∧ msgMet ldAcqI 0 (.data [1, 2, 3, 4] none false) = true ∧ acquiring ldAcqI = true ∧
    msgMet ldI 0 .absent = true ∧ msgMet stI 16 (.ack false) = true ∧ msgMet stI 31 (.ack true) = true ∧ acquiring stI = false ∧
    (∀ i ∈ [ldI, ldAcqI, stI, atI, pgI], (memForm i).isSome = true) ∧
    (msgMet atI 0 (.value [7]) = true ∧ acquiring atI = false ∧ msgMet ldAcqI 3 (.value [7]) = true ∧ msgMet pgI 0 .resident = true) ∧
    (msgMet (.clpush { g := 7, d := .v 4, a := .v 8, b := .v 12 }) 0 (.status 2) = true ∧
      msgMet (.clpop { g := 7, d := .v 4, a := .v 8, pd := 0 }) 0 (.popped none) = true ∧
      msgMet (.clpop { g := 7, d := .v 4, a := .v 8, pd := 0 }) 0 (.popped (some 9)) = true) ∧
    ({ State.reset with msgs := [aMsg 0 (.revoke 3)] } : State).msgAt 0 = some (aMsg 0 (.revoke 3)) := by decide +kernel

/-- An atomic that acquires, of a mirror pair: its value reaches the twin's entry too. -/
theorem witness_TwinsTakeTheirPrimarysValue :
    let i : Instr := .atadd { g := 7, d := .v 4, a := .v 8, b := .v 12, ord := 1 }
    let f := entryIn 0 (anEntry i anAcc)
    let s := withGroup (fun G => f { G with twin := some (2, false) }) fun s =>
      { s with msgs := [aMsg 0 (.value [7])], groups := s.groups ++ [(2, f { groupWith id idleI with twin := some (1, true), place := .core 3 })] }
    acquiring i = true ∧ suppressedInTwin i = true ∧ s.msgAt 0 = some (aMsg 0 (.value [7])) ∧ (s.group 1).bind (·.twin) = some (2, false) ∧
    ∃ W P U, s.wave 1 0 = some W ∧ tabGet W.sb 0 = some (anEntry i anAcc) ∧ W.acc 0 0 = some anAcc ∧ s.group 2 = some P ∧ P.core? = some 3 ∧
      s.wave 2 0 = some U ∧ U.sb.find? (fun z => z.2.age == 0 && z.1 / 16 == 0 / 16) = some (0, anEntry i anAcc) := by
  refine ⟨by decide +kernel, by decide +kernel, by decide +kernel, by decide +kernel, _, _, _, rfl, by decide +kernel, by decide +kernel, rfl,
    by decide +kernel, rfl, by decide +kernel⟩

/-- A channel to a router, with one entry. -/
def routerChan (c : Chan) : State := { State.reset with chans := [(chanId 2 512, c)] }
/-- An entry on the wire with and without room; an acknowledged one; a refused one, first and in a back-off; a back-off that is over. -/
theorem witness_ChannelsReplayInOrder :
    let ch := chanId 2 512
    let c : Chan := { Chan.idle with window := [⟨aReq (.load false false), .wire, 0⟩] }
    let full : Chan := { c with buf := List.replicate 8 ⟨aReq (.load false false), 0, false⟩ }
    let two : Chan := { c with window := [⟨aReq (.load false false), .nacked, 6⟩, ⟨aReq (.load false false), .wire, 0⟩] }
    (chanDst ch = 512 ∧ (routerChan c).chan ch = c ∧ nextWire c.window = some (0, aReq (.load false false), true) ∧
      (routerChan c).routerRoom ch = true ∧ (routerChan full).routerRoom ch = false ∧
      nextWire two.window = some (1, aReq (.load false false), false)) ∧
    ({ c with window := [⟨aReq (.load false false), .acked, 0⟩] } : Chan).window = [⟨aReq (.load false false), .acked, 0⟩] ∧
    (firstNacked two.window = some 0 ∧ (two.window[0]?).map (·.nacks) = some 6 ∧ two.holding = false ∧ ({ two with backoff := some 5 } : Chan).holding = true) ∧
    (({ two with backoff := some 0 } : Chan).backoff = some 0 ∧ 0 ≤ State.reset.meshCycles) := by decide +kernel

/-- A page that every access may reach. -/
def aLeaf : Leaf := { pa := 0x40000000, r := true, w := true, x := true, sliceOnly := false, peer := 0 }
/-- A line of a slice. -/
def aLine (own : Tab Owner) : SLine := { words := List.replicate 16 0, dirty := false, leaf := aLeaf, owners := own }
/-- The home slice of the requests. -/
def aHome : Nat := vaHome 0 0x100
/-- A channel to it. -/
def sliceChan (op : ReqOp) (sl : Slice) : State :=
  { State.reset with
    chans := [(chanId 2 (640 + aHome), { Chan.idle with window := [⟨aReq op, .wire, 0⟩] })], slices := [(aHome, sl)] }
/-- A slice that holds the line, with these owners. -/
def heldLine (own : Tab Owner) : Slice := { Slice.empty with lines := [(4, aLine own)] }

/-- Requests to a line that is held: a load, a store to words of no core, of the requester and of another core; requests that miss. -/
theorem witness_SlicesPerformRequests :
    let ch := chanId 2 (640 + aHome)
    let met := fun (op : ReqOp) (own : Tab Owner) =>
      nextWire ((sliceChan op (heldLine own)).chan ch).window = some (0, aReq op, true) ∧
      tabGet ((sliceChan op (heldLine own)).slice aHome).lines (lineKey 0 0x100) = some (aLine own) ∧
      (aLine own).revoking (touched 0x100 4) = false ∧ (sliceChan op (heldLine own)).behindFault (aReq op) = false ∧
      (sliceChan op (heldLine own)).leafFault (aReq op).need aLeaf (aLeaf.pa + 0x100 % 64) = none
    let one : Miss := { asid := 0, line := 4, reqs := [aReq (.load false false)], st := .lookup }
    (chanDst ch = 640 + aHome ∧ aHome < 128) ∧ met (.load false false) [] ∧ met (.store [1, 2, 3, 4] false) [] ∧
    met (.store [1, 2, 3, 4] false) [(0, .core 3)] ∧ (met (.atom 0xC0 5 0) [] ∧ atomNew 0xC0 7 5 0 = some 12) ∧ touched 0x100 4 = [0] ∧ tabGet (aLine [(0, .core 3)]).owners 0 = some (.core 3) ∧
    (Slice.empty.missOf 0 (0x100 % 2 ^ 56 / 64) = none ∧
     ({ Slice.empty with miss := [(0, one)] } : Slice).missOf 0 (0x100 % 2 ^ 56 / 64) = some (0, one) ∧ one.reqs.length < 8 ∧
     (let m : Tab Miss := (List.range 64).map fun k => (k, { one with line := 100 + k })
      (({ Slice.empty with miss := m } : Slice).missOf 0 (0x100 % 2 ^ 56 / 64) = none ∧ 64 ≤ m.length))) := by decide +kernel

/-- An atomic behind a lower fibre's of the same instruction that waits at another line. -/
theorem witness_RequestsWaitBehind :
    let q : Req := { aReq (.atom 0xC0 1 0) with va := 0x1940 }
    let r : Req := { aReq (.atom 0xC0 1 0) with fib := 1 }
    let S : Slice := { heldLine [] with miss := [(0, { asid := 0, line := 0x1940 / 64, reqs := [q], st := .lookup })] }
    q ∈ S.miss.flatMap (·.2.reqs) ∧ r.behind q = true ∧ S.missOf 0 (0x100 % 2 ^ 56 / 64) = none ∧ S.miss.length < 64 ∧
      ((heldLine []).miss.flatMap (·.2.reqs)).any r.behind = false := by decide +kernel

/-- Revoked words with and without a held answer. -/
theorem witness_RevokeAcknowledgedMovesTheOwner :
    let a : RevAck := { core := 3, asid := 0, line := 4, word := 0 }
    let q := aReq (.store [1, 2, 3, 4] false)
    let s := fun (o : Owner) => ({ State.reset with revAcks := [a], slices := [(aHome, heldLine [(0, o)])] } : State)
    aHome = vaHome 0 (64 * 4) ∧
    ((s (.revoke 3 none none)).revAcks[0]? = some a ∧
      tabGet ((s (.revoke 3 none none)).slice aHome).lines (0 * 2 ^ 50 + 4) = some (aLine [(0, .revoke 3 none none)]) ∧
      ((s (.revoke 3 none none)).slice aHome).missOf 0 4 = none) ∧
    (tabGet (aLine [(0, .revoke 3 (some (q, .ack true)) (some 2))]).owners 0 = some (.revoke 3 (some (q, .ack true)) (some 2)) ∧
      (aLine [(0, .core 2)]).stillHeld (q, .ack true) = false) := by decide +kernel

/-- A state with that table. -/
def tabled (last : Nat) : State := { State.reset with mem := tableMem last }

/-- A miss at each stage; a walk that finds a page, an absent one and none; a line to fill, with a request and without. -/
theorem witness_MissesTranslateAndFill :
    let m : Miss := { asid := 0, line := 4, reqs := [aReq (.load false false)], st := .lookup }
    let s := fun (m : Miss) (last : Nat) => ({ tabled last with slices := [(aHome, { Slice.empty with miss := [(0, m)] })] } : State)
    tabGet ((s m 0x3F).slice aHome).miss 0 = some m ∧ tabGet ((s { m with st := .walking } 0x3F).slice aHome).miss 0 = some { m with st := .walking } ∧
    (match (s { m with st := .walking } 0x3F).walk 0 m.va with
      | .found e => decide (e.pa m.va = 0x40000100) && !(s { m with st := .walking } 0x3F).heldFrame (e.pa m.va) | _ => false) = true ∧
    (s { m with st := .walking } 0).walk 0 m.va = .unmapped ∧
    (match (s { m with st := .walking } 0x1F).walk 0 m.va with | .absent _ _ => true | _ => false) = true ∧
    (s { m with st := .walking } 0).behindFault (aReq (.load false false)) = false ∧ aReq (.load false true) ≠ aReq (.load true false) ∧
    (aLeaf.peer = 0 ∧ aLeaf.sliceOnly = false ∧ inTier aLeaf.pa = true ∧ (s m 0x3F).heldFrame aLeaf.pa = false ∧
      tabGet ((s { m with st := .ready aLeaf } 0x3F).slice aHome).lines (0 * 2 ^ 50 + 4) = none ∧
      tabGet ((s { m with st := .ready aLeaf } 0x3F).slice aHome).lines 0 = none ∧
      (s m 0x3F).behindFault (aReq (.load false false)) = false ∧ ((s m 0x3F).slice aHome).held = [] ∧
      ((s m 0x3F).slice aHome).lines.length + ((s m 0x3F).slice aHome).plines.length < 32768 ∧ ((s { m with reqs := [] } 0x3F).slice aHome).miss =
        [(0, { m with reqs := [] })] ∧
      (s { m with st := .ready aLeaf } 0x3F).leafFault (aReq (.load false false)).need aLeaf (aLeaf.pa + 0x100 % 64) = none) := by
  decide +kernel

/-- A monitor whose time is up, of a wave that runs and of one that is saved; a PGREQ of an absent page and of one that is there. -/
theorem witness_WaitsForWordsAndPages :
    let m : Monitor := { asid := 0, va := 0x100, grp := 1, wave := 0, fib := 0, slot := 0, core := 2, ctx := 0, tmo := 5, rebound := false }
    let s := fun (m : Monitor) => withGroup id fun s =>
      { s with mem := tableMem 0x3F, now := 260 * 5, slices := [(aHome, { Slice.empty with monitors := [(0, m)] })] }
    let p : PageReq := { req := aReq (.load false false), posted := false }
    (tabGet ((s m).slice aHome).monitors 0 = some m ∧ m.tmo ≤ (s m).ticks ∧ m.asid ≠ physAsid ∧
      (match (s m).homeRead 0 0x100 4 { r := true } with | .ok _ => true | .error _ => false) = true) ∧
    (∃ W, (s { m with rebound := true }).wave 1 0 = some W ∧ (W.fib 0).st = .live) ∧
    (({ tabled 0x1F with xl := { State.reset.xl with pgreqs := [p] } } : State).xl.pgreqs[0]? = some p ∧
      (match (tabled 0x3F).walk 0 0x100 with | .found _ => true | _ => false) = true ∧
      (match ({ tabled 0x1F with mem := tabSet (tableMem 0x1F) 0x3003 0x40 } : State).walk 0 0x100 with
        | .absent tag _ => decide (tag ≠ 0) | _ => false) = true) := by
  refine ⟨by decide +kernel, ⟨_, rfl, by decide +kernel⟩, by decide +kernel⟩

/-- A core at a regroup boundary; a request for registers that fits, and a core whose waves all wait for more than there is; an ISYNC with
nothing outstanding; a group that is resident. -/
theorem witness_CoreServesItsWaves :
    (let s := withGroup id id
     ∃ G W, s.group 1 = some G ∧ G.core? = some 2 ∧ tabGet G.waves 0 = some W ∧ W.run = .running ∧ (s.core 2).cycles % 4 = 0 ∧
       s.residents 2 = [(1, G)] ∧ G.place = .core 2 ∧ G.firmware = false ∧ G.twin = none) ∧
    (let r : GrowReq := { grp := 1, wave := 0, fibres := [0], need := 1, n := 1 }
     let f : Group → Group := fun G => fibre (fun F => { F with alloc := 16, wait := .wgrow 1 0 }) { G with hdr := { G.hdr with units := 1 } }
     let s := fun (n : Nat) => withGroup f fun s => s.modCore 2 fun C => { C with regg := n, grow := [r] }
     ((s 64).grantable 2 = some (r, [0], 1) ∧ ∃ W, (s 64).wave 1 0 = some W ∧ (W.fib 0).st = .live) ∧
     (s 0).allGrow 2 = true ∧ ∀ x ∈ (s 0).pendingGrow 2, (s 0).poolFree 2 < x.2.2) ∧
    (let i : Instr := .isync { g := 7, a := .v 8, b := .v 10 }
     let s := withGroup (entryIn 16 (anEntry i { anAcc with data := [64, 0] })) id
     ∃ W, s.wave 1 0 = some W ∧ tabGet W.sb 16 = some (anEntry i { anAcc with data := [64, 0] }) ∧ W.writesDone 0 0 = true) := by
  refine ⟨⟨_, _, rfl, by decide +kernel, rfl, by decide +kernel, by decide +kernel, by decide +kernel, by decide +kernel, by decide +kernel,
    by decide +kernel⟩, ⟨⟨by decide +kernel, _, rfl, by decide +kernel⟩, by decide +kernel, by decide +kernel⟩, ⟨_, rfl, by decide +kernel, by decide +kernel⟩⟩


/-! ## Hypotheses of statements about engines, routers and objects -/

/-- A copy of core 2, that began and did not. -/
def aCopy (op : Nat) (begun : Bool) (st : SegState) : Copy :=
  { owner := .wave 1 0 32 0, op := op, tag := 3, queue := 0, asid := 0, ctx := 0, src := 0x100, dst := 0x200, len := 8, bar := none,
    begun := begun, segs := if begun then [⟨0, 8, 0x100, 0x200, st, none⟩] else [], failed := false }
/-- It stands in the engine of its core, its entry in its wave. -/
def copyState (C : Copy) (k : Group → Group) : State :=
  withGroup (fun G => k (entryIn 32 (anEntry (.cpg2s { g := 7, tag := 3, a := .v 8, b := .v 12 }) anAcc) { G with tags := [(3, ⟨1, false, false, false, false⟩)] }))
    fun s => { s with mem := tableMem 0x3F, eng := { s.eng with copy := [(2, { copies := [(0, C)], queues := [(0, [.copy 0])] })] } }

/-- A copy that waits, one whose segment waits, of each operation, to and from a mapped page; one that is done, of a resident group and
of a saved one. -/
theorem witness_CopiesRunToTheirTags :
    (let C := aCopy 0xB0 false .waiting
     let s := copyState C id
     s.nextCopy 2 (tabVal [] (s.copyEng 2).queues 0) = some 0 ∧ tabGet (s.copyEng 2).copies 0 = some C ∧ s.scratchThere C false = true) ∧
    (∀ op ∈ [0xB0, 0xB1, 0xB2], let C := aCopy op true .waiting
     let s := copyState C id
     C.segs[0]? = some ⟨0, 8, 0x100, 0x200, .waiting, none⟩ ∧ s.scratchThere C false = true ∧ s.segsUnderWay 2 = 0) ∧
    (∀ op ∈ [0xB0, 0xB1, 0xB2], let C := aCopy op true .here
     let s := copyState C id
     tabGet (s.copyEng 2).copies 0 = some C ∧ C.segs[0]? = some ⟨0, 8, 0x100, 0x200, .here, none⟩ ∧ s.scratchThere C true = true ∧
     (s.group 1).isSome = true ∧ (s.pairOf 1).Nodup ∧ s.runBusy 0 0x100 8 = false ∧ s.runBusy 0 0x200 8 = false ∧
     canonical 0x100 = true ∧ canonical 0x200 = true ∧
     (match s.locate 0 0x100 (C.need false), s.locate 0 0x200 (C.need true) with
      | .peer _ _, _ => false | _, .peer _ _ => false | _, _ => true) = true ∧
     (match s.readRun 0 0x100 8 (C.need false) with | .ok _ => true | .error _ => false) = true ∧
     (match s.writeRun 0 0x200 (List.replicate 8 1) (C.need true) with | .ok _ => true | .error _ => false) = true) ∧
    (let C : Copy := { aCopy 0xB2 true .here with src := 2 ^ 55, segs := [⟨0, 8, 2 ^ 55, 0x200, .here, none⟩] }
     (copyState C id).runBusy 0 (2 ^ 55) 8 = false ∧ canonical (2 ^ 55) = false) ∧
    (let C := aCopy 0xB2 true .sent
     let s := { copyState C id with chans := [(chanId 2 (640 + aHome), { Chan.idle with window := [⟨aReq (.seg 2 0 0), .wire, 0⟩] })] }
     chanDst (chanId 2 (640 + aHome)) = 640 + aHome ∧ aHome < 128 ∧
       nextWire (s.chan (chanId 2 (640 + aHome))).window = some (0, aReq (.seg 2 0 0), true) ∧ (C.segs[0]?).map (·.st) = some .sent) ∧
    ((aCopy 0xB2 true .written).segs[0]?.map (·.st) = some .written ∧ (copyState (aCopy 0xB2 true .written) id).runBusy 0 0x200 8 = false) ∧
    (let C := aCopy 0xB0 true .done
     let s := copyState C id
     tabGet (s.copyEng 2).copies 0 = some C ∧ C.complete = true ∧ 2 ≠ savedCopies ∧ (s.group 1).map (·.place) = some (.core 2) ∧
     ((s.wave 1 0).bind fun W => tabGet W.sb 32).isSome = true ∧ (s.group 1).bind (fun G => tabGet G.tags 3) = some ⟨1, false, false, false, false⟩ ∧
     C.bar = none ∧ s.isSaved 1 = false ∧ (s.pairOf 1).Nodup ∧
     (copyState C fun G => { G with place := .saved 2 }).isSaved 1 = true) := by decide +kernel

/-- A pass of one product column on operands in the scratchpad. -/
def aPass (st : PassState) : Pass :=
  { grp := 1, wave := 0, slot := 40, fib := 0, core := 2,
    blk := [0, 16, 16 * 2 ^ 16 + 1, 16 * 2 ^ 16 + 1, 0, 0, 0, 0, 0, 0, 0, 0, 0, 0, 0, 0].map (BitVec.ofNat 32), kp := [0, 0, 0, 0],
    capA := [], capB := [], order := 0, turn := 0, passedOver := 0, st := st, redirected := false, late := false, opA := [], opB := [],
    meta_ := [], staged := none }
/-- A scaled one, whose scale lines are in memory. -/
def scaledPass : Pass := { aPass .granted with blk := [0x30, 16, 16 * 2 ^ 16 + 1, 16 * 2 ^ 16 + 1, 0, 0, 0, 0, 0x100, 0, 0x200, 0, 0, 0, 0, 0].map (BitVec.ofNat 32) }
/-- It stands in its quad's engine. -/
def passState (p : Pass) : State :=
  withGroup (entryIn 40 (anEntry (.mxgo { g := 7, a := .v 8 }) anAcc)) fun s =>
    { s with mem := tableMem 0x3F, eng := { s.eng with matrix := [(quadOf 2, { Matrix.empty with entries := [(0, p)] })] } }

/-- A pass that may be granted, a late one, one that misses a scale line, one that is checked, one that commits. -/
theorem witness_PassesRunToTheirCommit :
    (let p := aPass .reserved
     let s := passState p
     let M := s.matrix (quadOf 2)
     M.gated = false ∧ s.mxStalled (quadOf 2) = false ∧ (M.entries.filter fun e => e.2.st == .granted).length < 3 ∧ quadOf 2 < 108 ∧
     s.bestPass (M.entries.filter fun e => s.passEligible e.2) = some (0, p) ∧ tabGet M.entries 0 = some p ∧
     (match s.group 1 with
      | some G => match s.fetchPass G p none with | .ok _ => true | .error _ => false
      | none => false) = true ∧
     (∀ r ∈ (blockOf p.blk).opA.runs ++ (blockOf p.blk).opB.runs ++ (blockOf p.blk).metaRuns, s.homeBusy 0 r.1 r.2 = false)) ∧
    ((passState { aPass .granted with late := true }).matrix (quadOf 2)).oldest (·.late) = some (0, { aPass .granted with late := true }) ∧
    (let s := passState scaledPass
     let M := s.matrix (quadOf 2)
     s.scaleLate (quadOf 2) = some (0, scaledPass) ∧
     (M.scaleMisses (s.passAsid scaledPass) scaledPass).head? = some (0x100, 2) ∧ s.homeBusy 0 0x100 64 = false ∧
     (match s.homeRead 0 0x100 64 { r := true } with | .ok _ => true | .error _ => false) = true ∧ M.scale.length < scaleCap) ∧
    (let p := aPass .granted
     let M := (passState p).matrix (quadOf 2)
     (M.oldest fun p => p.st == .granted) = some (0, p) ∧ (passState p).mxStalled (quadOf 2) = false) ∧
    (let p : Pass := { aPass .committing with staged := some ⟨[(0, 5), (1, 6)], 1, 7⟩ }
     let M := (passState p).matrix (quadOf 2)
     (M.oldest fun p => p.st == .committing) = some (0, p) ∧ ((passState p).wave 1 0).isSome = true ∧ (passState p).mxStalled (quadOf 2) = false ∧ ((passState p).pairOf 1).Nodup ∧
     ([(0, 5), (1, 6)].map (·.1) : List Nat).Nodup) := by decide +kernel

/-- A tile operation in its entry, its tiles held by nothing. -/
def tileState (i : Instr) (data : List Word) : State :=
  withGroup (entryIn 40 (anEntry i { anAcc with data := data, dst := [.v 4, .v 5, .v 6, .v 7] })) id
/-- What the statement asks of it. -/
def tileMet (i : Instr) (data : List Word) : Bool :=
  let s := tileState i data
  match s.group 1, s.wave 1 0 with
  | some G, some W => match tabGet W.sb 40 with
    | some e => decide (s.pairOf 1).Nodup && !G.isTwin && G.core?.isSome && !s.earlierTile 1 0 G W e.age (s.entryTiles 1 0 40 e) &&
        !s.tileHeld (primaryOf 1 G) true (s.entryTiles 1 0 40 e) && !s.tileHeld 1 false (s.entryTiles 1 0 40 e)
    | none => false
  | _, _ => false

/-- MXRD, MXCLR, MXWR, MXSC; a request to the histogram unit. -/
theorem witness_TileOperationsComplete :
    (∀ i ∈ ([.mxrd { g := 7, d := .v 4, a := .v 8 }, .mxclr { g := 7, tm := 3 }, .mxwr { g := 7, a := .v 8, b := .v 12 },
      .mxsc { g := 7, a := .v 8, b := .v 12 }] : List Instr), tileMet i [0, 1, 2, 3, 4] = true) ∧
    (let r : HistReq := { grp := 1, wave := 0, slot := 40, fib := 0, off := 0, ctl := 15 }
     let s := withGroup (entryIn 40 (anEntry (.mxhist { g := 7, d := .v 4, a := .v 8, b := .v 12 }) anAcc)) fun s =>
       { s with eng := { s.eng with matrix := [(quadOf 2, { Matrix.empty with hist := [r] })] } }
     (s.matrix (quadOf 2)).hist = [r] ∧ (s.pairOf 1).Nodup ∧
     (match s.wave 1 0 with
      | some W => match tabGet W.sb 40 with
        | some e => decide (W.sb.find? (fun y => y.2.age == e.age) = some (40, e))
        | none => false
      | none => false) = true) := by decide +kernel

/-- The handle of slot 2 of home 0, kind 1, window 16, of context 0. -/
def hLo : Word := BitVec.ofNat 32 (2 ^ 7 + 16 * 2 ^ 9)
def hHi : Word := BitVec.ofNat 32 (2 * 2 ^ 16)
def pushReq : Req := { aReq (.push hLo hHi 9) with slot := 40, home := 0 }
def popReq : Req := { aReq (.pop hLo hHi) with slot := 41, fib := 1, home := 0 }
/-- Mesh contents. -/
def meshed (m : Mesh → Mesh) : State := { State.reset with mesh := m State.reset.mesh }

/-- A channel of core 2 to its router, and a state in which an operation arrived by it in mesh cycle 3. -/
def meetCh : Nat := chanId 2 (512 + routerOfCore 2)
def meets (r : Req) (m : Mesh → Mesh) : State :=
  { meshed m with now := 13 * 5, chans := [(meetCh, { Chan.idle with buf := [⟨r, 3, false⟩] })] }
/-- A router's table that knows the handle. -/
def knows (router : Nat) : Tab GenEntry := [(genKey router (handleHome hLo) (handleSlot hHi), ⟨true, handleGen hLo⟩)]

/-- Operations with and without an eligible partner, one whose router knows no such object, one that arrives where it did not enter the
mesh, one whose window has ended, one whose group is being saved. -/
theorem witness_ClaspsMeet :
    let r0 := routerOfCore 2
    let d : Dwell := { router := r0, since := 0, req := pushReq }
    let s := meets popReq fun m => { m with dwells := [d], genTable := knows r0 }
    let t := meets pushReq fun m => { m with dwells := [{ d with req := popReq }], genTable := knows r0 }
    let u := meets pushReq fun m => { m with genTable := knows r0 }
    (∀ x ∈ [(s, popReq), (t, pushReq), (u, pushReq)], x.1.meeting[0]? = some (meetCh, 0, ⟨x.2, 3, false⟩) ∧ 3 < x.1.meshCycles ∧
      x.1.meeting.any (arrivedBefore · (meetCh, 0, ⟨x.2, 3, false⟩)) = false ∧ r0 = chanDst meetCh - 512 ∧ x.1.eligible r0 x.2 = true) ∧
    (s.partner r0 3 popReq = some (0, d) ∧ t.partner r0 3 pushReq = some (0, { d with req := popReq }) ∧
      popReq.op = .pop hLo hHi ∧ pushReq.op = .push hLo hHi 9) ∧
    (u.partner r0 3 pushReq = none ∧ r0 = routerOfCore pushReq.core ∧ u.dwellingAt r0 3 < 16 ∧ r0 ≠ routerOfCore 30) ∧
    (meets pushReq id).eligible r0 pushReq = false ∧
    (s.partner r0 16 popReq = none ∧
      ((s.mesh.dwells.mapIdx fun i (d : Dwell) => (i, d)).filter fun x => x.2.router == r0)[0]? = some (0, d) ∧
      (let x := { meshed (fun m => { m with dwells := [d] }) with now := 13 * 1000 }
       d.since + d.win ≤ x.meshCycles ∧ x.meeting = []) ∧
      (withGroup (fun G => { G with place := .saving 2 }) id).leaving pushReq = true) := by decide +kernel

/-- Operations at an object that has room and values, one that is full, one that is empty, one that is gone, one of another address space. -/
theorem witness_ClaspsAndObjects :
    let o : ObjEntry := { ObjEntry.free with gen := handleGen hLo, used := true, kind := 1, cap := 4, count := 2 }
    let s := fun (o : ObjEntry) (r : Req) =>
      ({ meshed (fun m => { m with falls := [r] }) with slices := [(0, { Slice.empty with objs := [(handleSlot hHi, o)] })] } : State)
    (∀ r ∈ [pushReq, popReq], ∀ x ∈ [o, { o with count := 4 }, { o with count := 0 }, { o with gen := 5 }, { o with asid := 7 }],
      (s x r).mesh.falls[0]? = some r ∧ r.clasp.isSome = true ∧ ((s x r).mesh.falls.take 0) = [] ∧
        ((s x r).slice r.home).obj (handleSlot hHi) = x) ∧
    o.gen = handleGen hLo ∧ o.asid = bits hHi.toNat 0 16 ∧ 5 ≠ handleGen hLo ∧ 7 ≠ bits hHi.toNat 0 16 := by decide +kernel

/-- A window that has ended, with memory-bound groups: by its NACKs congested and not, by its occupancy congested. -/
theorem witness_CongestionWindowsEnd :
    let s := fun (r : Router) => withGroup (fun G => { G with hdr := { G.hdr with roles := 16 } }) fun s =>
      { s with now := 13 * 4096, mesh := { s.mesh with routers := [(5, r)] }, cp := { s.cp with ctxs := [(0, ⟨0, 1, 0, 16⟩)] } }
    let occ := fun (r : Router) n => min 255 (255 * ((s r).router n).curOcc / (8 * portCount n * ((s r).meshCycles - (s r).mesh.winBegan)))
    (((s Router.zero).memBound 0).length = 1 ∧ (s Router.zero).memBound 1 = [] ∧
      (s Router.zero).mesh.winBegan + 4096 ≤ (s Router.zero).meshCycles) ∧
    (∀ n < 96, n / 48 = 0 → min ((s Router.zero).router n).curNacks 0xFFFF < ((s Router.zero).baseDie 0).nthr ∧
      occ Router.zero n < ((s Router.zero).baseDie 0).othr) ∧
    (5 / 48 = 0 ∧ ((s { Router.zero with curNacks := 0x400 }).baseDie 0).nthr ≤ min ((s { Router.zero with curNacks := 0x400 }).router 5).curNacks 0xFFFF ∧
      ((s { Router.zero with curOcc := 10000000 }).baseDie 0).othr ≤ occ { Router.zero with curOcc := 10000000 } 5) ∧
    (withGroup (fun G => { G with held := true }) id).group 1 = some (groupWith (fun G => { G with held := true }) idleI) := by decide +kernel

/-- Writes at a router, of an entry and of none; acknowledgements with one router left and more, of a registration and of a drop. -/
theorem witness_MeshTablesAndWindows :
    let w : GenWrite := { router := 3, home := 0, slot := 2, gen := 1, valid := true, op := 0 }
    let o : ObjOp := { req := pushReq, home := 0, slot := 2, left := 1, drop := false, handle := [hLo, hHi], waits := [], started := true, old := none }
    (∀ x ∈ [w, { w with valid := false }],
      let s := { meshed id with chans := [(chanId 640 (512 + 3), { Chan.idle with buf := [⟨aReq (.gen x), 5, false⟩] })] }
      s.genHere[0]? = some (chanId 640 (512 + 3), 0, 5, x) ∧ s.genHere.length = 1 ∧ s.meeting = []) ∧
    (∀ x ∈ [o, { o with left := 2 }, { o with old := some ObjEntry.free, drop := true }],
      let s := meshed fun m => { m with genAcks := [w], objOps := [(0, x)] }
      s.mesh.genAcks[0]? = some w ∧ tabGet s.mesh.objOps w.op = some x) := by decide +kernel


/-! ## Hypotheses of statements about fault engines, groups, queues and packets -/

/-- A subject: the wave of the loaded program. -/
def aSubject (cause : Nat) : Subject :=
  { of := .wave, cause := cause, late := false, die := 0, ctx := 0, asid := 0, gid := 0, grp := 1, wave := 0, core := 2, fpc := 0, va := 0,
    tdet := 0, fmask := 1, gmask := 1, w0 := 0, w1 := 0, exc := [], detail := 0, bundle := 1, len := 4, move := .none, tail := [] }
/-- A record of it, index 0 of die 0. -/
def aRecord (st : RecState) : Record :=
  { gen := 1, subj := aSubject 0x10, st := st, depth := 0, prio := 0, remote := false, dlmiss := false, parent := 0, tdl := 5, budget := 0,
    peer := 0, tdie := 0, handler := 0x10040, toFirmware := false, hgrp := none, queued := true, rerouted := false }
def aRid : Nat := ridOf 0 0 1
/-- A kernel header with these roles. -/
def headerBytes (roles flags : Nat) : List Byte :=
  let h := [0x45, 0x54, 0x4B, 0x48] ++ natBytes 2 1 ++ natBytes 2 0x0102 ++ natBytes 2 1 ++ natBytes 2 1 ++ natBytes 4 0 ++ natBytes 1 0 ++
    natBytes 1 roles ++ natBytes 2 0 ++ natBytes 1 2 ++ natBytes 1 flags ++ natBytes 4 0 ++ natBytes 2 0 ++ natBytes 4 64 ++ natBytes 4 4 ++
    natBytes 4 1 ++ natBytes 4 0 ++ natBytes 16 0
  h ++ natBytes 4 (crc32c h).toNat
/-- A handler's header stands before the entry 0x10040 in the first GiB. -/
def handlerMem : List Host.Cell := memPutBytes (tableMem 0x3F) 0x40010000 (headerBytes 3 0)
/-- Cuset runs; context 0 has die 0. -/
def cuset (s : State) : State :=
  { s with fw := { s.fw with recovery := false }, cp := { s.cp with ctxs := [(0, { asid := 0, part := 1, routes := 0, allow := 0 })] } }
/-- The fault engine of die 0. -/
def engine (E : FaultEng) (s : State) : State := { s with eng := { s.eng with faults := [(0, E)] } }
/-- The task of the record waits in class 0. -/
def tasked (R : Record) (s : State) : State :=
  let t := engine { FaultEng.empty with recs := [(0, R)] } s
  { t with cp := { t.cp with tasks := [(0, [.own aRid])] } }

/-- A detected subject at rest, a held one; tasks of a handler that may start, of the default handler; deadlines and a budget. -/
theorem witness_FaultEnginesRun :
    (let x := aSubject 0x11
     let s := withGroup (inWave fun W => { W with run := .draining }) (engine { FaultEng.empty with detected := [x] })
     let u := withGroup (inWave fun W => { W with run := .draining }) (engine { FaultEng.empty with heldSubs := [x] })
     freeFrom ((s.faultEng 0).recs.map (·.1)) 4096 0 = some 0 ∧ s.engineTakes = true ∧ s.depthOf x = 0 ∧
     (s.faultEng 0).detected.find? s.atRest = some x ∧ s.subjectStands x = true ∧ (s.faultEng 0).heldSubs = [] ∧
     (u.faultEng 0).heldSubs = [x] ∧ u.atRest x = true ∧
     (∀ d < 2, freeFrom ((u.faultEng 0).recs.map (·.1)) 4096 0 = some 0 ∧ u.engineTakes = true ∧ u.depthOf x = 0 ∧ d < 12)) ∧
    (let R := aRecord .parked
     let s := tasked R (cuset { State.reset with mem := handlerMem })
     s.switching = false ∧ s.cpRuns = true ∧ s.dieLost 0 = false ∧ s.nextTask (tabVal [] s.cp.tasks (8 * 0 + 0)) = some (.own aRid) ∧
     s.record aRid = some R ∧
     (match (s.handlerHeader (s.inFirmware R.subj) R.subj.asid R.handler).filter (·.fault) with
      | some h => !s.lowerWork 2 0 && (s.admitHandler 0 2 { handlerGroup h R.handler aRid R.subj.cause R.depth R.budget R.subj.ctx R.subj.asid 0 0 with
          firmware := s.inFirmware R.subj && h.roles.testBit 3 }).isSome
      | none => false) = true) ∧
    (let R : Record := { aRecord .parked with toFirmware := true, handler := 0 }
     let s := tasked R (cuset (withGroup (inWave fun W => { W with run := .parked aRid }) fun s => { s with mem := tableMem 0x3F }))
     s.record aRid = some R ∧ (match s.walk 0 R.subj.va with | .found _ => true | _ => false) = true) ∧
    (let s := { tasked (aRecord .parked) State.reset with now := 260 * 5 }
     s.record aRid = some (aRecord .parked) ∧ (aRecord .parked).tdl ≤ s.ticks ∧ (aRecord .parked).tdl ≠ 2 ^ 64 - 1 ∧
       (aRecord .parked).queued = true) ∧
    (let R : Record := { aRecord .handling with hgrp := some 1, queued := false }
     let s := withGroup id fun s => { tasked R s with now := 260 * 5 }
     s.record aRid = some R ∧ R.tdl ≤ s.ticks ∧ R.owed = false ∧ (s.group 1).map (·.parked) = some false) ∧
    (let R : Record := { aRecord .handling with hgrp := some 1, queued := false }
     let s := withGroup (fun G => { G with frec := aRid, budget := some 0 }) (tasked R)
     s.record aRid = some R ∧ (s.group 1).map (·.parked) = some false ∧ (s.group 1).map (·.budget) = some (some 0) ∧ aRid ≠ 0 ∧
     (s.groups.filter fun e => e.2.frec == aRid).map (·.1) = [1]) := by decide +kernel

/-- The FAULTTASK of module 9's record, whose handler has a header and room. -/
theorem witness_RemoteTasksStart :
    let p := natBytes 8 0 ++ natBytes 4 1 ++ natBytes 1 0x11 ++ natBytes 1 0 ++ natBytes 1 0 ++ natBytes 1 0 ++ natBytes 8 0x10040 ++
      natBytes 8 0 ++ natBytes 8 99 ++ natBytes 24 0
    let t := cuset { State.reset with mem := handlerMem }
    let s := { t with cp := { t.cp with tasks := [(1, [.remote 9 0 p false])] } }
    s.switching = false ∧ s.cpRuns = true ∧ s.dieLost 0 = false ∧ s.lowerWork 2 1 = false ∧
    s.nextTask (tabVal [] s.cp.tasks (8 * 0 + 1)) = some (.remote 9 0 p false) ∧
    (match (s.readHeader (((s.ctx 0).map (·.asid)).getD 0) (pkt p 0x10 8)).filter (·.fault) with
      | some h => (s.admitHandler 0 2 (handlerGroup h (pkt p 0x10 8) (pkt p 8 4) (pkt p 0x0C 1) (pkt p 0x0E 1) (pkt p 0x18 4) 0
          (((s.ctx 0).map (·.asid)).getD 0) 1 9)).isSome
      | none => false) = true := by decide +kernel

/-- A queue of context 0 in slot 0 of die 0, its ring in the first GiB. -/
def aQueue : QSlot :=
  { QSlot.free with st := .mapped, desc := 0x30000, ring := 0x20000, log2 := 4, wr := 1 }
/-- Its packet. -/
def queueState (p : List Byte) (k : QSlot → QSlot) : State :=
  cuset { State.reset with
    mem := memPutBytes handlerMem 0x40020000 p, cp := { State.reset.cp with slots := [(0, k aQueue)] } }
/-- A LAUNCH of one group of the kernel at 0x10040. -/
def launchPkt : List Byte := natBytes 1 1 ++ natBytes 7 0 ++ natBytes 8 0x10040 ++ natBytes 4 1 ++ natBytes 44 0
/-- A launch that runs with one more group to start. -/
def dealtLaunch : Launch :=
  { aLaunch with desc := 0x30000, entry := 0x10040, hdr := headerFields (headerBytes 3 0) 0x10040, groups := 2, left := 2,
                 waiting := [{ gid := 1, core := 3, twin := none, rejoin := false }] }

/-- A group that is saved and one that comes back; a LAUNCH packet that may begin; a launch that admits a group. -/
theorem witness_GroupsAreSavedAndStarted :
    ((withGroup (fun G => { G with place := .saving 2 }) id).saveReady 1 = true ∧
      ((withGroup (fun G => { G with place := .saving 2 }) id).pairOf 1).Nodup) ∧
    (let s := withGroup (fun G => { G with place := .saved 2 }) id
     (s.seat 1 3).isSome = true ∧ (match s.group 1 with | some G => s.comesWith 1 G = [] && !s.lowerWork 3 G.cls | none => false) = true) ∧
    (let s := queueState launchPkt id
     s.dieLost 0 = false ∧ s.nextPacket (slotKey 0 0) = some launchPkt ∧ pktType launchPkt = 1 ∧ pktHeadOk launchPkt = true ∧
     launchOk launchPkt = true ∧
     (match s.newLaunch 0 (slotKey 0 0) (s.qslot (slotKey 0 0)).rd launchPkt with | some L => L.groups != 0 | none => false) = true) ∧
    (let t := queueState launchPkt id
     let s := { t with cp := { t.cp with launches := [(1, dealtLaunch)] } }
     tabGet s.cp.launches 1 = some dealtLaunch ∧ s.slotOfDesc dealtLaunch.die dealtLaunch.desc = some 0 ∧ (s.qslot 0).st = .mapped ∧
     s.switching = false ∧ s.cpRuns = true ∧ (s.startOne 1 dealtLaunch).isSome = true) := by decide +kernel

/-- Packets. -/
def nopPkt : List Byte := natBytes 64 0
def signalPkt : List Byte := natBytes 8 3 ++ natBytes 8 0x40000 ++ natBytes 8 0 ++ natBytes 8 7 ++ natBytes 32 0
def subPkt : List Byte := natBytes 8 3 ++ natBytes 8 0x40000 ++ natBytes 8 1 ++ natBytes 8 3 ++ natBytes 32 0
def stepmarkPkt : List Byte := natBytes 8 6 ++ natBytes 8 0x30000 ++ natBytes 8 0 ++ natBytes 1 4 ++ natBytes 39 0
def barrierPkt : List Byte := natBytes 8 2 ++ natBytes 7 0x40000 ++ natBytes 49 0
def qfencePkt (n : Nat) : List Byte := natBytes 8 5 ++ natBytes 8 0x30000 ++ natBytes 8 n ++ natBytes 40 0
def copyPkt : List Byte := natBytes 8 4 ++ natBytes 8 0x40000 ++ natBytes 8 0x50000 ++ natBytes 8 64 ++ natBytes 32 0
/-- What every clause of the statement asks. -/
def packetMet (p : List Byte) (ty : Nat) : Bool :=
  let s := queueState p id
  !s.dieLost 0 && decide (s.nextPacket 0 = some p) && pktHeadOk p && decide (pktCompl p = 0) && decide (pktType p = ty) &&
    decide (slotKey 0 0 = 0) && decide ((s.qslot 0).begun = []) && decide ((s.qslot 0).done = (s.qslot 0).rd)

/-- Each packet, with the signals and counts that satisfy it and that do not; a TYPE of none; packets that wait. -/
theorem witness_PacketsRun :
    (packetMet nopPkt 0 = true ∧ zeroAt nopPkt [(8, 56)] = true) ∧
    (packetMet signalPkt 3 = true ∧ canonical (pkt signalPkt 8 8) = true ∧ pkt signalPkt 8 8 % 8 = 0 ∧ pkt signalPkt 16 1 = 0 ∧
      zeroAt signalPkt [(17, 7), (32, 32)] = true ∧
      (((queueState signalPkt id).beginPacket 0 signalPkt .finished).signal 0 (pkt signalPkt 8 8) (fun _ => signed64 (pkt signalPkt 24 8))).isSome = true ∧
      (queueState signalPkt id).signalHeld 0 (pkt signalPkt 8 8) = false) ∧
    (packetMet subPkt 3 = true ∧ pkt subPkt 8 8 = pkt signalPkt 8 8 ∧ pkt subPkt 16 1 = 1 ∧ 1 ≤ signed64 (pkt subPkt 24 8) ∧
      zeroAt subPkt [(17, 7), (32, 32)] = true ∧ (((queueState subPkt id).beginPacket 0 subPkt .finished).signal 0 (pkt subPkt 8 8) (fun old =>
        if 0 < old then max (old - signed64 (pkt subPkt 24 8)) 0 else old)).isSome = true) ∧
    (packetMet stepmarkPkt 6 = true ∧ canonical (pkt stepmarkPkt 8 8) = true ∧ pkt stepmarkPkt 24 1 = 4 ∧ zeroAt stepmarkPkt [(25, 39)] = true) ∧
    (packetMet barrierPkt 2 = true ∧ (barrierSignals barrierPkt).all signalOk = true ∧
      ((queueState barrierPkt id).beginPacket 0 barrierPkt (.barrier (barrierSignals barrierPkt))).readSignals 0 (barrierSignals barrierPkt) = .satisfied ∧
      (let s := queueState barrierPkt id
       ({ s with mem := memPut s.mem 0x40040000 1 }.beginPacket 0 barrierPkt (.barrier (barrierSignals barrierPkt))).readSignals 0
         (barrierSignals barrierPkt) = .pending)) ∧
    (∀ n ∈ [0, 1], packetMet (qfencePkt n) 5 = true ∧
      ((qfenceWaits (qfencePkt n)).all fun w => canonical w.1 && w.1 % 64 == 0) = true ∧ zeroAt (qfencePkt n) [(56, 8)] = true ∧
      ((queueState (qfencePkt n) id).beginPacket 0 (qfencePkt n) (.qfence (qfenceWaits (qfencePkt n)))).countsReached 0 (qfenceWaits (qfencePkt n)) =
        some (n == 0)) ∧
    (packetMet copyPkt 4 = true ∧ (queueState copyPkt id).fwSite 0 = some 0 ∧ (pkt copyPkt 8 8, pkt copyPkt 16 8, pkt copyPkt 24 8) = (0x40000, 0x50000, 64) ∧
      zeroAt copyPkt [(32, 32)] = true) ∧
    (let p := natBytes 64 7
     (queueState p id).nextPacket 0 = some p ∧ 7 ≤ pktType p) ∧
    (∀ ws ∈ ([.barrier [0x40000], .qfence [(0x30000, 0)], .qfence [(0x30000, 1)]] : List Flight),
      let b : Begun := { idx := 0, compl := 0, irq := false, fl := ws }
      let s := queueState nopPkt fun q => { q with rd := 1, begun := [b] }
      (s.qslot 0).st = .mapped ∧ s.cpRuns = true ∧ (s.qslot 0).begun = [b] ∧ b.idx = (s.qslot 0).done) ∧
    (queueState nopPkt id).readSignals 0 [0x40000] = .satisfied ∧
    (let s := queueState nopPkt id
     State.readSignals { s with mem := memPut s.mem 0x40040000 1 } 0 [0x40000] = .pending) ∧
    (∀ n ∈ [0, 1], (queueState nopPkt id).countsReached 0 [(0x30000, n)] = some (n == 0)) := by decide +kernel

/-- The descriptor of a queue of context 0 that waits at 0x60000. -/
def waitDesc : List Byte := natBytes 8 0x20000 ++ natBytes 24 0 ++ natBytes 1 4 ++ natBytes 3 0 ++ natBytes 2 16 ++ natBytes 26 0
/-- It waits, and a queue in the only mapped slot has nothing to do. -/
def waitState (k : QSlot → QSlot) : State :=
  let t := queueState nopPkt fun q => k { q with wr := 0 }
  { t with mem := memPutBytes t.mem 0x40060000 waitDesc, cp := { t.cp with seen := [(0x60000, 0)] } }

/-- A free slot and a queue that waits for it, an idle queue whose class waits, held completions that are due, a launch that the host
aborts, a die that is not lost. -/
theorem witness_QueuesGiveWay :
    (let s := waitState fun _ => QSlot.free
     (s.qslot (slotKey 0 0)).st = .free ∧ (s.qslot (slotKey 0 0)).op = none ∧ s.cpRuns = true ∧ s.dieLost 0 = false ∧
     s.nextWaiting 0 none = some (0x60000, 0) ∧ s.waitingDesc 0 (0x60000, 0) = some waitDesc) ∧
    (let s := waitState id
     (s.qslot (slotKey 0 0)).st = .mapped ∧ (s.qslot (slotKey 0 0)).op = none ∧ s.cpRuns = true ∧ s.dieLost 0 = false ∧
     s.classWaits 0 (s.qslot (slotKey 0 0)).cls = true ∧ s.idleQueue (slotKey 0 0) = true) ∧
    (let h : HeldIrq := { fn := 0, vec := 20, deadline := 0 }
     let s := { State.reset with cp := { State.reset.cp with held := [h] } }
     h ∈ s.cp.held ∧ h.deadline ≤ s.ticks) ∧
    (let s := withGroup (fun G => { G with launch := 1 }) fun s =>
       { s with cp := { s.cp with slots := [(0, aQueue)], launches := [(1, { aLaunch with desc := 0x30000 })] } }
     tabGet s.cp.launches 1 = some { aLaunch with desc := 0x30000 } ∧ (s.group 1).map (·.launch) = some 1 ∧ (s.group 1).map (·.isTwin) = some false ∧
     s.slotOfDesc 0 0x30000 = some 0) ∧
    State.reset.dieLost 0 = false := by decide +kernel

/-- A descriptor of a free queue, and a slot that is free. -/
theorem witness_QmapMapsAQueue :
    let i : Instr := .qmap { g := 7, d := .v 4, a := .v 8, b := .v 12 }
    let b : List Byte := natBytes 8 0x20000 ++ natBytes 24 0 ++ natBytes 1 4 ++ natBytes 3 0 ++ natBytes 2 16 ++ natBytes 26 0
    let h : State → State := fun s => cuset { s with mem := memPutBytes (tableMem 0x3F) 0x40030000 b }
    let s := stateWith h (vregs [(8, 0x30000)]) i
    goesIn h (vregs [(8, 0x30000)]) i = true ∧ (s.qslot (slotKey 0 0)).st = .free ∧ s.slotOfDesc 0 0x30000 = none ∧ s.cp.launches = [] ∧
    (match s.readRun (s.descAsid 0 0x30000) 0x30000 64 { r := true } with
      | .ok x => decide (x = b) && s.descOk 0x30000 0 x && decide (hdrField x 0x27 1 ≠ 2) | .error _ => false) = true := by decide +kernel


/-! ## Hypotheses of statements about devices, the host, links and power -/

/-- A store of firmware to a device register on its way. -/
def devState (off val : Nat) (h : State → State) : State :=
  h { State.reset with host := { State.reset.host with
    devq := [{ core := 0, grp := 1, wave := 0, slot := 16, fib := 0, off := off, val := val }] } }
/-- A swap of 1 GiB frames whose leaf entry at 0x3000 maps the first. -/
def aSwap : Swap := { Swap.zero with fa := 0x40000000, fb := 0x80000000, pa := 0x3000 }
/-- One of 64 KiB frames that has run for its time. -/
def runningSwap : Swap := { aSwap with state := 1, runA := 0x40000000, runB := 0x50000000, leafA := 0x3000 }
def swapIn (x : Swap) (s : State) : State := { s with mem := tableMem 0x3F, xl := { s.xl with swaps := [(0, x)] } }

/-- A store to each register; a TLBINV that runs and none; a swap that may start and one that may not; one that has run for its time. -/
theorem witness_DeviceRegistersAndSwaps :
    (∀ off ∈ [0x3000, 0x3008, 0x3040, 0x8000, 0x8000 + 8 * 4095, 0x6008, 0x7020, 0x77E0, 0x3100, 0x6000],
      ((devState off 7 id).devAt 0).map (·.off) = some off) ∧
    (Nat.testBit 7 2 = true ∧ popBits 12 3 ≤ 2 ∧ 2 < popBits 12 7 ∧ 7 + 7 * 7 ≤ 56 ∧ 56 < 8 + 7 * 7) ∧
    ((devState 0x6008 0 id).xl.inval = none ∧
      (devState 0x6008 0 fun s => { s with xl := { s.xl with inval := some (invalOf 0) } }).xl.inval ≠ none) ∧
    ((devState 0x7020 6 (swapIn aSwap)).swapCode 0 (6 % 4) = 0 ∧ (devState 0x7020 4 (swapIn aSwap)).swapCode 0 (4 % 4) = 3 ∧
      ((devState 0x7020 5 id).swapCode 0 (5 % 4) ≠ 0 ∧ ((devState 0x7020 5 id).swap 0).state ≠ 1)) ∧
    (devState 0x3100 1 id).fw.committed = none ∧
    (let s := { swapIn runningSwap State.reset with now := 13 * 1100 }
     s.swap 0 = runningSwap ∧ runningSwap.state = 1 ∧ 0 + 2 ^ pageShift 0 / 64 + 1 ≤ s.meshCycles ∧ 0x40000000 % 2 ^ pageShift 0 = 0 ∧
      0x50000000 % 2 ^ pageShift 0 = 0 ∧ s.slices = [] ∧ Memory.wf s.mem = true) := by decide +kernel

/-- A context that the function has, a canonical address that no slot holds; a mailbox at rest; a byte of a tier at the aperture. -/
theorem witness_HostWritesTakeEffect :
    (let s := cuset State.reset
     s.fw.committed = none ∧ (s.ctx 0).isSome = true ∧ canonical 0x30000 = true ∧ s.fnHas 0 1 = true ∧ s.slotsOfQueue 0 0x30000 = [] ∧
     (0x30000, 0) ∉ s.cp.seen ∧
     (let t := { s with host := { s.host with vfs := [(12, 1)] } }
      t.fnHas 12 1 = true)) ∧
    (∀ fn ∈ [0, 12], (State.reset.box fn).busy = false) ∧ State.reset.fw.committed = none ∧
    (inTier (State.reset.host.aperture + 2 ^ 35) = true ∧ inTier (State.reset.host.aperture + (2 ^ 36 - 1)) = false ∧ State.reset.slices = [] ∧
      State.reset.linesAt (2 ^ 35) = []) ∧
    (let s := { State.reset with slices := [(5, { Slice.empty with lines := [(7, aLine [(2, .core 3)])] })] }
     s.linesAt (aLeaf.pa + 8) = [(5, 7)] ∧ (tabGet (s.slice 5).lines 7).map (·.owners) = some [(2, .core 3)] ∧ (aLeaf.pa + 8) % 64 / 4 = 2 ∧
      inTier (State.reset.host.aperture + (aLeaf.pa + 8)) = true) := by decide +kernel

/-- A mailbox of the PF or of a function with a command. -/
def boxed (fn cmd : Nat) (as : List Nat) (s : State) : State :=
  cuset { s with host := { s.host with boxes := [(fn, { Mailbox.idle with busy := true, cmd := cmd, given := as })] } }

/-- Commands that run: their arguments keep what the statement asks. -/
theorem witness_MailboxRuns :
    (∀ fn ∈ [0, 12], ∀ cmd ∈ [0, 1, 2, 3, 10, 11, 12, 255], ((boxed fn cmd [] State.reset).box fn).busy = true ∧
      ((boxed fn cmd [] State.reset).box fn).ran = false ∧ (boxed fn cmd [] State.reset).fw.recovery = false) ∧
    (let as := [1 + 5 * 2 ^ 16 + 2 * 2 ^ 32 + 63 * 2 ^ 48, 0x40, 0, 0]
     bits (arg as 0) 12 4 = 0 ∧ bits (arg as 0) 44 4 = 0 ∧ bits (arg as 0) 54 10 = 0 ∧ canonical (arg as 1) = true ∧ arg as 1 % 64 = 0 ∧
     (boxed 0 1 as State.reset).ctx (bits (arg as 0) 0 12) = none ∧
     (∀ e ∈ (boxed 0 1 as State.reset).cp.ctxs, e.2.asid = 5 ∨ e.2.part &&& 2 = 0)) ∧
    ((boxed 0 2 [0] State.reset).ctx 0 ≠ none ∧ (boxed 0 2 [0] State.reset).cp.slots = []) ∧
    (((boxed 0 3 [0x3000] State.reset).devRead 0 0x3000).isSome = true) ∧
    (∀ d ∈ ((List.range 16).map fun i => leNat ((boxed 0 10 [1, 0] State.reset).hostBytes (2 * i) 2)), d < 4096) ∧
    (let as := [0, 5 + 6 * 2 ^ 16, 1, 0]
     arg as 1 = 5 + 6 * 2 ^ 16 ∧ (boxed 0 11 as State.reset).host.binds.length < 4096) ∧
    (let s := { State.reset with host := { State.reset.host with boxes := [(3, { Mailbox.idle with busy := true, ran := true })] } }
     (s.box 3).busy = true ∧ (s.box 3).ran = true) := by decide +kernel

/-- A Cuset image that keeps its layout: one kernel in its code area. -/
def cusetImage : List Byte :=
  [0x45, 0x54, 0x43, 0x46] ++ natBytes 2 1 ++ natBytes 2 0x0102 ++ natBytes 4 3 ++ natBytes 4 4096 ++ natBytes 4 64 ++ natBytes 4 128 ++
    natBytes 4 0 ++ natBytes 4 0 ++ natBytes 4 128 ++ List.replicate 28 0 ++ headerBytes 8 0 ++ List.replicate (4096 - 128) 0

theorem cusetImage_length : cusetImage.length = 4096 := by
  have h : (headerBytes 8 0).length = 64 := by decide +kernel
  simp only [cusetImage, List.length_append, List.length_replicate, h, natBytes, List.length_cons, List.length_nil]
/-- Its layout is kept; whether its signature is good is left open (log 25). -/
theorem witness_fwLayoutOk : fwLayoutOk cusetImage = true := by
  unfold fwLayoutOk
  rw [cusetImage_length]
  decide +kernel

/-- Commands of sealing and attestation that run; a layout that is kept and one that is not; a staged image; a commit point long past with a core that is not ready. -/
theorem witness_SecurityAndFirmware :
    (∀ cmd ∈ [4, 5, 6, 7, 8, 9], ((boxed 0 cmd [0, 128, 0, 0] State.reset).box 0).busy = true ∧
      (boxed 0 cmd [0, 128, 0, 0] State.reset).fw.committed = none ∧ (boxed 0 cmd [0, 128, 0, 0] State.reset).fw.recovery = false) ∧
    imageVersion cusetImage = 3 ∧ fwLayoutOk [] = false ∧
    (let s := { State.reset with fw := { State.reset.fw with staged := some (cusetImage.take 64) } }
     s.fw.staged = some (cusetImage.take 64) ∧ imageVersion (cusetImage.take 64) = 3) ∧
    (let s := { State.reset with now := 260 * 5000000, fw := { State.reset.fw with committed := some 0 } }
     s.allReady = false ∧ 0 + 5000000 ≤ s.ticks ∧ s.fw.latched = []) := by decide +kernel

/-- A flit before its CRC: type, SEQ, ACK field, records that begin, payload. -/
def flitHead (type seq ack nrec : Nat) (payload : List Byte) : List Byte :=
  (natBytes 1 type ++ natBytes 2 seq ++ natBytes 2 ack ++ natBytes 2 9 ++ natBytes 2 5 ++ natBytes 1 nrec ++ natBytes 2 0 ++ payload ++
    List.replicate 252 0).take 252
/-- A flit with its CRC. -/
def flitOf (h : List Byte) : List Byte := h ++ natBytes 4 (crc32c h).toNat
/-- A number of four bytes as bytes and back. -/
theorem leNat_natBytes {v : Nat} (h : v < 2 ^ 32) : leNat (natBytes 4 v) = v := by
  simp only [natBytes, leNat, BitVec.toNat_ofNat]
  omega
/-- A flit with its CRC is good. -/
theorem flitGood_flitOf {h : List Byte} (n : h.length = 252) : flitGood (flitOf h) = true := by
  have hc := (crc32c h).isLt
  have hb : flitField (flitOf h) 252 4 = (crc32c h).toNat := by
    simp only [flitField, flitOf, List.drop_append, n, Nat.sub_self, List.drop_zero, List.drop_eq_nil_of_le (Nat.le_of_eq n), List.nil_append]
    rw [List.take_of_length_le (by simp [natBytes])]
    exact leNat_natBytes hc
  simp only [flitGood, hb, Bool.and_eq_true, beq_iff_eq]
  refine ⟨by simp [flitOf, natBytes, n], ?_⟩
  rw [flitOf, List.take_left' n]

/-- Module 5, with a port. -/
def linked (q : Port) : State := { State.reset with links := { State.reset.links with devnum := 5, ports := [(0, q)] } }

/-- A DATA flit in sequence with one record, one that is not good, an acknowledgement, a LINKCTL flit; `flitGood_flitOf` says that all but the
second are good. -/
theorem witness_FlitsAreTakenInSequence :
    (linked Port.zero).port 0 = Port.zero ∧ (linked Port.zero).links.devnum ≠ 0 ∧ Port.zero.up = true ∧
    (flitHead 1 0 0 1 (natBytes 1 1 ++ natBytes 3 0 ++ natBytes 4 77 ++ natBytes 8 0x40000000)).length = 252 ∧
    (flitHead 0 0 (2 ^ 12) 0 []).length = 252 ∧ (flitHead 2 0 0 0 []).length = 252 ∧
    (let b := flitOf (flitHead 1 0 0 1 (natBytes 1 1 ++ natBytes 3 0 ++ natBytes 4 77 ++ natBytes 8 0x40000000))
     flitField b 0 1 % 16 = 1 ∧ flitField b 3 2 = 0 ∧ flitField b 1 2 % 4096 = 0 ∧ flitField b 7 2 % 4096 = 5 ∧
     (match flitRecs Port.zero.partialRec b with | ([r], _) => r.valid && decide (r.tid = 77) && r.once | _ => false) = true) ∧
    flitGood (List.replicate 255 1) = false ∧
    (let q : Port := { Port.zero with unacked := [⟨0, 9, [], 0, 0⟩, ⟨1, 9, [], 0, 0⟩] }
     let b := flitOf (flitHead 0 0 (2 ^ 12) 0 [])
     flitField b 0 1 % 16 = 0 ∧ (flitField b 3 2).testBit 12 = true ∧ (flitField b 3 2).testBit 13 = false ∧
     (q.unacked.findIdx? fun f => f.seq == flitField b 3 2 % 4096) = some 0) ∧
    (let b := flitOf (flitHead 2 0 0 0 [])
     flitField b 0 1 % 16 = 2) := by decide +kernel

/-- Module 5 with a received record of module 9 and, for an answer, the transfer it answers. -/
def received (b : Rec) (x : Option XferOf) (h : State → State) : State :=
  h { State.reset with links := { State.reset.links with
        devnum := 5, inbox := [{ dev := 9, port := 0, body := b }],
        inwin := [(0, { base := 0x40000000, limit := 0x40010000, src := 9, valid := true, w := true })],
        xfers := match x with
          | some o => [(b.tid, { dev := 9, port := 0, body := b, sent := 0, of := o })]
          | none => [] } }
def aRec (kind arg : Nat) (data : List Byte) : Rec := { kind := kind, status := 0, tid := 7, arg := arg, data := data }

/-- Requests inside and outside their range at both of its ends, answers of an access and of a segment. -/
theorem witness_PeerRequestsAndAnswers :
    (∀ e ∈ ([(aRec 1 0x40000000 [], true), (aRec 1 (0x4000FFFC) [], true), (aRec 1 0x4000FFFE [], false), (aRec 1 0x3FFFFFFC [], false)] : List (Rec × Bool)),
      bits e.1.arg 48 9 < 256 ∧ (received e.1 none id).admits 9 (bits e.1.arg 0 48) (4 * (bits e.1.arg 48 9 + 1)) false = e.2) ∧
    (bits (aRec 1 (256 * 2 ^ 48) []).arg 48 9 = 256) ∧
    (∀ e ∈ ([(aRec 2 0x40000000 [1, 2], true), (aRec 2 0x4000FFFF [1, 2], false), (aRec 2 0x40000000 [], false)] : List (Rec × Bool)),
      (received e.1 none id).admits 9 (bits e.1.arg 0 48) e.1.data.length true = e.2 ∧ (received e.1 none id).slices = []) ∧
    (let s := received (aRec 3 0 [1, 2, 3, 4]) (some (.access (aReq (.load false false)))) id
     (s.xferOf 9 7).map (·.of) = some (.access (aReq (.load false false))) ∧ s.segWaits { dev := 9, port := 0, body := aRec 3 0 [1, 2, 3, 4] } = false) ∧
    (let C := aCopy 0xB2 true .remote
     let s := received (aRec 4 0 []) (some (.segWrite 2 0 0)) fun s => { s with eng := { s.eng with copy := [(2, ⟨[(0, C)], []⟩)] } }
     (s.xferOf 9 7).map (·.of) = some (.segWrite 2 0 0) ∧ tabGet (s.copyEng 2).copies 0 = some C ∧ (C.segs[0]?).isSome = true) := by decide +kernel

/-- Messages of pod barriers in and out of phase, a remote task that is bound, a proxied access of a remote record and its answer. -/
theorem witness_PodBarriersProxiesAndTimeouts :
    (let h : State → State := fun s => { s with links := { s.links with podRoot := [(1, 5)], roots := [(1, { PodRoot.zero with exp := 4 })] } }
     let s := received (aRec 5 (1 + 4 * 2 ^ 16) []) none h
     s.links.inbox[0]?.isSome = true ∧ s.isPodRoot 1 = true ∧ (s.podRootOf 1).sum < bits (1 + 4 * 2 ^ 16) 16 16 ∧
     bits (1 + 2 ^ 16) 2 1 = (s.podRootOf 1).phase ∧ (s.podRootOf 1).sum + bits (1 + 2 ^ 16) 16 16 < (s.podRootOf 1).exp) ∧
    (bits 1 2 1 = (State.reset.wbar (barKey podNet 1)).phase ∧ bits 5 2 1 ≠ (State.reset.wbar (barKey podNet 1)).phase) ∧
    (let s := received (aRec 8 0 (List.replicate 72 0)) none fun s => cuset { s with host := { s.host with binds := [(4096 * 9, 0)] } }
     tabGet s.host.binds (4096 * 9 + flitField (List.replicate 72 0) 64 8 % 4096) = some 0 ∧ s.remoteDie 0 = some 0) ∧
    (let R : Record := { aRecord .handling with remote := true, peer := 9 }
     let s := received (aRec 9 aRid (List.replicate 16 0)) none fun s =>
       engine { FaultEng.empty with recs := [(0, R)] } { s with groups := [(1, groupWith id idleI)] }
     s.record aRid = some R ∧ bits aRid 32 3 = 0 ∧ bits aRid 0 32 = aRid ∧
     (match s.stateAccess 0 aRid R 0 ⟨0, .b32⟩ with | .ok _ => true | .error _ => false) = true) ∧
    (let s := received (aRec 10 0 (List.replicate 8 0)) (some (.proxy 1 0 0 0)) fun s => { s with groups := [(1, groupWith id idleI)] }
     (s.xferOf 9 7).map (·.of) = some (.proxy 1 0 0 0) ∧ (s.wave 1 0).isSome = true) ∧
    (∀ o ∈ ([.access (aReq (.load false false)), .pod] : List XferOf),
      let s := { received (aRec 1 0 []) (some o) id with now := 260 * 2000 }
      (tabGet s.links.xfers 7).map (·.of) = some o ∧ 0 + max 1 s.links.lkto ≤ s.ticks) := by decide +kernel

/-- A power command in progress. -/
def powered (v : Nat) (h : State → State) : State := h { State.reset with pw := { State.reset.pw with cmd := some v } }

/-- Commands of each kind, where they take effect and where they do not; commands that end; gated and waking router groups. -/
theorem witness_PowerCommandsTakeEffect :
    (∀ v ∈ [0, 3 * 2 ^ 16, 1, 1 + 2 ^ 16, 2 + 2 ^ 16, 2 + 5 * 2 ^ 8 + 2 ^ 16, 2 + 11 * 2 ^ 8 + 2 ^ 16],
      (powered v id).pw.cmd = some v ∧ (powered v id).pw.applied = false ∧ pwOk v = true) ∧
    ((powered (3 * 2 ^ 16) id).cp.spareDies.contains 0 = false ∧
      (let s := powered (3 * 2 ^ 16) fun s => { s with cp := { s.cp with spareDies := [0] } }
       s.cp.spareDies.contains 0 = true ∧ s.hostsGroup 0 = false)) ∧
    (((powered (1 + 2 ^ 16) id).matrix 0).busy = false ∧
      ((powered (1 + 2 ^ 16) fun s => { s with eng := { s.eng with matrix := [(0, { Matrix.empty with entries := [(0, aPass .granted)] })] } }).matrix 0).busy = true) ∧
    (let v := 2 + 2 ^ 16
     (powered v id).groupHolds 0 = false ∧ (powered v id).sentToward 0 = false ∧ (powered v id).rgState 0 = .on ∧
      (powered v fun s => { s with chans := [(chanId 2 512, { Chan.idle with buf := [⟨aReq (.load false false), 0, false⟩] })] }).groupHolds 0 = true) ∧
    (pwOk 3 = false ∧ pwOk (12 * 2 ^ 8) = false) ∧
    (let s := fun (p : RouterPower) => ({ State.reset with
        now := 13 * 64, pw := { State.reset.pw with groups := [(0, p)] },
        chans := [(chanId 2 512, { Chan.idle with window := [⟨aReq (.load false false), .wire, 0⟩] })] } : State)
     (s .gated).rgState 0 = .gated ∧ (s .gated).sentToward 0 = true ∧ (s (.waking 0)).rgState 0 = .waking 0 ∧ 0 + 64 ≤ (s (.waking 0)).meshCycles) := by
  decide +kernel

/-- A machine that is frozen and one that is not; SCANOUT selected and not. -/
def frozenState : State := { State.reset with pw := { State.reset.pw with frozen := true } }
theorem witness_FreezeAndManagement :
    State.reset.pw.frozen = false ∧ frozenState.pw.frozen = true ∧ frozenState.pw.tap ≠ 0x2A ∧
    ({ frozenState with pw := { frozenState.pw with tap := 0x2A } } : State).pw.tap = 0x2A := by decide +kernel

/-! ## Hypotheses of statements about steps, issue and encoding -/

/-- Steps of a frozen machine: with an empty agenda, and a cold reset. -/
theorem witness_FrozenMachineHolds :
    (match step frozenState with | .next _ => true | _ => false) = true ∧
    (match step { frozenState with agenda := [.event .coldReset] } with | .next _ => true | _ => false) = true := by decide +kernel

/-- The invariant holds at reset, and a step of a loaded program answers a next state. -/
theorem witness_StepKeepsTheInvariant :
    State.reset.cur = none ∧ (match step State.reset with | .next _ => true | _ => false) = true ∧
    (match step (loadedWith idleI) with | .next _ => true | _ => false) = true := by decide +kernel

/-- A well-formed instruction with its words, of one and of two. -/
theorem witness_DecodeAndEncodeAgree :
    (wellFormed idleI = true ∧ encode idleI = some (0x01E00000, none)) ∧
    (wellFormed (.ldOff { g := 7, d := .v 6, a := .v 8, w := 0, ty := 3, off := 0x40 }) = true ∧
      encode (.ldOff { g := 7, d := .v 6, a := .v 8, w := 0, ty := 3, off := 0x40 }) = some (0xA0E18407, some 0x40)) ∧
    decodeWords 0x01E00000 0 = .ok idleI := by decide +kernel

/-- A loaded program: its turn comes, its word decodes, its group is on a core and its bundle is offered. -/
theorem witness_StepRunsTheDecodedInstruction :
    (let s := loadedWith idleI
     let u := { s with agenda := [] }
     s.agenda = [.issue 1 0 0] ∧ s.pw.frozen = false ∧ (u.group 1).bind (·.core?) = some 2 ∧ (u.group 1).bind (·.twin) = none ∧
     u.offered 1 0 0 = some (.run (issueOf idleI) idleI) ∧ u.slotFree 2 1 0 = true ∧
     (match u.group 1, u.wave 1 0 with
      | some G, some W =>
        decide ((W.fib 0).facet = none) && decide (u.wordAt 2 G false (W.fib 0).curPc = .ok 0x01E00000) &&
          decide (facetMatch u.facet.active 0x01E00000 G.hdr.level G.firmware = none) && opAllowed 1 G false &&
          assigned (0x01E00000 / 2 ^ 24 % 2 ^ 8) && !hasTwoWords 0x01E00000
      | _, _ => false) = true) ∧
    (let s := { State.reset with agenda := [.event .freezeRelease] }
     s.agenda = [.event .freezeRelease] ∧ s.pw.frozen = false ∧ isEvent .freezeRelease = true) := by decide +kernel

/-- A mirror pair on two cores of one quad, each wave about to issue the instruction. -/
def pairWith (i : Instr) : State :=
  let s := loadedWith i
  let G := groupWith id i
  { s with groups := [(1, { G with twin := some (2, false) }), (2, { G with twin := some (1, true), place := .core (twinCore 2) })],
           cores := tabSet s.cores (twinCore 2) (s.core 2) }

/-- Twins that are both offered, with an instruction that is compared and one that is not. -/
theorem witness_MirrorPairsStep : ∀ i ∈ [idleI, stI],
    let s := pairWith i
    let u := { s with agenda := [] }
    let d := { issueOf i with grp := 2 }
    s.agenda = [.issue 1 0 0] ∧ (u.group 1).bind (·.twin) = some (2, false) ∧ (u.group 2).bind (·.core?) = some (twinCore 2) ∧
    u.offered 1 0 0 = some (.run (issueOf i) i) ∧ u.offered 2 0 0 = some (.run d i) ∧ u.slotFree 2 1 0 = true ∧
    u.slotFree (twinCore 2) 2 0 = true ∧
    (match u.wave 1 0, u.wave 2 0 with
      | some W, some V => decide (V.twinBundle ((W.bundles[0]?).getD []) = 0) && decide (signature i W (issueOf i) = signature i V d)
      | _, _ => false) = true ∧
    (match exec i ((((((u.started 1).started 2).fetched 2 (tabVal (groupWith id i) u.groups 1) (issueOf i) false).fetched (twinCore 2)
        (tabVal (groupWith id i) u.groups 2) d false)).issuing (some (issueOf i))) with
      | .next t => (t.issuedAs (some (issueOf i))).twinGoes d && (t.issuedAs (some (issueOf i))).twinReady i d &&
          (match exec i ((t.issuedAs (some (issueOf i))).issuing (some d)) with | .next _ => true | _ => false)
      | _ => false) = true := by decide +kernel

/-- Instructions that each check of R76 stops, in a state in which they issue. -/
theorem witness_ChecksComeBeforeEffects :
    (let i : Instr := .qunmap { g := 7, d := .v 4, a := .v 8 }
     let G := groupWith (fun G => { G with firmware := false }) i
     let W := waveWith (fun G => { G with firmware := false }) i
     opAllowed (opcodeOf i) G (W.inFacet (issueOf i)) = false) ∧
    (let i : Instr := .ld { g := 7, d := .v 4, a := .v 9, w := 0, ty := 3 }
     opAllowed (opcodeOf i) (groupWith id i) ((waveWith id i).inFacet (issueOf i)) = true ∧ (reservedValue i || illegalOperand i) = true) ∧
    (let i : Instr := .iadd { g := 7, d := .v 4, a := .v 95, b := .v 5 }
     let f : Group → Group := fibre fun F => { F with alloc := 16 }
     opAllowed (opcodeOf i) (groupWith f i) ((waveWith f i).inFacet (issueOf i)) = true ∧ reservedValue i = false ∧ illegalOperand i = false ∧
     ∃ r ∈ (opndsOf i).regs, ((waveWith f i).fib 0).inWindow r = false) := by decide +kernel

/-- A core at the end of its cycle, its wave issued or not, offering or not, its group held or not; offers of seven keys. -/
theorem witness_StarvationCountsAndRanks :
    (let s := withGroup id id
     s.dieClock (dieOf 2) ≠ 3 ∧ (s.residents 2).map (·.1) = [1] ∧
     (match s.group 1 with | some G => decide (G.liveWaves.map (·.1) = [0]) | none => false) = true ∧
     (s.waveOffer 1 0).isSome = true ∧ (1, 0) ∉ (s.core 2).issued ∧ (s.group 1).map (·.held) = some false ∧
     ((withGroup (inWave fun W => { W with run := .draining }) id).waveOffer 1 0).isSome = false) ∧
    bestOffer [([0, 0, 0, 0, 0, 0, 0], (1, 0, 0)), ([0, 0, 1, 0, 0, 0, 0], (1, 1, 0))] = some ([0, 0, 0, 0, 0, 0, 0], (1, 0, 0)) := by decide +kernel

/-- An image whose slot 0 matches a word, beside one that matches none; a fibre in facet context. -/
theorem witness_FacetSlotsMatch :
    (let img : List Byte := List.replicate 0x40 0 ++ [0x01, 0x01, 0, 0x07] ++ List.replicate 60 0
     slotMatches img 0 0x01000000 2 false = true ∧ facetMatch img 0x01000000 2 false = some 0 ∧ facetMatch img 0x02000000 2 false = none) ∧
    ((waveWith id (.fctret { g := 7 })).fib 0).facet.isSome = true := by decide +kernel

/-- A memory in its form, and a write to it. -/
theorem witness_MemoryReadsWhatWasWritten :
    Memory.wf (tableMem 0x3F) = true ∧ Memory.wf [] = true ∧ memByte (memPutBytes (tableMem 0x3F) 0x1000 [9]) 0x1000 = 9 := by decide +kernel

/-- PLOG at the ends of its truth table, FABS.f32 and FNEG.f32, in states in which they go. -/
theorem witness_PlogAndFloatSigns :
    (∀ tt ∈ [0, 15], goesIn id id (.plog { g := 7, pd := 2, pa := 1, pb := 7, tt := tt }) = true) ∧
    goesIn id id (.fabsF32 { g := 7, d := .v 4, a := .v 8 }) = true ∧ goesIn id id (.fnegF32 { g := 7, d := .v 4, a := .v 8 }) = true := by decide +kernel

/-- The SHA-512 of "abc", as FIPS 180-4 gives it. -/
theorem test_sha512 : sha512 [0x61, 0x62, 0x63] =
    [0xDD, 0xAF, 0x35, 0xA1, 0x93, 0x61, 0x7A, 0xBA, 0xCC, 0x41, 0x73, 0x49, 0xAE, 0x20, 0x41, 0x31,
     0x12, 0xE6, 0xFA, 0x4E, 0x89, 0xA9, 0x7E, 0xA2, 0x0A, 0x9E, 0xEE, 0xE6, 0x4B, 0x55, 0xD3, 0x9A,
     0x21, 0x92, 0x99, 0x2A, 0x27, 0x4F, 0xC1, 0xA8, 0x36, 0xBA, 0x3C, 0x23, 0xA3, 0xFE, 0xEB, 0xBD,
     0x45, 0x4D, 0x44, 0x23, 0x64, 0x3C, 0xE8, 0x0E, 0x2A, 0x9A, 0xC9, 0x4F, 0xA5, 0x4C, 0xA4, 0x9F] := by decide +kernel

/-! ## Hypotheses of further clauses -/

/-- R134, R212, R250, R285: fibres at MXWAIT, FENCE and TWANY whose work is done and is not; tag 3 is done. -/
theorem witness_WaitsForWorkEnd :
    ∀ w ∈ ([.tile [], .tile [(0, 3)], .fence 0 [], .fence 1 [5], .twany 8 [.v 4], .twany 8 [.k 5]] : List Wait),
      let f : Group → Group := fun G => fibre (fun F => { F with wait := w }) { G with tags := [(3, ⟨0, true, false, false, false⟩)] }
      let s := stateWith id f idleI
      s.group 1 = some (groupWith f idleI) ∧ tabGet (groupWith f idleI).waves 0 = some (waveWith f idleI) ∧
        (groupWith f idleI).core?.isSome = true ∧ 0 ∈ (waveWith f idleI).live ∧ (s.releaseWave 1 0).wave 1 0 ≠ none ∧
        ((waveWith f idleI).fib 0).wait = w ∧ 4 < ((waveWith f idleI).fib 0).alloc ∧ ((groupWith f idleI).ctags &&& 8).testBit 3 = true ∧
        ∀ j < 3, ((groupWith f idleI).ctags &&& 8).testBit j = false := by decide +kernel

/-- R177: SCHIST's sources at each end of their exponents; one present lane and none; a released collective of a K register, of a vector
register, and of a fibre whose guard is false. -/
theorem witness_ScaleCollectives :
    (let a : Arrival := { fib := 0, coll := .schist, guard := true, srcs := [⟨0x3F800000, .f32⟩, ⟨0, .b32⟩], src := false, dst := [] }
     let xs := [a].filterMap fun a => f32Log (a.srcs.getD 0 zeroReg).val 2
     ([a].filter (·.guard)).getLast? = some a ∧ xs = [0] ∧ (xs.filter fun y => decide (0 < y)).length ≤ 0 ∧
      0 < (xs.filter fun y => decide (0 ≤ y)).length ∧ ([] : List Int).length < 0 + 1) ∧
    (∀ d ∈ ([.v 4, .k 5] : List DReg), ∀ guard,
      let f := fibre fun F => { F with wait := .coll (.shfl 1) 0 0 guard [⟨5, .n32⟩, ⟨0, .b32⟩] false [d] }
      let W := waveWith f idleI
      (stateWith id f idleI).group 1 = some (groupWith f idleI) ∧ tabGet (groupWith f idleI).waves 0 = some W ∧
        testsMasks (groupWith f idleI) W = true ∧ (groupWith f idleI).core?.isSome = true ∧
        (W.arrivals 0 0 false).map (·.guard) = [guard] ∧ W.live = [0] ∧ (∀ f ∈ W.members 0, f ∈ (W.arrivals 0 0 false).map (·.fib)) ∧
        ((stateWith id f idleI).releaseWave 1 0).wave 1 0 ≠ none) := by decide +kernel

/-- R139, R207, R208: copies with a barrier that they may not use; sides and lengths of each fault, and one beyond the scratchpad by no byte and
by four. -/
theorem witness_CopyFaults :
    (∀ i ∈ ([.cpg2sExt { g := 7, tag := 0, a := .v 8, b := .v 12, queue := 0, bar := 1, scope := 0, id := 15 },
        .cps2gExt { g := 7, tag := 0, a := .v 8, b := .v 12, queue := 0, bar := 1, scope := 0, id := 15 },
        .cpxExt { g := 7, tag := 0, a := .v 8, b := .v 12, queue := 0, bar := 1, scope := 0, id := 15 }] : List Instr),
      goesIn id id i = true ∧ (stateWith id id i).barrierOk (groupWith id i) 0 15 false = false) ∧
    (CopyForm.long 0xB0 { g := 7, tag := 0, a := .v 8, b := .v 12, queue := 0, bar := 1, scope := 0, id := 15 }).bar = some (0, 15) ∧
    (let G := groupWith id idleI
     let n := (G.hdr.scratch + 1023) / 1024 * 1024
     copyFault G 0xB0 { src := 2 ^ 55, dst := 2, len := 4 } = some 0x11 ∧ copyFault G 0xB0 { src := 0, dst := 0, len := 2 } = some 0x12 ∧
      copyFault G 0xB1 { src := n, dst := 0, len := 4 } = some 0x13 ∧ copyFault G 0xB1 { src := n, dst := 0, len := 0 } = none ∧
      copyFault G 0xB2 { src := 0, dst := 4, len := 4 } = none) := by decide +kernel

/-- R359: a REWRITE of two words, the first of which finds a mismatched tag; a word that raises an enabled exception; one that goes. -/
theorem witness_RewriteStopsAtAWord :
    (let f := fibre fun F => { F with regs := [(4, ⟨0, .f32⟩)] }
     let c := issueOf idleI
     let G := groupWith f idleI
     let W := waveWith f idleI
     (match rewriteSeq (rewriteImage 0x20E10205 0x20E10205) 0 G W c with
      | .ok is => decide (is.length = 2) && is.all (fun i => W.hazardFree c (opndsOf i)) &&
          (match (stateWith id f idleI).runSeq G c is W with | .ok _ => false | .error x => x.raise.cause == 0x03)
      | .error _ => false) = true ∧ W.inFacet c = false) ∧
    (let i : Instr := .idivN32 { g := 7, d := .v 4, a := .v 8, b := .v 12 }
     let f := fibre fun F => { F with trapen := 0x20 }
     let c := issueOf i
     (laneOf i).isSome = true ∧ (stateWith id f i).cur = some c ∧ acting i c (waveWith f i) = [0] ∧
      (match (stateWith id f i).seqStep (groupWith f i) c i (waveWith f i) with | .ok _ => false | .error x => x.raise.cause == 0x25) = true ∧
      (match (stateWith id id i).seqStep (groupWith id i) c i (waveWith id i) with | .ok _ => true | .error _ => false) = true) := by
  decide +kernel

/-- R363: a routine that returns with WD set, to a vector register in its window and to a K register. -/
theorem witness_RoutinesWriteTheirResult :
    ∀ b ∈ [4, 96], let f := fibre fun F => { F with facet := F.facet.map fun x => { x with w0 := b * 2 ^ 14, regs := [(7, ⟨1, .b32⟩), (2, ⟨9, .f32⟩)] } }
     let i : Instr := .fctret { g := 7 }
     goesIn id f i = true ∧ (((waveWith f i).fib 0).facet.map fun x => x.ret.testBit 0 && decide (x.ret / 2 ^ 8 % 2 ^ 7 = 0)) = some true ∧
      (((waveWith f i).fib 0).facet.map fun x => regOf (x.w0 / 2 ^ 14 % 2 ^ 7)) = some (if b = 4 then .v 4 else .k 0) := by decide +kernel

/-- R384: a mapped queue whose launch has a group on the machine. -/
theorem witness_QueuesPreemptTheirGroups :
    ∀ i ∈ ([.qunmap { g := 7, d := .v 4, a := .v 8 }, .preempt { g := 7, d := .v 4, a := .v 8, b := .v 12 }] : List Instr),
      let f : Group → Group := fun G => { G with launch := 5 }
      let h : State → State := fun s => slotIn .mapped { s with cp := { s.cp with launches := [(5, aLaunch)] } }
      goesIn h f i = true ∧ (stateWith h f i).cp.launches = [(5, aLaunch)] ∧ aLaunch.die = (groupWith f i).die ∧ aLaunch.st = .running ∧
        aLaunch.desc = ((stateWith h f i).qslot (slotKey 0 0)).desc ∧ (stateWith h f i).group 1 = some (groupWith f i) ∧
        (groupWith f i).launch = 5 ∧ (groupWith f i).place ≠ .ended := by decide +kernel

/-- An acknowledgement with the word of a narrow store, whose line its L1 holds with and without the word. -/
theorem witness_NarrowStoresAreAcknowledged :
    (∀ slot ∈ [16, 31], msgMet (.stb { g := 7, d := .v 4, a := .v 8, w := 0, ty := 3 }) slot (.ackWord 7) = true) ∧
    (∀ v ∈ [0, 1], let l : L1Line := { words := List.replicate 16 0, valid := v, owned := 0, inv := false }
      let s := State.reset.modCore 2 fun C => { C with l1 := [(4, l)] }
      tabGet (s.core 2).l1 (0 * 2 ^ 50 + 4) = some l ∧ l.valid.testBit (0x100 % 64 / 4) = (v == 1) ∧ s.writesOnWay 2 0 4 = []) := by decide +kernel

/-- A miss of a slice that holds nothing; a revoke's acknowledgement on a way that is open, and on one with a router that is off. -/
theorem witness_MissesAndWays :
    (Slice.empty.missOf 0 (0x100 % 2 ^ 56 / 64) = none ∧ Slice.empty.miss.length < 64 ∧ tabGet Slice.empty.lines (lineKey 0 0x100) = none ∧
      tabGet Slice.empty.fwd (lineKey 0 0x100) = none ∧ (Slice.empty.miss.flatMap (·.2.reqs)).any (aReq (.load false false)).behind = false) ∧
    (let a : RevAck := { core := 3, asid := 0, line := 4, word := 0 }
     let s : State := { State.reset with revAcks := [a] }
     let g := groupOfRouter (routerOfCore 3)
     let t : State := { s with pw := { s.pw with groups := [(g, .gated)] } }
     s.wayOpen (vaHome 0 (64 * 4)) 3 = true ∧ t.revAcks[0]? = some a ∧ t.wayOpen (vaHome 0 (64 * 4)) 3 = false) := by decide +kernel

/-- A leaf that lets no request of its miss through; a page that another request asks for already. -/
theorem witness_LeavesThatFault :
    (let r := aReq (.store [1, 2, 3, 4] false)
     let m : Miss := { asid := 0, line := 4, reqs := [r], st := .walking }
     let s : State := { tabled 0x37 with slices := [(aHome, { Slice.empty with miss := [(0, m)] })] }
     match s.walk 0 m.va with
     | .found e => !s.heldFrame (e.pa m.va) && (s.leafFault r.need e.leaf (e.pa m.va)).isSome &&
         (s.leafFault (aReq (.load false false)).need e.leaf (e.pa m.va)).isNone
     | _ => false) = true ∧
    (let p : PageReq := { req := aReq (.load false false), posted := false }
     let s : State := { tabled 0x1F with
       mem := tabSet (tableMem 0x1F) 0x3003 0x40, xl := { State.reset.xl with pgreqs := [p, p], resids := [{ die := 0, asid := 0, va := 0x40, at_ := 0x3000 }] } }
     s.xl.pgreqs[1]? = some p ∧ (match s.walk 0 0x100 with | .absent _ x => decide (x = 0x3000) | _ => false) = true) := by decide +kernel

/-- The one wave of a core waits for registers, in a core cycle that freed none and in one that did. -/
theorem witness_RegisterDeadlock :
    let r : GrowReq := { grp := 1, wave := 0, fibres := [0], need := 1, n := 1 }
    let f : Group → Group := fun G => fibre (fun F => { F with alloc := 16, wait := .wgrow 1 0 }) { G with hdr := { G.hdr with units := 1 } }
    let s := fun (n : Nat) => withGroup f fun s => s.modCore 2 fun C => { C with regg := 0, grow := [r], freed := n }
    ((s 0).core 2).freed = 0 ∧ (s 0).allGrow 2 = true ∧ (∀ x ∈ (s 0).pendingGrow 2, (s 0).poolFree 2 < x.2.2) ∧
      (s 0).residents 2 = [(1, groupWith f idleI)] ∧ (groupWith f idleI).liveWaves = [(0, waveWith f idleI)] ∧
      takesPart (groupWith f idleI) (waveWith f idleI) = true ∧ 0 < ((s 3).core 2).freed := by decide +kernel

/-- A redirected pass on another quad's engine: granted, its tile asked for, its values ready, on their way to its mailbox; an engine that is to be
gated, and one whose die is in state 3. -/
theorem witness_RedirectedPasses :
    let q := quadOf 2 + 1
    let at_ := fun (p : Pass) (op : ReqOp) => withGroup (entryIn 40 (anEntry (.mxgo { g := 7, a := .v 8 }) anAcc)) fun s =>
      { s with eng := { s.eng with matrix := [(q, { Matrix.empty with entries := [(0, p)] })] },
               chans := [(chanId (matrixNode q) (640 + aHome), { Chan.idle with window := [⟨aReq op, .wire, 0⟩] })] }
    let ch := chanId (matrixNode q) (640 + aHome)
    let p : Pass := { aPass .granted with redirected := true, path := .reading, late := true }
    let c : Pass := { aPass .committing with redirected := true, path := .read, staged := some ⟨[(0, 5), (1, 6)], 1, 7⟩ }
    (∀ commit, chanDst ch = 640 + aHome ∧ aHome < 128 ∧
      nextWire ((at_ p (.pass q 0 commit)).chan ch).window = some (0, aReq (.pass q 0 commit), true)) ∧
    (((at_ p (.pass q 0 false)).matrix q).entries.find? fun e => e.2.turn == 0 && e.2.redirected) = some (0, p) ∧
    ((at_ c (.pass q 0 true)).matrix q).oldest (fun p => p.st == .committing && p.path != .storing) = some (0, c) ∧
    (at_ c (.pass q 0 true)).mxStalled q = false ∧ ((at_ c (.pass q 0 true)).group 1).isSome = true ∧
    (((at_ { c with path := .storing } (.pass q 0 true)).matrix q).entries.find? fun e => e.2.turn == 0 && e.2.redirected) = some (0, { c with path := .storing }) ∧
    (powered (1 + 5 * 2 ^ 8 + 2 ^ 16) id).gatePending 5 = true ∧
    ({ State.reset with pw := { State.reset.pw with dieState := [(1, 3)] } } : State).dieClock (9 / 9) = 3 := by decide +kernel

/-- A tile operation's entry is the one of its age; a handle of no live entry, whose operation is in its wave; a router with no write due. -/
theorem witness_EntriesOfOperations :
    (let s := tileState (.mxclr { g := 7, tm := 3 }) [0, 1, 2, 3, 4]
     (s.wave 1 0).bind (fun V => V.sb.find? fun y => y.2.age == 0) = (s.wave 1 0).bind fun V => (tabGet V.sb 40).map fun e => (40, e)) ∧
    (let i : Instr := .clpush { g := 7, d := .v 4, a := .v 8, b := .v 12 }
     let s := withGroup (entryIn 40 (anEntry i anAcc)) fun s => { s with mesh := { s.mesh with falls := [pushReq] } }
     s.mesh.falls[0]? = some pushReq ∧ pushReq.clasp = some (hLo, hHi, true) ∧ ((s.slice pushReq.home).obj (handleSlot hHi)).used = false ∧
      (s.wave pushReq.grp pushReq.wave).map (fun W => (tabGet W.sb pushReq.slot).isSome) = some true) ∧
    (meets popReq id).genDue (routerOfCore 2) 3 = false := by decide +kernel

/-- A LAUNCH whose kernel asks for package barriers: all free, and none; its context's mark covers its private pages. -/
theorem witness_BarriersAreAllotted :
    let t := queueState launchPkt id
    let s : State := { t with xl := { t.xl with privhw := [(0, 1)] } }
    (match s.newLaunch 0 (slotKey 0 0) (s.qslot (slotKey 0 0)).rd launchPkt with
      | some L =>
        let M : Launch := { L with want := [0, 0, 2, 0] }
        decide (L.hdr.priv ≤ tabVal 0 s.xl.privhw L.ctx) && decide (L.wants (L.waiting.flatMap Dealt.cores) = []) &&
          decide (M.wants (M.waiting.flatMap Dealt.cores) = [(pkgNet, 2, 8)])
      | none => false) = true ∧
    2 ≤ (s.freeBars pkgNet 8).length ∧
    (let t : State := { s with eng := { s.eng with
       wbars := (List.range 8).map fun i => (barKey pkgNet i, { WideBarrier.zero with owner := some 9 }) } }
     (t.freeBars pkgNet 8).length < 2) := by decide +kernel

/-- Firmware that changes: a doorbell is latched; a command waits; firmware cores that have finished their steps and one that has not. -/
theorem witness_FirmwareChanges :
    (let s : State := { State.reset with fw := { State.reset.fw with stopping := true } }
     s.changing = true ∧ (s.box 0).busy = false ∧ ((boxed 0 1 [] State.reset).box 0).busy = true) ∧
    (let s : State := boxed 0 9 [3] { State.reset with fw := { State.reset.fw with staged := some (cusetImage.take 64) } }
     s.fwQuiet = true ∧ s.fw.staged.map imageVersion = some 3 ∧ arg (s.box 0).given 0 = 3) ∧
    (let f : Group → Group := fun G => entryIn 16 (anEntry stI anAcc) { G with firmware := true }
     let s := boxed 0 9 [3] (withGroup f fun s => { s with fw := { s.fw with staged := some (cusetImage.take 64) } })
     s.fwQuiet = false ∧ s.fw.committed = none) := by decide +kernel

/-- A word of the host's or a peer's that a revoke has, and one that a core owns. -/
theorem witness_WordsInRevoke :
    (let s : State := { State.reset with slices := [(5, { Slice.empty with lines := [(7, aLine [(2, .revoke 3 none none)])] })] }
     s.physBusy (State.reset.host.aperture + (aLeaf.pa + 8)) 1 = true ∧ s.physBusy (aLeaf.pa + 4) 8 = true ∧ s.physBusy (aLeaf.pa + 12) 8 = false) ∧
    (let r := aRec 2 (aLeaf.pa + 8) [1, 2, 3, 4]
     let s := fun (o : Owner) => received r none fun s =>
       { s with slices := [(5, { Slice.empty with lines := [(7, aLine [(2, o)])] })] }
     (s (.core 3)).admits 9 (aLeaf.pa + 8) 4 true = true ∧ (s (.core 3)).linesAt (aLeaf.pa + 8) = [(5, 7)] ∧ bits r.arg 0 48 = aLeaf.pa + 8 ∧
       tabGet ((s (.core 3)).slice 5).lines 7 = some (aLine [(2, .core 3)]) ∧ aLeaf.peer = 0 ∧
       (s (.revoke 3 none none)).physBusy (bits r.arg 0 48) 4 = true ∧ (s (.core 3)).physBusy (bits r.arg 0 48) 4 = false ∧
       (s (.core 3)).recBusy InRec.readLen { dev := 9, port := 0, body := aRec 1 (aLeaf.pa + 8) [] } = false ∧
       (s (.revoke 3 none none)).recBusy InRec.readLen { dev := 9, port := 0, body := aRec 1 (aLeaf.pa + 8) [] } = true) := by decide +kernel

/-- A NACK, a LINKCTL at a port that retrains, a record with room and behind a full window, a narrow store's word, a transfer kept back, a record
that its sender does not handle. -/
theorem witness_FlitsAreSentAgain :
    (let b := flitOf (flitHead 0 0 (2 ^ 13) 0 [])
     flitField b 0 1 % 16 = 0 ∧ (flitField b 3 2).testBit 12 = false ∧ (flitField b 3 2).testBit 13 = true ∧
      (flitHead 0 0 (2 ^ 13) 0 []).length = 252) ∧
    (let f : Flit := ⟨3, 9, [aRec 1 0 []], 0, 0⟩
     let q : Port := { Port.zero with up := false, retraining := true, unacked := [f] }
     (linked q).port 0 = q ∧ f.fails ≠ 7 ∧ q.restart.unacked.map (·.seq) = [0] ∧ q.restart.backlog = []) ∧
    (Port.zero.unacked.length + flitsOf (aRec 1 0 []) ≤ 512 ∧
      512 < ({ Port.zero with unacked := List.replicate 512 ⟨0, 9, [], 0, 0⟩ } : Port).unacked.length + flitsOf (aRec 1 0 [])) ∧
    (let q := aReq (.store [5] false)
     let s := received (aRec 3 0 [1, 2, 3, 4]) (some (.merge q)) fun s => { s with links := { s.links with peerMap := [(9, 1)] } }
     (s.xferOf 9 7).map (·.of) = some (.merge q) ∧ s.portFor 9 0 = some 0) ∧
    (let x : Xfer := { dev := 9, port := 0, body := aRec 1 0 [], sent := 0, of := .pod }
     let q : Port := { Port.zero with backlog := [(9, aRec 1 0 [])] }
     (linked q).keptBack 7 x = true ∧ (linked Port.zero).keptBack 7 x = false) ∧
    (let s := received (aRec 9 aRid (List.replicate 16 0)) none (engine { FaultEng.empty with recs := [(0, aRecord .handling)] })
     s.record aRid = some (aRecord .handling) ∧ (aRecord .handling).remote = false ∧ (aRecord .handling).rerouted = false) := by decide +kernel

/-- Operands of the statements about floating-point results: finite ones, zeros, infinities, NaNs of both kinds, powers of two, each rounding mode. -/
theorem witness_FloatOperands :
    let x : LaneIn := { r := [⟨0x3F800000, .f32⟩, ⟨0xBF800000, .f32⟩, ⟨0, .f32⟩, ⟨0x3FF00000, .f64hi⟩, ⟨0, .f64lo⟩, ⟨0x40000000, .f64hi⟩], p := 0x80, level := 2 }
    (∀ i < 3, IsFinite .f32 (x.n i)) ∧ (operand .f32 0 (x.n 1)).1 < 0 ∧ 0 < (operand .f32 1 (x.n 1)).1 ∧ (operand .f32 0 (x.n 2)).1 = 0 ∧
    (∀ i ∈ [2, 4], IsFinite .f64 (pairCode x i) ∧ 0 < (operand .f64 0 (pairCode x i)).1) ∧
    (∀ f ∈ [FFmt.f16, .bf16], ∀ j < 3, ∀ i < 2, IsFinite f (halfOf x j i)) ∧
    (IsNan .f32 0x7FC00000 ∧ ¬Safety.Signals .f32 0x7FC00000 ∧ Safety.Signals .f32 0xFF800001 ∧ ¬IsNan .f32 (x.n 0) ∧
      0xFF800000 % 2 ^ 31 = infOf .f32 false ∧ ¬IsNan .f32 0xFF800000) ∧
    (∀ k < 5, ∃ m, modeOf k m) ∧
    (units .f32 (x.n 0) = 1 * unitsOne .f32 ∧ units .f32 0x43000000 = 128 * unitsOne .f32 ∧ units .f32 0x40000000 = 2 ^ (1 + 149)) ∧
    (RoundsInt .rne (units .f32 (x.n 0)) (unitsOne .f32) 1 ∧ RoundsInt .rne (units .f32 0x4F800000) (unitsOne .f32) (2 ^ 32) ∧
      RoundsInt .rm (units .f32 (x.n 1)) (unitsOne .f32) (-1)) := by
  simp only [IsFinite, IsNan, Safety.Signals, modeOf, RoundsInt]
  refine ⟨by decide +kernel, by decide +kernel, by decide +kernel, by decide +kernel, by decide +kernel, by decide +kernel, by decide +kernel, ?_,
    by decide +kernel, by decide +kernel⟩
  intro k hk
  exact ⟨_, List.getElem?_eq_getElem (by simpa using hk)⟩

/-- One, converted to TF8, is the code 0x40, exactly. -/
theorem witness_Tapers : Tapers 7 2 .rne false ((units .f32 0x3F800000).natAbs * 2 ^ 191) (unitsOne .f32 * 2 ^ 127) 64 0 := by
  have mid : ∀ c < 127, 1 ≤ c → taperedUnits 7 c * (unitsOne .f32 * 2 ^ 127) ≤ (units .f32 0x3F800000).natAbs * 2 ^ 191 →
      (units .f32 0x3F800000).natAbs * 2 ^ 191 < taperedUnits 7 (c + 1) * (unitsOne .f32 * 2 ^ 127) →
      64 = c ∧ taperedUnits 7 c * (unitsOne .f32 * 2 ^ 127) = (units .f32 0x3F800000).natAbs * 2 ^ 191 := by decide +kernel
  refine ⟨fun h => absurd h (by decide +kernel), fun c h1 h2 h3 h4 => ?_, fun h => absurd h (by decide +kernel)⟩
  obtain ⟨e, q⟩ := mid c (by omega) h1 h3 h4
  exact ⟨fun _ => ⟨e, rfl⟩, fun n => absurd q n⟩

end Sys2Proof.Tests
end

/-! Proofs about memory as engines, the host and links write it: which bytes a slice and the tiers hold after a monitor fires and
after a write of one line (R264, R286). -/
namespace Sys2Proof.Machine

/-! ## Tables -/

theorem mem_of_tabGet {α : Type} {t : Tab α} {k : Nat} {v : α} (h : tabGet t k = some v) : (k, v) ∈ t := by
  induction t with
  | nil => cases h
  | cons e r ih =>
    obtain ⟨j, w⟩ := e
    by_cases hj : j = k
    · simp_all [tabGet]
    · exact List.mem_cons_of_mem _ (ih (by simpa [tabGet, hj] using h))

/-- A number holds `v` after a list of entries is put if it did before, or one of them has it, and each of them that has it puts `v`. -/
theorem tabGet_foldl_tabSet {α β : Type} {g : Nat × β → α} {w : Nat} {v : α} (l : List (Nat × β)) (t : Tab α)
    (hv : ∀ x ∈ l, x.1 = w → g x = v) (hw : tabGet t w = some v ∨ ∃ x ∈ l, x.1 = w) :
    tabGet (l.foldl (fun o x => tabSet o x.1 (g x)) t) w = some v := by
  induction l generalizing t with
  | nil => simpa using hw
  | cons x l ih =>
    refine ih _ (fun y hy => hv y (List.mem_cons_of_mem _ hy)) ?_
    by_cases hx : x.1 = w
    · exact .inl (by rw [← hx, tabGet_tabSet_self, hv x List.mem_cons_self hx])
    · rw [tabGet_tabSet_ne _ _ _ _ (Ne.symm hx)]
      exact hw.imp_right fun ⟨y, hy, e⟩ => ⟨y, (List.mem_cons.mp hy).resolve_left fun he => hx (he ▸ e), e⟩

/-! ## Slices -/

@[simp] theorem State.slice_modSlice_self (s : State) (h : Nat) (f : Slice → Slice) : (s.modSlice h f).slice h = f (s.slice h) :=
  tabVal_tabPut_self _ _ _ _

@[simp] theorem State.slice_modSlice_ne (s : State) (h k : Nat) (f : Slice → Slice) (hk : k ≠ h) :
    (s.modSlice h f).slice k = s.slice k :=
  tabVal_tabPut_ne _ _ _ _ _ hk

theorem State.slice_setMsgs (s : State) (ms : List Msg) (h : Nat) : State.slice { s with msgs := ms } h = s.slice h := rfl

/-- What holds of every slice listed and of an empty one holds of the slice of every number. -/
theorem State.slice_of_mem {s : State} {P : Slice → Prop} (h : ∀ y ∈ s.slices, P y.2) (h0 : P Slice.empty) (k : Nat) : P (s.slice k) := by
  unfold State.slice tabVal
  cases hk : tabGet s.slices k with
  | none => exact h0
  | some S => exact h _ (mem_of_tabGet hk)

/-! ## Monitors that fire leave every byte (R286) -/

/-- The tiers and every line of every slice are the same. -/
def State.sameBytes (s t : State) : Prop :=
  t.mem = s.mem ∧ ∀ k, (t.slice k).lines = (s.slice k).lines ∧ (t.slice k).plines = (s.slice k).plines

theorem State.sameBytes.refl (s : State) : s.sameBytes s := ⟨rfl, fun _ => ⟨rfl, rfl⟩⟩

theorem State.sameBytes.trans {s t u : State} (h : s.sameBytes t) (k : t.sameBytes u) : s.sameBytes u :=
  ⟨k.1.trans h.1, fun i => ⟨(k.2 i).1.trans (h.2 i).1, (k.2 i).2.trans (h.2 i).2⟩⟩

theorem State.sameBytes.fold {α : Type} {f : State → α → State} (h : ∀ (s : State) (a : α), s.sameBytes (f s a)) (l : List α) (s : State) :
    s.sameBytes (l.foldl f s) := by
  induction l generalizing s with
  | nil => exact .refl s
  | cons a l ih => exact (h s a).trans (ih _)

/-- A slice changed in other fields than its lines. -/
theorem State.sameBytes_modSlice (s : State) (h : Nat) {f : Slice → Slice} (hl : ∀ S, (f S).lines = S.lines)
    (hp : ∀ S, (f S).plines = S.plines) : s.sameBytes (s.modSlice h f) := by
  refine ⟨rfl, fun k => ?_⟩
  by_cases hk : k = h
  · subst hk; simp [hl, hp]
  · simp [hk]

theorem State.sameBytes_fire (s : State) (h asid word : Nat) (v : Word) : s.sameBytes (s.fire h asid word v) := by
  unfold State.fire
  dsimp only
  split
  · exact .refl s
  · refine (s.sameBytes_modSlice h ?_ ?_).trans (.fold (fun t e => ?_) _ _)
    · exact fun _ => rfl
    · exact fun _ => rfl
    · split <;> exact ⟨rfl, fun _ => ⟨rfl, rfl⟩⟩

theorem State.sameBytes_fireAll (s : State) (h asid va : Nat) (ws : List Word) (words : List Nat) :
    s.sameBytes (s.fireAll h asid va ws words) :=
  .fold (fun t _ => t.sameBytes_fire _ _ _ _) _ _

theorem State.sameBytes_firePhys (s : State) (pa n : Nat) : s.sameBytes (s.firePhys pa n) := by
  refine .fold (fun t e => .fold (fun u m => ?_) _ _) _ _
  split
  · split
    · exact u.sameBytes_fire _ _ _ _
    · exact .refl u
  · exact .refl u

/-! ## A write of one line -/

/-- The bytes of one place of a line are one piece. -/
theorem pieces_one_byte (fuel pa : Nat) : pieces (fuel + 1) pa 1 = [(pa, 1)] := by
  have h : min 1 (64 - pa % 64) = 1 := by omega
  cases fuel <;> simp [pieces, h]

/-- A byte touches the word in which it lies. -/
theorem touched_one_byte (va : Nat) : touched va 1 = [va % 64 / 4] := by
  have h : (va % 4 + 1 + 3) / 4 = 1 := by omega
  simp [touched, h]

/-- An engine's write of a line puts its bytes there, marks the line dirty, revokes each word written that a core owns, sends the revokes and
lets monitors fire (R264, R286). -/
theorem State.writeLine_eq {s : State} {h key : Nat} {l : SLine} (asid va : Nat) (bs : List Byte)
    (hl : tabGet (s.slice h).lines key = some l) :
    ∃ os msgs, s.writeLine h key asid va bs = State.fireAll
        { s.modSlice h (fun S => { S with lines := tabMod S.lines key fun l' =>
            { l' with words := linePut l.words (va % 64) bs, dirty := true, owners := os } }) with msgs := msgs }
        h asid va (linePut l.words (va % 64) bs) (touched va bs.length) ∧
      ∀ w ∈ touched va bs.length, ∀ c, tabGet l.owners w = some (.core c) → tabGet os w = some (.revoke c none none) := by
  unfold State.writeLine
  rw [hl]
  refine ⟨_, _, rfl, fun w hw c hc => ?_⟩
  refine tabGet_foldl_tabSet _ _ (fun x hx e => ?_) (.inr ⟨(w, c), List.mem_filterMap.mpr ⟨w, hw, by rw [hc]⟩, rfl⟩)
  obtain ⟨a, -, ha⟩ := List.mem_filterMap.mp hx
  split at ha
  · next d hd =>
    cases ha
    cases e
    rw [hc] at hd
    cases hd
    rfl
  · cases ha

/-- The lines of the slice after such a write: the tiers and the slice's other lines stay. -/
theorem State.writeLine_lines {s : State} {h key : Nat} {l : SLine} (asid va : Nat) (bs : List Byte)
    (hl : tabGet (s.slice h).lines key = some l) :
    (s.writeLine h key asid va bs).mem = s.mem ∧
    ∃ os, ((s.writeLine h key asid va bs).slice h).lines = tabMod (s.slice h).lines key (fun l' =>
        { l' with words := linePut l.words (va % 64) bs, dirty := true, owners := os }) ∧
      ∀ w ∈ touched va bs.length, ∀ c, tabGet l.owners w = some (.core c) → tabGet os w = some (.revoke c none none) := by
  obtain ⟨os, msgs, heq, hos⟩ := State.writeLine_eq asid va bs hl
  rw [heq]
  refine ⟨(State.sameBytes_fireAll _ _ _ _ _ _).1, os, ((State.sameBytes_fireAll _ _ _ _ _ _).2 h).1.trans ?_, hos⟩
  rw [State.slice_setMsgs, State.slice_modSlice_self]

/-- A byte written at a physical place whose home holds no line by physical address changes that byte of the tier alone. -/
theorem State.putPaByte_of_no_line {s : State} {pa : Nat} (b : Byte) (h : (s.slice (paHome pa)).plines = []) :
    s.putPaByte pa b = { s with mem := memPut s.mem pa b } := by
  simp [State.putPaByte, h]

/-- A byte that the host or a peer writes where no slice holds a line goes to its place in the tier (R264). -/
theorem State.physWrite_byte_mem {s : State} {pa : Nat} (b : Byte) (hl : s.linesAt pa = [])
    (hp : (s.slice (paHome pa)).plines = []) : (s.physWrite pa [b]).mem = memPut s.mem pa b := by
  have h : (s.writePhys pa [b]).mem = memPut s.mem pa b := by
    refine (State.sameBytes_fireAll _ _ _ _ _ _).1.trans ?_
    simp [State.putPaBytes, State.putPaByte_of_no_line b hp]
  unfold State.physWrite
  rw [hl]
  exact (State.sameBytes_firePhys _ _ _).1.trans h

/-- Bytes of one line that the host or a peer writes act on the line in which a slice holds them. -/
theorem State.physWrite_of_line {s : State} {pa h key : Nat} (bs : List Byte) (hl : s.linesAt pa = [(h, key)]) :
    s.physWrite pa bs = s.writeLine h key (key / 2 ^ 50) (key % 2 ^ 50 * 64 + pa % 64) bs := by
  simp [State.physWrite, hl]

/-- A byte that no slice holds by virtual address waits for no revoke. -/
theorem State.physBusy_byte_of_no_line {s : State} {pa : Nat} (hl : s.linesAt pa = []) : s.physBusy pa 1 = false := by
  simp [State.physBusy, pieces_one_byte, hl]

end Sys2Proof.Machine

/-! Proofs about the writes of the host (R4, R264, R383, R425 to R427, R431, R441). -/
namespace Sys2Proof.Machine

/-! ## Doorbells and mailboxes (R383, R426, R427) -/

theorem doorbellOf_doorbell {ctx : Nat} (h : ctx < 4096) : doorbellOf (0x1000000 + 0x1000 * ctx) = some ctx := by
  have hd : (0x1000000 + 0x1000 * ctx - 0x1000000) / 0x1000 = ctx := by omega
  rw [doorbellOf, if_pos (by omega), hd]

theorem doorbellOf_register {off : Nat} (h : off < 0x1000000) : doorbellOf off = none := if_neg (by omega)

@[simp] theorem State.box_modBox (s : State) (fn : Nat) (f : Mailbox → Mailbox) : (s.modBox fn f).box fn = f (s.box fn) :=
  tabVal_tabPut_self _ _ _ _

/-- A doorbell of a function is a call of firmware. -/
theorem exec_doorbell {s : State} {fn ctx val : Nat} (hf : fn ≤ 12) (hc : ctx < 4096) (hv : val < 2 ^ 64) :
    exec (.doorbell fn (0x1000000 + 0x1000 * ctx) val) s = .next (s.hostCall fn (0x1000000 + 0x1000 * ctx) val) := by
  show execDoorbell fn _ val s = _
  simp only [execDoorbell, doorbellOf_doorbell hc, hf, if_true, Nat.mod_eq_of_lt hv]

/-- While firmware changes image a doorbell is latched (R441). -/
theorem State.hostCall_doorbell_changing {s : State} {ctx : Nat} (fn val : Nat) (hc : ctx < 4096) (h : s.changing = true) :
    s.hostCall fn (0x1000000 + 0x1000 * ctx) val =
      { s with fw := { s.fw with latched := s.fw.latched ++ [(fn, 0x1000000 + 0x1000 * ctx, val)] } } := by
  simp only [State.hostCall, doorbellOf_doorbell hc, h, if_true]

/-- Otherwise firmware takes it. -/
theorem State.hostCall_doorbell {s : State} {ctx : Nat} (fn val : Nat) (hc : ctx < 4096) (h : s.changing = false) :
    s.hostCall fn (0x1000000 + 0x1000 * ctx) val = s.takeDoorbell fn ctx val := by
  simp [State.hostCall, doorbellOf_doorbell hc, h]

/-- A queue of a context that the function has, which no slot holds and nobody has announced, is noted (R383). -/
theorem State.takeDoorbell_unseen {s : State} {fn ctx val : Nat} {c : Ctx} (hc : s.ctx ctx = some c) (hcan : canonical val = true)
    (hf : s.fnHas fn c.part = true) (hq : s.slotsOfQueue ctx val = []) (hn : (val, ctx) ∉ s.cp.seen) :
    s.takeDoorbell fn ctx val = { s with cp := { s.cp with seen := s.cp.seen ++ [(val, ctx)] } } := by
  simp [State.takeDoorbell, hc, hcan, hf, hq, hn]

/-- Below the doorbells a write of the host is one of BAR0's registers. -/
theorem exec_registerWrite_host {s : State} {off : Nat} (fn val : Nat) (h : off < 0x1000000) :
    exec (.registerWrite (.host fn off val)) s = .next (s.hostWrite fn off (val % 2 ^ 64)) := by
  show execRegisterWrite (.host fn off val) s = _
  simp [execRegisterWrite, doorbellOf_register h]

theorem State.hostWrite_arg {fn i : Nat} (s : State) (val : Nat) (hf : fn ≤ 12) (hi : i < 4) :
    s.hostWrite fn (8 * i) val = s.modBox fn fun b => { b with args := b.args.set i val } := by
  have hd : 8 * i / 8 = i := by omega
  rw [State.hostWrite, if_neg (by omega), if_pos (by omega), hd]

/-- A write at 0x20 is `MBGO`. -/
theorem State.hostWrite_go {fn : Nat} (s : State) (val : Nat) (hf : fn ≤ 12) : s.hostWrite fn 0x20 val = s.takeGo fn val := by
  rw [State.hostWrite, if_neg (by omega), if_neg (by omega), if_pos rfl, State.hostCall, doorbellOf_register (by omega)]

theorem State.takeGo_busy {s : State} {fn : Nat} (val : Nat) (h : (s.box fn).busy = true) : s.takeGo fn val = s := if_pos h

theorem State.takeGo_idle {s : State} {fn : Nat} (val : Nat) (h : (s.box fn).busy = false) :
    s.takeGo fn val = s.modBox fn fun b => { b with busy := true, cmd := val % 256, given := b.args, ran := false, status := 1 } :=
  if_neg (by simp [h])

/-- Above the mailbox the registers are the PF's. -/
theorem State.hostWrite_pf {off : Nat} (s : State) (val : Nat) (h8 : off % 8 = 0) (h : 0x20 < off) :
    s.hostWrite 0 off val = s.pfWrite off val := by
  rw [State.hostWrite, if_neg (by omega), if_neg (by omega), if_neg (by omega), if_pos rfl]

theorem State.pfWrite_lkto (s : State) (val : Nat) :
    s.pfWrite 0x20008 val = { s with links := { s.links with lkto := val % 2 ^ 32 } } := by simp [State.pfWrite]

theorem State.pfWrite_aperture (s : State) (val : Nat) :
    s.pfWrite 0x100000 val = { s with host := { s.host with aperture := bits val 36 12 * 2 ^ 36 } } := by simp [State.pfWrite]

/-! ## BAR2 (R425) -/

/-- A read that touches a word that is being revoked waits (R262, R264). -/
theorem exec_bar2Access_read_busy {s : State} {off : Nat} (h : s.physBusy (s.host.aperture + off) 8 = true) :
    exec (.bar2Access off none) s = .next s := by
  show execBar2Access off none s = _
  exact if_pos h

/-- So does a write. -/
theorem exec_bar2Access_write_busy {s : State} {off : Nat} {bs : List Byte}
    (h : s.physBusy (s.host.aperture + off) bs.length = true) : exec (.bar2Access off (some bs)) s = .next s := by
  show execBar2Access off (some bs) s = _
  exact if_pos h

/-- The eight bytes of a read: those of the tiers as they stand, and all ones beyond the tiers. -/
theorem exec_bar2Access_read {s : State} {off : Nat} (hoff : off + 8 ≤ 2 ^ 36) (h : s.physBusy (s.host.aperture + off) 8 = false) :
    exec (.bar2Access off none) s = .next { s with host := { s.host with lastRead := (List.range 8).map (fun i =>
      if inTier (s.host.aperture + off + i) = true then s.physByte (s.host.aperture + off + i) else 0xFF) } } := by
  have hbytes : ∀ i ∈ List.range 8,
      (if off + i < 2 ^ 36 ∧ inTier (s.host.aperture + off + i) then s.physByte (s.host.aperture + off + i) else (0xFF : Byte)) =
        if inTier (s.host.aperture + off + i) then s.physByte (s.host.aperture + off + i) else 0xFF := by
    intro i hi
    have hlt : off + i < 2 ^ 36 := by have := List.mem_range.mp hi; omega
    simp only [hlt, true_and]
  show execBar2Access off none s = _
  simp only [execBar2Access, h, Bool.false_eq_true, if_false, List.map_congr_left hbytes]

/-- A byte written within the tiers is a write by physical address. -/
theorem exec_bar2Access_writeByte {s : State} {off : Nat} (b : Byte) (hoff : off < 2 ^ 36) (ht : inTier (s.host.aperture + off) = true)
    (h : s.physBusy (s.host.aperture + off) 1 = false) :
    exec (.bar2Access off (some [b])) s = .next (s.physWrite (s.host.aperture + off) [b]) := by
  have hin : s.host.aperture + off - (s.host.aperture + off) + off < 2 ^ 36 ∧ inTier (s.host.aperture + off) = true := ⟨by omega, ht⟩
  show execBar2Access off (some [b]) s = _
  simp only [execBar2Access, List.length_singleton, h, pieces_one_byte, List.foldl_cons, List.foldl_nil]
  rw [if_neg Bool.false_ne_true, if_pos hin, Nat.sub_self]
  rfl

/-- A byte written to a line that a slice holds by virtual address goes to that line and revokes the owner of its word (R264, log 9). -/
theorem exec_bar2Access_writeByte_line {s : State} {off h key : Nat} {l : SLine} (b : Byte) (hoff : off < 2 ^ 36)
    (ht : inTier (s.host.aperture + off) = true) (hl : s.linesAt (s.host.aperture + off) = [(h, key)])
    (hk : tabGet (s.slice h).lines key = some l) (hb : s.physBusy (s.host.aperture + off) 1 = false) :
    ∃ t m, exec (.bar2Access off (some [b])) s = .next t ∧ t.mem = s.mem ∧ tabGet (t.slice h).lines key = some m ∧ m.dirty = true ∧
      m.words = linePut l.words ((s.host.aperture + off) % 64) [b] ∧
      ∀ c, tabGet l.owners ((s.host.aperture + off) % 64 / 4) = some (.core c) →
        tabGet m.owners ((s.host.aperture + off) % 64 / 4) = some (.revoke c none none) := by
  have hva : (key % 2 ^ 50 * 64 + (s.host.aperture + off) % 64) % 64 = (s.host.aperture + off) % 64 := by omega
  obtain ⟨hmem, os, hlines, hos⟩ :=
    State.writeLine_lines (key / 2 ^ 50) (key % 2 ^ 50 * 64 + (s.host.aperture + off) % 64) [b] hk
  rw [hva] at hlines
  rw [List.length_singleton, touched_one_byte, hva] at hos
  refine ⟨_, { l with words := linePut l.words ((s.host.aperture + off) % 64) [b], dirty := true, owners := os },
    (exec_bar2Access_writeByte b hoff ht hb).trans (by rw [State.physWrite_of_line [b] hl]), hmem, ?_, rfl, rfl, hos _ List.mem_cons_self⟩
  rw [hlines, tabGet_tabMod_self, hk, Option.map_some]

/-! ## The obligation -/

/-- Settles O54: each clause is read off an equation of `exec` above for that write; a byte written through BAR2 goes where `physWrite`
puts it, and the monitors that then fire change no byte. -/
theorem hostWritesTakeEffect : Obligations.HostWritesTakeEffect := by
  intro s
  refine ⟨?doorbell, ?latched, ?argument, ?goBusy, ?goIdle, ?registers, ?binding, ?bar2Busy, ?bar2Read, ?bar2Write, ?bar2Line⟩
  case doorbell =>
    intro fn ctx val c hfn hctx hval hch hc hcan hhas hq hseen
    refine ⟨_, exec_doorbell hfn hctx hval, ?_⟩
    rw [State.hostCall_doorbell fn val hctx hch, State.takeDoorbell_unseen hc hcan hhas hq hseen]
    exact ⟨rfl, rfl⟩
  case latched =>
    intro fn ctx val hfn hctx hval hch
    refine ⟨_, exec_doorbell hfn hctx hval, ?_⟩
    rw [State.hostCall_doorbell_changing fn val hctx hch]
    exact ⟨rfl, rfl, rfl⟩
  case argument =>
    intro fn i val hfn hi hval
    refine ⟨_, exec_registerWrite_host fn val (by omega), ?_⟩
    rw [Nat.mod_eq_of_lt hval, State.hostWrite_arg s val hfn hi]
    exact ⟨rfl, by simp⟩
  case goBusy =>
    intro fn val hfn hbusy
    rw [exec_registerWrite_host fn val (by omega), State.hostWrite_go s _ hfn, State.takeGo_busy _ hbusy]
  case goIdle =>
    intro fn val hfn hval hidle
    refine ⟨_, exec_registerWrite_host fn val (by omega), ?_⟩
    rw [Nat.mod_eq_of_lt hval, State.hostWrite_go s val hfn, State.takeGo_idle val hidle]
    simp
  case registers =>
    intro val hval
    refine ⟨⟨_, exec_registerWrite_host 0 val (by omega), ?_⟩, ⟨_, exec_registerWrite_host 0 val (by omega), ?_⟩, ⟨_, rfl, rfl, rfl⟩⟩
    · rw [Nat.mod_eq_of_lt hval, State.hostWrite_pf s val (by omega) (by omega), State.pfWrite_lkto]
      exact ⟨rfl, rfl⟩
    · rw [Nat.mod_eq_of_lt hval, State.hostWrite_pf s val (by omega) (by omega), State.pfWrite_aperture]
      exact ⟨rfl, rfl⟩
  case binding =>
    intro vf part h0 h12
    exact ⟨_, if_neg (by omega), rfl, tabVal_tabPut_self _ _ _ _⟩
  case bar2Busy =>
    intro off data hbusy
    cases data with
    | none => exact exec_bar2Access_read_busy hbusy
    | some bs => exact exec_bar2Access_write_busy hbusy
  case bar2Read =>
    intro off hoff hidle
    refine ⟨_, exec_bar2Access_read hoff hidle, rfl, by simp, fun i hi => ?_⟩
    rw [List.getD_eq_getElem?_getD, List.getElem?_map, List.getElem?_range hi, Option.map_some, Option.getD_some]
  case bar2Write =>
    intro off b hoff ht hslices hl
    have hmem := State.physWrite_byte_mem b hl (State.slice_of_mem (P := fun S => S.plines = []) hslices rfl _)
    refine ⟨_, exec_bar2Access_writeByte b hoff ht (State.physBusy_byte_of_no_line hl), ?_, fun a ha => ?_⟩
    · rw [hmem, memByte_memPut_self]
    · rw [hmem, memByte_memPut_ne _ _ _ _ ha]
  case bar2Line => exact fun off b h key l hoff ht hl hk hb => exec_bar2Access_writeByte_line b hoff ht hl hk hb

end Sys2Proof.Machine

/-! Proofs about the invariant of runs: bundles as R37 forms them, spares as SPARES names them (R377). -/
namespace Sys2Proof.Machine
open Sys2Proof.Safety

/-! ## Bundles as splitting forms them (R37) -/

/-- Some of the listed fibres as a bundle holds them: in rising order, at one program counter and window base, in one context. -/
def BundleOf (W : Wave) (fs b : List Nat) : Prop :=
  b ≠ [] ∧ b.Pairwise (· < ·) ∧ ∀ f ∈ b, f ∈ fs ∧ (W.fib f).bundleKey = (W.fib (b.headD 0)).bundleKey

theorem BundleOf.mono {W : Wave} {fs gs b : List Nat} (h : BundleOf W fs b) (hsub : ∀ f ∈ fs, f ∈ gs) : BundleOf W gs b :=
  ⟨h.1, h.2.1, fun f hf => ⟨hsub f (h.2.2 f hf).1, (h.2.2 f hf).2⟩⟩

/-- Splitting a rising list of fibres gives rising parts, each of one program counter, window base and context. -/
theorem Wave.bundleOf_of_mem_splitBy {W : Wave} {n : Nat} {fs b : List Nat} (hfs : fs.Pairwise (· < ·)) (hb : b ∈ W.splitBy n fs) :
    BundleOf W fs b := by
  induction n generalizing fs with
  | zero => cases hb
  | succ n ih =>
    cases fs with
    | nil => cases hb
    | cons f fs =>
      obtain ⟨hlt, hrest⟩ := List.pairwise_cons.mp hfs
      rcases List.mem_cons.mp hb with rfl | hb
      · refine ⟨List.cons_ne_nil _ _, List.pairwise_cons.mpr ⟨fun g hg => hlt g (List.mem_of_mem_filter hg), hrest.filter _⟩, ?_⟩
        intro g hg
        rcases List.mem_cons.mp hg with rfl | hg
        · exact ⟨List.mem_cons_self, rfl⟩
        · exact ⟨List.mem_cons_of_mem _ (List.mem_of_mem_filter hg), by simpa using (List.mem_filter.mp hg).2⟩
      · exact (ih (hrest.filter _) hb).mono fun g hg => List.mem_cons_of_mem _ (List.mem_of_mem_filter hg)

/-- The fibre numbers that a test picks rise. -/
theorem pairwise_lt_fibres (p : Nat → Bool) : ((List.range 32).filter p).Pairwise (· < ·) := List.pairwise_lt_range.filter p

theorem Wave.mem_live {W : Wave} {f : Nat} : f ∈ W.live ↔ f < 32 ∧ (W.fib f).isLive = true := by
  simp [Wave.live]

/-- What the rebundling of a wave puts together is formed as R37 says, whatever stood before. -/
theorem Wave.bundlesFormed_rebundle (W : Wave) : bundlesFormed W.rebundle := by
  have hpart : ∀ (p : Nat → Bool), (∀ f, p f = true → (W.fib f).bundled = true) →
      ∀ b ∈ W.splitBy 32 ((List.range 32).filter p), b ≠ [] ∧ b.Pairwise (· < ·) ∧
        ∀ f ∈ b, f ∈ W.live ∧ (W.fib f).wait = .none ∧ (W.fib f).bundleKey = (W.fib (b.headD 0)).bundleKey := by
    intro p hp b hb
    obtain ⟨hne, hlt, hall⟩ := Wave.bundleOf_of_mem_splitBy (pairwise_lt_fibres p) hb
    refine ⟨hne, hlt, fun f hf => ?_⟩
    obtain ⟨hmem, hkey⟩ := hall f hf
    obtain ⟨hr, hpf⟩ := List.mem_filter.mp hmem
    have hbd := hp f hpf
    simp only [Fibre.bundled, Bool.and_eq_true, beq_iff_eq] at hbd
    exact ⟨Wave.mem_live.mpr ⟨List.mem_range.mp hr, hbd.1⟩, hbd.2, hkey⟩
  intro b hb
  rcases List.mem_append.mp hb with hb | hb
  · obtain ⟨a, -, ha⟩ := List.mem_flatMap.mp hb
    exact hpart _ (fun f hf => by simp only [Bool.and_eq_true] at hf; exact hf.1.1) b ha
  · exact hpart _ (fun f hf => by simp only [Bool.and_eq_true] at hf; exact hf.1) b hb

/-! ## What follows every step -/

/-- Spares are those that the update finds named. -/
theorem State.sparesNamed_spareUpdate (s : State) : sparesNamed s.spareUpdate := by
  have hnamed : ∀ (p : Nat → Bool) (d : Nat), d ∈ (List.range 12).filter (fun d => s.cp.spares.testBit d && p d) →
      d < 12 ∧ s.cp.spares.testBit d = true := by
    intro p d hd
    obtain ⟨hr, hp⟩ := List.mem_filter.mp hd
    exact ⟨List.mem_range.mp hr, (Bool.and_eq_true_iff.mp hp).1⟩
  unfold State.spareUpdate
  dsimp only
  split
  · next h => exact fun d hd => hnamed _ d (h.symm ▸ hd)
  · intro d hd
    dsimp only at hd ⊢
    exact hnamed _ d hd

theorem State.spareUpdate_groups (s : State) : s.spareUpdate.groups = s.groups := by
  unfold State.spareUpdate
  dsimp only
  split <;> rfl

theorem State.bundlesFormed_rebundleAll (s : State) : ∀ e ∈ s.rebundleAll.groups, ∀ x ∈ e.2.waves, bundlesFormed x.2 := by
  intro e he x hx
  obtain ⟨e', -, rfl⟩ := List.mem_map.mp he
  obtain ⟨x', -, rfl⟩ := List.mem_map.mp hx
  exact x'.2.bundlesFormed_rebundle

/-- Whatever a turn has done, the invariant holds once what follows it is done. -/
theorem State.inv_settle (s : State) : Inv s.settle := by
  unfold State.settle
  split
  · next h => exact ⟨rfl, fun hf => by simp [h] at hf⟩
  · refine ⟨rfl, fun _ => ⟨State.sparesNamed_spareUpdate _, fun e he => ?_⟩⟩
    exact State.bundlesFormed_rebundleAll _ e (by simpa only [State.spareUpdate_groups] using he)

/-! ## A pair that does not issue -/

/-- The second state has the bundles of the first, its spares and its clocks: the groups may have been marked as started. -/
def State.sameBundles (s t : State) : Prop :=
  t.pw = s.pw ∧ t.cp = s.cp ∧ ∀ e ∈ t.groups, ∃ e' ∈ s.groups, e.2.waves = e'.2.waves

theorem State.sameBundles.refl (s : State) : s.sameBundles s := ⟨rfl, rfl, fun e he => ⟨e, he, rfl⟩⟩

theorem State.sameBundles.trans {s t u : State} (h : s.sameBundles t) (k : t.sameBundles u) : s.sameBundles u := by
  refine ⟨k.1.trans h.1, k.2.1.trans h.2.1, fun e he => ?_⟩
  obtain ⟨e', he', hw⟩ := k.2.2 e he
  obtain ⟨e'', he'', hw'⟩ := h.2.2 e' he'
  exact ⟨e'', he'', hw.trans hw'⟩

theorem mem_tabMod {α : Type} {t : Tab α} {k : Nat} {f : α → α} {x : Nat × α} (h : x ∈ tabMod t k f) :
    ∃ y ∈ t, x = y ∨ x = (y.1, f y.2) := by
  induction t with
  | nil => cases h
  | cons e r ih =>
    obtain ⟨j, v⟩ := e
    unfold tabMod at h
    split at h <;> rcases List.mem_cons.mp h with rfl | h
    · exact ⟨_, List.mem_cons_self, .inr rfl⟩
    · exact ⟨x, List.mem_cons_of_mem _ h, .inl rfl⟩
    · exact ⟨_, List.mem_cons_self, .inl rfl⟩
    · obtain ⟨y, hy, e⟩ := ih h
      exact ⟨y, List.mem_cons_of_mem _ hy, e⟩

theorem State.sameBundles_started (s : State) (g : Nat) : s.sameBundles (s.started g) := by
  refine ⟨rfl, rfl, fun e he => ?_⟩
  obtain ⟨y, hy, h⟩ := mem_tabMod he
  refine ⟨y, hy, ?_⟩
  rcases h with rfl | rfl <;> rfl

theorem State.sameBundles_of_eq {s t : State} (hp : t.pw = s.pw) (hc : t.cp = s.cp) (hg : t.groups = s.groups) : s.sameBundles t :=
  ⟨hp, hc, fun e he => ⟨e, hg ▸ he, rfl⟩⟩

theorem State.sameBundles_fillIcache (s : State) (core asid va : Nat) : s.sameBundles (s.fillIcache core asid va) := by
  unfold State.fillIcache
  split
  · exact .refl s
  · split
    · exact State.sameBundles_of_eq rfl rfl rfl
    · exact .refl s

theorem State.sameBundles_fetched (s : State) (core : Nat) (G : Group) (c : Issue) (facet : Bool) :
    s.sameBundles (s.fetched core G c facet) := by
  unfold State.fetched
  dsimp only
  split
  · exact .refl s
  · split
    · exact (s.sameBundles_fillIcache _ _ _).trans (State.sameBundles_fillIcache _ _ _ _)
    · exact s.sameBundles_fillIcache _ _ _

theorem State.inv_issuing_none {s t : State} (hs : Inv s) (h : s.sameBundles t) : Inv (t.issuing none) := by
  obtain ⟨hp, hc, hg⟩ := h
  refine ⟨rfl, fun hf => ?_⟩
  obtain ⟨hsp, hb⟩ := hs.2 ((congrArg Power.frozen hp).symm.trans hf)
  refine ⟨fun d hd => ?_, fun e he x hx => ?_⟩
  · exact hc ▸ hsp d (hc ▸ hd)
  · obtain ⟨e', he', hw⟩ := hg e he
    exact hb e' he' x (hw ▸ hx)

/-! ## What a turn chooses -/

/-- A mirror pair that a turn chooses issues in a state that has the bundles of the state before the turn. -/
def Chosen.pairIn (s : State) : Chosen → Prop
  | .both t _ _ _ _ => s.sameBundles t
  | _ => True

theorem Chosen.pairIn_ite {s : State} {p : Prop} [Decidable p] {x y : Chosen} (hx : x.pairIn s) (hy : y.pairIn s) :
    (if p then x else y).pairIn s := by
  split
  · exact hx
  · exact hy

theorem State.pairIn_issuePair (s : State) (core tcore g t w : Nat) (G T : Group) (x y : Fetched) :
    (s.issuePair core tcore g t w G T x y).pairIn s := by
  unfold State.issuePair
  split
  · trivial
  · trivial
  · split
    · refine Chosen.pairIn_ite trivial ?_
      exact (((s.sameBundles_started g).trans (State.sameBundles_started _ t)).trans (State.sameBundles_fetched _ _ _ _ _)).trans
        (State.sameBundles_fetched _ _ _ _ _)
    · trivial

theorem State.pairIn_issueOne (s : State) (core g w : Nat) (G : Group) (x : Fetched) : (s.issueOne core g w G x).pairIn s := by
  unfold State.issueOne
  split
  · trivial
  · split <;> trivial

theorem State.pairIn_issueFetched (s : State) (g w k : Nat) (G : Group) (x : Fetched) : (s.issueFetched g w k G x).pairIn s := by
  unfold State.issueFetched
  split
  · split
    · exact s.pairIn_issueOne _ _ _ _ _
    · trivial
  · split
    · split
      · split
        · exact s.pairIn_issuePair _ _ _ _ _ _ _ _ _
        · trivial
      · trivial
    · trivial
  · trivial

theorem State.pairIn_issueTurn (s : State) (g w k : Nat) : (s.issueTurn g w k).pairIn s := by
  unfold State.issueTurn
  split
  · exact s.pairIn_issueFetched _ _ _ _ _
  · trivial

theorem State.pairIn_slotTurn (s : State) (core : Nat) : (s.slotTurn core).pairIn s := by
  unfold State.slotTurn
  split
  · trivial
  · split <;> exact s.pairIn_issueTurn _ _ _

theorem Chosen.pairIn_drawn {s : State} {x : Chosen} (h : x.pairIn s.drawn) : x.pairIn s := by
  cases x with
  | both t i c j d => exact (State.sameBundles_of_eq (s := s) (t := s.drawn) rfl rfl rfl).trans h
  | _ => trivial

theorem State.pairIn_strike (s : State) (x : Strike) : (s.strike x).pairIn s := by
  unfold State.strike
  split
  case h_3 =>
    split
    · dsimp only
      split
      · exact Chosen.pairIn_drawn (s.drawn.pairIn_issueFetched _ _ _ _ _)
      · trivial
    · trivial
  case h_7 =>
    split
    · split <;> trivial
    · trivial
  all_goals trivial

theorem State.pairIn_chosen (s : State) (t : Turn) : (s.chosen t).pairIn s := by
  unfold State.chosen
  split
  · split <;> trivial
  · exact s.pairIn_slotTurn _
  · split
    · exact s.pairIn_issueTurn _ _ _
    · trivial
  · trivial
  · trivial
  · exact s.pairIn_strike _
  · trivial

theorem State.pairIn_turnsTo (s : State) (t : Turn) (rest : List Turn) : (s.turnsTo t rest).pairIn { s with agenda := rest } := by
  unfold State.turnsTo
  dsimp only
  split
  · trivial
  · exact State.pairIn_chosen _ t

theorem State.pairIn_idleTurn (s : State) : s.idleTurn.pairIn s := by
  unfold State.idleTurn
  split
  · exact s.pairIn_slotTurn _
  · trivial

/-! ## What a step leads to -/

theorem inv_perform {s t : State} {i : Instr} {c : Option Issue} (h : perform s i c = .next t) : Inv t := by
  unfold perform at h
  split at h <;> cases h
  exact State.inv_settle _

/-- A pair whose twin is not ready does not issue: it leaves the state as it was, and any other pair is followed by what follows every step. -/
theorem inv_performBoth {s t : State} {i j : Instr} {c d : Issue} (hs : Inv (s.issuing none)) (h : performBoth s i c j d = .next t) :
    Inv t := by
  unfold performBoth at h
  split at h
  · split at h
    · unfold performTwin at h
      split at h
      · cases h
        exact hs
      · split at h <;> cases h
        exact State.inv_settle _
    · split at h <;> cases h <;> exact State.inv_settle _
  · cases h
  · cases h

theorem inv_performClash {s t : State} {x y : Fetched} {low : Option State} (h : performClash s x y low = .next t) : Inv t := by
  unfold performClash at h
  split at h <;> cases h <;> exact State.inv_settle _

theorem inv_performStruck {s t : State} {i : Instr} {c : Issue} {w : Word} (h : performStruck s i c w = .next t) : Inv t := by
  unfold performStruck at h
  split at h <;> cases h
  exact State.inv_settle _

/-- What a turn has chosen keeps the invariant. -/
theorem inv_runChosen {s t : State} {x : Chosen} (hs : Inv s) (hx : x.pairIn s) (h : runChosen x = .next t) : Inv t := by
  cases x with
  | idle u => cases h; exact State.inv_settle _
  | perform u i c => exact inv_perform h
  | both u i c j d => exact inv_performBoth (State.inv_issuing_none hs hx) h
  | clash u x y low => exact inv_performClash h
  | struck u i c w => exact inv_performStruck h
  | tile u x => cases h; exact State.inv_settle _

theorem inv_idleStep {s t : State} (hs : Inv s) (h : idleStep s = .next t) : Inv t := by
  unfold idleStep at h
  split at h
  · cases h
    exact State.inv_settle _
  · next o hne _ => exact absurd h (fun e => hne t e)
  · exact inv_runChosen hs s.pairIn_idleTurn h

/-- Settles O11: what follows every turn forms bundles and spares anew; only a mirror pair that cannot issue, and a machine that is held,
go on without it, and they keep the bundles and spares that stood. -/
theorem stepKeepsTheInvariant : Obligations.StepKeepsTheInvariant := by
  intro s t hs h
  unfold step at h
  split at h
  · next u rest _ => exact inv_runChosen (s := { s with agenda := rest }) hs (s.pairIn_turnsTo u rest) h
  · split at h
    · cases h
      exact State.inv_issuing_none hs (.refl s)
    · exact inv_idleStep hs h

/-- Settles O10: after reset nothing is resident and no die is spare. -/
theorem invariantAtReset : Obligations.InvariantAtReset :=
  ⟨rfl, fun _ => ⟨fun _ hd => (List.not_mem_nil hd).elim, fun _ he => (List.not_mem_nil he).elim⟩⟩

end Sys2Proof.Machine

/-! Proofs about the step that a turn performs: what a bundle's words decode to (R60, R76) and how the arbiter's grant is performed (R43). -/
namespace Sys2Proof.Machine
open Sys2Proof.Safety

/-! ## Decoding at a program counter (R60, R76) -/

/-- Words that decode, where no facet slot matches and the opcode is allowed, are the instruction that they decode to. -/
theorem State.decodeAt_run {s : State} {core g w w0 w1 : Nat} {G : Group} {W : Wave} {fs : List Nat} {i : Instr}
    (hw0 : s.wordAt core G (W.fib (fs.headD 0)).facet.isSome (W.fib (fs.headD 0)).curPc = .ok w0) (h0 : w0 ≠ 0) (h1 : w0 ≠ 0xFFFFFFFF)
    (ha : assigned (w0 / 2 ^ 24 % 2 ^ 8) = true)
    (hw1 : hasTwoWords w0 = true → s.wordAt core G (W.fib (fs.headD 0)).facet.isSome ((W.fib (fs.headD 0)).curPc + 4) = .ok w1)
    (hone : hasTwoWords w0 = false → w1 = 0)
    (hm : (W.fib (fs.headD 0)).facet.isSome = true ∨ facetMatch s.facet.active w0 G.hdr.level G.firmware = none)
    (hop : opAllowed (w0 / 2 ^ 24 % 2 ^ 8) G (W.fib (fs.headD 0)).facet.isSome = true) (hd : decodeWords w0 w1 = .ok i) :
    s.decodeAt core g w G W fs =
      .run { grp := g, wave := w, fibres := fs, pc := (W.fib (fs.headD 0)).curPc, w0 := w0, w1 := w1 } i := by
  have hnone : (if (W.fib (fs.headD 0)).facet.isSome = true then none else facetMatch s.facet.active w0 G.hdr.level G.firmware) = none := by
    rcases hm with hm | hm
    · exact if_pos hm
    · rw [hm, ite_self]
  have hsecond : (if hasTwoWords w0 = true then s.wordAt core G (W.fib (fs.headD 0)).facet.isSome ((W.fib (fs.headD 0)).curPc + 4)
      else .ok 0) = .ok w1 := by
    cases h2 : hasTwoWords w0
    · simp [hone h2]
    · simpa using hw1 h2
  simp only [State.decodeAt, hw0, h0, h1, or_self, if_false, hnone, Option.isNone_none, bits, ha, hop, Bool.not_true,
    Bool.false_eq_true, and_false, hsecond, hd]

/-! ## Turns of the agenda -/

theorem step_of_turn {s : State} {t : Turn} {rest : List Turn} (ha : s.agenda = t :: rest) (hf : s.pw.frozen = false) :
    step s = runChosen (State.chosen { s with agenda := rest } t) := by
  simp only [step, ha, State.turnsTo, hf, Bool.false_and, Bool.false_eq_true, if_false]

theorem State.chosen_issue {s : State} {g w k : Nat} (h : s.grants g w k = true) : s.chosen (.issue g w k) = s.issueTurn g w k := by
  simp [State.chosen, h]

theorem State.chosen_event {s : State} {i : Instr} (h : isEvent i = true) : s.chosen (.event i) = .perform s i none := by
  simp [State.chosen, h]

/-- A bundle of a group without a twin that is offered an instruction performs it. -/
theorem State.issueTurn_one {s : State} {g w k core : Nat} {G : Group} {W : Wave} {c : Issue} {i : Instr} (hG : s.group g = some G)
    (hW : s.wave g w = some W) (hcore : G.core? = some core) (htw : G.twin = none) (ho : s.offered g w k = some (.run c i))
    (hslot : s.slotFree core g w = true) :
    s.issueTurn g w k = .perform ((s.started g).fetched core G c (W.inFacet c)) i (some c) := by
  simp only [State.issueTurn, hG, ho, State.issueFetched, hcore, htw, hslot, if_true, State.issueOne, hW]

/-- A mirror pair whose twins decode to one signature issues both. -/
theorem State.issuePair_both {s : State} {core tc g t w : Nat} {G T : Group} {W V : Wave} {c d : Issue} {i j : Instr}
    (hW : s.wave g w = some W) (hV : s.wave t w = some V) (hcmp : compared i = compared j)
    (hsig : compared i = true → signature i W c = signature j V d) :
    s.issuePair core tc g t w G T (.run c i) (.run d j) =
      .both ((((s.started g).started t).fetched core G c (W.inFacet c)).fetched tc T d (V.inFacet d)) i c j d := by
  have heq : (if compared i = true then some (signature i W c) else none) = if compared j = true then some (signature j V d) else none := by
    rw [← hcmp]
    cases h : compared i
    · rfl
    · simp [hsig h]
  simp only [State.issuePair, hW, hV, heq, ne_eq, not_true_eq_false, if_false]

theorem State.issueTurn_pair {s : State} {g t w k core tc : Nat} {G T : Group} {W V : Wave} {c d : Issue} {i j : Instr}
    (hG : s.group g = some G) (hW : s.wave g w = some W) (hcore : G.core? = some core) (htw : G.twin = some (t, false))
    (hT : s.group t = some T) (hV : s.wave t w = some V) (htc : T.core? = some tc) (ho : s.offered g w k = some (.run c i))
    (hot : s.offered t w (V.twinBundle ((W.bundles[k]?).getD [])) = some (.run d j)) (hslot : s.slotFree core g w = true)
    (hslott : s.slotFree tc t w = true) :
    s.issueTurn g w k = s.issuePair core tc g t w G T (.run c i) (.run d j) := by
  simp only [State.issueTurn, hG, ho, State.issueFetched, hcore, htw, hT, hV, hW, htc, hot, hslot, hslott, Bool.and_self, if_true]

/-- Settles O5: the turn at the agenda's head chooses the granted bundle's instruction, and the chosen instruction is performed. -/
theorem stepRunsTheDecodedInstruction : Obligations.StepRunsTheDecodedInstruction := by
  refine ⟨?decodes, ?one, ?pair, ?twin, ?event⟩
  case decodes =>
    intro s core g w w0 w1 G W fs F i hF hw0 h0 h1 ha hw1 hone hm hop hd
    subst hF
    exact State.decodeAt_run hw0 h0 h1 ha hw1 hone hm hop hd
  case one =>
    intro s u g w k core rest G W c i ha hf hu hG hW hcore htw ho hslot hgr
    subst hu
    rw [step_of_turn ha hf, State.chosen_issue hgr, State.issueTurn_one hG hW hcore htw ho hslot]
    rfl
  case pair =>
    intro s u g t w k core tc rest G T W V c d i j ha hf hu hG hW hcore htw hT hV htc ho hot hslot hslott hgr hcmp hsig
    subst hu
    rw [step_of_turn ha hf, State.chosen_issue hgr, State.issueTurn_pair hG hW hcore htw hT hV htc ho hot hslot hslott,
      State.issuePair_both hW hV hcmp hsig]
    rfl
  case twin =>
    intro s c d i j t u hi hgoes hready hj
    simp only [performBoth, hi, hgoes, if_true, performTwin, hready, Bool.not_true, Bool.false_eq_true, if_false, hj]
  case event =>
    intro s u rest i ha hf hev hu
    subst hu
    rw [step_of_turn ha hf, State.chosen_event hev]
    rfl

end Sys2Proof.Machine

/-! Proofs about the gate of an issuing bundle (R32, R63, R65, R71, R74, R76): every meaning of an instruction word begins there. -/
namespace Sys2Proof.Machine
open Sys2Proof.Safety

/-! ## Which shared meaning an instruction has -/

theorem exec_of_laneOf {i : Instr} {lane : LaneIn → LaneOut} (h : laneOf i = some lane) (s : State) : exec i s = execAlu i lane s := by
  cases i <;> cases h <;> rfl

theorem exec_of_memForm {i : Instr} {m : MemForm} (h : memForm i = some m) (s : State) : exec i s = execMem i s := by
  cases i <;> cases h <;> rfl

/-- The meaning `x` of an instruction in a state begins at the gate. -/
def BeginsAtGate (i : Instr) (s : State) (x : Host.Outcome State Fault Refusal) : Prop := ∃ run, x = issueWith i s run

theorem beginsAtGate_issueWith (i : Instr) (s : State) (run : Issue → Group → Wave → List Nat → Host.Outcome State Fault Refusal) :
    BeginsAtGate i s (issueWith i s run) := ⟨run, rfl⟩

theorem beginsAtGate_execAlu (i : Instr) (lane : LaneIn → LaneOut) (s : State) : BeginsAtGate i s (execAlu i lane s) :=
  beginsAtGate_issueWith i s _

theorem beginsAtGate_execMem (i : Instr) (s : State) : BeginsAtGate i s (execMem i s) := beginsAtGate_issueWith i s _

theorem beginsAtGate_execJump (i : Instr) (s : State) (link check : Bool) (target : Issue → Wave → Nat → Addr) :
    BeginsAtGate i s (execJump i s link check target) := beginsAtGate_issueWith i s _

theorem beginsAtGate_execColl (i : Instr) (s : State) (k : Collective) (mask : Nat) (pa : Option Nat) :
    BeginsAtGate i s (execColl i s k mask pa) := beginsAtGate_issueWith i s _

theorem beginsAtGate_execBar (i : Instr) (s : State) (scope id : Nat) (conf : Bool)
    (run : Issue → Group → Wave → List Nat → Host.Outcome State Fault Refusal) : BeginsAtGate i s (execBar i s scope id conf run) :=
  beginsAtGate_issueWith i s _

theorem beginsAtGate_execCopy (i : Instr) (k : CopyForm) (s : State) : BeginsAtGate i s (execCopy i k s) := beginsAtGate_issueWith i s _

theorem beginsAtGate_execTileOp (i : Instr) (s : State) (bad : Group → Wave → Nat → Option Nat) (fibs : Wave → List Nat → List Nat)
    (data : Wave → Nat → List Word) (next : Issue → Group → Nat → List Acc → State → State) :
    BeginsAtGate i s (execTileOp i s bad fibs data next) := beginsAtGate_issueWith i s _

theorem beginsAtGate_execObj (i : Instr) (s : State) (a : Reg) (bad : Group → Wave → Nat → Option Nat) :
    BeginsAtGate i s (execObj i s a bad) := beginsAtGate_issueWith i s _

theorem beginsAtGate_execState (i : Instr) (s : State) (who : List Nat → List Nat) (data : Wave → Nat → List Word) :
    BeginsAtGate i s (execState i s who data) := beginsAtGate_issueWith i s _

theorem beginsAtGate_execOnce (i : Instr) (s : State) (act : Issue → Group → Wave → Nat → State → SlotOp → State) :
    BeginsAtGate i s (execOnce i s act) := beginsAtGate_issueWith i s _

/-- Every instruction that has an opcode begins at the gate. -/
theorem beginsAtGate_exec {i : Instr} (h : opcodeOf i ≠ 0) (s : State) : BeginsAtGate i s (exec i s) := by
  cases hl : laneOf i with
  | some lane => exact exec_of_laneOf hl s ▸ beginsAtGate_execAlu i lane s
  | none =>
    cases hm : memForm i with
    | some m => exact exec_of_memForm hm s ▸ beginsAtGate_execMem i s
    | none =>
      cases i
      any_goals contradiction
      case bra | brx | call | callx | ret =>
        simp only [exec, execBra, execBrx, execCall, execCallx, execRet, beginsAtGate_execJump]
      case shfl | vote | ballot | schist =>
        simp only [exec, execShfl, execVote, execBallot, execSchist, beginsAtGate_execColl]
      case bara | barw | bars | barc =>
        simp only [exec, execBara, execBarw, execBars, execBarc, beginsAtGate_execBar]
      case cpg2s | cpg2sExt | cps2g | cps2gExt | cpx | cpxExt =>
        simp only [exec, execCpg2s, execCpg2sExt, execCps2g, execCps2gExt, execCpx, execCpxExt, beginsAtGate_execCopy]
      case mxclr | mxrd | mxwr | mxsc | mxhist =>
        simp only [exec, execMxclr, execMxrd, execMxwr, execMxsc, execMxhist, beginsAtGate_execTileOp]
      case objreg | objdrop | clpush | clpop =>
        simp only [exec, execObjreg, execObjdrop, execClpush, execClpop, beginsAtGate_execObj]
      case shrd | shwr | shrg | shwg | shfin =>
        simp only [exec, execShrd, execShwr, execShrg, execShwg, execShfin, beginsAtGate_execState]
      case fctstg | fctact | qmap | qunmap | preempt =>
        simp only [exec, execFctstg, execFctact, execQmap, execQunmap, execPreempt, beginsAtGate_execOnce]
      case nop | trap | yield | stepMark | isync | fspawn | fexit | waitc | gets | sets | mjoin | mleave | mwaitm | mlog | mrd | mwr
          | wgrow | wshrink | wmove | cpfence | twany | twall | tfirst | mxgo | mxwait | fence | fctret | fctrd =>
        simp only [exec, execNop, execTrap, execYield, execStepMark, execIsync, execFspawn, execFexit, execWaitc, execGets, execSets,
          execMjoin, execMleave, execMwaitm, execMlog, execMrd, execMwr, execWgrow, execWshrink, execWmove, execCpfence, execTwany,
          execTwall, execTfirst, execMxgo, execMxwait, execFence, execFctret, execFctrd, beginsAtGate_issueWith]

/-! ## The gate, check by check (R76) -/

section
variable {i : Instr} {s : State} {c : Issue} {G : Group} {W : Wave}

theorem gate_of_not_allowed (h : opAllowed (opcodeOf i) G (W.inFacet c) = false) :
    gate i s G W c = .raise { cause := 0x04, fmask := maskOf c.fibres } := by
  simp [gate, h]

theorem gate_of_reservedValue (ha : opAllowed (opcodeOf i) G (W.inFacet c) = true) (h : reservedValue i = true) :
    gate i s G W c = .raise { cause := 0x06, fmask := maskOf c.fibres } := by
  simp [gate, ha, h]

theorem gate_of_illegalOperand (ha : opAllowed (opcodeOf i) G (W.inFacet c) = true) (hr : reservedValue i = false)
    (h : illegalOperand i = true) : gate i s G W c = .raise { cause := 0x07, fmask := maskOf c.fibres } := by
  simp [gate, ha, hr, h]

/-- A register outside the window of some fibre raises for the fibres in whose window some register does not lie. -/
theorem gate_of_window (ha : opAllowed (opcodeOf i) G (W.inFacet c) = true) (hr : reservedValue i = false)
    (hi : illegalOperand i = false) (h : ∃ f ∈ c.fibres, ∃ r ∈ (opndsOf i).regs, (W.fib f).inWindow r = false) :
    gate i s G W c =
      .raise { cause := 0x05, fmask := maskOf (c.fibres.filter fun f => !(opndsOf i).regs.all (W.fib f).inWindow) } := by
  have hw : (c.fibres.all fun f => (opndsOf i).regs.all (W.fib f).inWindow) = false := by
    obtain ⟨f, hf, r, hr, hout⟩ := h
    refine List.all_eq_false.mpr ⟨f, hf, ?_⟩
    rw [List.all_eq_false.mpr ⟨r, hr, by simp [hout]⟩]
    exact Bool.false_ne_true
  simp [gate, ha, hr, hi, hw]

end

/-! ## What the gate's answer makes of an instruction -/

theorem exec_of_raise {i : Instr} {s : State} {c : Issue} {G : Group} {W : Wave} {r : Raise} (hc : Issuing s c G W)
    (hop : opcodeOf i ≠ 0) (hg : gate i s G W c = .raise r) :
    exec i s = .next (s.takeFault c r false (maskOf (acting i c W)) .none) := by
  obtain ⟨run, hrun⟩ := beginsAtGate_exec hop s
  rw [hrun, issueWith_raise hc hg]

theorem exec_of_stall {i : Instr} {s : State} {c : Issue} {G : Group} {W : Wave} (hc : Issuing s c G W)
    (hop : opcodeOf i ≠ 0) (hg : gate i s G W c = .stall) : exec i s = .next s := by
  obtain ⟨run, hrun⟩ := beginsAtGate_exec hop s
  rw [hrun, issueWith_stall hc hg]

/-- Settles O6: each check of the gate answers once those before it have passed, and every instruction begins at the gate. -/
theorem checksComeBeforeEffects : Obligations.ChecksComeBeforeEffects := by
  intro i s c G W hc
  exact ⟨gate_of_not_allowed, gate_of_reservedValue, gate_of_illegalOperand, gate_of_window,
    fun hop r hg => exec_of_raise hc hop hg, fun hop hg => exec_of_stall hc hop hg⟩

end Sys2Proof.Machine

/-! Proofs about registers written by an instruction: what one write and a list of writes leave, and what a bundle's writes leave (R26, R61). -/
namespace Sys2Proof.Machine
open Sys2Proof.Safety

/-! ## Folds -/

/-- What every step of a fold keeps, the fold keeps. -/
theorem foldl_keeps {α β γ : Type} (p : α → γ) {f : α → β → α} {l : List β} (h : ∀ a, ∀ b ∈ l, p (f a b) = p a) (a : α) :
    p (l.foldl f a) = p a := by
  induction l generalizing a with
  | nil => rfl
  | cons b l ih => exact (ih (fun a c hc => h a c (List.mem_cons_of_mem _ hc)) _).trans (h a b List.mem_cons_self)

/-- What a fold's step makes true of its element, and every step keeps, holds of all elements in the end. -/
theorem foldl_establishes {α β : Type} {f : α → β → α} {q : β → α → Prop} (hq : ∀ a b, q b (f a b))
    (hk : ∀ a b c, q c a → q c (f a b)) {l : List β} {b : β} (hb : b ∈ l) (a : α) : q b (l.foldl f a) := by
  have hkeep : ∀ (l : List β) (a : α), q b a → q b (l.foldl f a) := by
    intro l
    induction l with
    | nil => exact fun a h => h
    | cons c l ih => exact fun a h => ih _ (hk a c b h)
  induction l generalizing a with
  | nil => cases hb
  | cons c l ih =>
    rcases List.mem_cons.mp hb with rfl | hb
    · exact hkeep l _ (hq a b)
    · exact ih hb _

/-! ## Fibres -/

/-- A changed fibre is read back, whatever it is. -/
@[simp] theorem Wave.fib_modFib (W : Wave) (f : Nat) (h : Fibre → Fibre) : (W.modFib f h).fib f = h (W.fib f) :=
  tabVal_tabPut_self _ _ _ _

/-- A fold over different fibres whose every step changes one of them leaves each of them changed once. -/
theorem Wave.fib_foldl_step {step : Wave → Nat → Wave} {h : Nat → Fibre → Fibre}
    (hs : ∀ X f g, (step X f).fib g = if g = f then h f (X.fib f) else X.fib g) {fs : List Nat} (hn : fs.Nodup) (W : Wave) (g : Nat) :
    (fs.foldl step W).fib g = if g ∈ fs then h g (W.fib g) else W.fib g := by
  induction fs generalizing W with
  | nil => rfl
  | cons f fs ih =>
    obtain ⟨hf, hn⟩ := List.nodup_cons.mp hn
    rw [List.foldl_cons, ih hn, hs]
    by_cases hg : g = f
    · subst hg; simp [hf]
    · simp [hg]

/-- A fibre without its registers. -/
def Fibre.bare (F : Fibre) : Fibre := { F with regs := [], facet := F.facet.map fun c => { c with regs := [], ks := [] } }

/-- A fibre without its registers, predicates and flags. -/
def Fibre.still (F : Fibre) : Fibre :=
  { F with regs := [], preds := 0, flags := 0, facet := F.facet.map fun c => { c with regs := [], ks := [], preds := 0, flags := 0 } }

theorem Fibre.still_bare (F : Fibre) : F.bare.still = F.still := by
  cases h : F.facet <;> simp [Fibre.bare, Fibre.still, h]

theorem Fibre.curPc_still (F : Fibre) : F.still.curPc = F.curPc := by cases h : F.facet <;> simp [Fibre.still, Fibre.curPc, h]
theorem Fibre.curTrapen_still (F : Fibre) : F.still.curTrapen = F.curTrapen := by
  cases h : F.facet <;> simp [Fibre.still, Fibre.curTrapen, h]
theorem Fibre.curLnk_still (F : Fibre) : F.still.curLnk = F.curLnk := by cases h : F.facet <;> simp [Fibre.still, Fibre.curLnk, h]
theorem Fibre.dreg_still (F : Fibre) (r : Reg) : F.still.dreg r = F.dreg r := by
  cases h : F.facet <;> cases r <;> simp [Fibre.still, Fibre.dreg, h]
theorem Fibre.facet_isSome_still (F : Fibre) : F.still.facet.isSome = F.facet.isSome := by simp [Fibre.still]
theorem Fibre.curPreds_bare (F : Fibre) : F.bare.curPreds = F.curPreds := by cases h : F.facet <;> simp [Fibre.bare, Fibre.curPreds, h]
theorem Fibre.curFlags_bare (F : Fibre) : F.bare.curFlags = F.curFlags := by cases h : F.facet <;> simp [Fibre.bare, Fibre.curFlags, h]

section
variable {F H : Fibre}

/-- Fibres that differ in registers, predicates and flags only have the rest in common. -/
theorem Fibre.st_of_still (h : H.still = F.still) : H.st = F.st := (congrArg Fibre.st h :)
theorem Fibre.base_of_still (h : H.still = F.still) : H.base = F.base := (congrArg Fibre.base h :)
theorem Fibre.alloc_of_still (h : H.still = F.still) : H.alloc = F.alloc := (congrArg Fibre.alloc h :)
theorem Fibre.wait_of_still (h : H.still = F.still) : H.wait = F.wait := (congrArg Fibre.wait h :)
theorem Fibre.curPc_of_still (h : H.still = F.still) : H.curPc = F.curPc := by rw [← H.curPc_still, h, F.curPc_still]
theorem Fibre.curTrapen_of_still (h : H.still = F.still) : H.curTrapen = F.curTrapen := by
  rw [← H.curTrapen_still, h, F.curTrapen_still]
theorem Fibre.curLnk_of_still (h : H.still = F.still) : H.curLnk = F.curLnk := by rw [← H.curLnk_still, h, F.curLnk_still]
theorem Fibre.facet_isSome_of_still (h : H.still = F.still) : H.facet.isSome = F.facet.isSome := by
  rw [← H.facet_isSome_still, h, F.facet_isSome_still]
theorem Fibre.still_of_bare (h : H.bare = F.bare) : H.still = F.still := by rw [← H.still_bare, h, F.still_bare]
theorem Fibre.curPreds_of_bare (h : H.bare = F.bare) : H.curPreds = F.curPreds := by rw [← H.curPreds_bare, h, F.curPreds_bare]
theorem Fibre.curFlags_of_bare (h : H.bare = F.bare) : H.curFlags = F.curFlags := by rw [← H.curFlags_bare, h, F.curFlags_bare]

end

theorem Fibre.still_setPred (F : Fibre) (p : Nat) (b : Bool) : (F.setPred p b).still = F.still := by
  cases h : F.facet <;> simp [Fibre.setPred, Fibre.still, h]

theorem Fibre.still_setFlags (F : Fibre) (v : Word) : (F.setFlags v).still = F.still := by
  cases h : F.facet <;> simp [Fibre.setFlags, Fibre.still, h]

/-! ## One register written -/

/-- Whether a register is one that a fibre of the wave has. -/
def Wave.has (W : Wave) (f : Nat) : DReg → Prop
  | .v i => i < (W.fib f).alloc
  | .k _ => True
  | .fv _ | .fk _ => (W.fib f).facet.isSome = true

/-- A register operand inside the window is one that the fibre has. -/
theorem Wave.has_dreg {W : Wave} {f : Nat} {r : Reg} (h : (W.fib f).inWindow r = true) : W.has f ((W.fib f).dreg r) := by
  cases hF : (W.fib f).facet <;> cases r <;> simp_all [Fibre.inWindow, Fibre.dreg, Wave.has]

theorem Wave.has_of_still {W V : Wave} {f : Nat} {d : DReg} (h : (V.fib f).still = (W.fib f).still) (hd : W.has f d) : V.has f d := by
  cases d with
  | v i => exact lt_of_lt_of_eq hd (Fibre.alloc_of_still h).symm
  | k n => trivial
  | fv n => exact (Fibre.facet_isSome_of_still h).trans hd
  | fk n => exact (Fibre.facet_isSome_of_still h).trans hd

theorem Wave.get_put {W : Wave} {f : Nat} {d : DReg} (t : Tagged) (h : W.has f d) : (W.put f d t).get f d = t := by
  cases d with
  | v i => simp [Wave.put, Wave.get, show i < (W.fib f).alloc from h]
  | k n => simp [Wave.put, Wave.get]
  | fv n =>
    obtain ⟨x, hx⟩ := Option.isSome_iff_exists.mp h
    simp [Wave.put, Wave.get, hx]
  | fk n =>
    obtain ⟨x, hx⟩ := Option.isSome_iff_exists.mp h
    simp [Wave.put, Wave.get, hx]

/-- The registers of a fibre and of its facet frame. -/
def Fibre.file (F : Fibre) : Tab Tagged × Option (Tab Tagged × Tab Tagged) := (F.regs, F.facet.map fun c => (c.regs, c.ks))

theorem Fibre.file_setPc (F : Fibre) (pc : Addr) : (F.setPc pc).file = F.file := by
  cases h : F.facet <;> simp [Fibre.setPc, Fibre.file, h]

theorem Fibre.file_setPred (F : Fibre) (p : Nat) (b : Bool) : (F.setPred p b).file = F.file := by
  cases h : F.facet <;> simp [Fibre.setPred, Fibre.file, h]

theorem Fibre.file_setFlags (F : Fibre) (v : Word) : (F.setFlags v).file = F.file := by
  cases h : F.facet <;> simp [Fibre.setFlags, Fibre.file, h]

/-- What a fibre reads depends on its registers, its frame's and the K registers of its wave only. -/
theorem Wave.get_eq_of_file {V W : Wave} {f : Nat} (hk : V.ks = W.ks) (hf : (V.fib f).file = (W.fib f).file) (d : DReg) :
    V.get f d = W.get f d := by
  obtain ⟨hregs, hfacet⟩ := Prod.mk.inj hf
  cases d with
  | v i => simp only [Wave.get, hregs]
  | k n => simp only [Wave.get, hk]
  | fv n => cases hV : (V.fib f).facet <;> cases hW : (W.fib f).facet <;> simp_all [Wave.get]
  | fk n => cases hV : (V.fib f).facet <;> cases hW : (W.fib f).facet <;> simp_all [Wave.get]

/-- A write to one fibre changes no other fibre. -/
theorem Wave.fib_put_ne (W : Wave) {f g : Nat} (d : DReg) (t : Tagged) (h : g ≠ f) : (W.put f d t).fib g = W.fib g := by
  cases d with
  | k n => rfl
  | v i => exact Wave.fib_modFib_ne _ _ _ _ h
  | fv n => exact Wave.fib_modFib_ne _ _ _ _ h
  | fk n => exact Wave.fib_modFib_ne _ _ _ _ h

/-- A write to a register that is not the wave's changes no K register. -/
theorem Wave.ks_put {W : Wave} {f : Nat} {d : DReg} (t : Tagged) (h : d.isK = false) : (W.put f d t).ks = W.ks := by
  cases d with
  | k n => cases h
  | v i => rfl
  | fv n => rfl
  | fk n => rfl

/-- A write leaves every other register of its fibre. -/
theorem Wave.get_put_ne (W : Wave) (f : Nat) {d e : DReg} (t : Tagged) (h : d ≠ e) : (W.put f d t).get f e = W.get f e := by
  cases d with
  | v i =>
    cases e with
    | v j =>
      have hj : j ≠ i := fun e => h (e ▸ rfl)
      simp only [Wave.put, Wave.get, Wave.fib_modFib]
      split
      · exact tabVal_tabPut_ne _ _ _ _ _ hj
      · rfl
    | k n => rfl
    | _ => by_cases hi : i < (W.fib f).alloc <;> simp [Wave.put, Wave.get, hi]
  | k n =>
    cases e with
    | k m => exact tabVal_tabPut_ne _ _ _ _ _ fun e => h (e ▸ rfl)
    | _ => rfl
  | fv n =>
    cases e with
    | fv m =>
      have hm : m ≠ n := fun e => h (e ▸ rfl)
      cases hf : (W.fib f).facet <;> simp [Wave.put, Wave.get, hf, hm]
    | k m => rfl
    | _ => cases hf : (W.fib f).facet <;> simp [Wave.put, Wave.get, hf]
  | fk n =>
    cases e with
    | fk m =>
      have hm : m ≠ n := fun e => h (e ▸ rfl)
      cases hf : (W.fib f).facet <;> simp [Wave.put, Wave.get, hf, hm]
    | k m => rfl
    | _ => cases hf : (W.fib f).facet <;> simp [Wave.put, Wave.get, hf]

/-- A write leaves every other register, of its fibre and of other fibres. -/
theorem Wave.get_put_of_ne (W : Wave) {f g : Nat} {d e : DReg} (t : Tagged) (h : d ≠ e ∨ (g ≠ f ∧ e.isK = false)) :
    (W.put f d t).get g e = W.get g e := by
  by_cases hg : g = f
  · subst hg
    exact W.get_put_ne g t (h.resolve_right fun h => h.1 rfl)
  · cases hd : d.isK with
    | false => exact Wave.get_eq_of_file (Wave.ks_put t hd) (by rw [W.fib_put_ne d t hg]) e
    | true =>
      cases d with
      | k n => exact W.get_put_ne g t (h.elim id fun h he => by subst he; cases h.2)
      | _ => cases hd

theorem Wave.bare_put (W : Wave) (f g : Nat) (d : DReg) (t : Tagged) : ((W.put f d t).fib g).bare = (W.fib g).bare := by
  by_cases hg : g = f
  · subst hg
    cases d with
    | v i => simp only [Wave.put, Wave.fib_modFib]; split <;> rfl
    | k n => rfl
    | fv n => cases h : (W.fib g).facet <;> simp [Wave.put, Fibre.bare, h]
    | fk n => cases h : (W.fib g).facet <;> simp [Wave.put, Fibre.bare, h]
  · rw [W.fib_put_ne d t hg]

/-- A wave without its fibres and K registers. -/
def Wave.shell (W : Wave) : Wave := { W with fibres := [], ks := [] }

theorem Wave.eq_of_shell {V W : Wave} (h : V.shell = W.shell) : V = { W with fibres := V.fibres, ks := V.ks } := by
  cases V; cases W; simp_all [Wave.shell]

theorem Wave.shell_put (W : Wave) (f : Nat) (d : DReg) (t : Tagged) : (W.put f d t).shell = W.shell := by cases d <;> rfl

/-! ## Registers written in order -/

theorem Wave.putAll_cons (W : Wave) (f : Nat) (d : DReg) (ds : List DReg) (t : Tagged) (ts : List Tagged) :
    W.putAll f (d :: ds) (t :: ts) = (W.put f d t).putAll f ds ts := rfl

theorem Wave.bare_putAll (W : Wave) (f g : Nat) (ds : List DReg) (ts : List Tagged) :
    ((W.putAll f ds ts).fib g).bare = (W.fib g).bare :=
  foldl_keeps (fun X : Wave => (X.fib g).bare) (fun X e _ => X.bare_put f g e.1 e.2) W

theorem Wave.shell_putAll (W : Wave) (f : Nat) (ds : List DReg) (ts : List Tagged) : (W.putAll f ds ts).shell = W.shell :=
  foldl_keeps Wave.shell (fun X e _ => X.shell_put f e.1 e.2) W

theorem Wave.fib_putAll_ne (W : Wave) {f g : Nat} (ds : List DReg) (ts : List Tagged) (h : g ≠ f) :
    (W.putAll f ds ts).fib g = W.fib g :=
  foldl_keeps (fun X : Wave => X.fib g) (fun X e _ => X.fib_put_ne e.1 e.2 h) W

/-- Registers written leave those that are not among them. -/
theorem Wave.get_putAll_of_not_mem (W : Wave) {f g : Nat} {ds : List DReg} {e : DReg} (ts : List Tagged)
    (h : e ∉ ds ∨ (g ≠ f ∧ e.isK = false)) : (W.putAll f ds ts).get g e = W.get g e :=
  foldl_keeps (fun X : Wave => X.get g e)
    (fun X x hx => X.get_put_of_ne x.2 (h.imp_left fun h he => h (he ▸ (List.of_mem_zip hx).1))) W

/-- Of different registers written each holds its value. -/
theorem Wave.get_putAll_getElem {W : Wave} {f k : Nat} {ds : List DReg} {ts : List Tagged} {d : DReg} {t : Tagged} (hn : ds.Nodup)
    (hd : ds[k]? = some d) (ht : ts[k]? = some t) (hh : W.has f d) : (W.putAll f ds ts).get f d = t := by
  induction ds generalizing W k ts with
  | nil => cases hd
  | cons x ds ih =>
    obtain ⟨hx, hn⟩ := List.nodup_cons.mp hn
    cases ts with
    | nil => cases ht
    | cons y ts =>
      rw [Wave.putAll_cons]
      cases k with
      | zero =>
        cases hd; cases ht
        rw [Wave.get_putAll_of_not_mem _ _ (.inl hx), Wave.get_put _ hh]
      | succ k => exact ih hn hd ht (Wave.has_of_still (Fibre.still_of_bare (W.bare_put f f x y)) hh)

/-! ## Registers that a bundle writes (R26) -/

theorem Wave.bare_writeRegs (W : Wave) (gt : List Nat) (rs : List Reg) (val : Nat → List Tagged) (g : Nat) :
    ((W.writeRegs gt rs val).fib g).bare = (W.fib g).bare :=
  foldl_keeps (fun X : Wave => (X.fib g).bare) (fun X f _ => X.bare_putAll f g _ _) W

theorem Wave.shell_writeRegs (W : Wave) (gt : List Nat) (rs : List Reg) (val : Nat → List Tagged) :
    (W.writeRegs gt rs val).shell = W.shell :=
  foldl_keeps Wave.shell (fun X f _ => X.shell_putAll f _ _) W

theorem Wave.fib_writeRegs_of_not_mem (W : Wave) {gt : List Nat} (rs : List Reg) (val : Nat → List Tagged) {g : Nat} (h : g ∉ gt) :
    (W.writeRegs gt rs val).fib g = W.fib g :=
  foldl_keeps (fun X : Wave => X.fib g) (fun X _ hf => X.fib_putAll_ne _ _ fun e => h (e ▸ hf)) W

/-- What a bundle writes leaves the registers that no guard-true fibre has as a destination. -/
theorem Wave.get_writeRegs_of_not_mem (W : Wave) {gt : List Nat} {rs : List Reg} (val : Nat → List Tagged) {g : Nat} {e : DReg}
    (h : ∀ f ∈ gt, (f = g ∨ e.isK = true) → e ∉ rs.map (W.fib f).dreg) : (W.writeRegs gt rs val).get g e = W.get g e := by
  refine foldl_keeps (fun X : Wave => X.get g e) (fun X f hf => X.get_putAll_of_not_mem _ ?_) W
  by_cases hfe : f = g ∨ e.isK = true
  · exact .inl (h f hf hfe)
  · rw [not_or, Bool.not_eq_true] at hfe
    exact .inr ⟨Ne.symm hfe.1, hfe.2⟩

theorem Fibre.dreg_injective (F : Fibre) : Function.Injective F.dreg := by
  intro a b h
  cases hf : F.facet <;> cases a <;> cases b <;> simp_all [Fibre.dreg]

/-- The last fibre that writes a register decides its value: every fibre writes its own, the last one a K register of the wave. -/
theorem Wave.get_writeRegs {W : Wave} {gt : List Nat} {f k : Nat} {rs : List Reg} {val : Nat → List Tagged} {r : Reg} {t : Tagged}
    (hgt : gt.Nodup) (hf : f ∈ gt) (hlast : ((W.fib f).dreg r).isK = false ∨ gt.getLast? = some f) (hn : rs.Nodup)
    (hr : rs[k]? = some r) (ht : (val f)[k]? = some t) (hh : W.has f ((W.fib f).dreg r)) :
    (W.writeRegs gt rs val).get f ((W.fib f).dreg r) = t := by
  obtain ⟨l, l', rfl, hl⟩ : ∃ l l', gt = l ++ f :: l' ∧ ∀ g ∈ l', g ≠ f ∧ ((W.fib f).dreg r).isK = false := by
    rcases hlast with hk | hl
    · obtain ⟨l, l', rfl⟩ := List.append_of_mem hf
      have hnf : f ∉ l' := (List.nodup_cons.mp (List.nodup_append.mp hgt).2.1).1
      exact ⟨l, l', rfl, fun g hg => ⟨fun e => hnf (e ▸ hg), hk⟩⟩
    · obtain ⟨l, rfl⟩ := List.getLast?_eq_some_iff.mp hl
      exact ⟨l, [], rfl, by simp⟩
  have hsplit : W.writeRegs (l ++ f :: l') rs val =
      l'.foldl (fun X g => X.putAll g (rs.map (W.fib g).dreg) (val g))
        ((W.writeRegs l rs val).putAll f (rs.map (W.fib f).dreg) (val f)) := by
    simp [Wave.writeRegs]
  rw [hsplit, foldl_keeps (fun X : Wave => X.get f ((W.fib f).dreg r))
    (fun X g hg => X.get_putAll_of_not_mem _ (.inr ⟨(hl g hg).1.symm, (hl g hg).2⟩))]
  exact Wave.get_putAll_getElem (hn.map (W.fib f).dreg_injective) (by simp [hr]) ht
    (Wave.has_of_still (Fibre.still_of_bare (W.bare_writeRegs l rs val f)) hh)

/-! ## An instruction's destinations -/

/-- Where the checks of R76 have passed, every operand lies in the window of every fibre of the bundle. -/
theorem inWindow_of_goes {i : Instr} {s : State} {c : Issue} {G : Group} {W : Wave} (g : Goes i s c G W) {f : Nat}
    (hf : f ∈ c.fibres) {r : Reg} (hr : r ∈ (opndsOf i).regs) : (W.fib f).inWindow r = true := by
  have hg := g.gate
  by_contra hout
  have hw : (c.fibres.all fun f => (opndsOf i).regs.all (W.fib f).inWindow) = false :=
    List.all_eq_false.mpr ⟨f, hf, fun h => hout (List.all_eq_true.mp h r hr)⟩
  simp only [Machine.gate, hw] at hg
  split at hg
  · cases hg
  · split at hg
    · cases hg
    · split at hg <;> cases hg

theorem Fibre.inWindow_setPc (F : Fibre) (pc : Addr) (r : Reg) : (F.setPc pc).inWindow r = F.inWindow r := by
  cases h : F.facet <;> cases r <;> simp [Fibre.setPc, Fibre.inWindow, h]

/-- A wave that reads as the one whose fibres have moved on and written their destinations, and differs from it in predicates and
flags of the bundle at most. -/
structure ReadsAs (c : Issue) (V X : Wave) : Prop where
  get : ∀ f d, V.get f d = X.get f d
  still : ∀ f, (V.fib f).still = (X.fib f).still
  outside : ∀ f, f ∉ c.fibres → V.fib f = X.fib f
  shell : V.shell = X.shell

theorem Wave.fib_advance_dreg (W : Wave) (c : Issue) (f : Nat) (r : Reg) : ((W.advance c).fib f).dreg r = (W.fib f).dreg r :=
  foldl_keeps (fun X : Wave => (X.fib f).dreg r)
    (fun X g _ => by by_cases h : f = g <;> simp [h]) W

theorem Wave.get_advance (W : Wave) (c : Issue) (f : Nat) (d : DReg) : (W.advance c).get f d = W.get f d :=
  foldl_keeps (fun X : Wave => X.get f d)
    (f := fun X g => X.modFib g fun F => F.setPc c.nextPc)
    (fun X g _ => Wave.get_eq_of_file (by rfl) (by by_cases h : f = g <;> simp [h, Fibre.file_setPc]) d) W

theorem Wave.shell_advance (W : Wave) (c : Issue) : (W.advance c).shell = W.shell := by rw [Wave.advance_rest]; rfl

/-- A K register of the wave is one for all fibres of a bundle. -/
theorem dreg_eq_of_isK {s : State} {c : Issue} {G : Group} {W : Wave} (h : Issuing s c G W) {f g : Nat} (hf : f ∈ c.fibres)
    (hg : g ∈ c.fibres) {r : Reg} (hk : ((W.fib f).dreg r).isK = true) : (W.fib g).dreg r = (W.fib f).dreg r := by
  have hfg : (W.fib g).facet.isSome = (W.fib f).facet.isSome := (h.uniform g hg).trans (h.uniform f hf).symm
  cases hF : (W.fib f).facet <;> cases hG : (W.fib g).facet <;> cases r <;> simp_all [Fibre.dreg, DReg.isK]

/-- An instruction that moves its fibres on and writes its destinations, and beside that predicates and flags only. -/
theorem writesRegs_of {i : Instr} {s : State} {c : Issue} {G : Group} {W V : Wave} {rs : List Reg} {val : Nat → List Tagged}
    (g : Goes i s c G W) (hsub : ∀ r ∈ rs, r ∈ (opndsOf i).regs) (hn : rs.Nodup)
    (hV : ReadsAs c V ((W.advance c).writeRegs (acting i c W) rs val)) : WritesRegs i c W V rs val := by
  have hadv := Wave.fib_advance W c g.nodup g.live
  have hstill : ∀ f, (V.fib f).still = ((W.advance c).fib f).still := fun f =>
    (hV.still f).trans (Fibre.still_of_bare (Wave.bare_writeRegs _ _ _ _ f))
  have hmapd : ∀ f, rs.map ((W.advance c).fib f).dreg = rs.map (W.fib f).dreg := fun f => by simp [Wave.fib_advance_dreg]
  have hhas : ∀ f ∈ c.fibres, ∀ r ∈ rs, (W.advance c).has f (((W.advance c).fib f).dreg r) := by
    intro f hf r hr
    refine Wave.has_dreg ?_
    rw [hadv, if_pos hf, Fibre.inWindow_setPc]
    exact inWindow_of_goes g hf (hsub r hr)
  refine ⟨?_, ?_, ?_, ?_, ?_, ?_⟩
  · intro f hf k r t hr ht
    have hrm : r ∈ rs := List.mem_of_getElem? hr
    rw [hV.get]
    by_cases hk : ((W.fib f).dreg r).isK = true
    · have hne : acting i c W ≠ [] := List.ne_nil_of_mem hf
      have hgl := List.getLast?_eq_some_getLast hne
      have hlast := List.getLast_mem hne
      rw [if_pos hk, hgl, Option.getD_some] at ht
      have hv := Wave.get_writeRegs (acting_nodup g.nodup) hlast (.inr hgl) hn hr ht (hhas _ (acting_sub hlast) r hrm)
      rw [Wave.fib_advance_dreg, dreg_eq_of_isK g.toIssuing (acting_sub hf) (acting_sub hlast) hk] at hv
      rw [← hv]
      cases hdr : (W.fib f).dreg r <;> rw [hdr] at hk
      case k => rfl
      all_goals cases hk
    · rw [if_neg hk] at ht
      rw [← Wave.fib_advance_dreg W c]
      refine Wave.get_writeRegs (acting_nodup g.nodup) hf (.inl ?_) hn hr ht (hhas f (acting_sub hf) r hrm)
      rw [Wave.fib_advance_dreg]
      exact Bool.not_eq_true _ ▸ hk
  · intro f d h
    rw [hV.get, Wave.get_writeRegs_of_not_mem _ _ (fun x hx hxd => by rw [hmapd]; exact h x hx hxd), Wave.get_advance]
  · intro f hf
    rw [Fibre.curPc_of_still (hstill f), hadv, if_pos hf, Fibre.setPc_curPc]
  · intro f
    have h := hstill f
    rw [Fibre.st_of_still h, Fibre.base_of_still h, Fibre.alloc_of_still h, Fibre.curTrapen_of_still h, Fibre.curLnk_of_still h,
      Fibre.wait_of_still h, hadv]
    split <;> simp
  · intro f hf
    rw [hV.outside f hf, Wave.fib_writeRegs_of_not_mem _ _ _ fun h => hf (acting_sub h), hadv, if_neg hf]
  · exact Wave.eq_of_shell (hV.shell.trans ((Wave.shell_writeRegs _ _ _ _).trans (W.shell_advance c)))

/-! ## Predicates and flags written beside registers (R113) -/

theorem Wave.writePredFlags_keeps {γ : Type} (p : Fibre → γ) (hp : ∀ F n b, p (Fibre.setPred F n b) = p F)
    (hf : ∀ F v, p (Fibre.setFlags F v) = p F) (W : Wave) (f : Nat) (o : Opnds) (x : LaneOut) (g : Nat) :
    p ((W.writePredFlags f o x).fib g) = p (W.fib g) := by
  by_cases h : g = f
  · subst h
    simp only [Wave.writePredFlags, Wave.fib_modFib, hf]
    split
    · exact hp _ _ _
    · rfl
  · simp only [Wave.writePredFlags, Wave.fib_modFib_ne _ _ _ _ h]

/-- Writing predicates and flags of fibres of a bundle changes nothing else. -/
theorem readsAs_writePredFlags {c : Issue} {gt : List Nat} (h : ∀ f ∈ gt, f ∈ c.fibres) (o : Opnds) (out : Nat → LaneOut) (X : Wave) :
    ReadsAs c (gt.foldl (fun X f => X.writePredFlags f o (out f)) X) X where
  get f d := foldl_keeps (fun X : Wave => X.get f d)
    (f := fun X g => X.writePredFlags g o (out g))
    (fun X g _ => Wave.get_eq_of_file (by rfl) (X.writePredFlags_keeps Fibre.file Fibre.file_setPred Fibre.file_setFlags g o _ f) d) X
  still f := foldl_keeps (fun X : Wave => (X.fib f).still)
    (fun X g _ => X.writePredFlags_keeps Fibre.still Fibre.still_setPred Fibre.still_setFlags g o _ f) X
  outside f hf := foldl_keeps (fun X : Wave => X.fib f) (fun X g hg => Wave.fib_modFib_ne _ _ _ _ fun e => hf (e ▸ h g hg)) X
  shell := foldl_keeps Wave.shell (f := fun X g => X.writePredFlags g o (out g)) (fun _ _ _ => rfl) X

/-! ## Arithmetic -/

theorem mem_regs_of_mem_dstRegs {o : Opnds} {r : Reg} (h : r ∈ o.dstRegs) : r ∈ o.regs := List.mem_append_right _ h

/-- An arithmetic instruction has one destination at most. -/
theorem dsts_of_laneOf {i : Instr} {lane : LaneIn → LaneOut} (h : laneOf i = some lane) :
    (opndsOf i).dsts = (opndsOf i).dsts.head?.toList := by
  cases i <;> cases h <;> rfl

theorem regRun_nodup (r : Reg) (n : Nat) : (regRun r n).Nodup := by
  refine List.nodup_range.map fun a b h => ?_
  cases r <;> simp_all [regPlus]

theorem dstRegs_nodup_of_laneOf {i : Instr} {lane : LaneIn → LaneOut} (h : laneOf i = some lane) : (opndsOf i).dstRegs.Nodup := by
  rw [Opnds.dstRegs, dsts_of_laneOf h]
  cases (opndsOf i).dsts.head? with
  | none => exact List.nodup_nil
  | some x => simpa using regRun_nodup x.reg x.n

/-- Settles O27: every lane result reaches its destination, the last one where the wave shares it. -/
theorem arithmeticCompletes : Obligations.ArithmeticCompletes := by
  intro i lane s c G W hl g hexc
  have hno : ((acting i c W).any fun f => trapping (W.fib f) (lane (s.laneIn G W (opndsOf i) f)).exc != 0) = false := by
    simpa [List.any_eq_false] using hexc
  refine ⟨_, ?_, writesRegs_of g (fun r => mem_regs_of_mem_dstRegs) (dstRegs_nodup_of_laneOf hl)
    (readsAs_writePredFlags (gt := acting i c W) (fun _ => acting_sub) (opndsOf i) (fun f => lane (s.laneIn G W (opndsOf i) f)) _)⟩
  rw [exec_of_laneOf hl, execAlu, issueWith_go g]
  simp only [hno, Bool.false_eq_true, if_false]

end Sys2Proof.Machine

/-! Proofs about register windows (R33, R34, R130). -/
namespace Sys2Proof.Machine
open Sys2Proof.Safety

/-! ## Cores -/

@[simp] theorem State.core_modCore_self (s : State) (c : Nat) (f : Core → Core) : (s.modCore c f).core c = f (s.core c) :=
  tabVal_tabPut_self _ _ _ _

theorem State.core_modCore_ne (s : State) {c d : Nat} (f : Core → Core) (h : d ≠ c) : (s.modCore c f).core d = s.core d :=
  tabVal_tabPut_ne _ _ _ _ _ h

theorem wave_of_issuing {s : State} {c : Issue} {G : Group} {W : Wave} (h : Issuing s c G W) : s.wave c.grp c.wave = some W := by
  simp [State.wave, h.group, h.wave]

/-! ## WMOVE and WGROW -/

section
variable {s : State} {c : Issue} {G : Group} {W : Wave} {o : Form.I}

theorem movesFibres_wmove (g : Goes (.wmove o) s c G W)
    (h : ∀ f ∈ acting (.wmove o) c W, 0 ≤ movedBase (W.fib f) o.imm ∧ movedBase (W.fib f) o.imm ≤ ((W.fib f).alloc : Int) - 16) :
    MovesFibres (.wmove o) s c W fun _ F => { F with base := (movedBase F o.imm).toNat } := by
  have hbad : (acting (.wmove o) c W).filter (fun f => decide (movedBase (W.fib f) o.imm < 0) ||
      decide (((W.fib f).alloc : Int) - 16 < movedBase (W.fib f) o.imm)) = [] :=
    List.filter_eq_nil_iff.mpr fun f hf => by have := h f hf; simp; omega
  refine movesFibres_of g _ (fun f hf => by simpa using Wave.isLive_of_mem (g.live f (acting_sub hf))) ?_
  show execWmove o s = _
  rw [execWmove, issueWith_go g]
  simp only [hbad, ne_eq, not_true, if_false, State.nextWave]

theorem wgrow_bad (h : ∀ f ∈ acting (.wgrow o) c W, (W.fib f).alloc + 16 * o.imm ≤ 480) :
    (acting (.wgrow o) c W).filter (fun f => decide (480 < (W.fib f).alloc + 16 * o.imm)) = [] :=
  List.filter_eq_nil_iff.mpr fun f hf => by have := h f hf; simp; omega

theorem exec_wgrow_of_nil (g : Goes (.wgrow o) s c G W) (h : acting (.wgrow o) c W = []) :
    exec (.wgrow o) s = .next (s.setWave c (W.advance c)) := by
  show execWgrow o s = _
  rw [execWgrow, issueWith_go g]
  simp [h, State.nextWave]

/-- The units that the guard-true fibres of WGROW need. -/
def wgrowNeed (o : Form.I) (c : Issue) (G : Group) (W : Wave) : Nat :=
  (acting (.wgrow o) c W).foldl (fun n f => n + growNeed G.hdr.units o.imm (W.fib f)) 0

theorem movesFibres_wgrow (g : Goes (.wgrow o) s c G W) (h : ∀ f ∈ acting (.wgrow o) c W, (W.fib f).alloc + 16 * o.imm ≤ 480)
    (hq : (s.core G.coreNo).grow = []) (hn : wgrowNeed o c G W ≤ s.poolFree G.coreNo) :
    MovesFibres (.wgrow o) s c W fun _ F =>
      { F with alloc := F.alloc + 16 * o.imm, regs := F.regs.filter fun e => decide (e.1 < F.alloc) } := by
  refine movesFibres_of g _ (fun f hf => by simpa using Wave.isLive_of_mem (g.live f (acting_sub hf))) ?_
  by_cases hgt : acting (.wgrow o) c W = []
  · rw [exec_wgrow_of_nil g hgt, hgt, List.foldl_nil]
  · show execWgrow o s = _
    rw [wgrowNeed] at hn
    rw [execWgrow, issueWith_go g]
    simp only [wgrow_bad h, ne_eq, not_true, hgt, if_false, hq, List.isEmpty_nil, hn, decide_true, Bool.and_self, if_true]
    rfl

theorem exec_wgrow_waits (g : Goes (.wgrow o) s c G W) (h : ∀ f ∈ acting (.wgrow o) c W, (W.fib f).alloc + 16 * o.imm ≤ 480)
    (hgt : acting (.wgrow o) c W ≠ []) (hq : (s.core G.coreNo).grow ≠ [] ∨ s.poolFree G.coreNo < wgrowNeed o c G W) :
    exec (.wgrow o) s = .next ((s.setWave c ((acting (.wgrow o) c W).foldl
        (fun X f => X.modFib f fun F => { F with wait := .wgrow o.imm c.pc }) (W.advance c))).modCore G.coreNo fun C =>
      { C with grow := C.grow ++ [{ grp := c.grp, wave := c.wave, fibres := acting (.wgrow o) c W, need := wgrowNeed o c G W,
                                    n := o.imm }] }) := by
  have hno : ((s.core G.coreNo).grow.isEmpty && decide (wgrowNeed o c G W ≤ s.poolFree G.coreNo)) = false := by
    rcases hq with hq | hq
    · simp [hq]
    · simp [Nat.not_le.mpr hq]
  rw [wgrowNeed] at hno
  show execWgrow o s = _
  rw [execWgrow, issueWith_go g]
  simp only [wgrow_bad h, ne_eq, not_true, hgt, if_false, hno, Bool.false_eq_true]
  rfl

end

/-! ## WSHRINK -/

/-- An access whose destinations at `a` and above are lost. -/
def Acc.cut (x : Acc) (a : Nat) : Acc := { x with dst := x.dst.map fun d => match d with | .v i => if a ≤ i then .v 480 else d | _ => d }

theorem Acc.not_mem_dst_cut (x : Acc) {a i : Nat} (hi : i < 480) (ha : a ≤ i) : DReg.v i ∉ (x.cut a).dst := by
  intro h
  obtain ⟨d, -, hd⟩ := List.mem_map.mp h
  cases d with
  | v j =>
    by_cases hj : a ≤ j
    · simp only [hj, if_true, DReg.v.injEq] at hd
      omega
    · simp only [hj, if_false, DReg.v.injEq] at hd
      omega
  | _ => cases hd

/-- An access of an entry after the allocations of some fibres have lost `16 * n` registers. -/
def Acc.afterShrink (W : Wave) (n : Nat) (fs : List Nat) (x : Acc) : Acc :=
  if x.fib ∈ fs then x.cut ((W.fib x.fib).alloc - 16 * n) else x

/-- A fibre whose allocation ends at `a`. -/
def Fibre.cutTo (F : Fibre) (a : Nat) : Fibre := { F with alloc := a, regs := F.regs.filter fun e => decide (e.1 < a) }

theorem Wave.shrink_eq (W : Wave) (f n : Nat) :
    W.shrink f n = { W.modFib f (fun F => F.cutTo ((W.fib f).alloc - 16 * n)) with
      sb := tabMap W.sb fun _ e => e.modAcc f fun x => x.cut ((W.fib f).alloc - 16 * n) } := rfl

theorem Wave.fib_shrink (W : Wave) (f n g : Nat) :
    (W.shrink f n).fib g = if g = f then (W.fib f).cutTo ((W.fib f).alloc - 16 * n) else W.fib g := by
  rw [show (W.shrink f n).fib g = (W.modFib f fun F => F.cutTo ((W.fib f).alloc - 16 * n)).fib g from rfl]
  by_cases h : g = f
  · simp [h]
  · simp [h]

theorem Wave.fib_foldl_shrink {fs : List Nat} (hn : fs.Nodup) (W : Wave) (n g : Nat) :
    (fs.foldl (fun X f => X.shrink f n) W).fib g =
      if g ∈ fs then (W.fib g).cutTo ((W.fib g).alloc - 16 * n) else W.fib g :=
  Wave.fib_foldl_step (h := fun _ F => F.cutTo (F.alloc - 16 * n)) (fun X f g => X.fib_shrink f n g) hn W g

/-- Each entry keeps its accesses; those of the fibres that shrink lose the destinations that are gone. -/
theorem Wave.sb_foldl_shrink {fs : List Nat} (hn : fs.Nodup) (W : Wave) (n : Nat) :
    (fs.foldl (fun X f => X.shrink f n) W).sb = tabMap W.sb fun _ e => { e with accs := e.accs.map (Acc.afterShrink W n fs) } := by
  induction fs generalizing W with
  | nil =>
    have hid : Acc.afterShrink W n [] = id := funext fun x => if_neg List.not_mem_nil
    simp [tabMap, hid]
  | cons f fs ih =>
    obtain ⟨hf, hn⟩ := List.nodup_cons.mp hn
    have hacc : ∀ x : Acc, Acc.afterShrink (W.shrink f n) n fs (if x.fib = f then x.cut ((W.fib f).alloc - 16 * n) else x) =
        Acc.afterShrink W n (f :: fs) x := by
      intro x
      by_cases hx : x.fib = f
      · subst hx
        simp [Acc.afterShrink, Acc.cut, hf]
      · by_cases hxs : x.fib ∈ fs <;> simp [Acc.afterShrink, Wave.fib_shrink, hx, hxs]
    rw [List.foldl_cons, ih hn, Wave.shrink_eq]
    simp only [tabMap, List.map_map, Entry.modAcc]
    refine List.map_congr_left fun e _ => ?_
    simp only [Function.comp_apply, List.map_map]
    exact congrArg (Prod.mk e.1) (congrArg (fun l => { e.2 with accs := l }) (List.map_congr_left fun x _ => hacc x))

theorem Wave.foldl_shrink_rest (fs : List Nat) (W : Wave) (n : Nat) :
    fs.foldl (fun X f => X.shrink f n) W =
      { W with fibres := (fs.foldl (fun X f => X.shrink f n) W).fibres, sb := (fs.foldl (fun X f => X.shrink f n) W).sb } := by
  induction fs generalizing W with
  | nil => rfl
  | cons f fs ih => rw [List.foldl_cons, ih]; rfl

/-! ## The register pool (R34) -/

/-- Units given up are counted in the core cycle, and are free from the next one on. -/
theorem State.giveBack_resident {s : State} {g core : Nat} {G : Group} (n : Nat) (hg : s.group g = some G) (hc : G.core? = some core) :
    s.giveBack g n = s.modCore core fun C => { C with freed := C.freed + n } := by
  simp [State.giveBack, hg, hc]

theorem State.unitsFree_giveBack {s : State} {g core : Nat} {G : Group} (n : Nat) (hg : s.group g = some G) (hc : G.core? = some core) :
    (s.giveBack g n).unitsFree core = s.unitsFree core := by
  rw [State.giveBack_resident n hg hc]
  simp only [State.unitsFree, State.core_modCore_self]
  rfl

section
variable {s : State} {c : Issue} {G : Group} {W : Wave} {o : Form.I}

theorem exec_wshrink (g : Goes (.wshrink o) s c G W)
    (h : ∀ f ∈ acting (.wshrink o) c W, (W.fib f).base + 16 + 16 * o.imm ≤ (W.fib f).alloc) :
    exec (.wshrink o) s = .next ((s.setWave c ((acting (.wshrink o) c W).foldl (fun X f => X.shrink f o.imm) (W.advance c))).giveBack
      c.grp ((acting (.wshrink o) c W).foldl (fun n f => n + min o.imm ((W.fib f).alloc / 16 - G.hdr.units)) 0)) := by
  have hbad : (acting (.wshrink o) c W).filter (fun f => decide ((W.fib f).alloc < (W.fib f).base + 16 + 16 * o.imm)) = [] :=
    List.filter_eq_nil_iff.mpr fun f hf => by have := h f hf; simp; omega
  show execWshrink o s = _
  rw [execWshrink, issueWith_go g]
  simp only [hbad, ne_eq, not_true, if_false]
  rfl

/-- The scoreboard after WSHRINK: entries stand, and no access has a destination that its fibre has lost. -/
theorem sb_wshrink (g : Goes (.wshrink o) s c G W) {k : Nat} {e : Entry} (he : tabGet W.sb k = some e) :
    ∃ x : Entry, tabGet ((acting (.wshrink o) c W).foldl (fun X f => X.shrink f o.imm) (W.advance c)).sb k = some x ∧
      x = { e with accs := x.accs } ∧ ∀ (j : Nat) (a : Acc), e.accs[j]? = some a → ∃ b : Acc, x.accs[j]? = some b ∧
        b = { a with dst := b.dst } ∧ (a.fib ∉ acting (.wshrink o) c W → b = a) ∧
        (a.fib ∈ acting (.wshrink o) c W → ∀ i, i < 480 → (W.fib a.fib).alloc - 16 * o.imm ≤ i → DReg.v i ∉ b.dst) := by
  have halloc : ∀ f, ((W.advance c).fib f).alloc = (W.fib f).alloc := fun f => by
    rw [Wave.fib_advance W c g.nodup g.live]; split <;> simp
  rw [Wave.sb_foldl_shrink (acting_nodup g.nodup), Wave.advance_sb, tabGet_tabMap, he]
  refine ⟨_, rfl, rfl, fun j a ha => ⟨_, by rw [List.getElem?_map, ha]; rfl, ?_, fun hn => if_neg hn, fun hm i hi hle => ?_⟩⟩
  · split <;> rfl
  · simp only [if_pos hm, halloc]
    exact a.not_mem_dst_cut hi hle

end

/-- Settles O18: each window instruction is one change of the guard-true fibres' windows and of the pool. -/
theorem windowInstructionsComplete : Obligations.WindowInstructionsComplete := by
  intro s c G W
  refine ⟨fun o g h => movesFibres_wmove g h, fun o g h => exec_wgrow_of_nil g h, fun o g h hq hn => movesFibres_wgrow g h hq hn,
    fun o g h hgt hq => ?_, fun o g h => ?_, fun g n core hc hg => ?_⟩
  · refine ⟨_, _, exec_wgrow_waits g h hgt hq, State.wave_setWave _ (wave_of_issuing g.toIssuing), rfl, rfl, foldl_advance_rest _ W c _, ?_, ?_⟩
    · exact fib_acting g (fun _ F => { F with wait := .wgrow o.imm c.pc })
        (fun f hf => by simpa using Wave.isLive_of_mem (g.live f (acting_sub hf)))
    · rw [State.core_modCore_self]; rfl
  · refine ⟨_, exec_wshrink g h, ?_, fun f => ?_, fun k e he => sb_wshrink g he⟩
    · rw [Wave.foldl_shrink_rest, Wave.advance_rest]
    · rw [Wave.fib_foldl_shrink (acting_nodup g.nodup), Wave.fib_advance W c g.nodup g.live]
      unfold fibAfter
      split
      · next hf => simp [acting_sub hf, Fibre.cutTo]
      · rfl
  · refine ⟨?_, ?_, ?_⟩
    · rw [State.giveBack_resident n hg hc, State.core_modCore_self]
    · rw [State.giveBack_resident n hg hc, State.modCore_groups]
    · rw [State.poolFree, State.unitsFree_giveBack n hg hc, State.giveBack_resident n hg hc, State.core_modCore_self, State.poolFree,
        Nat.sub_add_eq]

end Sys2Proof.Machine

/-! Proofs about fibres that end and begin (R39, R41, R128, R129). -/
namespace Sys2Proof.Machine
open Sys2Proof.Safety

/-! ## Sets of fibres as words -/

theorem getLsbD_putBit (w : Word) (i k : Nat) (b : Bool) (hk : k < 32) :
    (putBit w i b).getLsbD k = if k = i then b else w.getLsbD k := by
  have hbit : (BitVec.ofNat 32 (2 ^ i)).getLsbD k = decide (i = k) := by
    rw [BitVec.getLsbD_ofNat, Nat.testBit_two_pow, decide_eq_true hk, Bool.true_and]
  cases b with
  | true =>
    rw [putBit, if_pos rfl, BitVec.getLsbD_or, hbit]
    by_cases h : k = i
    · simp [h]
    · simp [h, Ne.symm h]
  | false =>
    rw [putBit, if_neg Bool.false_ne_true, BitVec.getLsbD_and, BitVec.getLsbD_not, hbit, decide_eq_true hk]
    by_cases h : k = i
    · simp [h]
    · simp [h, Ne.symm h]

theorem getLsbD_foldl_putBit (l : List Nat) (w : Word) {k : Nat} (hk : k < 32) :
    (l.foldl (fun w i => putBit w i true) w).getLsbD k = (w.getLsbD k || decide (k ∈ l)) := by
  induction l generalizing w with
  | nil => simp
  | cons i l ih =>
    rw [List.foldl_cons, ih, getLsbD_putBit w i k true hk]
    by_cases h : k = i <;> simp [h]

/-- The bits of a set of fibres are its members. -/
theorem getLsbD_maskOf (l : List Nat) {k : Nat} (hk : k < 32) : (maskOf l).getLsbD k = decide (k ∈ l) := by
  rw [maskOf, getLsbD_foldl_putBit l 0 hk, show (0 : Word).getLsbD k = false from BitVec.getLsbD_zero, Bool.false_or]

/-! ## FEXIT (R129) -/

/-- A fibre that has ended. -/
def Fibre.ended (F : Fibre) (units : Nat) : Fibre :=
  { F with st := .exited, alloc := min F.alloc (16 * units), base := 0, regs := [], wait := .none, fired := false, facet := none }

theorem Wave.fib_exitFib (W : Wave) (units f g : Nat) :
    (W.exitFib units f).fib g = if g = f then (W.fib f).ended units else W.fib g := by
  rw [show (W.exitFib units f).fib g = (W.modFib f fun F => F.ended units).fib g from rfl]
  by_cases h : g = f <;> simp [h]

/-- Fibres of a wave end. -/
def Wave.exitAll (W : Wave) (units : Nat) (fs : List Nat) : Wave := fs.foldl (fun X f => X.exitFib units f) W

theorem Wave.fib_exitAll {fs : List Nat} (hn : fs.Nodup) (W : Wave) (units g : Nat) :
    (W.exitAll units fs).fib g = if g ∈ fs then (W.fib g).ended units else W.fib g :=
  Wave.fib_foldl_step (h := fun _ F => F.ended units) (fun X f g => X.fib_exitFib units f g) hn W g

theorem Wave.ks_exitAll (W : Wave) (units : Nat) (fs : List Nat) : (W.exitAll units fs).ks = W.ks :=
  foldl_keeps Wave.ks (f := fun X f => X.exitFib units f) (fun _ _ _ => rfl) W

/-- No mask register of the wave names the fibre. -/
def Wave.unmasked (f : Nat) (W : Wave) : Prop := ∀ e ∈ W.masks, e.2.getLsbD f = false

theorem Wave.mem_masks_exitFib {W : Wave} {units f : Nat} {e : Nat × Word} (h : e ∈ (W.exitFib units f).masks) :
    ∃ x ∈ W.masks, e.2 = putBit x.2 f false := by
  obtain ⟨x, hx, hv⟩ := List.mem_filterMap.mp h
  refine ⟨x, hx, ?_⟩
  by_cases h0 : putBit x.2 f false = 0
  · simp [h0] at hv
  · rw [if_neg h0] at hv
    cases hv
    rfl

theorem Wave.unmasked_exitAll {W : Wave} {units f : Nat} {fs : List Nat} (hf : f ∈ fs) (hlt : f < 32) : (W.exitAll units fs).unmasked f :=
  foldl_establishes (q := fun f X => f < 32 → Wave.unmasked f X)
    (fun X f hlt e he => by
      obtain ⟨x, -, hx⟩ := Wave.mem_masks_exitFib he
      rw [hx, getLsbD_putBit _ _ _ _ hlt, if_pos rfl])
    (fun X f g hq hlt e he => by
      obtain ⟨x, hxm, hx⟩ := Wave.mem_masks_exitFib he
      rw [hx, getLsbD_putBit _ _ _ _ hlt]
      split
      · rfl
      · exact hq hlt x hxm)
    hf W hlt

/-- The results that the accesses of a fibre still give are discarded. -/
def Wave.discards (f : Nat) (W : Wave) : Prop :=
  ∀ slot e a, tabGet W.sb slot = some e → a ∈ e.accs → a.fib = f → a.drop = true ∨ (accessSlot slot = false ∧ a.dst = [])

/-- An access of an entry after a fibre has ended. -/
def Acc.fibEnded (slot f : Nat) (a : Acc) : Acc :=
  if a.fib = f then (if accessSlot slot then { a with drop := true } else { a with dst := [] }) else a

theorem Wave.sb_exitFib (W : Wave) (units f slot : Nat) :
    tabGet (W.exitFib units f).sb slot = (tabGet W.sb slot).map fun e => { e with accs := e.accs.map (Acc.fibEnded slot f) } := by
  have hsb : (W.exitFib units f).sb = tabMap W.sb fun slot e =>
      if accessSlot slot then { e with accs := e.accs.map fun a => if a.fib = f then { a with drop := true } else a }
      else { e with accs := e.accs.map fun a => if a.fib = f then { a with dst := [] } else a } := rfl
  rw [hsb, tabGet_tabMap]
  congr 1
  funext e
  by_cases h : accessSlot slot = true <;> simp [h, Acc.fibEnded]

theorem Wave.discards_exitAll {W : Wave} {units f : Nat} {fs : List Nat} (hf : f ∈ fs) : (W.exitAll units fs).discards f := by
  have hacc : ∀ (X : Wave) (h slot : Nat) (e : Entry) (a : Acc), tabGet (X.exitFib units h).sb slot = some e → a ∈ e.accs →
      ∃ e₀ a₀, tabGet X.sb slot = some e₀ ∧ a₀ ∈ e₀.accs ∧ a = a₀.fibEnded slot h := by
    intro X h slot e a he ha
    rw [Wave.sb_exitFib] at he
    obtain ⟨e₀, he₀, rfl⟩ := Option.map_eq_some_iff.mp he
    obtain ⟨a₀, ha₀, rfl⟩ := List.mem_map.mp ha
    exact ⟨e₀, a₀, he₀, ha₀, rfl⟩
  refine foldl_establishes (q := Wave.discards) (f := fun X f => X.exitFib units f) (fun X f slot e a he ha hfib => ?_)
    (fun X h f hq slot e a he ha hfib => ?_) hf W
  · obtain ⟨e₀, a₀, -, -, rfl⟩ := hacc X f slot e a he ha
    have h0 : a₀.fib = f := by
      by_contra hne
      rw [Acc.fibEnded, if_neg hne] at hfib
      exact hne hfib
    by_cases hs : accessSlot slot = true <;> simp [Acc.fibEnded, h0, hs]
  · obtain ⟨e₀, a₀, he₀, ha₀, rfl⟩ := hacc X h slot e a he ha
    by_cases h0 : a₀.fib = h
    · by_cases hs : accessSlot slot = true <;> simp [Acc.fibEnded, h0, hs]
    · rw [Acc.fibEnded, if_neg h0] at hfib ⊢
      exact hq slot e₀ a₀ he₀ ha₀ hfib

/-- A fibre that has ended is in no mask. -/
theorem Wave.mask_of_ended {W : Wave} {f : Nat} (hlt : f < 32) (hu : W.unmasked f) (hl : f ∉ W.live) (m : Nat) :
    (W.mask m).getLsbD f = false := by
  by_cases hm : m = 0
  · rw [Wave.mask, if_pos hm, getLsbD_maskOf _ hlt, decide_eq_false hl]
  · rw [Wave.mask, if_neg hm, tabVal]
    cases hv : tabGet W.masks m with
    | none => simp
    | some v => exact hu _ (mem_of_tabGet hv)

/-- The facet frame of a core is a core's. -/
theorem State.freeFrame_rest (s : State) (c : Nat) : s.freeFrame c = { s with cores := (s.freeFrame c).cores } := by
  unfold State.freeFrame; split
  · rfl
  · split
    · split <;> rfl
    · rfl

theorem State.freeFrame_groups (s : State) (c : Nat) : (s.freeFrame c).groups = s.groups := by rw [State.freeFrame_rest]

/-- The units of a pool are a core's. -/
theorem State.giveBack_rest (s : State) (g n : Nat) : s.giveBack g n = { s with cores := (s.giveBack g n).cores } := by
  unfold State.giveBack; split <;> rfl

theorem State.giveBack_groups (s : State) (g n : Nat) : (s.giveBack g n).groups = s.groups := by rw [State.giveBack_rest]

/-- Ending fibres changes their wave and recounts the live-count barriers of their group. -/
theorem State.exitFibs_groups {s : State} {g w : Nat} {G : Group} {W : Wave} (hG : s.group g = some G) (hW : s.wave g w = some W)
    (fs : List Nat) : (s.exitFibs g w fs).groups =
      (s.modGroup g fun G => Group.recount (G.modWave w fun W => W.exitAll G.hdr.units fs)).groups := by
  simp only [State.exitFibs, hG, hW, State.freeFrame_groups]
  exact congrArg (fun t => tabMod t g _) (s.giveBack_groups g _)

/-- Ending fibres changes groups and cores only. -/
theorem State.exitFibs_rest (s : State) (g w : Nat) (fs : List Nat) :
    s.exitFibs g w fs = { s with groups := (s.exitFibs g w fs).groups, cores := (s.exitFibs g w fs).cores } := by
  unfold State.exitFibs
  split
  · rw [State.freeFrame_rest, State.giveBack_rest]; rfl
  · rfl

theorem exec_fexit {s : State} {c : Issue} {G : Group} {W : Wave} {o : Form.N} (g : Goes (.fexit o) s c G W) :
    exec (.fexit o) s = .next ((s.setWave c (W.advance c)).exitFibs c.grp c.wave (acting (.fexit o) c W)) := by
  show execFexit o s = _
  rw [execFexit, issueWith_go g]

/-- A state whose groups are those of another one has its groups. -/
theorem State.group_of_groups {s t : State} (h : s.groups = t.groups) (g : Nat) : s.group g = t.group g := congrArg (tabGet · g) h

theorem fexit_ends (s : State) (c : Issue) (G : Group) (W : Wave) (o : Form.N) (g : Goes (.fexit o) s c G W) :
    ∃ t V, exec (.fexit o) s = .next t ∧ t.wave c.grp c.wave = some V ∧ t.mem = s.mem ∧ t.slices = s.slices ∧
      (∀ f ∈ acting (.fexit o) c W, (V.fib f).st = .exited ∧ f ∉ V.live ∧ (V.fib f).base = 0 ∧
        (V.fib f).alloc = min (W.fib f).alloc (16 * G.hdr.units) ∧ ∀ m, (V.mask m).getLsbD f = false) ∧
      (∀ f, f ∉ acting (.fexit o) c W → V.fib f = fibAfter (.fexit o) c W (fun _ F => F) f) ∧
      (∀ slot e a, tabGet V.sb slot = some e → a ∈ e.accs → a.fib ∈ acting (.fexit o) c W →
        a.drop = true ∨ (accessSlot slot = false ∧ a.dst = [])) ∧
      V.ks = W.ks ∧ (∀ g, g ≠ c.grp → t.group g = s.group g) := by
  have hwave := wave_of_issuing g.toIssuing
  have hG' : (s.setWave c (W.advance c)).group c.grp = some (G.modWave c.wave fun _ => W.advance c) := by
    rw [State.group_setWave, g.group, Option.map_some]
  have hgroup : ∀ h, State.group ((s.setWave c (W.advance c)).exitFibs c.grp c.wave (acting (.fexit o) c W)) h = _ :=
    State.group_of_groups (State.exitFibs_groups hG' (State.wave_setWave _ hwave) _)
  have hadv := Wave.fib_advance W c g.nodup g.live
  have hfib := Wave.fib_exitAll (acting_nodup (i := .fexit o) (W := W) g.nodup) (W.advance c) G.hdr.units
  refine ⟨_, (W.advance c).exitAll G.hdr.units (acting (.fexit o) c W), exec_fexit g, ?_, ?_, ?_, ?_, ?_, ?_, ?_, ?_⟩
  · rw [State.wave, hgroup, State.group_modGroup_self, hG']
    simp [Group.recount, Group.modWave, g.wave]
  · rw [State.exitFibs_rest, State.setWave_mem]
  · rw [State.exitFibs_rest, State.setWave_slices]
  · intro f hf
    have hl := g.live f (acting_sub hf)
    have hlt := (Wave.mem_live.mp hl).1
    have hV := hfib f
    rw [if_pos hf] at hV
    have hout : f ∉ ((W.advance c).exitAll G.hdr.units (acting (.fexit o) c W)).live := fun h => by
      have := Wave.isLive_of_mem h
      rw [hV] at this
      cases this
    refine ⟨by rw [hV]; rfl, hout, by rw [hV]; rfl, ?_, fun m => Wave.mask_of_ended hlt (Wave.unmasked_exitAll hf hlt) hout m⟩
    rw [hV, hadv, if_pos (acting_sub hf)]
    simp [Fibre.ended]
  · intro f hf
    rw [hfib, if_neg hf, hadv, fibAfter, if_neg hf]
  · intro slot e a he ha hfib
    exact Wave.discards_exitAll hfib slot e a he ha rfl
  · rw [Wave.ks_exitAll, Wave.advance_ks]
  · intro h hne
    rw [hgroup, State.group_modGroup_ne _ _ _ _ hne]
    exact State.group_modGroup_ne _ _ _ _ hne

/-! ## FSPAWN (R128) -/

theorem find?_range_first {p : Nat → Bool} {n k : Nat} (hk : k < n) (hp : p k = true) (hlt : ∀ j < k, p j = false) :
    (List.range n).find? p = some k :=
  List.find?_range_eq_some.mpr ⟨hp, List.mem_range.mpr hk, fun j hj => by rw [hlt j hj]; rfl⟩

/-- A new fibre takes the lowest slot that no live fibre has. -/
theorem Wave.spawnOne_of_free {W : Wave} {k : Nat} (G : Group) (e : Addr) (v : Tagged) (hk : k < 32) (hfree : (W.fib k).isLive = false)
    (hlow : ∀ j < k, (W.fib j).isLive = true) : W.spawnOne G e v = (W.modFib k fun _ => spawned G e v, BitVec.ofNat 32 k) := by
  rw [Wave.spawnOne, find?_range_first hk (by rw [hfree]; rfl) fun j hj => by rw [hlow j hj]; rfl]

theorem Wave.spawnOne_of_full {W : Wave} (G : Group) (e : Addr) (v : Tagged) (h : ∀ j < 32, (W.fib j).isLive = true) :
    W.spawnOne G e v = (W, 0xFFFFFFFF) := by
  rw [Wave.spawnOne, List.find?_eq_none.mpr fun j hj => by rw [h j (List.mem_range.mp hj)]; decide]

/-- No fibre that is live changes as others are made. -/
theorem Wave.fib_spawnOne_of_live {W : Wave} {f : Nat} (G : Group) (e : Addr) (v : Tagged) (h : (W.fib f).isLive = true) :
    (W.spawnOne G e v).1.fib f = W.fib f := by
  unfold Wave.spawnOne
  split
  · next k hk =>
    have hne : f ≠ k := by
      rintro rfl
      simp [h] at hk
    exact Wave.fib_modFib_ne _ _ _ _ hne
  · rfl

/-- One request of FSPAWN served. -/
def spawnStep (G : Group) (acc : Wave × List (Nat × Word)) (r : Nat × Addr × Tagged) : Wave × List (Nat × Word) :=
  ((acc.1.spawnOne G r.2.1 r.2.2).1, acc.2 ++ [(r.1, (acc.1.spawnOne G r.2.1 r.2.2).2)])

theorem Wave.spawnAll_eq (W : Wave) (G : Group) (req : List (Nat × Addr × Tagged)) :
    W.spawnAll G req = req.foldl (spawnStep G) (W, []) := rfl

theorem foldl_spawnStep (G : Group) (req : List (Nat × Addr × Tagged)) (X : Wave) (l : List (Nat × Word)) :
    req.foldl (spawnStep G) (X, l) = ((X.spawnAll G req).1, l ++ (X.spawnAll G req).2) := by
  induction req generalizing X l with
  | nil => simp [Wave.spawnAll_eq]
  | cons r req ih =>
    rw [Wave.spawnAll_eq, List.foldl_cons, List.foldl_cons, spawnStep, ih, spawnStep, ih]
    simp

theorem Wave.spawnAll_cons (W : Wave) (G : Group) (f : Nat) (e : Addr) (v : Tagged) (rest : List (Nat × Addr × Tagged)) :
    W.spawnAll G ((f, e, v) :: rest) =
      (((W.spawnOne G e v).1.spawnAll G rest).1, (f, (W.spawnOne G e v).2) :: ((W.spawnOne G e v).1.spawnAll G rest).2) :=
  foldl_spawnStep G rest _ _

theorem Wave.fib_spawnAll_of_live {W : Wave} {f : Nat} (G : Group) (req : List (Nat × Addr × Tagged)) (h : (W.fib f).isLive = true) :
    (W.spawnAll G req).1.fib f = W.fib f := by
  induction req generalizing W with
  | nil => rfl
  | cons r req ih =>
    have h1 := Wave.fib_spawnOne_of_live G r.2.1 r.2.2 h
    rw [Wave.spawnAll_cons, ih (h1 ▸ h), h1]

/-- Every fibre that spawns receives one number, in their order. -/
theorem Wave.map_fst_spawnAll (W : Wave) (G : Group) (req : List (Nat × Addr × Tagged)) :
    (W.spawnAll G req).2.map (·.1) = req.map (·.1) := by
  induction req generalizing W with
  | nil => rfl
  | cons r req ih => rw [Wave.spawnAll_cons, List.map_cons, ih, List.map_cons]

theorem tabGet_of_mem {α : Type} {t : Tab α} (hn : (t.map (·.1)).Nodup) {e : Nat × α} (h : e ∈ t) : tabGet t e.1 = some e.2 := by
  induction t with
  | nil => cases h
  | cons x t ih =>
    obtain ⟨hx, hn⟩ := List.nodup_cons.mp hn
    rcases List.mem_cons.mp h with rfl | h
    · simp [tabGet]
    · have hne : x.1 ≠ e.1 := fun he => hx (List.mem_map.mpr ⟨e, h, he.symm⟩)
      simp [tabGet, hne, ih hn h]

/-- A register operand names its own register first. -/
theorem mem_regRun_self (r : Reg) : r ∈ regRun r 1 := by cases r <;> simp [regRun, regPlus]

section
variable {s : State} {c : Issue} {G : Group} {W : Wave} {o : Form.DAB}

theorem exec_fspawn (g : Goes (.fspawn o) s c G W) (h : ∀ f ∈ acting (.fspawn o) c W, targetOk (W.readPair f o.a) = true)
    {X : Wave} {l : List (Nat × Word)}
    (hX : (W.advance c).spawnAll G ((acting (.fspawn o) c W).map fun f => (f, W.readPair f o.a, W.read f o.b)) = (X, l)) :
    exec (.fspawn o) s = .next ((s.setWave c (X.writeRegs (acting (.fspawn o) c W) [o.d] fun f => [⟨tabVal 0 l f, .n32⟩])).modGroup
      c.grp Group.recount) := by
  have hbad : (acting (.fspawn o) c W).filter (fun f => !targetOk (W.readPair f o.a)) = [] :=
    List.filter_eq_nil_iff.mpr fun f hf => by simp [h f hf]
  show execFspawn o s = _
  rw [execFspawn, issueWith_go g]
  simp only [hbad, ne_eq, not_true, if_false, hX]

theorem fspawn_begins (g : Goes (.fspawn o) s c G W) (h : ∀ f ∈ acting (.fspawn o) c W, targetOk (W.readPair f o.a) = true) :
    ∃ X l V, (W.advance c).spawnAll G ((acting (.fspawn o) c W).map fun f => (f, W.readPair f o.a, W.read f o.b)) = (X, l) ∧
      l.map (·.1) = acting (.fspawn o) c W ∧ exec (.fspawn o) s = .next ((s.setWave c V).modGroup c.grp Group.recount) ∧
      V = { X with fibres := V.fibres, ks := V.ks } ∧
      (∀ e ∈ l, (((W.fib e.1).dreg o.d).isK = false ∨ (acting (.fspawn o) c W).getLast? = some e.1) →
        V.get e.1 ((W.fib e.1).dreg o.d) = ⟨e.2, .n32⟩) ∧
      (∀ f d, (∀ h ∈ acting (.fspawn o) c W, (h = f ∨ d.isK = true) → d ≠ (W.fib h).dreg o.d) → V.get f d = X.get f d) ∧
      (∀ f, f ∉ acting (.fspawn o) c W → V.fib f = X.fib f) ∧
      ∀ f, (V.fib f).st = (X.fib f).st ∧ (V.fib f).base = (X.fib f).base ∧ (V.fib f).alloc = (X.fib f).alloc ∧
        (V.fib f).curPc = (X.fib f).curPc ∧ (V.fib f).curPreds = (X.fib f).curPreds ∧ (V.fib f).curFlags = (X.fib f).curFlags ∧
        (V.fib f).curTrapen = (X.fib f).curTrapen ∧ (V.fib f).curLnk = (X.fib f).curLnk ∧ (V.fib f).wait = (X.fib f).wait := by
  generalize hr : (W.advance c).spawnAll G ((acting (.fspawn o) c W).map fun f => (f, W.readPair f o.a, W.read f o.b)) = r
  obtain ⟨X, l⟩ := r
  have hl : l.map (·.1) = acting (.fspawn o) c W := by
    have := Wave.map_fst_spawnAll (W.advance c) G ((acting (.fspawn o) c W).map fun f => (f, W.readPair f o.a, W.read f o.b))
    simpa [hr, Function.comp_def] using this
  have hXfib : ∀ f ∈ acting (.fspawn o) c W, X.fib f = (W.fib f).setPc c.nextPc := by
    intro f hf
    have hadv := Wave.fib_advance W c g.nodup g.live f
    rw [if_pos (acting_sub hf)] at hadv
    have := Wave.fib_spawnAll_of_live G ((acting (.fspawn o) c W).map fun f => (f, W.readPair f o.a, W.read f o.b))
      (W := W.advance c) (f := f) (by rw [hadv]; simp [Fibre.isLive, Wave.isLive_of_mem (g.live f (acting_sub hf))])
    rw [hr] at this
    exact this.trans hadv
  have hdreg : ∀ f ∈ acting (.fspawn o) c W, (X.fib f).dreg o.d = (W.fib f).dreg o.d := fun f hf => by
    rw [hXfib f hf, Fibre.setPc_dreg]
  refine ⟨X, l, _, rfl, hl, exec_fspawn g h hr, Wave.eq_of_shell (Wave.shell_writeRegs _ _ _ _), ?_, ?_, ?_, ?_⟩
  · intro e he hlast
    have hf : e.1 ∈ acting (.fspawn o) c W := hl ▸ List.mem_map_of_mem he
    have hval : tabVal 0 l e.1 = e.2 := by
      rw [tabVal, tabGet_of_mem (hl ▸ acting_nodup g.nodup) he, Option.getD_some]
    rw [← hdreg _ hf] at hlast ⊢
    refine Wave.get_writeRegs (k := 0) (acting_nodup g.nodup) hf hlast (List.nodup_singleton _) rfl (by rw [hval]; rfl) ?_
    refine Wave.has_dreg ?_
    rw [hXfib _ hf, Fibre.inWindow_setPc]
    exact inWindow_of_goes g (acting_sub hf) (mem_regs_of_mem_dstRegs (mem_regRun_self o.d))
  · intro f d hd
    refine Wave.get_writeRegs_of_not_mem _ _ fun x hx hxd => ?_
    rw [List.map_singleton, List.mem_singleton, hdreg x hx]
    exact hd x hx hxd
  · exact fun f hf => Wave.fib_writeRegs_of_not_mem _ _ _ hf
  · intro f
    have hb := Wave.bare_writeRegs X (acting (.fspawn o) c W) [o.d] (fun f => [⟨tabVal 0 l f, .n32⟩]) f
    have hs := Fibre.still_of_bare hb
    exact ⟨Fibre.st_of_still hs, Fibre.base_of_still hs, Fibre.alloc_of_still hs, Fibre.curPc_of_still hs, Fibre.curPreds_of_bare hb,
      Fibre.curFlags_of_bare hb, Fibre.curTrapen_of_still hs, Fibre.curLnk_of_still hs, Fibre.wait_of_still hs⟩

end

/-- Settles O20: ending is one change of each fibre, its masks and accesses; spawning takes free slots only, so live fibres stay. -/
theorem fibresEndAndBegin : Obligations.FibresEndAndBegin := by
  refine ⟨fexit_ends, fun s c G W o => ⟨fspawn_begins, rfl, W.spawnAll_cons G, fun e v k hk hfree hlow => ?_,
    fun e v h => Wave.spawnOne_of_full G e v h⟩⟩
  rw [Wave.spawnOne_of_free G e v hk hfree hlow]
  refine ⟨rfl, fun j hj => Wave.fib_modFib_ne _ _ _ _ hj, rfl, ?_⟩
  simp only [Wave.fib_modFib]
  exact ⟨rfl, rfl, rfl, rfl, tabVal_tabPut_self _ _ _ _, fun n hn => tabVal_tabPut_ne _ _ _ _ _ hn, rfl, rfl, rfl, rfl⟩

end Sys2Proof.Machine

/-! Proofs about the end of a core cycle, barriers, and what an arbiter chooses (R43, R44, R47, R48, R142). -/
namespace Sys2Proof.Machine
open Sys2Proof.Safety

/-! ## Folds over different keys -/

/-- Of steps of which each touches what its own key names, one only touches what a listed key names. -/
theorem foldl_of_nodup_keys {α β γ : Type} (p : α → γ) {step : α → Nat × β → α} {l : List (Nat × β)} (hn : (l.map (·.1)).Nodup)
    {e : Nat × β} (he : e ∈ l) (hk : ∀ a, ∀ x ∈ l, x.1 ≠ e.1 → p (step a x) = p a) {a : α} {q : γ → γ}
    (hq : ∀ a', p a' = p a → p (step a' e) = q (p a)) : p (l.foldl step a) = q (p a) := by
  obtain ⟨l1, l2, rfl⟩ := List.append_of_mem he
  rw [List.map_append, List.map_cons, List.nodup_append] at hn
  obtain ⟨-, hn2, hdis⟩ := hn
  obtain ⟨he2, -⟩ := List.nodup_cons.mp hn2
  have h1 : ∀ x ∈ l1, x.1 ≠ e.1 := fun x hx hxe => hdis x.1 (List.mem_map_of_mem hx) e.1 List.mem_cons_self hxe
  have h2 : ∀ x ∈ l2, x.1 ≠ e.1 := fun x hx hxe => he2 (hxe ▸ List.mem_map_of_mem hx)
  rw [List.foldl_append, List.foldl_cons,
    foldl_keeps p (fun a x hx => hk a x (List.mem_append_right _ (List.mem_cons_of_mem _ hx)) (h2 x hx))]
  exact hq _ (foldl_keeps p (fun a x hx => hk a x (List.mem_append_left _ hx) (h1 x hx)) a)

/-- The keys of a sorted table differ. -/
theorem nodup_keys_of_tabSorted {α : Type} {t : Tab α} (h : tabSorted t = true) : (t.map (·.1)).Nodup := by
  induction t with
  | nil => exact List.nodup_nil
  | cons e t ih =>
    refine List.nodup_cons.mpr ⟨fun hm => ?_, ih (tabSorted_tail h)⟩
    obtain ⟨x, hx, hxe⟩ := List.mem_map.mp hm
    exact absurd (tabSorted_lt h x hx) (hxe ▸ lt_irrefl _)

/-! ## Core barriers -/

theorem Group.bar_modBar_self (G : Group) (id : Nat) (f : CoreBarrier → CoreBarrier) : (G.modBar id f).bar id = f (G.bar id) :=
  tabVal_tabPut_self _ _ _ _

theorem Group.bar_modBar_ne (G : Group) {id j : Nat} (f : CoreBarrier → CoreBarrier) (h : j ≠ id) : (G.modBar id f).bar j = G.bar j :=
  tabVal_tabPut_ne _ _ _ _ _ h

/-- A barrier after its test, where `n` live fibres count for it. -/
def CoreBarrier.tested (b : CoreBarrier) (n : Nat) : CoreBarrier :=
  let e := if b.live then n else b.exp
  if b.armed ∧ e ≤ b.arr then { b with exp := e, due := false, arr := 0, phase := 1 - b.phase } else { b with exp := e, due := false }

theorem Group.bar_testBar_self (G : Group) (id : Nat) :
    (G.testBar id).bar id = (G.bar id).tested (G.liveCount (G.bar id).members) := by
  rw [Group.testBar, Group.bar_modBar_self]
  by_cases hl : (G.bar id).live = true <;> simp [CoreBarrier.tested, hl]

theorem Group.bar_testBar_ne (G : Group) {id j : Nat} (h : j ≠ id) : (G.testBar id).bar j = G.bar j := Group.bar_modBar_ne _ _ h

theorem Group.waves_testBar (G : Group) (id : Nat) : (G.testBar id).waves = G.waves := rfl

theorem Group.waves_testBars (G : Group) : G.testBars.waves = G.waves :=
  foldl_keeps Group.waves (fun H e _ => by split <;> rfl) G

/-- A barrier is tested at the end of the core cycle where it had an event in it. -/
theorem Group.bar_testBars {G : Group} (hs : tabSorted G.bars = true) (id : Nat) :
    G.testBars.bar id = if (G.bar id).due then (G.testBar id).bar id else G.bar id := by
  have hne : ∀ (H : Group) (e : Nat × CoreBarrier), e.1 ≠ id → (if e.2.due then H.testBar e.1 else H).bar id = H.bar id := by
    intro H e h
    split
    · exact Group.bar_testBar_ne H h.symm
    · rfl
  cases hb : tabGet G.bars id with
  | none =>
    have hbar : G.bar id = CoreBarrier.zero := by rw [Group.bar, tabVal, hb, Option.getD_none]
    have hmem : ∀ e ∈ G.bars, e.1 ≠ id := fun e he h => by
      have := tabGet_of_mem (nodup_keys_of_tabSorted hs) he
      rw [h, hb] at this
      cases this
    rw [hbar, if_neg (by decide), ← hbar]
    exact foldl_keeps (fun H : Group => H.bar id) (fun H e he => hne H e (hmem e he)) G
  | some b =>
    have hbar : G.bar id = b := by rw [Group.bar, tabVal, hb, Option.getD_some]
    have h := foldl_of_nodup_keys (fun H : Group => (H.bar id, H.waves)) (a := G) (step := fun H e => if e.2.due then H.testBar e.1 else H)
      (q := fun x => (if b.due then (G.testBar id).bar id else x.1, x.2)) (nodup_keys_of_tabSorted hs) (mem_of_tabGet hb)
      (fun H x _ hx => by
        refine Prod.ext (hne H x hx) ?_
        show (if x.2.due then H.testBar x.1 else H).waves = H.waves
        split <;> rfl)
      (fun H hH => by
        obtain ⟨hHb, hHw⟩ := Prod.mk.inj hH
        by_cases hd : b.due = true
        · simp only [hd, if_true, Group.bar_testBar_self, hHb, Group.liveCount, Group.waves_testBar, hHw]
        · simp only [hd]
          exact Prod.ext hHb hHw)
    rw [hbar, Group.testBars]
    exact (congrArg Prod.fst h).trans (by rw [hbar])

/-! ## The end of a core cycle -/

/-- What the end of a core cycle makes of a wave of a group. -/
def State.endedWave (s : State) (core g : Nat) (G : Group) (w : Nat) (W : Wave) : Wave :=
  let r := s.readyAt g w W (s.core core).cycles
  Wave.endCycle
    (if (s.core core).issued.contains (g, w) then { W with starve := 0, ready := r }
     else if G.held then { W with ready := r }
     else if r.isEmpty then { W with starve := 0, ready := r }
     else { W with starve := W.starve + 1, ready := r })

/-- What the end of a core cycle makes of a group with its waves. -/
def State.endedGroup (s : State) (core : Nat) (e : Nat × Group) (H : Group) : Group :=
  e.2.liveWaves.foldl (fun X x => X.modWave x.1 (s.endedWave core e.1 e.2 x.1)) H.endCycle

/-- What the end of a core cycle makes of one group of the core. -/
def State.endGroup (s : State) (core : Nat) (t : State) (e : Nat × Group) : State :=
  e.2.liveWaves.foldl (fun u x => u.modWave e.1 x.1 (s.endedWave core e.1 e.2 x.1)) (t.modGroup e.1 Group.endCycle)

theorem State.cycleEnd_eq {s : State} {core : Nat} (h : s.dieClock (dieOf core) ≠ 3) :
    s.cycleEnd core = ((s.residents core).foldl (s.endGroup core) s).modCore core fun C =>
      { C with cycles := C.cycles + 1, issued := [], freed := 0 } := by
  rw [State.cycleEnd, if_neg h]
  rfl

theorem State.group_endGroup_ne (s : State) (core : Nat) (t : State) {e : Nat × Group} {g : Nat} (h : e.1 ≠ g) :
    (s.endGroup core t e).group g = t.group g := by
  refine (foldl_keeps (fun u : State => u.group g) (fun u x _ => ?_) _).trans (State.group_modGroup_ne _ _ _ _ h.symm)
  exact State.group_modGroup_ne _ _ _ _ h.symm

theorem State.group_foldl_modWave (l : List (Nat × Wave)) (u : State) (g : Nat) (f : Nat → Wave → Wave) :
    (l.foldl (fun u x => u.modWave g x.1 (f x.1)) u).group g =
      (u.group g).map fun H => l.foldl (fun X x => X.modWave x.1 (f x.1)) H := by
  induction l generalizing u with
  | nil => simp
  | cons x l ih =>
    rw [List.foldl_cons, ih, State.modWave, State.group_modGroup_self, Option.map_map]
    rfl

theorem State.group_endGroup_self (s : State) (core : Nat) (t : State) (e : Nat × Group) :
    (s.endGroup core t e).group e.1 = (t.group e.1).map (s.endedGroup core e) := by
  rw [State.endGroup, State.group_foldl_modWave e.2.liveWaves _ e.1 (s.endedWave core e.1 e.2), State.group_modGroup_self, Option.map_map]
  rfl

/-- A group of the core after the core's cycle. -/
theorem State.group_cycleEnd {s : State} {core g : Nat} {G : Group} (hclk : s.dieClock (dieOf core) ≠ 3)
    (hr : (g, G) ∈ s.residents core) (hn : ((s.residents core).map (·.1)).Nodup) (hg : s.group g = some G) :
    (s.cycleEnd core).group g = some (s.endedGroup core (g, G) G) := by
  rw [State.cycleEnd_eq hclk]
  have h := foldl_of_nodup_keys (fun u : State => u.group g) (step := s.endGroup core) (a := s)
    (q := fun o => o.map (s.endedGroup core (g, G))) hn hr
    (fun u x _ hx => s.group_endGroup_ne core u hx)
    (fun u hu => by rw [← hu]; exact s.group_endGroup_self core u (g, G))
  rw [hg, Option.map_some] at h
  exact h

theorem State.bar_endedGroup (s : State) (core : Nat) (e : Nat × Group) (H : Group) (id : Nat) :
    (s.endedGroup core e H).bar id = H.testBars.bar id :=
  foldl_keeps (fun X : Group => X.bar id) (f := fun X (x : Nat × Wave) => X.modWave x.1 (s.endedWave core e.1 e.2 x.1)) (fun _ _ _ => rfl) H.endCycle

theorem State.wave_endedGroup {s : State} {core g : Nat} {G : Group} {w : Nat} {W : Wave} (hn : (G.liveWaves.map (·.1)).Nodup)
    (hl : (w, W) ∈ G.liveWaves) (hw : tabGet G.waves w = some W) :
    tabGet (s.endedGroup core (g, G) G).waves w = some (s.endedWave core g G w W) := by
  have h := foldl_of_nodup_keys (fun X : Group => tabGet X.waves w)
    (step := fun (X : Group) x => X.modWave x.1 (s.endedWave core g G x.1)) (a := G.endCycle)
    (q := fun o => o.map (s.endedWave core g G w)) hn hl
    (fun X x _ hx => tabGet_tabMod_ne _ _ _ _ hx.symm)
    (fun X hX => by rw [← hX]; exact tabGet_tabMod_self _ _ _)
  rw [show G.endCycle.waves = G.testBars.waves from rfl, Group.waves_testBars, hw, Option.map_some] at h
  exact h

/-! ## The least keys (R43) -/

/-- No two keys are below each other. -/
theorem keysBelow_asymm : ∀ {a b : List Nat}, keysBelow a b = true → keysBelow b a = false
  | [], _, _ => by simp [keysBelow]
  | _ :: _, [], _ => by simp [keysBelow]
  | x :: a, y :: b, h => by
    simp only [keysBelow, Bool.or_eq_true, decide_eq_true_eq, Bool.and_eq_true, beq_iff_eq] at h
    rcases h with h | ⟨rfl, h⟩
    · simp only [keysBelow, Bool.or_eq_false_iff, decide_eq_false_iff_not, Bool.and_eq_false_iff, beq_eq_false_iff_ne]
      exact ⟨by omega, .inl (by omega)⟩
    · simp [keysBelow, keysBelow_asymm h]

theorem keysBelow_irrefl (a : List Nat) : keysBelow a a = false := by
  by_contra h
  rw [Bool.not_eq_false] at h
  rw [keysBelow_asymm h] at h
  cases h

/-- Not being below is transitive among keys of one length. -/
theorem keysBelow_of_ge : ∀ {a b c : List Nat}, a.length = b.length → b.length = c.length → keysBelow b a = false →
    keysBelow c b = false → keysBelow c a = false
  | [], _, c, _, _, _, _ => by cases c <;> rfl
  | x :: a, [], _, h, _, _, _ => by cases h
  | x :: a, y :: b, [], _, _, _, _ => rfl
  | x :: a, y :: b, z :: c, hab, hbc, h1, h2 => by
    simp only [keysBelow, Bool.or_eq_false_iff, decide_eq_false_iff_not, Bool.and_eq_false_iff, beq_eq_false_iff_ne] at h1 h2 ⊢
    refine ⟨by omega, ?_⟩
    by_cases hz : z = x
    · refine .inr (keysBelow_of_ge (Nat.succ.inj hab) (Nat.succ.inj hbc) (h1.2.resolve_left ?_) (h2.2.resolve_left ?_)) <;> omega
    · exact .inl hz

/-- The least of a list of things with keys, the earlier one of equals. -/
def leastKeys {β : Type} : List (List Nat × β) → Option (List Nat × β)
  | [] => none
  | x :: xs => match leastKeys xs with
    | none => some x
    | some y => if keysBelow y.1 x.1 then some y else some x

theorem bestBundle_eq (l : List (List Nat × Nat)) : bestBundle l = leastKeys l := by
  induction l with
  | nil => rfl
  | cons x l ih => rw [bestBundle, leastKeys, ih]; cases leastKeys l <;> rfl

theorem bestOffer_eq (l : List Offer) : bestOffer l = leastKeys l := by
  induction l with
  | nil => rfl
  | cons x l ih => rw [bestOffer, leastKeys, ih]; cases leastKeys l <;> rfl

theorem leastKeys_eq_none {β : Type} {l : List (List Nat × β)} : leastKeys l = none ↔ l = [] := by
  cases l with
  | nil => simp [leastKeys]
  | cons x l =>
    simp only [leastKeys, reduceCtorEq, iff_false]
    split
    · simp
    · split <;> simp

/-- The least of keys of one length is one of them, and none is below it. -/
theorem leastKeys_least {β : Type} {n : Nat} {l : List (List Nat × β)} {x : List Nat × β} (hlen : ∀ y ∈ l, y.1.length = n)
    (h : leastKeys l = some x) : x ∈ l ∧ ∀ y ∈ l, keysBelow y.1 x.1 = false := by
  induction l generalizing x with
  | nil => cases h
  | cons y l ih =>
    have hlen' : ∀ e ∈ l, e.1.length = n := fun e he => hlen e (List.mem_cons_of_mem _ he)
    rw [leastKeys] at h
    cases hb : leastKeys l with
    | none =>
      rw [hb] at h
      cases h
      rw [leastKeys_eq_none.mp hb]
      refine ⟨List.mem_cons_self, fun e he => ?_⟩
      rw [List.mem_singleton.mp he]
      exact keysBelow_irrefl _
    | some z =>
      rw [hb] at h
      obtain ⟨hz, hmin⟩ := ih hlen' hb
      simp only at h
      split at h <;> cases h
      · next hk =>
        refine ⟨List.mem_cons_of_mem _ hz, fun e he => ?_⟩
        rcases List.mem_cons.mp he with rfl | he
        · exact keysBelow_asymm hk
        · exact hmin e he
      · next hk =>
        rw [Bool.not_eq_true] at hk
        refine ⟨List.mem_cons_self, fun e he => ?_⟩
        rcases List.mem_cons.mp he with rfl | he
        · exact keysBelow_irrefl _
        · have hx := hlen _ List.mem_cons_self
          exact keysBelow_of_ge (hx.trans (hlen' z hz).symm) ((hlen' z hz).trans (hlen' e he).symm) hk (hmin e he)

/-! ## Starvation counters (R44) -/

theorem tabSet_ne_nil {α : Type} (t : Tab α) (k : Nat) (v : α) : tabSet t k v ≠ [] := by
  intro h
  have := tabGet_tabSet_self t k v
  rw [h] at this
  cases this

/-- Only a bundle that the wave has, and that has a fibre, is offered. -/
theorem State.exists_bundle_of_offered {s : State} {g w k : Nat} {W : Wave} (hw : s.wave g w = some W)
    (h : (s.offered g w k).isSome = true) : k < W.bundles.length ∧ ∃ f fs, W.bundles[k]? = some (f :: fs) := by
  unfold State.offered at h
  rw [hw] at h
  split at h
  · next hW =>
    cases hW
    split at h
    · next hb => exact ⟨(List.getElem?_eq_some_iff.mp hb).1, _, _, hb⟩
    · cases h
  · cases h

/-- The bundles that a wave offers, by rank and number. -/
def State.waveOffers (s : State) (g w : Nat) (W : Wave) : List (List Nat × Nat) :=
  (List.range W.bundles.length).filterMap fun k =>
    if (s.offered g w k).isSome then some (W.bundleRank (s.cycleOf g) ((W.bundles[k]?).getD []), k) else none

theorem State.waveOffer_eq {s : State} {g w : Nat} {W : Wave} (hw : s.wave g w = some W) :
    s.waveOffer g w = (leastKeys (s.waveOffers g w W)).map (·.2) := by
  rw [← bestBundle_eq, State.waveOffer, hw]
  rfl

theorem State.mem_waveOffers {s : State} {g w : Nat} {W : Wave} {x : List Nat × Nat} :
    x ∈ s.waveOffers g w W ↔ x.2 < W.bundles.length ∧ (s.offered g w x.2).isSome = true ∧
      x.1 = W.bundleRank (s.cycleOf g) ((W.bundles[x.2]?).getD []) := by
  simp only [State.waveOffers, List.mem_filterMap, List.mem_range]
  constructor
  · rintro ⟨k, hk, h⟩
    split at h
    · next ho => cases h; exact ⟨hk, ho, rfl⟩
    · cases h
  · rintro ⟨hk, ho, hx⟩
    exact ⟨x.2, hk, by rw [if_pos ho, ← hx]⟩

/-- A wave offers nothing where none of its bundles is offered. -/
theorem State.waveOffer_eq_none {s : State} {g w : Nat} {W : Wave} (hw : s.wave g w = some W) :
    s.waveOffer g w = none ↔ ∀ k, (s.offered g w k).isSome = false := by
  rw [State.waveOffer_eq hw, Option.map_eq_none_iff, leastKeys_eq_none, List.eq_nil_iff_forall_not_mem]
  constructor
  · intro h k
    by_contra ho
    rw [Bool.not_eq_false] at ho
    exact h (W.bundleRank (s.cycleOf g) ((W.bundles[k]?).getD []), k) (State.mem_waveOffers.mpr ⟨(s.exists_bundle_of_offered hw ho).1, ho, rfl⟩)
  · intro h x hx
    obtain ⟨-, ho, -⟩ := State.mem_waveOffers.mp hx
    rw [h x.2] at ho
    cases ho

/-- A fibre of an offered bundle counts as ready, and no other. -/
theorem State.readyAt_eq_nil {s : State} {g w : Nat} {W : Wave} (hw : s.wave g w = some W) (now : Nat) :
    s.readyAt g w W now = [] ↔ s.waveOffer g w = none := by
  rw [State.waveOffer_eq_none hw]
  constructor
  · intro h k
    by_contra ho
    rw [Bool.not_eq_false] at ho
    obtain ⟨hk, f, fs, hb⟩ := s.exists_bundle_of_offered hw ho
    have hset : ∀ (l : List Nat) (t : Tab Nat), t ≠ [] → l.foldl (fun t f => tabSet t f ((tabGet W.ready f).getD now)) t ≠ [] := by
      intro l
      induction l with
      | nil => exact fun t h => h
      | cons x l ih => exact fun t _ => ih _ (tabSet_ne_nil _ _ _)
    refine foldl_establishes (q := fun k t => (s.offered g w k).isSome = true → (∃ f fs, W.bundles[k]? = some (f :: fs)) → t ≠ [])
      (fun t k ho hb => ?_) (fun t j k hq ho hb => ?_) (List.mem_range.mpr hk) [] ho ⟨f, fs, hb⟩ h
    · obtain ⟨f, fs, hb⟩ := hb
      rw [if_pos ho, hb]
      exact hset fs _ (tabSet_ne_nil _ _ _)
    · split
      · exact hset _ _ (hq ho hb)
      · exact hq ho hb
  · intro h
    exact foldl_keeps id (fun t k _ => by rw [h k]; rfl) []

theorem State.endedWave_rest (s : State) (core g : Nat) (G : Group) (w : Nat) (W : Wave) :
    s.endedWave core g G w W = { W with starve := (s.endedWave core g G w W).starve, ready := (s.endedWave core g G w W).ready,
                                        letGo := [], ageMark := W.nextAge } := by
  unfold State.endedWave
  simp only [Wave.endCycle]
  split
  · rfl
  · split
    · rfl
    · split <;> rfl

theorem State.starve_endedWave (s : State) (core g : Nat) (G : Group) (w : Nat) (W : Wave) :
    (s.endedWave core g G w W).starve =
      if (s.core core).issued.contains (g, w) then 0 else if G.held then W.starve
      else if (s.readyAt g w W (s.core core).cycles).isEmpty then 0 else W.starve + 1 := by
  unfold State.endedWave
  simp only [Wave.endCycle]
  split
  · rfl
  · split
    · rfl
    · split <;> rfl

/-! ## A wave's counter and offer -/

/-- A wave after the core cycle: its counter is 0 where it issued or offered nothing, and one more where it offered in vain. -/
theorem State.starvation_cycleEnd {s : State} {core g w : Nat} {G : Group} {W : Wave} (hclk : s.dieClock (dieOf core) ≠ 3)
    (hr : (g, G) ∈ s.residents core) (hn : ((s.residents core).map (·.1)).Nodup) (hnw : (G.liveWaves.map (·.1)).Nodup)
    (hg : s.group g = some G) (hl : (w, W) ∈ G.liveWaves) (hw : tabGet G.waves w = some W) :
    ∃ V, (s.cycleEnd core).wave g w = some V ∧ V = { W with starve := V.starve, ready := V.ready, letGo := [], ageMark := W.nextAge } ∧
      ((g, w) ∈ (s.core core).issued → V.starve = 0) ∧
      ((g, w) ∉ (s.core core).issued → G.held = true → V.starve = W.starve) ∧
      ((g, w) ∉ (s.core core).issued → G.held = false → (s.waveOffer g w).isSome = true → V.starve = W.starve + 1) ∧
      ((g, w) ∉ (s.core core).issued → G.held = false → s.waveOffer g w = none → V.starve = 0) := by
  have hwave : s.wave g w = some W := by rw [State.wave, hg, Option.bind_some, hw]
  refine ⟨_, ?_, s.endedWave_rest core g G w W, ?_⟩
  · rw [State.wave, State.group_cycleEnd hclk hr hn hg, Option.bind_some, State.wave_endedGroup hnw hl hw]
  · rw [State.starve_endedWave]
    refine ⟨fun hi => ?_, fun hi hh => ?_, fun hi hh ho => ?_, fun hi hh ho => ?_⟩
    · simp [hi]
    · simp [hi, hh]
    · have hne : s.readyAt g w W (s.core core).cycles ≠ [] := fun h => by
        rw [(s.readyAt_eq_nil hwave _).mp h] at ho
        cases ho
      simp [hi, hh, hne]
    · simp [hi, hh, (s.readyAt_eq_nil hwave _).mpr ho]

/-- The bundle that a wave offers is the first of its ready bundles in readiness and lowest fibre. -/
theorem State.waveOffer_least {s : State} {g w k : Nat} {W : Wave} (hw : s.wave g w = some W) (hk : s.waveOffer g w = some k) :
    (s.offered g w k).isSome = true ∧ ∀ j a b, (s.offered g w j).isSome = true → W.bundles[k]? = some a → W.bundles[j]? = some b →
      keysBelow (W.bundleRank (s.cycleOf g) b) (W.bundleRank (s.cycleOf g) a) = false := by
  rw [State.waveOffer_eq hw, Option.map_eq_some_iff] at hk
  obtain ⟨x, hx, rfl⟩ := hk
  obtain ⟨hmem, hmin⟩ := leastKeys_least (n := 2) (fun y hy => by rw [(State.mem_waveOffers.mp hy).2.2]; rfl) hx
  obtain ⟨-, ho, hxr⟩ := State.mem_waveOffers.mp hmem
  refine ⟨ho, fun j a b hj ha hb => ?_⟩
  have := hmin (W.bundleRank (s.cycleOf g) ((W.bundles[j]?).getD []), j)
    (State.mem_waveOffers.mpr ⟨(s.exists_bundle_of_offered hw hj).1, hj, rfl⟩)
  rwa [hxr, ha, hb, Option.getD_some, Option.getD_some] at this

/-- Settles O7: each wave of a core is counted once, and both choices are of the least keys. -/
theorem starvationCountsAndRanks : Obligations.StarvationCountsAndRanks := by
  refine ⟨fun s core g w G W hclk hr hn hnw hg hl hw => State.starvation_cycleEnd hclk hr hn hnw hg hl hw,
    fun s g w k W hw hk => ?_, fun l x hlen h => leastKeys_least hlen (bestOffer_eq l ▸ h)⟩
  obtain ⟨ho, hmin⟩ := State.waveOffer_least hw hk
  refine ⟨ho, fun j a b hj ha hb => ?_⟩
  have h := hmin j a b hj ha hb
  simp only [Wave.bundleRank, keysBelow, Bool.or_eq_false_iff, decide_eq_false_iff_not, Bool.and_eq_false_iff, beq_eq_false_iff_ne] at h
  obtain ⟨hle, hor⟩ := h
  rcases Nat.lt_or_eq_of_le (Nat.not_lt.mp hle) with hlt | heq
  · exact .inl hlt
  · refine .inr ⟨heq, ?_⟩
    rcases hor with hne | hle
    · exact absurd heq.symm hne
    · omega

/-! ## Arrivals at barriers (R47, R48) -/

theorem CoreBarrier.tested_of_lt {b : CoreBarrier} {n e : Nat} (he : e = if b.live then n else b.exp) (h : b.arr < e) :
    b.tested n = { b with exp := e, due := false } := by
  rw [CoreBarrier.tested, ← he, if_neg fun hh => absurd h (Nat.not_lt.mpr hh.2)]

theorem CoreBarrier.tested_of_le {b : CoreBarrier} {n e : Nat} (ha : b.armed = true) (he : e = if b.live then n else b.exp)
    (h : e ≤ b.arr) : b.tested n = { b with exp := e, due := false, arr := 0, phase := 1 - b.phase } := by
  rw [CoreBarrier.tested, ← he, if_pos ⟨ha, h⟩]

@[simp] theorem State.wbar_modWbar_self (s : State) (k : Nat) (f : WideBarrier → WideBarrier) : (s.modWbar k f).wbar k = f (s.wbar k) :=
  tabVal_tabPut_self _ _ _ _

/-- A wave that arrives at a quad, die or package barrier for the first time in a phase counts one, and the barrier is tested. -/
theorem State.wbar_arriveWide {s : State} {k id scope : Nat} {p : Nat × Nat} (hs : scope ≠ 4) (hp : p ∉ (s.wbar k).came) :
    (s.arriveWide k id scope (some p)).wbar k =
      WideBarrier.test { s.wbar k with came := (s.wbar k).came ++ [p], arr := (s.wbar k).arr + 1 } := by
  have hc : (s.wbar k).came.contains p = false := by simpa using hp
  simp only [State.arriveWide, hc, hs, if_false, Bool.false_eq_true, State.wbar_modWbar_self]

/-- Settles O25: arrivals mark a barrier, the end of the cycle tests the marked ones, and wide barriers are tested at each arrival. -/
theorem barriersCountArrivals : Obligations.BarriersCountArrivals := by
  refine ⟨fun s g id n G hg => ?_, fun G id e ha he => ?_, fun s core g id G hclk hr hn hg hs => ?_, fun s k id scope p hsc ha => ?_⟩
  · have hH : (s.arriveCore g id n).group g = some (G.modBar id fun b => { b with arr := b.arr + n, due := true }) := by
      rw [State.arriveCore, State.group_modGroup_self, hg, Option.map_some]
    refine ⟨_, hH, rfl, fun j hj => ?_, ?_⟩
    · exact Group.bar_modBar_ne _ _ hj
    · exact Group.bar_modBar_self _ _ _
  · refine ⟨G.waves_testBar id, fun j hj => G.bar_testBar_ne hj, fun h => ?_, fun h => ?_⟩
    · rw [Group.bar_testBar_self, CoreBarrier.tested_of_lt he h]
    · rw [Group.bar_testBar_self, CoreBarrier.tested_of_le ha he h]
  · refine ⟨_, State.group_cycleEnd hclk hr hn hg, ?_⟩
    rw [State.bar_endedGroup, Group.bar_testBars hs]
  · refine ⟨fun hp => ?_, fun hp h => ?_, fun hp h => ?_⟩
    · have hc : (s.wbar k).came.contains p = true := by simpa using hp
      simp only [State.arriveWide, hc, if_true]
    · rw [State.wbar_arriveWide hsc hp, WideBarrier.test, if_neg (fun hh => absurd h (Nat.not_lt.mpr hh.2))]
    · rw [State.wbar_arriveWide hsc hp, WideBarrier.test, if_pos ⟨ha, h⟩]
      rfl

end Sys2Proof.Machine

/-! Proofs about responses and revokes that reach a core (R53, R182, R188, R265, R266, R282). -/
namespace Sys2Proof.Machine
open Sys2Proof.Safety

/-! ## Waves of the state -/

theorem State.wave_modWave_self (s : State) (g w : Nat) (f : Wave → Wave) : (s.modWave g w f).wave g w = (s.wave g w).map f := by
  rw [State.wave, State.modWave, State.group_modGroup_self, State.wave]
  cases s.group g with
  | none => rfl
  | some G => exact tabGet_tabMod_self _ _ _

theorem State.wave_modWave_ne (s : State) {g h : Nat} (w v : Nat) (f : Wave → Wave) (hne : h ≠ g) :
    (s.modWave g w f).wave h v = s.wave h v := by
  rw [State.wave, State.modWave, State.group_modGroup_ne _ _ _ _ hne, State.wave]

/-- Where a group stands and which its twin is. -/
def State.standing (s : State) (g : Nat) : Option (Option (Nat × Bool) × Option Nat) := (s.group g).map fun G => (G.twin, G.core?)

theorem State.standing_modWave (s : State) (g w : Nat) (f : Wave → Wave) (h : Nat) : (s.modWave g w f).standing h = s.standing h := by
  by_cases hh : h = g
  · subst hh
    rw [State.standing, State.modWave, State.group_modGroup_self, Option.map_map, State.standing]
    rfl
  · rw [State.standing, State.modWave, State.group_modGroup_ne _ _ _ _ hh, State.standing]

theorem State.twin_of_standing {s t : State} {g : Nat} (h : t.standing g = s.standing g) :
    (t.group g).bind (·.twin) = (s.group g).bind (·.twin) := by
  have := congrArg (fun o => o.bind Prod.fst) h
  simpa [State.standing, Option.bind_map, Function.comp_def] using this

theorem State.core_of_standing {s t : State} {g : Nat} (h : t.standing g = s.standing g) :
    (t.group g).bind Group.core? = (s.group g).bind Group.core? := by
  have := congrArg (fun o => o.bind Prod.snd) h
  simpa [State.standing, Option.bind_map, Function.comp_def] using this

/-! ## The invalidation of an acquire (R266, R282) -/

theorem State.core_acquire_self (s : State) (c : Nat) : (s.acquire c).core c = (s.core c).acquire := s.core_modCore_self c _

theorem State.core_acquire_ne (s : State) {c d : Nat} (h : d ≠ c) : (s.acquire c).core d = s.core d := s.core_modCore_ne _ h

/-- A wave whose loads on their way leave nothing in the L1. -/
def Wave.passed (W : Wave) : Wave :=
  { W with sb := tabMap W.sb fun _ e => { e with accs := e.accs.map fun a => { a with skip := 0xFFFF } } }

/-- A group after an acquire on a core. -/
def Group.passed (c : Nat) (G : Group) : Group :=
  if G.core? = some c then { G with waves := tabMap G.waves fun _ => Wave.passed } else G

theorem State.group_acquire (s : State) (c g : Nat) : (s.acquire c).group g = (s.group g).map (Group.passed c) := by
  have h : (s.acquire c).groups = tabMap s.groups fun _ => Group.passed c := rfl
  rw [State.group, h, tabGet_tabMap, State.group]

/-- An acquire changes no fibre and no K register. -/
theorem State.wave_acquire {s : State} {g w : Nat} {W : Wave} (c : Nat) (h : s.wave g w = some W) :
    ∃ V, (s.acquire c).wave g w = some V ∧ V.fibres = W.fibres ∧ V.ks = W.ks := by
  obtain ⟨G, hg, hw⟩ := Option.bind_eq_some_iff.mp h
  rw [State.wave, State.group_acquire, hg, Option.map_some, Option.bind_some, Group.passed]
  split
  · exact ⟨W.passed, by rw [tabGet_tabMap, hw, Option.map_some], rfl, rfl⟩
  · exact ⟨W, hw, rfl, rfl⟩

/-- An acquire of a group's access invalidates its core's L1, and its twin's core's where the pair makes the access once. -/
theorem State.acquireFor_cases (s : State) (g core : Nat) (i : Instr) : s.acquireFor g core i = s.acquire core ∨
    ∃ p c, (s.group g).bind (·.twin) = some (p, false) ∧ (s.group p).bind Group.core? = some c ∧
      s.acquireFor g core i = (s.acquire core).acquire c := by
  unfold State.acquireFor
  cases h : (s.group g).bind (·.twin) with
  | none => exact .inl rfl
  | some x =>
    obtain ⟨p, b⟩ := x
    cases b with
    | true => exact .inl rfl
    | false =>
      simp only
      split
      · cases hc : (s.group p).bind Group.core? with
        | none => exact .inl rfl
        | some c => exact .inr ⟨p, c, rfl, hc, rfl⟩
      · exact .inl rfl

theorem State.acquireFor_rest (s : State) (g core : Nat) (i : Instr) :
    s.acquireFor g core i = { s with groups := (s.acquireFor g core i).groups, cores := (s.acquireFor g core i).cores } := by
  rcases s.acquireFor_cases g core i with h | ⟨p, c, -, -, h⟩ <;> rw [h] <;> rfl

theorem State.wave_acquireFor {s : State} {g w : Nat} {W : Wave} (h core : Nat) (i : Instr) (hw : s.wave g w = some W) :
    ∃ V, (s.acquireFor h core i).wave g w = some V ∧ V.fibres = W.fibres ∧ V.ks = W.ks := by
  obtain ⟨V, hV, hf, hk⟩ := State.wave_acquire core hw
  rcases s.acquireFor_cases h core i with h | ⟨p, c, -, -, h⟩
  · exact ⟨V, h ▸ hV, hf, hk⟩
  · obtain ⟨X, hX, hXf, hXk⟩ := State.wave_acquire c hV
    exact ⟨X, h ▸ hX, hXf.trans hf, hXk.trans hk⟩

/-- The twin of a group is another one, on another core. -/
def State.twinElsewhere (s : State) (g core : Nat) : Prop :=
  ∀ x, (s.group g).bind (·.twin) = some x → x.1 ≠ g ∧ ∀ P, s.group x.1 = some P → P.core? ≠ some core

theorem State.twin_core_ne {s : State} {g core p c : Nat} {b : Bool} (h : s.twinElsewhere g core)
    (ht : (s.group g).bind (·.twin) = some (p, b)) (hc : (s.group p).bind Group.core? = some c) : c ≠ core := by
  obtain ⟨P, hP, hPc⟩ := Option.bind_eq_some_iff.mp hc
  rintro rfl
  exact (h _ ht).2 P hP hPc

theorem State.core_acquireFor {s : State} {g core : Nat} (i : Instr) (h : s.twinElsewhere g core) :
    (s.acquireFor g core i).core core = (s.core core).acquire := by
  rcases s.acquireFor_cases g core i with he | ⟨p, c, ht, hc, he⟩
  · rw [he, State.core_acquire_self]
  · rw [he, State.core_acquire_ne _ (State.twin_core_ne h ht hc).symm, State.core_acquire_self]

/-- The twin's core is invalidated too where the pair makes the access once. -/
theorem State.core_acquireFor_twin {s : State} {g core p c : Nat} {i : Instr} (h : s.twinElsewhere g core) (hs : suppressedInTwin i = true)
    (ht : (s.group g).bind (·.twin) = some (p, false)) (hc : (s.group p).bind Group.core? = some c) :
    (s.acquireFor g core i).core c = (s.core c).acquire := by
  have he : s.acquireFor g core i = (s.acquire core).acquire c := by simp [State.acquireFor, ht, hs, hc]
  rw [he, State.core_acquire_self, State.core_acquire_ne _ (State.twin_core_ne h ht hc)]

/-! ## An access that completes -/

theorem State.completeAcc_rest (s : State) (g w slot f : Nat) (vals : List Tagged) (p : Option Bool) :
    s.completeAcc g w slot f vals p = { s with groups := (s.completeAcc g w slot f vals p).groups } := by
  unfold State.completeAcc
  simp only
  split
  · split <;> rfl
  · rfl

theorem State.standing_completeAcc (s : State) (g w slot f : Nat) (vals : List Tagged) (p : Option Bool) (h : Nat) :
    (s.completeAcc g w slot f vals p).standing h = s.standing h := by
  unfold State.completeAcc
  simp only
  split
  · split
    · rw [State.standing_modWave, State.standing_modWave]
    · rw [State.standing_modWave]
  · rw [State.standing_modWave]

/-- The access of the wave itself completes, whatever its twin's does. -/
theorem State.wave_completeAcc {s : State} {g core w : Nat} {W : Wave} (slot f : Nat) (vals : List Tagged) (p : Option Bool)
    (ht : s.twinElsewhere g core) (hw : s.wave g w = some W) :
    (s.completeAcc g w slot f vals p).wave g w = some (W.complete slot f vals p) := by
  have h1 : (s.modWave g w fun W => W.complete slot f vals p).wave g w = some (W.complete slot f vals p) := by
    rw [State.wave_modWave_self, hw, Option.map_some]
  unfold State.completeAcc
  simp only
  split
  · next t e htw _ =>
    split
    · rw [State.wave_modWave_ne _ _ _ _ (ht _ htw).1.symm, h1]
    · exact h1
  · exact h1

/-- The access of the twin completes with it where the pair makes it once (R53). -/
theorem State.wave_completeAcc_twin {s : State} {g core w p slot x : Nat} {W U : Wave} {e y : Entry} (f : Nat) (vals : List Tagged)
    (b : Option Bool) (ht : s.twinElsewhere g core) (hw : s.wave g w = some W) (he : tabGet W.sb slot = some e)
    (hs : suppressedInTwin e.instr = true) (htw : (s.group g).bind (·.twin) = some (p, false)) (hU : s.wave p w = some U)
    (hx : U.sb.find? (fun z => z.2.age == e.age && z.1 / 16 == slot / 16) = some (x, y)) :
    (s.completeAcc g w slot f vals b).wave p w = some (U.complete x f vals b) := by
  simp only [State.completeAcc, htw, hw, Option.bind_some, he, hs, if_true, State.wave_modWave_self,
    State.wave_modWave_ne _ _ _ _ (ht _ htw).1, hU, Option.map_some, hx]

theorem State.core_completeAcc (s : State) (g w slot f : Nat) (vals : List Tagged) (p : Option Bool) (c : Nat) :
    (s.completeAcc g w slot f vals p).core c = s.core c := by rw [State.completeAcc_rest]; rfl

theorem State.twinElsewhere_of_standing {s t : State} (h : ∀ g, t.standing g = s.standing g) {g core : Nat} (ht : s.twinElsewhere g core) :
    t.twinElsewhere g core := by
  intro x hx
  rw [State.twin_of_standing (h g)] at hx
  refine ⟨(ht x hx).1, fun P hP hc => ?_⟩
  have hcore : (t.group x.1).bind Group.core? = some core := by rw [hP, Option.bind_some, hc]
  rw [State.core_of_standing (h x.1)] at hcore
  obtain ⟨Q, hQ, hQc⟩ := Option.bind_eq_some_iff.mp hcore
  exact (ht x hx).2 Q hQ hQc

/-! ## A response to a load entry (R182) -/

/-- The values that the bytes of a response give the destinations of an access. -/
def answerValues (i : Instr) (bs : List Byte) : List Tagged :=
  match memForm i with
  | some f => loadValues f.act bs
  | none => (lineWords bs).map fun w => ⟨w, .b32⟩

theorem answerValues_of_memForm {i : Instr} {f : MemForm} (h : memForm i = some f) (bs : List Byte) :
    answerValues i bs = loadValues f.act bs := by rw [answerValues, h]

/-- An access of a group completes, and the acquire that it may be is made. -/
def State.completed (s : State) (m : Msg) (i : Instr) (acq : Bool) (vals : List Tagged) (p : Option Bool) : State :=
  if acq then (s.completeAcc m.grp m.wave m.slot m.fib vals p).acquireFor m.grp m.core i
  else s.completeAcc m.grp m.wave m.slot m.fib vals p

section
variable {s : State} {k v : Nat} {m : Msg} {W : Wave} {e : Entry} {a : Acc}

theorem exec_loadComplete (hm : s.msgAt k = some m) (hl : m.slot < 16) (hb : ∀ w, m.body ≠ .revoke w) :
    exec (.loadComplete k v) s = .next ((s.tookMsg k).loadData m v) := by
  have hload : m.isLoad = true := by
    rw [Msg.isLoad, decide_eq_true hl, Bool.true_and]
    split
    · next w hw => exact absurd hw (hb w)
    · rfl
  show execLoadComplete k v s = _
  rw [execLoadComplete, hm]
  exact if_pos hload

theorem exec_storeComplete (hm : s.msgAt k = some m) (hl : 16 ≤ m.slot) (hb : ∀ w, m.body ≠ .revoke w) :
    exec (.storeComplete k) s = .next ((s.tookMsg k).storeAnswer m) := by
  have hstore : m.isStore = true := by
    rw [Msg.isStore, decide_eq_true hl, Bool.true_and]
    split
    · next w hw => exact absurd hw (hb w)
    · rfl
  show execStoreComplete k s = _
  rw [execStoreComplete, hm]
  exact if_pos hstore

section
variable (hw : s.wave m.grp m.wave = some W) (he : tabGet W.sb m.slot = some e) (ha : W.acc m.slot m.fib = some a)
include hw he ha

theorem State.loadData_data {bs : List Byte} {line : Option (List Word)} {inv : Bool} (hb : m.body = .data bs line inv) :
    s.loadData m v = (match line with
      | some ws => s.modCore m.core fun C =>
          Core.fill (if v ≠ m.asid * 2 ^ 50 + m.line then { C with l1 := tabErase C.l1 v } else C) (m.asid * 2 ^ 50 + m.line) ws inv a.skip
      | none => s).completed m e.instr (acquiring e.instr) (answerValues e.instr bs) (some true) := by
  simp only [State.loadData, hw, he, ha, hb]
  cases line <;> rfl

theorem State.loadData_value {ws : List Word} (hb : m.body = .value ws) :
    s.loadData m v = s.completed m e.instr (acquiring e.instr) (answerValues e.instr (lineBytes ws)) none := by
  simp only [State.loadData, hw, he, ha, hb]
  rfl

theorem State.loadData_resident (hb : m.body = .resident) : s.loadData m v = s.completeAcc m.grp m.wave m.slot m.fib [] none := by
  simp only [State.loadData, hw, he, ha, hb]

theorem State.loadData_absent {f : MemForm} (hf : memForm e.instr = some f) (hb : m.body = .absent) :
    s.loadData m v = s.completeAcc m.grp m.wave m.slot m.fib (loadValues f.act (List.replicate f.size 0)) (some false) := by
  simp only [State.loadData, hw, he, ha, hb, hf]

theorem State.loadData_status {code : Nat} (hb : m.body = .status code) :
    s.loadData m v = s.completeAcc m.grp m.wave m.slot m.fib [⟨BitVec.ofNat 32 code, .n32⟩] none := by
  simp only [State.loadData, hw, he, ha, hb]

theorem State.loadData_popped {o : Option Word} (hb : m.body = .popped o) :
    s.loadData m v = s.completed m e.instr o.isSome [⟨o.getD 0, .b32⟩] (some o.isSome) := by
  simp only [State.loadData, hw, he, ha, hb]
  rfl

theorem State.storeAnswer_ack {f : MemForm} {owned : Bool} (hf : memForm e.instr = some f) (hacq : acquiring e.instr = false)
    (hb : m.body = .ack owned) : s.storeAnswer m =
      (if owned then s.modCore m.core fun C => C.own (m.asid * 2 ^ 50 + m.line) a.va.toNat f.size else s).completeAcc
        m.grp m.wave m.slot m.fib [] none := by
  cases owned <;> simp [State.storeAnswer, hw, he, ha, hb, hf, hacq]

theorem State.storeAnswer_ackWord {u : Word} (hb : m.body = .ackWord u) : s.storeAnswer m =
    (s.completeAcc m.grp m.wave m.slot m.fib [] none).modCore m.core fun C => C.ownWord (m.asid * 2 ^ 50 + m.line) a.va.toNat u
      ((s.completeAcc m.grp m.wave m.slot m.fib [] none).writesOnWay m.core m.asid m.line) := by
  simp only [State.storeAnswer, hw, he, ha, hb]

end

/-! ## What a completed access leaves -/

theorem State.completed_rest (acq : Bool) (i : Instr) (vals : List Tagged) (p : Option Bool) : s.completed m i acq vals p =
    { s with groups := (s.completed m i acq vals p).groups, cores := (s.completed m i acq vals p).cores } := by
  unfold State.completed
  split
  · rw [State.acquireFor_rest, State.completeAcc_rest]
  · rw [State.completeAcc_rest]

theorem State.wave_completed {acq : Bool} {i : Instr} {vals : List Tagged} {p : Option Bool} (ht : s.twinElsewhere m.grp m.core)
    (hw : s.wave m.grp m.wave = some W) : ∃ V, (s.completed m i acq vals p).wave m.grp m.wave = some V ∧
      V.fibres = (W.complete m.slot m.fib vals p).fibres ∧ V.ks = (W.complete m.slot m.fib vals p).ks := by
  have h := State.wave_completeAcc m.slot m.fib vals p ht hw
  unfold State.completed
  split
  · exact State.wave_acquireFor _ _ _ h
  · exact ⟨_, h, rfl, rfl⟩

theorem State.core_completed {i : Instr} {vals : List Tagged} {p : Option Bool} (ht : s.twinElsewhere m.grp m.core) :
    (s.completed m i true vals p).core m.core = (s.core m.core).acquire := by
  rw [State.completed, if_pos rfl, State.core_acquireFor _ (State.twinElsewhere_of_standing (s.standing_completeAcc _ _ _ _ _ _) ht),
    State.core_completeAcc]

end

/-- A word that an owned ACK brings stands where no access on its way writes it. -/
theorem ackedWord_nil (old new : Word) (word : Nat) : ackedWord old new word [] = new := by
  have h : leNat ((List.range 4).map fun b => (natBytes 4 new.toNat).getD b 0) = new.toNat := by
    have := new.isLt
    simp only [natBytes, List.range_succ, List.range_zero, List.nil_append, List.map_cons, List.map_nil,
      List.cons_append, List.getD_cons_zero, List.getD_cons_succ, leNat, BitVec.toNat_ofNat]
    omega
  unfold ackedWord
  simp only [List.any_nil, Bool.false_eq_true, if_false]
  rw [h, BitVec.ofNat_toNat, BitVec.setWidth_eq]

/-- A line after the owned ACK of a narrow store. -/
theorem Core.ownWord_line {C : Core} {key va : Nat} {new : Word} {l : L1Line} (h : tabGet C.l1 key = some l) (onWay : List (Nat × Nat)) :
    ∃ n, tabGet (C.ownWord key va new onWay).l1 key = some n ∧ n.valid = l.valid ∧ n.inv = l.inv ∧
      (l.valid.testBit (va % 64 / 4) = false → n = l) ∧
      (l.valid.testBit (va % 64 / 4) = true → n.owned = l.owned ||| 2 ^ (va % 64 / 4) ∧
        (∀ j, j ≠ va % 64 / 4 → n.words[j]? = l.words[j]?) ∧
        (onWay = [] → va % 64 / 4 < l.words.length → n.words[va % 64 / 4]? = some new)) := by
  refine ⟨_, by rw [Core.ownWord, tabGet_tabMod_self, h, Option.map_some], ?_⟩
  cases hv : l.valid.testBit (va % 64 / 4) with
  | false => simp
  | true =>
    simp only [if_true, Bool.true_eq_false, false_imp_iff, true_imp_iff, true_and]
    refine ⟨fun j hj => ?_, fun ho hlt => ?_⟩
    · rw [List.getElem?_mapIdx]
      simp [hj]
    · rw [List.getElem?_mapIdx, List.getElem?_eq_getElem hlt, ho]
      simp [ackedWord_nil]

/-! ## The clauses of the statement -/

theorem State.cores_completed_plain (s : State) (m : Msg) (i : Instr) (vals : List Tagged) (p : Option Bool) :
    (s.completed m i false vals p).cores = s.cores := by
  rw [State.completed, if_neg Bool.false_ne_true, State.completeAcc_rest]

theorem State.wave_completed_plain {s : State} {m : Msg} {W : Wave} (i : Instr) (vals : List Tagged) (p : Option Bool)
    (ht : s.twinElsewhere m.grp m.core) (hw : s.wave m.grp m.wave = some W) :
    (s.completed m i false vals p).wave m.grp m.wave = some (W.complete m.slot m.fib vals p) :=
  State.wave_completeAcc m.slot m.fib vals p ht hw

section
variable {s : State} {k v : Nat} {m : Msg} {W : Wave} {e : Entry} {a : Acc} (hm : s.msgAt k = some m)
  (hw : s.wave m.grp m.wave = some W) (he : tabGet W.sb m.slot = some e) (ha : W.acc m.slot m.fib = some a)
  (ht : s.twinElsewhere m.grp m.core)
include hm hw he ha ht

/-- The data of a plain load (R182, R265). -/
theorem loadComplete_data {f : MemForm} (hf : memForm e.instr = some f) (hs : m.slot < 16) (hacq : acquiring e.instr = false)
    {bs : List Byte} {line : Option (List Word)} {inv : Bool} (hb : m.body = .data bs line inv) :
    ∃ t, exec (.loadComplete k v) s = .next t ∧ t.msgs = s.msgs.eraseIdx k ∧ t.mem = s.mem ∧
      t.wave m.grp m.wave = some (W.complete m.slot m.fib (loadValues f.act bs) (some true)) ∧
      (line = none → t.cores = s.cores) ∧
      (∀ ws, line = some ws → v = m.asid * 2 ^ 50 + m.line → t.core m.core = (s.core m.core).fill v ws inv a.skip) := by
  refine ⟨_, exec_loadComplete hm hs (by simp [hb]), ?_⟩
  rw [State.loadData_data (s := s.tookMsg k) hw he ha hb, hacq, answerValues_of_memForm hf]
  cases line with
  | none =>
    refine ⟨by rw [State.completed_rest]; rfl, by rw [State.completed_rest]; rfl,
      State.wave_completed_plain (s := s.tookMsg k) _ _ _ ht hw,
      fun _ => (s.tookMsg k).cores_completed_plain _ _ _ _, fun ws h => by cases h⟩
  | some ws =>
    refine ⟨by rw [State.completed_rest]; rfl, by rw [State.completed_rest]; rfl,
      State.wave_completed_plain (s := (s.tookMsg k).modCore m.core _) _ _ _ ht hw, fun h => (by cases h), fun us hu hv => ?_⟩
    cases hu
    rw [State.completed, if_neg Bool.false_ne_true, State.core_completeAcc, State.core_modCore_self, if_neg (not_not.mpr hv), hv]
    rfl

/-- The value of a plain access (R182, R188). -/
theorem loadComplete_value {f : MemForm} (hf : memForm e.instr = some f) (hs : m.slot < 16) (hacq : acquiring e.instr = false)
    {ws : List Word} (hb : m.body = .value ws) :
    ∃ t, exec (.loadComplete k v) s = .next t ∧ t.msgs = s.msgs.eraseIdx k ∧ t.mem = s.mem ∧ t.cores = s.cores ∧
      t.wave m.grp m.wave = some (W.complete m.slot m.fib (loadValues f.act (lineBytes ws)) none) := by
  refine ⟨_, exec_loadComplete hm hs (by simp [hb]), ?_⟩
  rw [State.loadData_value (s := s.tookMsg k) hw he ha hb, hacq, answerValues_of_memForm hf]
  exact ⟨by rw [State.completed_rest]; rfl, by rw [State.completed_rest]; rfl,
    (s.tookMsg k).cores_completed_plain _ _ _ _, State.wave_completed_plain (s := s.tookMsg k) _ _ _ ht hw⟩

omit he ha in
/-- An answer that completes its access and does nothing else. -/
theorem loadComplete_of_completeAcc {vals : List Tagged} {p : Option Bool} (hs : m.slot < 16) (hb : ∀ w, m.body ≠ .revoke w)
    (hd : (s.tookMsg k).loadData m v = (s.tookMsg k).completeAcc m.grp m.wave m.slot m.fib vals p) :
    ∃ t, exec (.loadComplete k v) s = .next t ∧ t.msgs = s.msgs.eraseIdx k ∧ t.mem = s.mem ∧ t.cores = s.cores ∧
      t.wave m.grp m.wave = some (W.complete m.slot m.fib vals p) := by
  refine ⟨_, exec_loadComplete hm hs hb, ?_⟩
  rw [hd]
  exact ⟨by rw [State.completeAcc_rest]; rfl, by rw [State.completeAcc_rest]; rfl, by rw [State.completeAcc_rest]; rfl,
    State.wave_completeAcc (s := s.tookMsg k) m.slot m.fib vals p ht hw⟩

omit he ha in
/-- An answer that completes its access, which is an acquire (R266, R282). -/
theorem loadComplete_of_acquire {vals : List Tagged} {p : Option Bool} (hs : m.slot < 16) (hb : ∀ w, m.body ≠ .revoke w)
    (hd : (s.tookMsg k).loadData m v = (s.tookMsg k).completed m e.instr true vals p) :
    ∃ t V, exec (.loadComplete k v) s = .next t ∧ t.msgs = s.msgs.eraseIdx k ∧ t.mem = s.mem ∧ t.wave m.grp m.wave = some V ∧
      V.fibres = (W.complete m.slot m.fib vals p).fibres ∧ V.ks = (W.complete m.slot m.fib vals p).ks ∧
      t.core m.core = (s.core m.core).acquire := by
  obtain ⟨V, hV, hVf, hVk⟩ := State.wave_completed (s := s.tookMsg k) (acq := true) (i := e.instr) (vals := vals) (p := p) ht hw
  refine ⟨_, V, exec_loadComplete hm hs hb, ?_⟩
  rw [hd]
  exact ⟨by rw [State.completed_rest]; rfl, by rw [State.completed_rest]; rfl, hV, hVf, hVk,
    State.core_completed (s := s.tookMsg k) ht⟩

theorem storeComplete_ack {f : MemForm} {owned : Bool} (hf : memForm e.instr = some f) (hs : 16 ≤ m.slot)
    (hacq : acquiring e.instr = false) (hb : m.body = .ack owned) :
    ∃ t, exec (.storeComplete k) s = .next t ∧ t.msgs = s.msgs.eraseIdx k ∧ t.mem = s.mem ∧
      t.wave m.grp m.wave = some (W.complete m.slot m.fib [] none) ∧ (owned = false → t.cores = s.cores) ∧
      (owned = true → t.core m.core = (s.core m.core).own (m.asid * 2 ^ 50 + m.line) a.va.toNat f.size) := by
  refine ⟨_, exec_storeComplete hm hs (by simp [hb]), ?_⟩
  rw [State.storeAnswer_ack (s := s.tookMsg k) hw he ha hf hacq hb]
  cases owned with
  | false =>
    rw [if_neg Bool.false_ne_true]
    exact ⟨by rw [State.completeAcc_rest]; rfl, by rw [State.completeAcc_rest]; rfl,
      State.wave_completeAcc (s := s.tookMsg k) m.slot m.fib _ _ ht hw, fun _ => by rw [State.completeAcc_rest]; rfl, fun h => by cases h⟩
  | true =>
    rw [if_pos rfl]
    refine ⟨by rw [State.completeAcc_rest]; rfl, by rw [State.completeAcc_rest]; rfl,
      State.wave_completeAcc (s := (s.tookMsg k).modCore m.core _) m.slot m.fib _ _ ht hw, fun h => (by cases h), fun _ => ?_⟩
    rw [State.core_completeAcc, State.core_modCore_self]
    rfl

theorem storeComplete_ackWord {u : Word} (hs : 16 ≤ m.slot) (hb : m.body = .ackWord u) :
    ∃ t, exec (.storeComplete k) s = .next t ∧ t.msgs = s.msgs.eraseIdx k ∧ t.mem = s.mem ∧
      t.wave m.grp m.wave = some (W.complete m.slot m.fib [] none) ∧
      t.core m.core = (s.core m.core).ownWord (m.asid * 2 ^ 50 + m.line) a.va.toNat u (t.writesOnWay m.core m.asid m.line) := by
  refine ⟨_, exec_storeComplete hm hs (by simp [hb]), ?_⟩
  rw [State.storeAnswer_ackWord (s := s.tookMsg k) hw he ha hb]
  refine ⟨by rw [State.modCore_msgs, State.completeAcc_rest]; rfl, by rw [State.modCore_mem, State.completeAcc_rest]; rfl,
    State.wave_completeAcc (s := s.tookMsg k) m.slot m.fib _ _ ht hw, ?_⟩
  rw [State.core_modCore_self, State.core_completeAcc]
  rfl

/-- The twin's access completes with it, and its core's L1 is invalidated (R53). -/
theorem loadComplete_twin {p pc x : Nat} {P : Group} {U : Wave} {y : Entry} {ws : List Word} (hs : m.slot < 16)
    (hb : m.body = .value ws) (hacq : acquiring e.instr = true) (hsup : suppressedInTwin e.instr = true)
    (htw : (s.group m.grp).bind (·.twin) = some (p, false)) (hP : s.group p = some P) (hPc : P.core? = some pc)
    (hU : s.wave p m.wave = some U) (hx : U.sb.find? (fun z => z.2.age == e.age && z.1 / 16 == m.slot / 16) = some (x, y)) :
    ∃ t V, exec (.loadComplete k v) s = .next t ∧ t.wave p m.wave = some V ∧
      V.fibres = (U.complete x m.fib (answerValues e.instr (lineBytes ws)) none).fibres ∧
      V.ks = (U.complete x m.fib (answerValues e.instr (lineBytes ws)) none).ks ∧ t.core pc = (s.core pc).acquire := by
  have hstand := (s.tookMsg k).standing_completeAcc m.grp m.wave m.slot m.fib (answerValues e.instr (lineBytes ws)) none
  obtain ⟨V, hV, hVf, hVk⟩ := State.wave_acquireFor m.grp m.core e.instr
    (State.wave_completeAcc_twin (s := s.tookMsg k) m.fib (answerValues e.instr (lineBytes ws)) none ht hw he hsup htw hU hx)
  refine ⟨_, V, exec_loadComplete hm hs (by simp [hb]), ?_⟩
  rw [State.loadData_value (s := s.tookMsg k) hw he ha hb, hacq, State.completed, if_pos rfl]
  refine ⟨hV, hVf, hVk, ?_⟩
  rw [State.core_acquireFor_twin (State.twinElsewhere_of_standing hstand ht) hsup
    ((State.twin_of_standing (hstand _)).trans htw) ((State.core_of_standing (hstand _)).trans (by
      show (s.group p).bind Group.core? = some pc
      rw [hP, Option.bind_some, hPc])), State.core_completeAcc]
  rfl

end

theorem exec_l1Revoke {s : State} {k w : Nat} {m : Msg} (hm : s.msgAt k = some m) (hb : m.body = .revoke w) :
    exec (.l1Revoke k) s = .next { (((s.tookMsg k).modCore m.core fun C => C.l1Drop (m.asid * 2 ^ 50 + m.line) w).skipFill
      m.core m.asid m.line w) with revAcks := s.revAcks ++ [{ core := m.core, asid := m.asid, line := m.line, word := w }] } := by
  show execL1Revoke k s = _
  rw [execL1Revoke, hm]
  simp only [hb]
  rfl

/-- Settles O39: each answer completes its access and touches only the L1 beside; an acquire touches no register. -/
theorem messagesCompleteTheirAccesses : Obligations.MessagesCompleteTheirAccesses := by
  intro s k v m hm
  refine ⟨fun W e a hw he ha ht => ⟨fun f hf hs hacq => ⟨fun bs line inv hb => ?_, fun ws hb => ?_, fun hb => ?_⟩,
    fun f bs inv p hf hs hacq hb => ?_, fun f hf hs hb => ?_, fun f owned hf hs hacq hb => ?_, fun u i hs hb hi => ?_,
    fun hs => ⟨fun code hb => ?_, fun hb => ?_, fun w hb => ?_⟩,
    fun p P U pc x y ws hs hb hacq hsup htw hP hPc hU hx => ?_⟩, fun w hb => ?_⟩
  · exact loadComplete_data hm hw he ha ht hf hs hacq hb
  · exact loadComplete_value hm hw he ha ht hf hs hacq hb
  · exact loadComplete_of_completeAcc hm hw ht hs (by simp [hb]) (State.loadData_resident (s := s.tookMsg k) hw he ha hb)
  · refine loadComplete_of_acquire (e := e) hm hw ht hs (by rcases hb with ⟨hb, -⟩ | ⟨ws, hb, -⟩ <;> simp [hb]) ?_
    rw [← hacq, ← answerValues_of_memForm hf]
    rcases hb with ⟨hb, rfl⟩ | ⟨ws, hb, rfl, rfl⟩
    · exact State.loadData_data (s := s.tookMsg k) hw he ha hb
    · exact State.loadData_value (s := s.tookMsg k) hw he ha hb
  · obtain ⟨t, hx, hmsgs, hmem, -, hwave⟩ := loadComplete_of_completeAcc (v := v) hm hw ht hs (by simp [hb])
      (State.loadData_absent (s := s.tookMsg k) hw he ha hf hb)
    exact ⟨t, hx, hmsgs, hmem, hwave⟩
  · exact storeComplete_ack hm hw he ha ht hf hs hacq hb
  · obtain ⟨t, hx, hmsgs, hmem, hwave, hcore⟩ := storeComplete_ackWord hm hw he ha ht hs hb
    subst hi
    exact ⟨t, hx, hmsgs, hmem, hwave, fun l hl => hcore ▸ Core.ownWord_line hl _⟩
  · exact loadComplete_of_completeAcc hm hw ht hs (by simp [hb]) (State.loadData_status (s := s.tookMsg k) hw he ha hb)
  · exact loadComplete_of_completeAcc hm hw ht hs (by simp [hb]) (State.loadData_popped (s := s.tookMsg k) hw he ha hb)
  · exact loadComplete_of_acquire hm hw ht hs (by simp [hb]) (State.loadData_popped (s := s.tookMsg k) hw he ha hb)
  · obtain ⟨t, V, hx', hwave, hf, hk, hcore⟩ := loadComplete_twin (v := v) hm hw he ha ht hs hb hacq hsup htw hP hPc hU hx
    exact ⟨t, V, _, hx', hwave, rfl, hf, hk, hcore⟩
  · refine ⟨_, exec_l1Revoke hm hb, rfl, rfl, ?_, rfl⟩
    exact (s.tookMsg k).core_modCore_self m.core fun C => C.l1Drop (m.asid * 2 ^ 50 + m.line) w

end Sys2Proof.Machine

/-! Proofs about what a core does by itself: regrouping (R37), register grants and deadlock (R34, R35), ISYNC (R145), pre-emption
(R338). -/
namespace Sys2Proof.Machine
open Sys2Proof.Safety

/-! ## Regrouping (R37) -/

/-- A fibre after a regroup boundary: a YIELD of an earlier core cycle is over (R146). -/
def Fibre.afterYield (now : Nat) (F : Fibre) : Fibre := if F.yieldOver now then { F with wait := .none } else F

/-- A wave whose YIELDs of earlier core cycles are over. -/
def Wave.yieldsOver (W : Wave) (now : Nat) : Wave := { W with fibres := tabMap W.fibres fun _ => Fibre.afterYield now }

theorem Wave.fib_yieldsOver (W : Wave) (now f : Nat) : (W.yieldsOver now).fib f = (W.fib f).afterYield now := by
  have h : tabGet (W.yieldsOver now).fibres f = (tabGet W.fibres f).map (Fibre.afterYield now) :=
    tabGet_tabMap W.fibres f fun _ => Fibre.afterYield now
  rw [Wave.fib, tabVal, h, Wave.fib, tabVal]
  cases tabGet W.fibres f with
  | none => rfl
  | some F => rfl

/-- A fibre that waits for nothing is not held by a YIELD. -/
theorem Fibre.yieldOver_of_bundled {F : Fibre} (h : F.bundled = true) (now : Nat) : F.yieldOver now = false := by
  simp only [Fibre.bundled, Bool.and_eq_true, beq_iff_eq] at h
  rw [Fibre.yieldOver, h.2]

/-- The old bundles that still have ready fibres, and the bundles that other ready fibres form. -/
def Wave.oldBundles (W : Wave) : List (List Nat) :=
  (W.bundles.map fun b => b.filter fun f => (W.fib f).bundled).filter fun b => !b.isEmpty

def Wave.allBundles (W : Wave) : List (List Nat) :=
  W.oldBundles ++ W.splitBy 32 ((List.range 32).filter fun f => (W.fib f).bundled && !W.oldBundles.flatten.contains f)

/-- Whether every fibre of a bundle takes part in a regroup. -/
def Wave.takesPartAll (W : Wave) (rdy : Nat → Bool) (b : List Nat) : Bool := b.all fun f => !W.letGo.contains f && rdy f

/-- The fibres that regroup. -/
def Wave.regrouping (W : Wave) (rdy : Nat → Bool) : List Nat := (W.allBundles.filter (W.takesPartAll rdy)).flatten

theorem Wave.regroup_eq (W : Wave) (now : Nat) (rdy : Nat → Bool) :
    W.regroup now rdy = { W.yieldsOver now with
      bundles := (W.yieldsOver now).splitBy 32 ((List.range 32).filter ((W.yieldsOver now).regrouping rdy).contains) ++
        (W.yieldsOver now).allBundles.filter fun b => !(W.yieldsOver now).takesPartAll rdy b } := rfl

/-- Splitting puts each fibre into a part with all those that share its program counter, window base and context. -/
theorem Wave.exists_part (W : Wave) {n : Nat} {fs : List Nat} (hlen : fs.length ≤ n) {f : Nat} (hf : f ∈ fs) :
    ∃ b ∈ W.splitBy n fs, f ∈ b ∧ ∀ h ∈ fs, (W.fib h).bundleKey = (W.fib f).bundleKey → h ∈ b := by
  induction n generalizing fs with
  | zero =>
    rw [List.length_eq_zero_iff.mp (Nat.le_zero.mp hlen)] at hf
    cases hf
  | succ n ih =>
    cases fs with
    | nil => cases hf
    | cons x fs =>
      by_cases hk : (W.fib f).bundleKey = (W.fib x).bundleKey
      · refine ⟨_, List.mem_cons_self, ?_, fun h hh hkey => ?_⟩
        · rcases List.mem_cons.mp hf with rfl | hf
          · exact List.mem_cons_self
          · exact List.mem_cons_of_mem _ (List.mem_filter.mpr ⟨hf, by simp [hk]⟩)
        · rcases List.mem_cons.mp hh with rfl | hh
          · exact List.mem_cons_self
          · exact List.mem_cons_of_mem _ (List.mem_filter.mpr ⟨hh, by simp [hkey, hk]⟩)
      · have hrest : ∀ h ∈ x :: fs, (W.fib h).bundleKey = (W.fib f).bundleKey →
            h ∈ fs.filter fun h => (W.fib h).bundleKey != (W.fib x).bundleKey := by
          intro h hh hkey
          rcases List.mem_cons.mp hh with rfl | hh
          · exact absurd hkey.symm hk
          · exact List.mem_filter.mpr ⟨hh, by simp [hkey, hk]⟩
        obtain ⟨b, hb, hfb, hall⟩ := ih ((List.length_filter_le _ _).trans (Nat.le_of_succ_le_succ hlen)) (hrest f hf rfl)
        exact ⟨b, List.mem_cons_of_mem _ hb, hfb, fun h hh hkey => hall h (hrest h hh hkey) hkey⟩

theorem length_fibres_le (p : Nat → Bool) : ((List.range 32).filter p).length ≤ 32 := by
  simpa using List.length_filter_le p (List.range 32)

/-- Two fibres are in one part where they share the program counter, the window base and the context. -/
theorem Wave.together_iff (W : Wave) {p : Nat → Bool} {f h : Nat} (hf : f ∈ (List.range 32).filter p) (hh : h ∈ (List.range 32).filter p) :
    (∃ b ∈ W.splitBy 32 ((List.range 32).filter p), f ∈ b ∧ h ∈ b) ↔ (W.fib h).bundleKey = (W.fib f).bundleKey := by
  constructor
  · rintro ⟨b, hb, hfb, hhb⟩
    obtain ⟨-, -, hall⟩ := Wave.bundleOf_of_mem_splitBy (pairwise_lt_fibres p) hb
    exact (hall h hhb).2.trans (hall f hfb).2.symm
  · intro hkey
    obtain ⟨b, hb, hfb, hall⟩ := W.exists_part (length_fibres_le p) hf
    exact ⟨b, hb, hfb, hall h hh hkey⟩

/-- The fibres of one bundle are ready or once ready, and share what bundles share or an old bundle. -/
theorem Wave.of_mem_allBundles {W : Wave} {b : List Nat} {f x : Nat} (hb : b ∈ W.allBundles) (hf : f ∈ b) (hx : x ∈ b) :
    (W.fib x).bundled = true ∧ ((W.fib x).bundleKey = (W.fib f).bundleKey ∨ ∃ b ∈ W.bundles, f ∈ b ∧ x ∈ b) := by
  rcases List.mem_append.mp hb with hb | hb
  · obtain ⟨c, hc, rfl⟩ := List.mem_map.mp (List.mem_of_mem_filter hb)
    exact ⟨(List.mem_filter.mp hx).2, .inr ⟨c, hc, List.mem_of_mem_filter hf, List.mem_of_mem_filter hx⟩⟩
  · obtain ⟨-, -, hall⟩ := Wave.bundleOf_of_mem_splitBy (pairwise_lt_fibres _) hb
    have hxm := (List.mem_filter.mp (hall x hx).1).2
    rw [Bool.and_eq_true] at hxm
    exact ⟨hxm.1, .inl ((hall x hx).2.trans (hall f hf).2.symm)⟩

/-- Every fibre that waits for nothing is in a bundle. -/
theorem Wave.exists_mem_allBundles {W : Wave} {f : Nat} (hlt : f < 32) (hf : (W.fib f).bundled = true) : ∃ b ∈ W.allBundles, f ∈ b := by
  by_cases hk : f ∈ W.oldBundles.flatten
  · obtain ⟨b, hb, hfb⟩ := List.mem_flatten.mp hk
    exact ⟨b, List.mem_append_left _ hb, hfb⟩
  · have hm : f ∈ (List.range 32).filter fun f => (W.fib f).bundled && !W.oldBundles.flatten.contains f :=
      List.mem_filter.mpr ⟨List.mem_range.mpr hlt, by simp [hf, hk]⟩
    obtain ⟨b, hb, hfb, -⟩ := W.exists_part (length_fibres_le _) hm
    exact ⟨b, List.mem_append_right _ hb, hfb⟩

/-- Where all fibres that could be in a fibre's bundle take part, its bundle does. -/
theorem Wave.takesPartAll_of_mem {W : Wave} {rdy : Nat → Bool} {f : Nat}
    (h : ∀ x, (W.fib x).bundled = true → ((W.fib x).bundleKey = (W.fib f).bundleKey ∨ ∃ b ∈ W.bundles, f ∈ b ∧ x ∈ b) →
      x ∉ W.letGo ∧ rdy x = true) {b : List Nat} (hb : b ∈ W.allBundles) (hf : f ∈ b) : W.takesPartAll rdy b = true := by
  refine List.all_eq_true.mpr fun x hx => ?_
  obtain ⟨hbd, hkey⟩ := Wave.of_mem_allBundles hb hf hx
  obtain ⟨hgo, hr⟩ := h x hbd hkey
  simp [hgo, hr]

/-- Two fibres whose bundles take part in a regroup come together exactly where they share what bundles share. -/
theorem Wave.together_regroup (W : Wave) (now : Nat) {rdy : Nat → Bool} {f h : Nat} (hf : f < 32) (hh : h < 32)
    (hfb : ((W.yieldsOver now).fib f).bundled = true) (hhb : ((W.yieldsOver now).fib h).bundled = true)
    (hall : ∀ e ∈ [f, h], ∀ x, ((W.yieldsOver now).fib x).bundled = true →
      (((W.yieldsOver now).fib x).bundleKey = ((W.yieldsOver now).fib e).bundleKey ∨ ∃ b ∈ W.bundles, e ∈ b ∧ x ∈ b) →
      x ∉ W.letGo ∧ rdy x = true) :
    (∃ b ∈ (W.regroup now rdy).bundles, f ∈ b ∧ h ∈ b) ↔
      ((W.yieldsOver now).fib h).bundleKey = ((W.yieldsOver now).fib f).bundleKey := by
  have hgo : ∀ e ∈ [f, h], e < 32 → ((W.yieldsOver now).fib e).bundled = true →
      e ∈ (List.range 32).filter ((W.yieldsOver now).regrouping rdy).contains := by
    intro e he hlt hbd
    obtain ⟨b, hb, heb⟩ := Wave.exists_mem_allBundles hlt hbd
    have hin : e ∈ (W.yieldsOver now).regrouping rdy :=
      List.mem_flatten.mpr ⟨b, List.mem_filter.mpr ⟨hb, Wave.takesPartAll_of_mem (W := W.yieldsOver now) (hall e he) hb heb⟩, heb⟩
    exact List.mem_filter.mpr ⟨List.mem_range.mpr hlt, by simpa using hin⟩
  have hfm := hgo f List.mem_cons_self hf hfb
  have hhm := hgo h (List.mem_cons_of_mem _ List.mem_cons_self) hh hhb
  rw [← (W.yieldsOver now).together_iff hfm hhm, Wave.regroup_eq]
  constructor
  · rintro ⟨b, hb, hfm, hhm⟩
    rcases List.mem_append.mp hb with hb | hb
    · exact ⟨b, hb, hfm, hhm⟩
    · obtain ⟨hb, hno⟩ := List.mem_filter.mp hb
      rw [Wave.takesPartAll_of_mem (W := W.yieldsOver now) (hall f List.mem_cons_self) hb hfm] at hno
      cases hno
  · rintro ⟨b, hb, hfm, hhm⟩
    exact ⟨b, List.mem_append_left _ hb, hfm, hhm⟩

/-- A bundle with a fibre that is not ready stays whole. -/
theorem Wave.stays_regroup {W : Wave} {now : Nat} {rdy : Nat → Bool} {b : List Nat} (hb : b ∈ W.bundles)
    (hall : ∀ f ∈ b, (W.fib f).bundled = true) (hno : ∃ f ∈ b, f ∈ W.letGo ∨ rdy f = false) : b ∈ (W.regroup now rdy).bundles := by
  obtain ⟨f, hf, hfno⟩ := hno
  have hsame : b.filter (fun f => ((W.yieldsOver now).fib f).bundled) = b := by
    refine List.filter_eq_self.mpr fun f hf => ?_
    rw [Wave.fib_yieldsOver, Fibre.afterYield, Fibre.yieldOver_of_bundled (hall f hf), if_neg Bool.false_ne_true, hall f hf]
  have hold : b ∈ (W.yieldsOver now).oldBundles :=
    List.mem_filter.mpr ⟨List.mem_map.mpr ⟨b, hb, hsame⟩, by simpa using List.ne_nil_of_mem hf⟩
  rw [Wave.regroup_eq]
  refine List.mem_append_right _ (List.mem_filter.mpr ⟨List.mem_append_left _ hold, ?_⟩)
  have : (W.yieldsOver now).takesPartAll rdy b = false :=
    List.all_eq_false.mpr ⟨f, hf, by rcases hfno with h | h <;> simp [h, Wave.yieldsOver]⟩
  rw [this]
  rfl

theorem State.mem_foldl_modGroup {β : Type} (l : List β) (k : β → Nat) (f : β → Group → Group) (s : State) :
    (l.foldl (fun t x => t.modGroup (k x) (f x)) s).mem = s.mem :=
  foldl_keeps State.mem (f := fun t x => t.modGroup (k x) (f x)) (fun _ _ _ => rfl) s

/-- A group after a regroup boundary of its core. -/
def State.regrouped (s : State) (core g : Nat) (G : Group) : Group :=
  { G with waves := tabMap G.waves fun w W =>
      if W.run = .running then W.regroup (s.core core).cycles (s.fibReady core g w G W) else W }

theorem exec_regroupBoundary {s : State} {core : Nat} (h : (s.core core).cycles % 4 = 0) :
    exec (.regroupBoundary core) s =
      .next ((s.residents core).foldl (fun t e => t.modGroup e.1 (s.regrouped core e.1)) s) := by
  show execRegroupBoundary core s = _
  rw [execRegroupBoundary, if_neg (not_not.mpr h)]
  rfl

theorem State.group_regroup {s : State} {core g : Nat} {G : Group} (hr : (g, G) ∈ s.residents core)
    (hn : ((s.residents core).map (·.1)).Nodup) (hg : s.group g = some G) :
    ((s.residents core).foldl (fun t e => t.modGroup e.1 (s.regrouped core e.1)) s).group g = some (s.regrouped core g G) := by
  have h := foldl_of_nodup_keys (fun u : State => u.group g) (step := fun t e => t.modGroup e.1 (s.regrouped core e.1)) (a := s)
    (q := fun o => o.map (s.regrouped core g)) hn hr
    (fun u x _ hx => State.group_modGroup_ne _ _ _ _ hx.symm)
    (fun u hu => by rw [← hu]; exact State.group_modGroup_self _ _ _)
  rw [hg, Option.map_some] at h
  exact h

theorem regroup_merges {s : State} {core g w : Nat} {G : Group} {W : Wave} (hg : s.group g = some G) (hw : tabGet G.waves w = some W)
    (hrun : W.run = .running) (hc : (s.core core).cycles % 4 = 0) (hr : (g, G) ∈ s.residents core)
    (hn : ((s.residents core).map (·.1)).Nodup) :
    ∃ t V, exec (.regroupBoundary core) s = .next t ∧ t.mem = s.mem ∧ t.wave g w = some V ∧
      (∀ f, V.fib f = match (W.fib f).wait with
        | .yield n => if n < (s.core core).cycles then { W.fib f with wait := .none } else W.fib f
        | _ => W.fib f) ∧
      (∀ f h, f < 32 → h < 32 → (V.fib f).bundled = true → (V.fib h).bundled = true →
        (∀ e ∈ [f, h], ∀ x, (V.fib x).bundled = true →
          ((V.fib x).bundleKey = (V.fib e).bundleKey ∨ ∃ b ∈ W.bundles, e ∈ b ∧ x ∈ b) →
          x ∉ W.letGo ∧ s.fibReady core g w G W x = true) →
        ((∃ b ∈ V.bundles, f ∈ b ∧ h ∈ b) ↔ (V.fib h).bundleKey = (V.fib f).bundleKey)) ∧
      ∀ b ∈ W.bundles, (∀ f ∈ b, (W.fib f).bundled = true) →
        (∃ f ∈ b, f ∈ W.letGo ∨ s.fibReady core g w G W f = false) → b ∈ V.bundles := by
  have hwave : ((s.residents core).foldl (fun t e => t.modGroup e.1 (s.regrouped core e.1)) s).wave g w =
      some (W.regroup (s.core core).cycles (s.fibReady core g w G W)) := by
    rw [State.wave, State.group_regroup hr hn hg, Option.bind_some, State.regrouped, tabGet_tabMap, hw, Option.map_some, if_pos hrun]
  have hfib : ∀ f, (W.regroup (s.core core).cycles (s.fibReady core g w G W)).fib f = (W.yieldsOver (s.core core).cycles).fib f :=
    fun f => rfl
  refine ⟨_, _, exec_regroupBoundary hc, State.mem_foldl_modGroup _ _ _ s, hwave, fun f => ?_,
    fun f h hf hh hfb hhb hall => W.together_regroup _ hf hh hfb hhb hall, fun b hb hall hno => Wave.stays_regroup hb hall hno⟩
  rw [hfib, Wave.fib_yieldsOver, Fibre.afterYield, Fibre.yieldOver]
  cases (W.fib f).wait <;> simp

/-! ## Register grants (R34) -/

theorem State.grantable_fits {s : State} {core n : Nat} {r : GrowReq} {fs : List Nat} (h : s.grantable core = some (r, fs, n)) :
    n ≤ s.poolFree core := by
  unfold State.grantable at h
  split at h
  · cases h
  · split at h
    · next hle => cases h; exact hle
    · split at h
      · simpa using List.find?_some h
      · cases h

theorem tabGet_filter_of_lt {α : Type} (t : Tab α) {n a : Nat} (h : n < a) : tabGet (t.filter fun e => decide (e.1 < a)) n = tabGet t n := by
  induction t with
  | nil => rfl
  | cons e t ih =>
    by_cases he : e.1 < a
    · rw [List.filter_cons_of_pos (by simpa using he)]
      simp only [tabGet, ih]
    · rw [List.filter_cons_of_neg (by simpa using he), ih]
      simp only [tabGet]
      rw [if_neg (by omega)]

/-- A fibre that WGROW has been granted to. -/
def Fibre.granted (F : Fibre) (n : Nat) : Fibre :=
  { F with alloc := F.alloc + 16 * n, regs := F.regs.filter fun e => decide (e.1 < F.alloc), wait := .none }

/-- A wave whose request has been granted. -/
def Wave.grant (W : Wave) (n : Nat) (fs : List Nat) : Wave :=
  fs.foldl (fun X f => X.modFib f fun F => { F with wait := .none }) (W.grow n fs)

theorem Wave.fib_modFib_eq (W : Wave) (f g : Nat) (h : Fibre → Fibre) : (W.modFib f h).fib g = if g = f then h (W.fib f) else W.fib g := by
  by_cases hg : g = f <;> simp [hg]

theorem Wave.fib_grant {fs : List Nat} (hn : fs.Nodup) (W : Wave) (n f : Nat) :
    (W.grant n fs).fib f = if f ∈ fs then (W.fib f).granted n else W.fib f := by
  rw [Wave.grant, Wave.fib_foldl_step (h := fun _ F => { F with wait := .none }) (fun X f g => X.fib_modFib_eq f g _) hn, Wave.grow,
    Wave.fib_foldl_step (h := fun _ F => { F with alloc := F.alloc + 16 * n, regs := F.regs.filter fun e => decide (e.1 < F.alloc) })
      (fun X f g => X.fib_modFib_eq f g _) hn]
  split <;> rfl

theorem exec_wgrowGrant {s : State} {core n : Nat} {r : GrowReq} {fs : List Nat} (h : s.grantable core = some (r, fs, n)) :
    exec (.wgrowGrant core) s = .next ((s.modWave r.grp r.wave fun W => (W.grant r.n fs).noteReleased fs).pruneGrow core) := by
  show execWgrowGrant core s = _
  rw [execWgrowGrant, h]
  rfl

theorem wgrow_granted {s : State} {core n : Nat} {r : GrowReq} {fs : List Nat} {W : Wave} (h : s.grantable core = some (r, fs, n))
    (hw : s.wave r.grp r.wave = some W) (hn : fs.Nodup) :
    ∃ t V, exec (.wgrowGrant core) s = .next t ∧ t.mem = s.mem ∧ t.wave r.grp r.wave = some V ∧
      n ≤ s.poolFree core ∧ (∀ f ∈ fs, (V.fib f).wait = .none ∧ (V.fib f).curPc = (W.fib f).curPc ∧
        (V.fib f).alloc = (W.fib f).alloc + 16 * r.n ∧ ∀ n < (W.fib f).alloc, tabGet (V.fib f).regs n = tabGet (W.fib f).regs n) ∧
      ∀ f, f ∉ fs → (V.fib f).wait = (W.fib f).wait := by
  have hfib : ∀ f, ((W.grant r.n fs).noteReleased fs).fib f = if f ∈ fs then (W.fib f).granted r.n else W.fib f :=
    Wave.fib_grant hn W r.n
  refine ⟨_, (W.grant r.n fs).noteReleased fs, exec_wgrowGrant h, rfl, ?_, State.grantable_fits h, fun f hf => ?_, fun f hf => ?_⟩
  · exact (State.wave_modWave_self s r.grp r.wave _).trans (by rw [hw, Option.map_some])
  · rw [hfib, if_pos hf]
    exact ⟨rfl, rfl, rfl, fun n hn => tabGet_filter_of_lt _ hn⟩
  · rw [hfib, if_neg hf]

/-! ## Pre-emption (R338) -/

/-- A group whose pre-emption is asked for. -/
def Group.preempted (G : Group) : Group :=
  match G.place with
  | .core c => if G.firmware then G else { G with place := .saving c, preempt := true }
  | _ => G

theorem exec_preemptRequest (s : State) (g : Nat) :
    exec (.preemptRequest g) s = .next ((s.pairOf g).foldl (fun t g => t.modGroup g Group.preempted) s) := rfl

theorem State.group_foldl_modGroup {l : List Nat} (hn : l.Nodup) {h : Nat} (hh : h ∈ l) (f : Group → Group) (s : State) :
    (l.foldl (fun t g => t.modGroup g f) s).group h = (s.group h).map f := by
  induction l generalizing s with
  | nil => cases hh
  | cons g l ih =>
    obtain ⟨hg, hn⟩ := List.nodup_cons.mp hn
    rw [List.foldl_cons]
    rcases List.mem_cons.mp hh with rfl | hh
    · rw [foldl_keeps (fun u : State => u.group h)
        (fun u x hx => State.group_modGroup_ne _ _ _ _ fun e => hg (by rw [e]; exact hx)), State.group_modGroup_self]
    · rw [ih hn hh, State.group_modGroup_ne _ _ _ _ fun e : h = g => hg (e ▸ hh)]

theorem preempt_stops {s : State} {g h core : Nat} {H : Group} (hn : (s.pairOf g).Nodup) (hh : h ∈ s.pairOf g) (hH : s.group h = some H)
    (hp : H.place = .core core) (hf : H.firmware = false) :
    ∃ t, exec (.preemptRequest g) s = .next t ∧ t.mem = s.mem ∧ t.group h = some { H with place := .saving core, preempt := true } := by
  refine ⟨_, exec_preemptRequest s g, State.mem_foldl_modGroup _ _ _ s, ?_⟩
  rw [State.group_foldl_modGroup hn hh, hH, Option.map_some, Group.preempted, hp]
  simp [hf]

end Sys2Proof.Machine

/-! Proofs about ISYNC that completes (R145) and the register pool in deadlock (R35). -/
namespace Sys2Proof.Machine
open Sys2Proof.Safety

/-! ## ISYNC (R145) -/

/-- No line of an instruction cache overlaps the range. -/
def State.noLines (asid va len : Nat) (s : State) : Prop := ∀ e ∈ s.cores, ∀ l ∈ e.2.icache, icacheHit asid va len l.1 = false

theorem State.mem_cores_dropIcache {s : State} {asid va len : Nat} {e : Nat × Core} (h : e ∈ (s.dropIcache asid va len).cores) :
    ∃ x ∈ s.cores, e.2.icache = x.2.icache.filter fun l => !icacheHit asid va len l.1 := by
  obtain ⟨x, hx, hv⟩ := List.mem_filterMap.mp h
  refine ⟨x, hx, ?_⟩
  simp only at hv
  split at hv
  · cases hv
  · cases hv
    rfl

/-- The lines of an ISYNC's ranges go from every core's cache. -/
theorem State.noLines_foldl_dropIcache {s : State} {asid : Nat} {l : List Acc} {x : Acc} (hx : x ∈ l) :
    (l.foldl (fun t a => t.dropIcache asid a.va.toNat ((a.data.getD 0 0).toNat)) s).noLines asid x.va.toNat (x.data.getD 0 0).toNat := by
  refine foldl_establishes (q := fun (x : Acc) t => State.noLines asid x.va.toNat (x.data.getD 0 0).toNat t)
    (fun t x e he l hl => ?_) (fun t a x hq e he l hl => ?_) hx s
  · obtain ⟨y, -, hy⟩ := State.mem_cores_dropIcache he
    rw [hy] at hl
    simpa using (List.mem_filter.mp hl).2
  · obtain ⟨y, hy, hye⟩ := State.mem_cores_dropIcache he
    rw [hye] at hl
    exact hq y hy l (List.mem_of_mem_filter hl)

theorem State.icache_of_noLines {s : State} {asid va len : Nat} (h : s.noLines asid va len) (c : Nat) :
    ∀ l ∈ (s.core c).icache, icacheHit asid va len l.1 = false := by
  intro l hl
  cases hc : tabGet s.cores c with
  | none =>
    rw [State.core, tabVal, hc] at hl
    cases hl
  | some C =>
    rw [State.core, tabVal, hc] at hl
    exact h _ (mem_of_tabGet hc) l hl

/-- An access of a wave after it is done changes the entry's accesses only. -/
theorem Wave.sb_complete (W : Wave) (slot f : Nat) (vals : List Tagged) (p : Option Bool) :
    (W.complete slot f vals p).sb = if (W.acc slot f).isSome then (W.modAcc slot f fun a => { a with st := .done }).sb else W.sb := by
  unfold Wave.complete
  cases ha : W.acc slot f with
  | none => rfl
  | some a =>
    have hput : (W.putAll f a.dst vals).sb = W.sb := by
      rw [show (W.putAll f a.dst vals).sb = (W.putAll f a.dst vals).shell.sb from rfl, W.shell_putAll]
      rfl
    have hmod : ∀ X : Wave, X.sb = W.sb → (X.modAcc slot f fun a => { a with st := .done }).sb =
        (W.modAcc slot f fun a => { a with st := .done }).sb := by
      intro X hX
      unfold Wave.modAcc
      rw [hX]
      cases tabGet W.sb slot with
      | none => exact hX
      | some e => simp only; split <;> rfl
    refine hmod _ ?_
    by_cases hd : a.drop = true
    · simp only [hd, if_true]
      split <;> rfl
    · simp only [hd, Bool.false_eq_true, if_false]
      split <;> exact hput

/-- The entry of an access that is done, where it stays. -/
theorem Wave.entry_modAcc {W : Wave} {slot f : Nat} {h : Acc → Acc} {x : Entry}
    (hx : tabGet (W.modAcc slot f h).sb slot = some x) : ∃ e, tabGet W.sb slot = some e ∧ x = e.modAcc f h := by
  unfold Wave.modAcc at hx
  cases he : tabGet W.sb slot with
  | none =>
    rw [he] at hx
    rw [he] at hx
    cases hx
  | some e =>
    rw [he] at hx
    simp only at hx
    split at hx
    · rw [tabGet_tabErase_self] at hx
      cases hx
    · rw [tabGet_tabSet_self] at hx
      cases hx
      exact ⟨e, rfl, rfl⟩

/-- The entry of an access that has completed, where it stays: its fibre's accesses are done, the others stand. -/
theorem Wave.entry_complete {W : Wave} {slot f : Nat} {vals : List Tagged} {p : Option Bool} {x : Entry}
    (hx : tabGet (W.complete slot f vals p).sb slot = some x) :
    ∃ e, tabGet W.sb slot = some e ∧ x = e.modAcc f fun a => { a with st := .done } := by
  rw [Wave.sb_complete] at hx
  split at hx
  · exact Wave.entry_modAcc hx
  · next hno =>
    refine ⟨x, hx, ?_⟩
    rw [Wave.acc, hx, Option.bind_some, Option.isSome_iff_ne_none, not_not, List.find?_eq_none] at hno
    have hid : x.accs.map (fun a => if a.fib = f then { a with st := AccState.done } else a) = x.accs :=
      (List.map_congr_left fun a ha => if_neg (by simpa using hno a ha)).trans (List.map_id _)
    rw [Entry.modAcc, hid]

/-- Every access of a fibre in the entry is done. -/
def Wave.doneFor (slot f : Nat) (W : Wave) : Prop := ∀ x, tabGet W.sb slot = some x → ∀ a ∈ x.accs, a.fib = f → a.st = .done

/-- The fibres that the accesses of an entry have. -/
def Wave.fibsWithin (slot : Nat) (fs : List Nat) (W : Wave) : Prop := ∀ x, tabGet W.sb slot = some x → ∀ a ∈ x.accs, a.fib ∈ fs

theorem Wave.fib_of_mem_modAcc {e : Entry} {f : Nat} {a : Acc} (ha : a ∈ (e.modAcc f fun a => { a with st := .done }).accs) :
    ∃ a₀ ∈ e.accs, a.fib = a₀.fib ∧ (a₀.fib = f → a.st = .done) ∧ (a₀.fib ≠ f → a = a₀) := by
  obtain ⟨a₀, ha₀, rfl⟩ := List.mem_map.mp ha
  refine ⟨a₀, ha₀, ?_⟩
  by_cases h : a₀.fib = f
  · simp [h]
  · simp [h]

/-- A state whose wave completes the accesses of an entry one after another. -/
def State.completeEach (s : State) (g w slot : Nat) (l : List Acc) : State :=
  l.foldl (fun t a => t.completeAcc g w slot a.fib [] none) s

/-- Accesses that no twin makes with them complete in their own wave. -/
theorem State.wave_completeAcc_own {s : State} {g w slot f : Nat} {W : Wave} {vals : List Tagged} {p : Option Bool}
    (hw : s.wave g w = some W) (hs : ∀ e, tabGet W.sb slot = some e → suppressedInTwin e.instr = false) :
    (s.completeAcc g w slot f vals p).wave g w = some (W.complete slot f vals p) := by
  have h1 : (s.modWave g w fun W => W.complete slot f vals p).wave g w = some (W.complete slot f vals p) := by
    rw [State.wave_modWave_self, hw, Option.map_some]
  unfold State.completeAcc
  simp only [hw, Option.bind_some]
  split
  · next he => rw [hs _ he, if_neg Bool.false_ne_true, h1]
  · exact h1

theorem State.wave_completeEach {g w slot : Nat} {l : List Acc} {s : State} {W : Wave} (hw : s.wave g w = some W)
    (hs : ∀ e, tabGet W.sb slot = some e → suppressedInTwin e.instr = false) :
    (s.completeEach g w slot l).wave g w = some (l.foldl (fun X a => X.complete slot a.fib [] none) W) := by
  induction l generalizing s W with
  | nil => exact hw
  | cons a l ih =>
    refine ih (s.wave_completeAcc_own hw hs) fun x hx => ?_
    obtain ⟨e, he, rfl⟩ := Wave.entry_complete hx
    exact hs e he

theorem State.mem_completeEach (s : State) (g w slot : Nat) (l : List Acc) : (s.completeEach g w slot l).mem = s.mem :=
  foldl_keeps State.mem (fun t a _ => by rw [State.completeAcc_rest]) s

theorem State.cores_completeEach (s : State) (g w slot : Nat) (l : List Acc) : (s.completeEach g w slot l).cores = s.cores :=
  foldl_keeps State.cores (fun t a _ => by rw [State.completeAcc_rest]) s

/-- Accesses completed one after another leave nothing of their fibres undone. -/
theorem Wave.done_of_completed {W : Wave} {slot : Nat} {l : List Acc} (hin : W.fibsWithin slot (l.map (·.fib))) {x : Entry}
    (hx : tabGet (l.foldl (fun X a => X.complete slot a.fib [] none) W).sb slot = some x) : ∀ a ∈ x.accs, a.st = .done := by
  intro a ha
  have hfibs : ∀ (fs : List Nat) (l : List Acc) (W : Wave), W.fibsWithin slot fs →
      (l.foldl (fun X a => X.complete slot a.fib [] none) W).fibsWithin slot fs := by
    intro fs l
    induction l with
    | nil => exact fun W h => h
    | cons b l ih =>
      refine fun W h => ih _ fun y hy a ha => ?_
      obtain ⟨e, he, rfl⟩ := Wave.entry_complete hy
      obtain ⟨a₀, ha₀, hfib, -, -⟩ := Wave.fib_of_mem_modAcc ha
      exact hfib ▸ h e he a₀ ha₀
  obtain ⟨b, hb, hbf⟩ := List.mem_map.mp (hfibs _ l W hin x hx a ha)
  refine foldl_establishes (q := fun (b : Acc) X => Wave.doneFor slot b.fib X) (fun X b y hy a ha hf => ?_)
    (fun X c b hq y hy a ha hf => ?_) hb W x hx a ha hbf.symm
  · obtain ⟨e, he, rfl⟩ := Wave.entry_complete hy
    obtain ⟨a₀, ha₀, hfib, hdone, -⟩ := Wave.fib_of_mem_modAcc ha
    exact hdone (hfib ▸ hf)
  · obtain ⟨e, he, rfl⟩ := Wave.entry_complete hy
    obtain ⟨a₀, ha₀, hfib, hdone, hsame⟩ := Wave.fib_of_mem_modAcc ha
    by_cases hc : a₀.fib = c.fib
    · exact hdone hc
    · rw [hsame hc]
      exact hq e he a₀ ha₀ (hfib ▸ hf)

theorem exec_isyncComplete {s : State} {g w slot : Nat} {G : Group} {W : Wave} {e : Entry} {o : Form.AB} (hg : s.group g = some G)
    (hc : G.core?.isSome = true) (hw : s.wave g w = some W) (he : tabGet W.sb slot = some e) (hi : e.instr = .isync o)
    (hrun : W.run = .running) (hdone : ∀ a ∈ e.accs, W.writesDone e.age a.fib = true) :
    exec (.isyncComplete g w slot) s =
      .next ((e.accs.foldl (fun t a => t.dropIcache G.asid a.va.toNat ((a.data.getD 0 0).toNat)) s).completeEach g w slot e.accs) := by
  have hcond : (G.core?.isNone || W.run != .running || !(e.accs.all fun a => W.writesDone e.age a.fib)) = false := by
    rw [List.all_eq_true.mpr hdone, hrun]
    cases hG : G.core? with
    | none => rw [hG] at hc; cases hc
    | some c => rfl
  show execIsyncComplete g w slot s = _
  simp only [execIsyncComplete, hg, hw, he, hi, hcond, Bool.false_eq_true, if_false]
  rfl

theorem isync_completes {s : State} {g w slot : Nat} {G : Group} {W : Wave} {e : Entry} {o : Form.AB} (hg : s.group g = some G)
    (hc : G.core?.isSome = true) (hw : tabGet G.waves w = some W) (he : tabGet W.sb slot = some e) (hi : e.instr = .isync o)
    (hrun : W.run = .running) (hdone : ∀ a ∈ e.accs, W.writesDone e.age a.fib = true) :
    ∃ t V, exec (.isyncComplete g w slot) s = .next t ∧ t.mem = s.mem ∧ t.wave g w = some V ∧
      (∀ x ∈ e.accs, ∀ c, ∀ l ∈ (t.core c).icache, icacheHit G.asid x.va.toNat (x.data.getD 0 0).toNat l.1 = false) ∧
      ∀ x, tabGet V.sb slot = some x → ∀ a ∈ x.accs, a.st = .done := by
  have hwave : s.wave g w = some W := by rw [State.wave, hg, Option.bind_some, hw]
  have hmem := foldl_keeps State.mem (l := e.accs)
    (f := fun t a => t.dropIcache G.asid a.va.toNat ((a.data.getD 0 0).toNat)) (fun _ _ _ => rfl) s
  have hgroups := foldl_keeps State.groups (l := e.accs)
    (f := fun t a => t.dropIcache G.asid a.va.toNat ((a.data.getD 0 0).toNat)) (fun _ _ _ => rfl) s
  have hwave1 : (e.accs.foldl (fun t a => t.dropIcache G.asid a.va.toNat ((a.data.getD 0 0).toNat)) s).wave g w = some W := by
    rw [State.wave, State.group_of_groups hgroups]
    exact hwave
  refine ⟨_, _, exec_isyncComplete hg hc hwave he hi hrun hdone, ?_, State.wave_completeEach hwave1 fun x hx => ?_, fun x hx c => ?_,
    fun x hx => Wave.done_of_completed (fun y hy a ha => ?_) hx⟩
  · rw [State.mem_completeEach, hmem]
  · rw [he] at hx
    cases hx
    rw [hi]
    rfl
  · rw [State.core, State.cores_completeEach]
    exact State.icache_of_noLines (State.noLines_foldl_dropIcache hx) c
  · rw [he] at hy
    cases hy
    exact List.mem_map_of_mem ha

end Sys2Proof.Machine

/-! Proofs about the register pool in deadlock (R35): which wave parks, and that it gives its units back. -/
namespace Sys2Proof.Machine
open Sys2Proof.Safety

/-! ## The wave that parks -/

theorem greatestBy_eq_none {α : Type} {rank : α → List Nat} {l : List α} : greatestBy rank l = none ↔ l = [] := by
  cases l with
  | nil => simp [greatestBy]
  | cons x l =>
    simp only [greatestBy, reduceCtorEq, iff_false]
    split
    · simp
    · split <;> simp

/-- The greatest of ranks of one length is one of the list, and below none of it. -/
theorem greatestBy_greatest {α : Type} {rank : α → List Nat} {n : Nat} (hlen : ∀ x, (rank x).length = n) {l : List α} {x : α}
    (h : greatestBy rank l = some x) : x ∈ l ∧ ∀ y ∈ l, keysBelow (rank x) (rank y) = false := by
  induction l generalizing x with
  | nil => cases h
  | cons y l ih =>
    rw [greatestBy] at h
    cases hb : greatestBy rank l with
    | none =>
      rw [hb] at h
      cases h
      rw [greatestBy_eq_none.mp hb]
      refine ⟨List.mem_cons_self, fun e he => ?_⟩
      rw [List.mem_singleton.mp he]
      exact keysBelow_irrefl _
    | some z =>
      rw [hb] at h
      obtain ⟨hz, hmax⟩ := ih hb
      simp only at h
      split at h <;> cases h
      · next hk =>
        refine ⟨List.mem_cons_self, fun e he => ?_⟩
        rcases List.mem_cons.mp he with rfl | he
        · exact keysBelow_irrefl _
        · by_contra hlt
          rw [Bool.not_eq_false] at hlt
          have := keysBelow_of_ge (c := rank z) ((hlen _).trans (hlen e).symm) ((hlen e).trans (hlen z).symm) (keysBelow_asymm hlt) (hmax e he)
          rw [hk] at this
          cases this
      · next hk =>
        refine ⟨List.mem_cons_of_mem _ hz, fun e he => ?_⟩
        rcases List.mem_cons.mp he with rfl | he
        · exact Bool.not_eq_true _ ▸ hk
        · exact hmax e he

/-- The waves of a core among which R35 chooses. -/
def State.growCandidates (s : State) (core : Nat) : List ((Nat × Group) × (Nat × Wave)) :=
  (s.residents core).flatMap fun e => (e.2.liveWaves.filter fun w => takesPart e.2 w.2).map fun w => (e, w)

theorem State.mem_growCandidates {s : State} {core : Nat} {x : (Nat × Group) × (Nat × Wave)} :
    x ∈ s.growCandidates core ↔ x.1 ∈ s.residents core ∧ x.2 ∈ x.1.2.liveWaves ∧ takesPart x.1.2 x.2.2 = true := by
  simp only [State.growCandidates, List.mem_flatMap, List.mem_map, List.mem_filter]
  constructor
  · rintro ⟨e, he, w, ⟨hw, ht⟩, rfl⟩
    exact ⟨he, hw, ht⟩
  · rintro ⟨he, hw, ht⟩
    exact ⟨x.1, he, x.2, ⟨hw, ht⟩, rfl⟩

/-- A resident group is the group of its number, on that core. -/
theorem State.group_of_mem_residents {s : State} {core g : Nat} {G : Group} (h : (g, G) ∈ s.residents core) :
    s.group g = some G ∧ G.core? = some core := by
  obtain ⟨e, -, hv⟩ := List.mem_filterMap.mp h
  cases hg : s.group e.1 with
  | none => rw [hg] at hv; cases hv
  | some H =>
    rw [hg] at hv
    simp only at hv
    split at hv
    · next hc => cases hv; exact ⟨hg, hc⟩
    · cases hv

/-- Where one wave is before all others by class, admission and slot, it is the wave that R35 chooses. -/
theorem State.greatest_growCandidate {s : State} {core g w : Nat} {G : Group} {W : Wave} (hr : (g, G) ∈ s.residents core)
    (hl : (w, W) ∈ G.liveWaves) (ht : takesPart G W = true)
    (hmax : ∀ h H v V, (h, H) ∈ s.residents core → (v, V) ∈ H.liveWaves → takesPart H V = true → (h, v, V) ≠ (g, w, W) →
      H.cls < G.cls ∨ (H.cls = G.cls ∧ (V.admitted < W.admitted ∨ (V.admitted = W.admitted ∧ V.slot < W.slot)))) :
    greatestBy (fun x => growRank x.1 x.2) (s.growCandidates core) = some ((g, G), (w, W)) := by
  have hmem : ((g, G), (w, W)) ∈ s.growCandidates core := State.mem_growCandidates.mpr ⟨hr, hl, ht⟩
  cases hb : greatestBy (fun x : (Nat × Group) × (Nat × Wave) => growRank x.1 x.2) (s.growCandidates core) with
  | none =>
    rw [greatestBy_eq_none.mp hb] at hmem
    cases hmem
  | some x =>
    obtain ⟨⟨h, H⟩, ⟨v, V⟩⟩ := x
    obtain ⟨hx, hnone⟩ := greatestBy_greatest (n := 4) (fun _ => rfl) hb
    obtain ⟨hrx, hlx, htx⟩ := State.mem_growCandidates.mp hx
    by_cases he : (h, v, V) = (g, w, W)
    · simp only [Prod.mk.injEq] at he
      obtain ⟨rfl, rfl, rfl⟩ := he
      have := (State.group_of_mem_residents hrx).1.symm.trans (State.group_of_mem_residents hr).1
      cases this
      rfl
    · have hlt := hmax h H v V hrx hlx htx he
      have hno := hnone _ hmem
      simp only [growRank, keysBelow, Bool.or_eq_false_iff, decide_eq_false_iff_not, Bool.and_eq_false_iff, beq_eq_false_iff_ne] at hno
      omega

/-! ## A wave stops (R334) -/

theorem Wave.fib_leaveFrame (W : Wave) (f : Nat) : (W.leaveFrame).fib f = outOfFrame (W.fib f) := by
  have h : tabGet W.leaveFrame.fibres f = (tabGet W.fibres f).map outOfFrame := tabGet_tabMap W.fibres f fun _ => outOfFrame
  rw [Wave.fib, tabVal, h, Wave.fib, tabVal]
  cases tabGet W.fibres f with
  | none => rfl
  | some F => rfl

/-- A wave that has stopped. -/
def Wave.stopped (W : Wave) : Wave := { W.leaveFrame with run := .draining }

theorem State.group_stopWave (s : State) (g w h : Nat) :
    (s.stopWave g w).group h = if h = g then (s.group g).map (fun G => G.modWave w Wave.stopped) else s.group h := by
  unfold State.stopWave
  by_cases hh : h = g
  · subst hh
    rw [if_pos rfl]
    cases hg : s.group h with
    | none => exact hg
    | some G =>
      simp only
      rw [State.group_of_groups (State.freeFrame_groups _ _), State.modWave, State.group_modGroup_self, hg]
      rfl
  · rw [if_neg hh]
    cases hg : s.group g with
    | none => rfl
    | some G =>
      simp only
      rw [State.group_of_groups (State.freeFrame_groups _ _)]
      exact State.group_modGroup_ne _ _ _ _ hh

theorem State.wave_stopWave {s : State} {g w : Nat} {X : Wave} (h : Nat) (hw : s.wave g w = some X) :
    (s.stopWave h w).wave g w = some (if h = g then X.stopped else X) := by
  obtain ⟨G, hG, hX⟩ := Option.bind_eq_some_iff.mp hw
  rw [State.wave, State.group_stopWave]
  by_cases hh : h = g
  · subst hh
    rw [if_pos rfl, if_pos rfl, hG, Option.map_some, Option.bind_some]
    exact (tabGet_tabMod_self G.waves w Wave.stopped).trans (by rw [hX, Option.map_some])
  · rw [if_neg (Ne.symm hh), if_neg hh, hG, Option.bind_some, hX]

theorem State.stopPair_eq (s : State) (g w : Nat) : s.stopPair g w = (s.pairOf g).foldl (fun t h => t.stopWave h w) s := by
  unfold State.stopPair State.pairOf
  cases (s.group g).bind (·.twin) <;> rfl

/-- What stopping a wave leaves of the state: memory, the engines, and the units given up in the cycle. -/
def State.keptByStop (core : Nat) (s : State) : List Host.Cell × Engines × Nat := (s.mem, s.eng, (s.core core).freed)

theorem State.keptByStop_freeFrame (s : State) (core c : Nat) : (s.freeFrame c).keptByStop core = s.keptByStop core := by
  have hmod : (s.modCore c fun C => { C with frame := none }).keptByStop core = s.keptByStop core := by
    by_cases hc : core = c
    · subst hc
      simp only [State.keptByStop, State.core_modCore_self, State.modCore_mem, State.modCore_eng]
    · simp only [State.keptByStop, State.core_modCore_ne _ _ hc, State.modCore_mem, State.modCore_eng]
  unfold State.freeFrame
  split
  · rfl
  · split
    · split
      · rfl
      · exact hmod
    · exact hmod

theorem State.keptByStop_stopPair (s : State) (core g w : Nat) : (s.stopPair g w).keptByStop core = s.keptByStop core := by
  rw [State.stopPair_eq]
  refine foldl_keeps (State.keptByStop core) (fun t h _ => ?_) s
  unfold State.stopWave
  split
  · rfl
  · exact State.keptByStop_freeFrame _ _ _

/-- Steps that touch one wave of each named group keep what each of them keeps of a wave. -/
theorem State.exists_wave_foldl {g w : Nat} {step : State → Nat → State} {φ : Wave → Wave} {q : Wave → Prop}
    (hs : ∀ t h X, t.wave g w = some X → (step t h).wave g w = some (if h = g then φ X else X)) (hq : ∀ X, q X → q (φ X))
    {l : List Nat} {t : State} {X : Wave} (hw : t.wave g w = some X) (hX : q X) :
    ∃ Y, (l.foldl step t).wave g w = some Y ∧ q Y := by
  induction l generalizing t X with
  | nil => exact ⟨X, hw, hX⟩
  | cons h l ih =>
    refine ih (hs t h X hw) ?_
    split
    · exact hq X hX
    · exact hX

/-- The group comes first in its pair. -/
theorem State.pairOf_cons (s : State) (g : Nat) : ∃ l, s.pairOf g = g :: l := by
  unfold State.pairOf
  split
  · exact ⟨_, rfl⟩
  · exact ⟨_, rfl⟩

/-! ## WGROW undone -/

/-- A fibre that waits in WGROW stands at it again. -/
def Fibre.undone (F : Fibre) : Fibre :=
  match F.wait with
  | .wgrow _ a => { F with pc := a, wait := .none }
  | _ => F

theorem Fibre.undone_of_wgrow {F : Fibre} {n : Nat} {a : Addr} (h : F.wait = .wgrow n a) : F.undone = { F with pc := a, wait := .none } := by
  rw [Fibre.undone, h]

theorem Fibre.undone_of_none {F : Fibre} (h : F.wait = .none) : F.undone = F := by
  rw [Fibre.undone, h]

theorem Wave.fib_undoGrow (W : Wave) (f : Nat) : W.undoGrow.fib f = if f ∈ W.live then (W.fib f).undone else W.fib f := by
  refine Wave.fib_foldl_step (h := fun _ F => F.undone) (fun X f g => ?_) (List.nodup_range.filter _) W f
  split
  · next n a hw => rw [Wave.fib_modFib_eq, Fibre.undone_of_wgrow hw]
  · next hno =>
    have hsame : (X.fib f).undone = X.fib f := by
      unfold Fibre.undone
      split
      · next n a hw => exact absurd hw (hno n a)
      · rfl
    by_cases hg : g = f
    · rw [if_pos hg, hsame, hg]
    · rw [if_neg hg]

/-- The fibres of `W` that wait in WGROW stand at it again in `X`, with their registers. -/
def Wave.growUndone (W X : Wave) : Prop := ∀ f n at_, f ∈ W.live → (W.fib f).wait = .wgrow n at_ →
  (X.fib f).pc = at_ ∧ (X.fib f).wait = .none ∧ (X.fib f).regs = (W.fib f).regs ∧ (X.fib f).alloc = (W.fib f).alloc

theorem Wave.growUndone_undoGrow (W : Wave) : W.growUndone W.undoGrow := by
  intro f n at_ hf hw
  rw [Wave.fib_undoGrow, if_pos hf, Fibre.undone_of_wgrow hw]
  exact ⟨rfl, rfl, rfl, rfl⟩

theorem Wave.growUndone_again {W X : Wave} (h : W.growUndone X) : W.growUndone X.undoGrow := by
  intro f n at_ hf hw
  have hX := h f n at_ hf hw
  rw [Wave.fib_undoGrow, Fibre.undone_of_none hX.2.1, ite_self]
  exact hX

theorem Wave.growUndone_stopped {W X : Wave} (h : W.growUndone X) : W.growUndone X.stopped := by
  intro f n at_ hf hw
  obtain ⟨hpc, hwait, hregs, halloc⟩ := h f n at_ hf hw
  rw [show X.stopped.fib f = X.leaveFrame.fib f from rfl, Wave.fib_leaveFrame]
  exact ⟨hpc, by simp [outOfFrame, hwait], hregs, halloc⟩

/-! ## The deadlock -/

/-- The pair of a deadlock's group with its WGROWs undone, and the units of the wave given up. -/
def State.deadlocked (s : State) (g w : Nat) (n : Nat) : State :=
  ((s.giveBack g n).pairOf g).foldl (fun t h => t.modWave h w Wave.undoGrow) (s.giveBack g n)

section
variable {s : State} {core g w : Nat} {G : Group} {W : Wave} (hg : s.group g = some G) (hw : tabGet G.waves w = some W) (n : Nat)
include hg hw

theorem State.wave_deadlocked : ∃ X, (s.deadlocked g w n).wave g w = some X ∧ W.growUndone X := by
  have hwave : (s.giveBack g n).wave g w = some W := by
    rw [State.wave, State.group_of_groups (s.giveBack_groups g n), hg, Option.bind_some, hw]
  have hstep : ∀ (t : State) (h : Nat) (X : Wave), t.wave g w = some X →
      (t.modWave h w Wave.undoGrow).wave g w = some (if h = g then X.undoGrow else X) := by
    intro t h X hX
    by_cases hh : h = g
    · subst hh
      rw [State.wave_modWave_self, hX, Option.map_some, if_pos rfl]
    · rw [State.wave_modWave_ne _ _ _ _ (Ne.symm hh), hX, if_neg hh]
  obtain ⟨l, hl⟩ := (s.giveBack g n).pairOf_cons g
  rw [State.deadlocked, hl, List.foldl_cons]
  exact State.exists_wave_foldl hstep (fun X hX => Wave.growUndone_again hX) (hstep _ g W hwave)
    (by rw [if_pos rfl]; exact W.growUndone_undoGrow)

omit hw in
/-- The group itself stands as it did. -/
theorem State.group_deadlocked : ∃ H, (s.deadlocked g w n).group g = some H ∧ H = { G with waves := H.waves } := by
  have hkeep : ((s.deadlocked g w n).group g).map (fun H => { H with waves := [] }) = (s.group g).map (fun H => { H with waves := [] }) := by
    have hstep := foldl_keeps (fun t : State => (t.group g).map fun H => { H with waves := [] })
      (f := fun t h => t.modWave h w Wave.undoGrow) (l := (s.giveBack g n).pairOf g) (fun t h _ => by
        by_cases hh : g = h
        · subst hh
          rw [State.modWave, State.group_modGroup_self, Option.map_map]
          rfl
        · rw [State.modWave, State.group_modGroup_ne _ _ _ _ hh]) (s.giveBack g n)
    exact hstep.trans (by rw [State.group_of_groups (s.giveBack_groups g n)])
  rw [hg] at hkeep
  cases hH : (s.deadlocked g w n).group g with
  | none => rw [hH] at hkeep; cases hkeep
  | some H =>
    rw [hH, Option.map_some, Option.map_some, Option.some.injEq] at hkeep
    refine ⟨H, rfl, ?_⟩
    cases H
    cases G
    simp only [Group.mk.injEq] at hkeep ⊢
    simp [hkeep]

omit hw in
theorem State.kept_deadlocked (hc : G.core? = some core) :
    (s.deadlocked g w n).keptByStop core = (s.mem, s.eng, (s.core core).freed + n) := by
  have h : (s.deadlocked g w n).keptByStop core = (s.giveBack g n).keptByStop core :=
    foldl_keeps (State.keptByStop core) (f := fun t h => t.modWave h w Wave.undoGrow) (fun _ _ _ => rfl) _
  rw [h, State.giveBack_resident n hg hc, State.keptByStop, State.core_modCore_self]
  rfl

end

theorem State.takeFault_eq {s : State} {c : Issue} {G : Group} {W : Wave} (r : Raise) (late : Bool) (gmask : Word) (mv : PcMove)
    (hg : s.group c.grp = some G) (hw : tabGet G.waves c.wave = some W) :
    s.takeFault c r late gmask mv = (s.stopPair c.grp c.wave).detect G.die (s.waveSubject G c.grp W c r late gmask mv) := by
  simp only [State.takeFault, hg, hw]

/-- The wave of a fault drains, and what its stop keeps of a wave it keeps. -/
theorem State.wave_stopPair {s : State} {g w : Nat} {X : Wave} {q : Wave → Prop} (hw : s.wave g w = some X) (hX : q X)
    (hq : ∀ X, q X → q X.stopped) : ∃ Y, (s.stopPair g w).wave g w = some Y ∧ Y.run = .draining ∧ q Y := by
  obtain ⟨l, hl⟩ := s.pairOf_cons g
  rw [State.stopPair_eq, hl, List.foldl_cons]
  exact State.exists_wave_foldl (q := fun Y => Y.run = .draining ∧ q Y) (φ := Wave.stopped) (fun t h X hX => t.wave_stopWave h hX)
    (fun X hX => ⟨rfl, hq X hX.2⟩) (s.wave_stopWave g hw) (by rw [if_pos rfl]; exact ⟨rfl, hq X hX⟩)

theorem State.detected_detect (s : State) (d : Nat) (x : Subject) : ((s.detect d x).faultEng d).detected = (s.faultEng d).detected ++ [x] := by
  have h : (s.detect d x).faultEng d = { s.faultEng d with detected := (s.faultEng d).detected ++ [x] } := tabVal_tabPut_self _ _ _ _
  rw [h]

theorem State.faultEng_of_eng {s t : State} (h : s.eng = t.eng) (d : Nat) : s.faultEng d = t.faultEng d := by
  rw [State.faultEng, h, State.faultEng]

section
variable {s : State} {core g w : Nat} {G : Group} {W : Wave} (hfreed : (s.core core).freed = 0) (hall : s.allGrow core = true)
  (hnone : ∀ x ∈ s.pendingGrow core, s.poolFree core < x.2.2)
  (hmax : greatestBy (fun x => growRank x.1 x.2) (s.growCandidates core) = some ((g, G), (w, W)))
include hfreed hall hnone hmax

theorem exec_regPoolDeadlock : ∃ (c : Issue) (r : Raise) (m : Word), c.grp = g ∧ c.wave = w ∧ r.cause = 0x40 ∧
    exec (.regPoolDeadlock core) s = .next ((((s.deadlocked g w (W.units G.hdr.units)).takeFault c r false m .none).modWave g w fun W =>
      { W with noUnits := true }).pruneGrow core) := by
  have hany : ((s.pendingGrow core).any fun x => decide (x.2.2 ≤ s.poolFree core)) = false :=
    List.any_eq_false.mpr fun x hx => by simpa using hnone x hx
  have hcond : (decide (0 < (s.core core).freed) || !s.allGrow core || (s.pendingGrow core).any fun x => decide (x.2.2 ≤ s.poolFree core)) =
      false := by simp [hfreed, hall, hany]
  rw [State.growCandidates] at hmax
  show ∃ (c : Issue) (r : Raise) (m : Word), c.grp = g ∧ c.wave = w ∧ r.cause = 0x40 ∧ execRegPoolDeadlock core s = _
  simp only [execRegPoolDeadlock, hcond, hmax, Bool.false_eq_true, if_false]
  exact ⟨_, _, _, rfl, rfl, rfl, rfl⟩

theorem deadlock_parks (hg : s.group g = some G) (hc : G.core? = some core) (hw : tabGet G.waves w = some W) :
    ∃ t V x, exec (.regPoolDeadlock core) s = .next t ∧ t.mem = s.mem ∧ t.wave g w = some V ∧ V.run = .draining ∧ V.noUnits = true ∧
      V.units G.hdr.units = 0 ∧ (t.core core).freed = W.units G.hdr.units ∧ W.growUndone V ∧
      (t.faultEng G.die).detected = (s.faultEng G.die).detected ++ [x] ∧ x.cause = 0x40 ∧ x.grp = G.firstOf g ∧ x.wave = w := by
  obtain ⟨c, r, m, rfl, rfl, hr, hexec⟩ := exec_regPoolDeadlock hfreed hall hnone hmax
  obtain ⟨X, hX, hundo⟩ := State.wave_deadlocked hg hw (W.units G.hdr.units)
  obtain ⟨H, hH, hHG⟩ := State.group_deadlocked (w := c.wave) hg (W.units G.hdr.units)
  have hXH : tabGet H.waves c.wave = some X := by rwa [State.wave, hH, Option.bind_some] at hX
  obtain ⟨Y, hY, hrun, hYundo⟩ := State.wave_stopPair hX hundo fun X hX => Wave.growUndone_stopped hX
  have hkept := ((s.deadlocked c.grp c.wave (W.units G.hdr.units)).keptByStop_stopPair core c.grp c.wave).trans
    (State.kept_deadlocked (w := c.wave) hg (W.units G.hdr.units) hc)
  simp only [State.keptByStop, Prod.mk.injEq] at hkept
  obtain ⟨hmem, heng, hfr⟩ := hkept
  have hdie : H.die = G.die := by rw [hHG]; rfl
  have hfirst : H.firstOf c.grp = G.firstOf c.grp := by rw [hHG]; rfl
  rw [State.takeFault_eq _ _ _ _ hH hXH] at hexec
  refine ⟨_, { Y with noUnits := true },
    (s.deadlocked c.grp c.wave (W.units G.hdr.units)).waveSubject H c.grp X c r false m .none, hexec, hmem, ?_, hrun, rfl, if_pos rfl, ?_, hYundo, ?_, hr, hfirst, rfl⟩
  · refine (State.wave_modWave_self _ c.grp c.wave fun W => { W with noUnits := true }).trans ?_
    rw [show ((State.stopPair _ c.grp c.wave).detect _ _).wave c.grp c.wave = (State.stopPair _ c.grp c.wave).wave c.grp c.wave from rfl, hY,
      Option.map_some]
  · rw [State.pruneGrow, State.core_modCore_self]
    exact hfr.trans (by rw [hfreed, Nat.zero_add])
  · rw [← hdie]
    rw [State.pruneGrow, State.faultEng_of_eng ((State.modCore_eng _ _ _).trans (State.modWave_eng _ _ _ _)), State.detected_detect,
      State.faultEng_of_eng heng]

end

theorem exec_regPoolDeadlock_of_freed {s : State} {core : Nat} (h : 0 < (s.core core).freed) : exec (.regPoolDeadlock core) s = .next s := by
  show execRegPoolDeadlock core s = _
  simp [execRegPoolDeadlock, h]

/-- Settles O43: each of the core's own operations, by what it makes of one wave or group. -/
theorem coreServesItsWaves : Obligations.CoreServesItsWaves := by
  intro s
  refine ⟨fun core g G w W hg hc hw hrun hcyc hr hn => regroup_merges hg hw hrun hcyc hr hn,
    fun core r fs n W h hw hn _ => wgrow_granted h hw hn, fun core g w G W hfreed hall hnone hr hl hw ht hmax => ?_,
    fun core h => exec_regPoolDeadlock_of_freed h,
    fun g w slot G W e o hg hc hw he hi hrun hdone => isync_completes hg hc hw he hi hrun hdone,
    fun g h H core hn hh hH hp hf => preempt_stops hn hh hH hp hf⟩
  obtain ⟨hg, hc⟩ := State.group_of_mem_residents hr
  exact deadlock_parks hfreed hall hnone (State.greatest_growCandidate hr hl ht hmax) hg hc hw

end Sys2Proof.Machine

/-! Proofs about what a released collective gives each arrival (R135, R136, R177). -/
namespace Sys2Proof.Machine
open Sys2Proof.Safety

/-! ## SHFL, VOTE, BALLOT -/

section
variable {present all : List Arrival} {level : Nat} {me : Arrival}

/-- The lane that a shuffle reads. -/
def Arrival.lane (a : Arrival) : Nat := (a.srcs.getD 1 zeroReg).val.toNat % 32

theorem Arrival.bits_lane (a : Arrival) : bits (a.srcs.getD 1 zeroReg).val.toNat 0 5 = a.lane := by simp [bits, Arrival.lane]

theorem collResult_shfl_present {pd : Nat} {a : Arrival} (h : me.coll = .shfl pd) (ha : a ∈ present) (hf : a.fib = me.lane)
    (huniq : ∀ b ∈ present, b.fib = a.fib → b = a) :
    collResult present all level me = ([a.srcs.getD 0 zeroReg], some (pd, true)) := by
  have hfind : present.find? (fun a => a.fib == me.lane) = some a := by
    cases hx : present.find? fun a => a.fib == me.lane with
    | none => exact absurd (List.find?_eq_none.mp hx a ha) (by simp [hf])
    | some b =>
      have hb : b.fib = me.lane := by simpa using List.find?_some hx
      rw [huniq b (List.mem_of_find?_eq_some hx) (hb.trans hf.symm)]
  simp only [collResult, h, me.bits_lane, hfind]

theorem collResult_shfl_absent {pd : Nat} (h : me.coll = .shfl pd) (hnone : ∀ a ∈ present, a.fib ≠ me.lane) :
    collResult present all level me = ([zeroReg], some (pd, false)) := by
  have hfind : present.find? (fun a => a.fib == me.lane) = none := List.find?_eq_none.mpr fun a ha => by simpa using hnone a ha
  simp only [collResult, h, me.bits_lane, hfind]

theorem collResult_vote_all {pd : Nat} (h : me.coll = .vote 0 pd) : ∃ b, collResult present all level me = ([], some (pd, b)) ∧
    (b = true ↔ ∀ a ∈ present, a.src = true) :=
  ⟨present.all (·.src), by simp only [collResult, h], by simp⟩

theorem collResult_vote_any {pd : Nat} (h : me.coll = .vote 1 pd) : ∃ b, collResult present all level me = ([], some (pd, b)) ∧
    (b = true ↔ ∃ a ∈ present, a.src = true) :=
  ⟨present.any (·.src), by simp only [collResult, h], by simp⟩

/-- The votes of a uniformity test are all true or all false. -/
theorem collResult_vote_uniform {pd : Nat} (h : me.coll = .vote 2 pd) : ∃ b, collResult present all level me = ([], some (pd, b)) ∧
    (b = true ↔ ∀ a ∈ present, ∀ e ∈ present, a.src = e.src) := by
  refine ⟨present.all (·.src) || present.all fun a => !a.src, by simp only [collResult, h], ?_⟩
  rw [Bool.or_eq_true, List.all_eq_true, List.all_eq_true]
  constructor
  · rintro (h | h) a ha e he
    · rw [h a ha, h e he]
    · exact Bool.not_inj ((h a ha).trans (h e he).symm)
  · intro h
    cases hp : present with
    | nil => simp
    | cons x xs =>
      rw [← hp]
      have hx : ∀ a ∈ present, a.src = x.src := fun a ha => h a ha x (hp ▸ List.mem_cons_self)
      cases hs : x.src with
      | true => exact .inl fun a ha => (hx a ha).trans hs
      | false => exact .inr fun a ha => by rw [hx a ha, hs]; rfl

theorem collResult_ballot (h : me.coll = .ballot) : ∃ w : Word, collResult present all level me = ([⟨w, .b32⟩], none) ∧
    ∀ k < 32, w.getLsbD k = true ↔ ∃ a ∈ present, a.fib = k ∧ a.src = true := by
  refine ⟨maskOf ((present.filter (·.src)).map (·.fib)), by simp only [collResult, h], fun k hk => ?_⟩
  rw [getLsbD_maskOf _ hk, decide_eq_true_iff, List.mem_map]
  constructor
  · rintro ⟨a, ha, rfl⟩
    exact ⟨a, List.mem_of_mem_filter ha, rfl, (List.mem_filter.mp ha).2⟩
  · rintro ⟨a, ha, rfl, hs⟩
    exact ⟨a, List.mem_filter.mpr ⟨ha, hs⟩, rfl⟩

/-! ## SCHIST (R177) -/

/-- Whether a value stands at place `k` of a list of integers from the greatest down. -/
def StandsAt (l : List Int) (k : Nat) (t : Int) : Prop :=
  (l.filter fun y => decide (t < y)).length ≤ k ∧ k < (l.filter fun y => decide (t ≤ y)).length

/-- No value below another stands at the same place. -/
theorem StandsAt.not_lt {l : List Int} {k : Nat} {t u : Int} (ht : StandsAt l k t) (hu : StandsAt l k u) : ¬ t < u := by
  intro h
  have hsub : (l.filter fun y => decide (u ≤ y)).length ≤ (l.filter fun y => decide (t < y)).length := by
    rw [← List.countP_eq_length_filter, ← List.countP_eq_length_filter]
    refine List.countP_mono_left fun y _ hy => ?_
    simp only [decide_eq_true_eq] at hy ⊢
    omega
  have := ht.1
  have := hu.2
  omega

theorem kthLargest_some {l : List Int} {k : Nat} {t : Int} (h : kthLargest l k = some t) : StandsAt l k t := by
  have := List.find?_some h
  rw [Bool.and_eq_true, decide_eq_true_iff, decide_eq_true_iff] at this
  exact this

theorem kthLargest_of_standsAt {l : List Int} {k : Nat} {t : Int} (hm : t ∈ l) (ht : StandsAt l k t) : kthLargest l k = some t := by
  cases h : kthLargest l k with
  | none => exact absurd (List.find?_eq_none.mp h t hm) (by simp [ht.1, ht.2])
  | some u =>
    have hu := kthLargest_some h
    have h1 := ht.not_lt hu
    have h2 := hu.not_lt ht
    rw [show u = t by omega]

theorem kthLargest_of_short {l : List Int} {k : Nat} (h : l.length < k + 1) : kthLargest l k = none := by
  cases hx : kthLargest l k with
  | none => rfl
  | some u =>
    have hu := (kthLargest_some hx).2
    have := List.length_filter_le (fun y => decide (u ≤ y)) l
    omega

theorem collResult_schist {xs : List Int} {b : Arrival} {q : Nat} {mx : Int} (h : me.coll = .schist)
    (hxs : xs = present.filterMap fun a => f32Log (a.srcs.getD 0 zeroReg).val level) (hb : (all.filter (·.guard)).getLast? = some b)
    (hq : q = (b.srcs.getD 1 zeroReg).val.toNat % 32) (hmx : mx = if (b.srcs.getD 1 zeroReg).val.getLsbD 8 then 8 else 12) :
    ∃ E : Nat, collResult present all level me = ([⟨BitVec.ofNat 32 E, .e8x4⟩], none) ∧ (xs.length < q + 1 → E = 127) ∧
      ∀ t ∈ xs, (xs.filter fun y => decide (t < y)).length ≤ q → q < (xs.filter fun y => decide (t ≤ y)).length →
        (E : Int) = min (max (t + 1 - mx + 127) 0) 254 := by
  have hqb : bits (b.srcs.getD 1 zeroReg).val.toNat 0 5 = q := by simp [bits, hq]
  refine ⟨schistScale xs (b.srcs.getD 1 zeroReg).val, ?_, fun hlen => ?_, fun t ht hle hlt => ?_⟩
  · simp only [collResult, h, hxs, hb, Option.map_some, Option.getD_some]
  · simp only [schistScale, hqb, kthLargest_of_short hlen]
  · simp only [schistScale, hqb, kthLargest_of_standsAt ht ⟨hle, hlt⟩]
    rw [← hmx]
    omega

end

/-- The exponents that SCHIST counts: of finite non-zero sources (R119, R177). -/
theorem f32Log_spec (w : Word) (level e m : Nat) (he : e = w.toNat / 2 ^ 23 % 2 ^ 8) (hm : m = w.toNat % 2 ^ 23) :
    (e = 255 → f32Log w level = none) ∧ (0 < e → e < 255 → f32Log w level = some ((e : Int) - 127)) ∧
    (e = 0 → (m = 0 ∨ level = 0) → f32Log w level = none) ∧
    (e = 0 → 0 < level → ∀ k : Nat, 2 ^ k ≤ m → m < 2 ^ (k + 1) → f32Log w level = some ((k : Int) - 149)) := by
  have hbe : bits w.toNat 23 8 = e := he.symm
  have hbm : bits w.toNat 0 23 = m := by rw [bits, hm, pow_zero, Nat.div_one]
  refine ⟨fun h => ?_, fun h0 h1 => ?_, fun h0 hz => ?_, fun h0 hl k hk hk1 => ?_⟩
  · simp [f32Log, hbe, h]
  · simp only [f32Log, hbe, if_neg (Nat.ne_of_lt h1), if_pos (Nat.ne_of_gt h0)]
  · simp only [f32Log, hbe, hbm, h0, Nat.zero_ne_add_one, if_false, ne_eq, not_true, if_pos hz]
  · have hpos : m ≠ 0 := Nat.ne_of_gt (lt_of_lt_of_le (Nat.two_pow_pos k) hk)
    have hlog : Nat.log2 m = k := (Nat.log2_eq_iff hpos).mpr ⟨hk, hk1⟩
    have hz : ¬ (m = 0 ∨ level = 0) := by omega
    simp only [f32Log, hbe, hbm, h0, ne_eq, not_true, if_false, if_neg hz, hlog]
    rfl

end Sys2Proof.Machine

/-! Proofs about the release of a collective among the other waits of its wave (R26, R134). -/
namespace Sys2Proof.Machine
open Sys2Proof.Safety

/-! ## What the release of waits can do to a wave -/

/-- A wave in which some waits have ended: nothing of a fibre that decides who is released where has changed but for those. -/
structure Wave.Eased (W X : Wave) : Prop where
  wait : ∀ f, (X.fib f).wait = (W.fib f).wait ∨ (X.fib f).wait = .none
  st : ∀ f, (X.fib f).st = (W.fib f).st
  facet : ∀ f, (X.fib f).facet.isSome = (W.fib f).facet.isSome
  masks : X.masks = W.masks

theorem Wave.Eased.refl (W : Wave) : W.Eased W := ⟨fun _ => .inl rfl, fun _ => rfl, fun _ => rfl, rfl⟩

theorem Wave.Eased.trans {W X Y : Wave} (h : W.Eased X) (k : X.Eased Y) : W.Eased Y where
  wait f := by
    rcases k.wait f with hk | hk
    · rw [hk]; exact h.wait f
    · exact .inr hk
  st f := (k.st f).trans (h.st f)
  facet f := (k.facet f).trans (h.facet f)
  masks := k.masks.trans h.masks

theorem Wave.Eased.foldl {β : Type} {step : Wave → β → Wave} {l : List β} (h : ∀ X : Wave, ∀ b ∈ l, X.Eased (step X b)) (X : Wave) :
    X.Eased (l.foldl step X) := by
  induction l generalizing X with
  | nil => exact .refl X
  | cons b l ih =>
    exact (h X b List.mem_cons_self).trans (ih (fun Y c hc => h Y c (List.mem_cons_of_mem _ hc)) _)

theorem Wave.Eased.isLive {W X : Wave} (h : W.Eased X) (f : Nat) : (X.fib f).isLive = (W.fib f).isLive := by
  rw [Fibre.isLive, h.st, Fibre.isLive]

theorem Wave.Eased.live {W X : Wave} (h : W.Eased X) : X.live = W.live := List.filter_congr fun f _ => h.isLive f

theorem Wave.Eased.mask {W X : Wave} (h : W.Eased X) (m : Nat) : X.mask m = W.mask m := by
  rw [Wave.mask, Wave.mask, h.live, h.masks]

theorem Wave.Eased.members {W X : Wave} (h : W.Eased X) (m : Nat) : X.members m = W.members m := by
  rw [Wave.members, Wave.members, h.mask]
  exact List.filter_congr fun f _ => h.isLive f

/-- A wait that has not ended is the one that was begun. -/
theorem Wave.Eased.wait_eq {W X : Wave} (h : W.Eased X) {f : Nat} (hne : (X.fib f).wait ≠ .none) : (X.fib f).wait = (W.fib f).wait :=
  (h.wait f).resolve_right hne

/-- Registers, predicates and flags written, and a wait ended, ease a wave. -/
theorem Wave.eased_of_still {X Y : Wave} {f : Nat} (hf : (Y.fib f).still = { (X.fib f).still with wait := .none })
    (hne : ∀ h, h ≠ f → Y.fib h = X.fib h) (hs : Y.shell = X.shell) : X.Eased Y where
  wait h := by
    by_cases hh : h = f
    · subst hh; exact .inr (congrArg Fibre.wait hf :)
    · rw [hne h hh]; exact .inl rfl
  st h := by
    by_cases hh : h = f
    · subst hh; exact (congrArg Fibre.st hf :)
    · rw [hne h hh]
  facet h := by
    by_cases hh : h = f
    · subst hh
      have := congrArg (fun F : Fibre => F.facet.isSome) hf
      simpa [Fibre.still] using this
    · rw [hne h hh]
  masks := (congrArg Wave.masks hs :)

/-- A fibre's wait ended. -/
def Wave.unwait (X : Wave) (f : Nat) : Wave := X.modFib f fun F => { F with wait := .none }

theorem Wave.eased_unwait (X : Wave) (f : Nat) : X.Eased (X.unwait f) :=
  Wave.eased_of_still (f := f) (by rw [Wave.unwait, Wave.fib_modFib]; rfl) (fun h hh => Wave.fib_modFib_ne _ _ _ _ hh) rfl

theorem Wave.get_of_fib {V W : Wave} {f : Nat} (hf : V.fib f = W.fib f) {d : DReg} (hd : d.isK = false) : V.get f d = W.get f d := by
  cases d with
  | k n => cases hd
  | v i => simp only [Wave.get, hf]
  | fv n => simp only [Wave.get, hf]
  | fk n => simp only [Wave.get, hf]

/-! ## One arrival served -/

/-- An arrival is given its result, if its guard is true, and its wait ends. -/
def Wave.giveColl (X : Wave) (r : List Tagged × Option (Nat × Bool)) (a : Arrival) : Wave :=
  (if a.guard then
    match r.2 with
    | some (pd, b) => (X.putAll a.fib a.dst r.1).modFib a.fib fun F => F.setPred pd b
    | none => X.putAll a.fib a.dst r.1
  else X).unwait a.fib

theorem Wave.releaseColl_eq (W : Wave) (level mask : Nat) (at_ : Addr) (facet : Bool) : W.releaseColl level mask at_ facet =
    (W.arrivals mask at_ facet).foldl (fun X a => X.giveColl (collResult
      ((W.arrivals mask at_ facet).filter fun a => (W.members mask).contains a.fib) (W.arrivals mask at_ facet) level a) a) W := rfl

theorem Wave.giveColl_of_guard_false (X : Wave) (r : List Tagged × Option (Nat × Bool)) {a : Arrival} (h : a.guard = false) :
    X.giveColl r a = X.unwait a.fib := by
  rw [Wave.giveColl, h, if_neg Bool.false_ne_true]

/-- The predicate of a result written. -/
def Fibre.givePred (F : Fibre) : Option (Nat × Bool) → Fibre
  | some (pd, b) => F.setPred pd b
  | none => F

theorem Fibre.still_givePred (F : Fibre) (r : Option (Nat × Bool)) : (F.givePred r).still = F.still := by
  cases r with
  | none => rfl
  | some x => exact F.still_setPred _ _

theorem Fibre.file_givePred (F : Fibre) (r : Option (Nat × Bool)) : (F.givePred r).file = F.file := by
  cases r with
  | none => rfl
  | some x => exact F.file_setPred _ _

/-- The fibre of an arrival served with its guard true: the registers written, the predicate, and the wait ended. -/
theorem Wave.fib_giveColl (X : Wave) (r : List Tagged × Option (Nat × Bool)) {a : Arrival} (h : a.guard = true) :
    (X.giveColl r a).fib a.fib = { ((X.putAll a.fib a.dst r.1).fib a.fib).givePred r.2 with wait := .none } := by
  rw [Wave.giveColl, if_pos h, Wave.unwait, Wave.fib_modFib]
  cases r.2 with
  | none => rfl
  | some x => simp only [Wave.fib_modFib]; rfl

theorem Wave.fib_giveColl_ne (X : Wave) (r : List Tagged × Option (Nat × Bool)) {a : Arrival} {h : Nat} (hne : h ≠ a.fib) :
    (X.giveColl r a).fib h = X.fib h := by
  rw [Wave.giveColl, Wave.unwait, Wave.fib_modFib_ne _ _ _ _ hne]
  split
  · split
    · rw [Wave.fib_modFib_ne _ _ _ _ hne, Wave.fib_putAll_ne _ _ _ hne]
    · exact Wave.fib_putAll_ne _ _ _ hne
  · rfl

theorem Wave.shell_giveColl (X : Wave) (r : List Tagged × Option (Nat × Bool)) (a : Arrival) : (X.giveColl r a).shell = X.shell := by
  have hput := X.shell_putAll a.fib a.dst r.1
  rw [Wave.giveColl]
  split
  · split
    · exact hput
    · exact hput
  · rfl

theorem Wave.eased_giveColl (X : Wave) (r : List Tagged × Option (Nat × Bool)) (a : Arrival) : X.Eased (X.giveColl r a) := by
  refine Wave.eased_of_still (f := a.fib) ?_ (fun h hne => X.fib_giveColl_ne r hne) (X.shell_giveColl r a)
  have hput : ((X.putAll a.fib a.dst r.1).fib a.fib).still = (X.fib a.fib).still := Fibre.still_of_bare (X.bare_putAll _ _ _ _)
  cases hg : a.guard with
  | false => rw [X.giveColl_of_guard_false r hg, Wave.unwait, Wave.fib_modFib]; rfl
  | true =>
    have hpred := (Fibre.still_givePred ((X.putAll a.fib a.dst r.1).fib a.fib) r.2).trans hput
    rw [X.fib_giveColl r hg, ← hpred]
    rfl

/-- What an arrival with its guard true reads after it is served: what the writes leave. -/
theorem Wave.get_giveColl (X : Wave) (r : List Tagged × Option (Nat × Bool)) {a : Arrival} (h : a.guard = true) (d : DReg) :
    (X.giveColl r a).get a.fib d = (X.putAll a.fib a.dst r.1).get a.fib d := by
  refine Wave.get_eq_of_file ?_ ?_ d
  · rw [Wave.giveColl, if_pos h]
    cases r.2 <;> rfl
  · rw [X.fib_giveColl r h]
    exact Fibre.file_givePred _ _

/-- A K register that an arrival does not write stays. -/
theorem Wave.get_k_giveColl (X : Wave) (r : List Tagged × Option (Nat × Bool)) {a : Arrival} {i : Nat}
    (h : a.guard = true → .k i ∉ a.dst) (f g : Nat) : (X.giveColl r a).get f (.k i) = X.get g (.k i) := by
  have hks : tabVal zeroReg (X.giveColl r a).ks i = tabVal zeroReg X.ks i := by
    cases hg : a.guard with
    | false => rw [X.giveColl_of_guard_false r hg]; rfl
    | true =>
      have := (X.get_giveColl r hg (.k i)).trans (X.get_putAll_of_not_mem (g := a.fib) r.1 (.inl (h hg)))
      exact this
  exact hks

/-! ## The arrivals at a collective -/

/-- A fibre's arrival at a collective, if it waits there. -/
def Wave.arrival? (W : Wave) (mask : Nat) (at_ : Addr) (facet : Bool) (f : Nat) : Option Arrival :=
  match (W.fib f).wait with
  | .coll c m a g srcs src dst =>
    if m = mask ∧ a = at_ ∧ (W.fib f).facet.isSome = facet then some ⟨f, c, g, srcs, src, dst⟩ else none
  | _ => none

section
variable {W X : Wave} {mask : Nat} {at_ : Addr} {facet : Bool}

theorem Wave.arrivals_eq : W.arrivals mask at_ facet = W.live.filterMap (W.arrival? mask at_ facet) := rfl

theorem Wave.arrival?_eq_some {f : Nat} {a : Arrival} : W.arrival? mask at_ facet f = some a ↔
    a.fib = f ∧ (W.fib f).wait = .coll a.coll mask at_ a.guard a.srcs a.src a.dst ∧ (W.fib f).facet.isSome = facet := by
  unfold Wave.arrival?
  constructor
  · intro h
    split at h
    · next c m b g srcs src dst hw =>
      split at h
      · next hk =>
        obtain ⟨rfl, rfl, hfa⟩ := hk
        cases h
        exact ⟨rfl, hw, hfa⟩
      · cases h
    · cases h
  · rintro ⟨rfl, hw, hfa⟩
    simp only [hw, hfa, and_self, if_true]

theorem Wave.mem_arrivals {a : Arrival} : a ∈ W.arrivals mask at_ facet ↔
    a.fib ∈ W.live ∧ (W.fib a.fib).wait = .coll a.coll mask at_ a.guard a.srcs a.src a.dst ∧ (W.fib a.fib).facet.isSome = facet := by
  rw [Wave.arrivals_eq, List.mem_filterMap]
  constructor
  · rintro ⟨f, hf, h⟩
    obtain ⟨rfl, hw, hfa⟩ := Wave.arrival?_eq_some.mp h
    exact ⟨hf, hw, hfa⟩
  · rintro ⟨hf, hw, hfa⟩
    exact ⟨a.fib, hf, Wave.arrival?_eq_some.mpr ⟨rfl, hw, hfa⟩⟩

/-- Arrivals stand in the order of their fibres. -/
theorem Wave.arrivals_sorted : (W.arrivals mask at_ facet).Pairwise fun a b => a.fib < b.fib := by
  refine List.Pairwise.filterMap _ (R := (· < ·)) (fun f g hfg a ha b hb => ?_) (pairwise_lt_fibres _)
  rw [(Wave.arrival?_eq_some.mp ha).1, (Wave.arrival?_eq_some.mp hb).1]
  exact hfg

/-- The arrivals at a collective, as other waits of the wave end. -/
theorem Wave.arrivals_of_eased (h : W.Eased X) (hsame : ∀ a ∈ W.arrivals mask at_ facet, (X.fib a.fib).wait ≠ .none) :
    X.arrivals mask at_ facet = W.arrivals mask at_ facet := by
  rw [Wave.arrivals_eq, Wave.arrivals_eq, h.live]
  refine List.filterMap_congr fun f hf => ?_
  rcases h.wait f with hw | hw
  · rw [Wave.arrival?, Wave.arrival?, hw, h.facet]
  · have hX : X.arrival? mask at_ facet f = none := by rw [Wave.arrival?, hw]
    cases hW : W.arrival? mask at_ facet f with
    | none => exact hX
    | some a =>
      have hfib := (Wave.arrival?_eq_some.mp hW).1
      exact absurd (hfib ▸ hw) (hsame a (List.mem_filterMap.mpr ⟨f, hf, hW⟩))

end

end Sys2Proof.Machine

/-! Proofs about the release of a collective in the course of a core cycle's releases (R26, R133, R134). -/
namespace Sys2Proof.Machine
open Sys2Proof.Safety

/-! ## A collective released -/

section
variable (X : Wave) (level mask : Nat) (at_ : Addr) (facet : Bool)

theorem Wave.eased_releaseColl : X.Eased (X.releaseColl level mask at_ facet) := by
  rw [Wave.releaseColl_eq]
  exact Wave.Eased.foldl (fun Y a _ => Y.eased_giveColl _ a) X

theorem Wave.fib_releaseColl_ne {h : Nat} (hne : ∀ a ∈ X.arrivals mask at_ facet, h ≠ a.fib) :
    (X.releaseColl level mask at_ facet).fib h = X.fib h := by
  rw [Wave.releaseColl_eq]
  exact foldl_keeps (fun Y : Wave => Y.fib h) (fun Y a ha => Y.fib_giveColl_ne _ (hne a ha)) X

/-- A K register that no arrival writes stays as a collective is released. -/
theorem Wave.get_k_releaseColl {i : Nat} (f : Nat) (h : ∀ a ∈ X.arrivals mask at_ facet, a.guard = true → .k i ∉ a.dst) :
    (X.releaseColl level mask at_ facet).get f (.k i) = X.get f (.k i) := by
  rw [Wave.releaseColl_eq]
  exact foldl_keeps (fun Y : Wave => Y.get f (.k i)) (fun Y a ha => Y.get_k_giveColl _ (h a ha) f f) X

end

/-- Every arrival's wait is over once the collective is released. -/
theorem Wave.wait_releaseColl {X : Wave} (level : Nat) {mask : Nat} {at_ : Addr} {facet : Bool} {a : Arrival}
    (ha : a ∈ X.arrivals mask at_ facet) : ((X.releaseColl level mask at_ facet).fib a.fib).wait = .none := by
  rw [Wave.releaseColl_eq]
  refine foldl_establishes (q := fun (a : Arrival) Y => (Wave.fib Y a.fib).wait = .none) (fun Y a => ?_) (fun Y b c hc => ?_) ha X
  · rw [Wave.giveColl, Wave.unwait, Wave.fib_modFib]
  · rcases (Y.eased_giveColl _ b).wait c.fib with h | h
    · rw [h]; exact hc
    · exact h

/-! ## The waits of one wave tested -/

/-- A test of a fibre's mask wait lets nothing go, or the waiters on a mask, or the arrivals at a collective. -/
theorem State.testMask_cases (s : State) (G : Group) (X : Wave) (f : Nat) : s.testMask G X f = X ∨
    (∃ l : List Nat, s.testMask G X f = l.foldl Wave.unwait X ∧ ∀ h ∈ l, ∃ m a, (X.fib h).wait = .mwaitm m a) ∨
    (∃ c m a g srcs src dst, (X.fib f).wait = .coll c m a g srcs src dst ∧
      X.covered m ((X.arrivals m a (X.fib f).facet.isSome).map (·.fib)) = true ∧
      s.testMask G X f = X.releaseColl (s.levelOf G (X.fib f)) m a (X.fib f).facet.isSome) := by
  unfold State.testMask
  split
  · next m a hw =>
    simp only
    split
    · refine .inr (.inl ⟨X.maskWaiters m a, rfl, fun h hh => ⟨m, a, ?_⟩⟩)
      simpa using (List.mem_filter.mp hh).2
    · exact .inl rfl
  · next c m a g srcs src dst hw =>
    simp only
    split
    · next hcov => exact .inr (.inr ⟨c, m, a, g, srcs, src, dst, hw, hcov, rfl⟩)
    · exact .inl rfl
  · exact .inl rfl

theorem State.testMask_of_coll {s : State} {G : Group} {X : Wave} {f m : Nat} {c : Collective} {a : Addr} {g src : Bool}
    {srcs : List Tagged} {dst : List DReg} (hw : (X.fib f).wait = .coll c m a g srcs src dst)
    (hcov : X.covered m ((X.arrivals m a (X.fib f).facet.isSome).map (·.fib)) = true) :
    s.testMask G X f = X.releaseColl (s.levelOf G (X.fib f)) m a (X.fib f).facet.isSome := by
  unfold State.testMask
  simp only [hw, hcov, if_true]

theorem Wave.fib_foldl_unwait_of_not_mem {l : List Nat} {h : Nat} (hh : h ∉ l) (X : Wave) : (l.foldl Wave.unwait X).fib h = X.fib h :=
  foldl_keeps (fun Y : Wave => Y.fib h) (fun _ _ hf => Wave.fib_modFib_ne _ _ _ _ fun e => hh (e ▸ hf)) X

theorem Wave.ks_foldl_unwait (l : List Nat) (X : Wave) : (l.foldl Wave.unwait X).ks = X.ks :=
  foldl_keeps Wave.ks (f := Wave.unwait) (fun _ _ _ => rfl) X

theorem State.eased_testMask (s : State) (G : Group) (X : Wave) (f : Nat) : X.Eased (s.testMask G X f) := by
  rcases s.testMask_cases G X f with h | ⟨l, h, -⟩ | ⟨c, m, a, g, srcs, src, dst, -, -, h⟩ <;> rw [h]
  · exact .refl X
  · exact Wave.Eased.foldl (fun Y f _ => Y.eased_unwait f) X
  · exact X.eased_releaseColl _ _ _ _

/-- A fibre that waits for nothing is left alone. -/
theorem State.fib_testMask_of_none {s : State} {G : Group} {X : Wave} {f h : Nat} (hh : (X.fib h).wait = .none) :
    (s.testMask G X f).fib h = X.fib h := by
  rcases s.testMask_cases G X f with he | ⟨l, he, hl⟩ | ⟨c, m, a, g, srcs, src, dst, -, -, he⟩ <;> rw [he]
  · refine Wave.fib_foldl_unwait_of_not_mem (fun hm => ?_) X
    obtain ⟨m, a, hw⟩ := hl h hm
    rw [hh] at hw
    cases hw
  · refine X.fib_releaseColl_ne _ _ _ _ fun b hb e => ?_
    have hw := (Wave.mem_arrivals.mp hb).2.1
    rw [← e, hh] at hw
    cases hw

/-- The fibres that leave a wait by themselves wait for no mask, no collective, and for something. -/
theorem State.waitOver_cases {s : State} {G : Group} {X : Wave} {f : Nat} (h : (s.waitOver G X f).1 = true) :
    (X.fib f).wait ≠ .none ∧ ∀ c m a g srcs src dst, (X.fib f).wait ≠ .coll c m a g srcs src dst := by
  constructor
  · intro hw
    simp only [State.waitOver, hw] at h
    cases h
  · intro c m a g srcs src dst hw
    simp only [State.waitOver, hw] at h
    cases h

/-- A fibre that leaves its wait: TWANY's destination is written. -/
theorem Wave.leaveWait_cases (X : Wave) (G : Group) (f : Nat) : X.leaveWait G f = X.unwait f ∨
    ∃ mask dst ts, (X.fib f).wait = .twany mask dst ∧ X.leaveWait G f = (X.putAll f dst ts).unwait f := by
  unfold Wave.leaveWait
  simp only
  split
  · next mask dst hw => exact .inr ⟨mask, dst, _, hw, rfl⟩
  · exact .inl rfl

theorem Wave.fib_leaveWait_ne (X : Wave) (G : Group) {f h : Nat} (hne : h ≠ f) : (X.leaveWait G f).fib h = X.fib h := by
  rcases X.leaveWait_cases G f with he | ⟨mask, dst, ts, -, he⟩ <;> rw [he, Wave.unwait, Wave.fib_modFib_ne _ _ _ _ hne]
  exact X.fib_putAll_ne _ _ hne

theorem Wave.eased_leaveWait (X : Wave) (G : Group) (f : Nat) : X.Eased (X.leaveWait G f) := by
  refine Wave.eased_of_still (f := f) ?_ (fun h hne => X.fib_leaveWait_ne G hne) ?_
  · rcases X.leaveWait_cases G f with he | ⟨mask, dst, ts, -, he⟩ <;> rw [he, Wave.unwait, Wave.fib_modFib]
    · rfl
    · rw [← Fibre.still_of_bare (X.bare_putAll f f dst ts)]
      rfl
  · rcases X.leaveWait_cases G f with he | ⟨mask, dst, ts, -, he⟩ <;> rw [he]
    · rfl
    · exact X.shell_putAll f dst ts

/-- A K register that is not the destination of the fibre's wait stays. -/
theorem Wave.get_k_leaveWait {X : Wave} {G : Group} {f i : Nat} (h : ∀ mask dst, (X.fib f).wait = .twany mask dst → .k i ∉ dst) (g : Nat) :
    (X.leaveWait G f).get g (.k i) = X.get g (.k i) := by
  rcases X.leaveWait_cases G f with he | ⟨mask, dst, ts, hw, he⟩ <;> rw [he]
  · rfl
  · exact X.get_putAll_of_not_mem (g := g) ts (.inl (h mask dst hw))

/-! ## Before and after the release of one collective -/

section
variable (s : State) (G : Group) (W : Wave) (m : Nat) (at_ : Addr) (facet : Bool) (x : Arrival) (r : List Tagged × Option (Nat × Bool))

/-- Nobody of the collective has been let go. -/
structure Wave.Before (X : Wave) : Prop where
  eased : W.Eased X
  same : ∀ a ∈ W.arrivals m at_ facet, X.fib a.fib = W.fib a.fib

/-- No fibre that is let go after the arrival writes the K register. -/
structure Wave.LastTo (i : Nat) : Prop where
  coll : ∀ h ∈ W.live, x.fib < h ∨ h ∉ (W.arrivals m at_ facet).map (·.fib) → ∀ c n a gd ss b d,
    (W.fib h).wait = .coll c n a gd ss b d → gd = true → .k i ∉ d
  twany : ∀ h ∈ W.live, ∀ n d, (W.fib h).wait = .twany n d → .k i ∉ d

/-- All of the collective have been let go, and the arrival has its result. -/
structure Wave.After (X : Wave) : Prop where
  eased : W.Eased X
  ended : ∀ a ∈ W.arrivals m at_ facet, (X.fib a.fib).wait = .none
  given : ∃ U : Wave, U.fib x.fib = W.fib x.fib ∧ X.fib x.fib = (U.giveColl r x).fib x.fib
  kreg : ∀ i t rest, x.guard = true → x.dst = [.k i] → r.1 = t :: rest → W.LastTo m at_ facet x i → X.get x.fib (.k i) = t

end

section
variable {s : State} {G : Group} {W X : Wave} {m level : Nat} {at_ : Addr} {facet : Bool} {x : Arrival}
  {r : List Tagged × Option (Nat × Bool)}

theorem Wave.Before.refl (W : Wave) : W.Before m at_ facet W := ⟨.refl W, fun _ _ => rfl⟩

theorem Wave.Before.arrivals_eq (h : W.Before m at_ facet X) : X.arrivals m at_ facet = W.arrivals m at_ facet := by
  refine Wave.arrivals_of_eased h.eased fun a ha hw => ?_
  rw [h.same a ha, (Wave.mem_arrivals.mp ha).2.1] at hw
  cases hw

theorem Wave.Before.covered_eq (h : W.Before m at_ facet X) (l : List Nat) : X.covered m l = W.covered m l := by
  rw [Wave.covered, Wave.covered, h.eased.members]

/-- The results of the collective, from the arrivals that its mask names. -/
def Wave.collResults (W : Wave) (m : Nat) (at_ : Addr) (facet : Bool) (level : Nat) (a : Arrival) : List Tagged × Option (Nat × Bool) :=
  collResult ((W.arrivals m at_ facet).filter fun a => (W.members m).contains a.fib) (W.arrivals m at_ facet) level a

/-- The release of the collective gives the arrival its result, whatever has been released before. -/
theorem Wave.Before.release (h : W.Before m at_ facet X) (hx : x ∈ W.arrivals m at_ facet) :
    W.After m at_ facet x (W.collResults m at_ facet level x) (X.releaseColl level m at_ facet) := by
  have hrel : X.releaseColl level m at_ facet =
      (W.arrivals m at_ facet).foldl (fun Y a => Y.giveColl (W.collResults m at_ facet level a) a) X := by
    rw [Wave.releaseColl_eq, h.arrivals_eq, h.eased.members]
    rfl
  obtain ⟨l1, l2, hl⟩ := List.append_of_mem hx
  have hsorted := Wave.arrivals_sorted (W := W) (mask := m) (at_ := at_) (facet := facet)
  rw [hl, List.pairwise_append, List.pairwise_cons] at hsorted
  obtain ⟨-, ⟨hlt2, -⟩, hlt1⟩ := hsorted
  have hlt1 : ∀ a ∈ l1, a.fib < x.fib := fun a ha => hlt1 a ha x List.mem_cons_self
  generalize hU : l1.foldl (fun Y a => Y.giveColl (W.collResults m at_ facet level a) a) X = U
  have hUx : U.fib x.fib = X.fib x.fib := by
    rw [← hU]
    exact foldl_keeps (fun Y : Wave => Y.fib x.fib) (fun Y a ha => Y.fib_giveColl_ne _ (Nat.ne_of_gt (hlt1 a ha))) X
  have hend : X.releaseColl level m at_ facet = l2.foldl (fun Y a => Y.giveColl (W.collResults m at_ facet level a) a)
      (U.giveColl (W.collResults m at_ facet level x) x) := by
    rw [hrel, hl, List.foldl_append, List.foldl_cons, hU]
  refine ⟨h.eased.trans (X.eased_releaseColl _ _ _ _), fun a ha => Wave.wait_releaseColl level (h.arrivals_eq ▸ ha),
    ⟨U, hUx.trans (h.same x hx), ?_⟩, fun i t rest hg hd hr hlast => ?_⟩
  · rw [hend]
    exact foldl_keeps (fun Y : Wave => Y.fib x.fib) (fun Y a ha => Y.fib_giveColl_ne _ (Nat.ne_of_lt (hlt2 a ha))) _
  · have hgiven : (U.giveColl (W.collResults m at_ facet level x) x).get x.fib (.k i) = t := by
      rw [U.get_giveColl _ hg, hd, hr]
      exact Wave.get_putAll_getElem (k := 0) (List.nodup_singleton _) rfl rfl trivial
    rw [hend, ← hgiven]
    refine foldl_keeps (fun Y : Wave => Y.get x.fib (.k i)) (fun Y a ha => Y.get_k_giveColl _ (fun hag => ?_) _ _) _
    have ham : a ∈ W.arrivals m at_ facet := hl ▸ List.mem_append_right _ (List.mem_cons_of_mem _ ha)
    obtain ⟨hlive, hw, -⟩ := Wave.mem_arrivals.mp ham
    exact hlast.coll a.fib hlive (.inl (hlt2 a ha)) _ _ _ _ _ _ _ hw hag

/-- A test before the release leaves the collective alone, or releases it as all its members have arrived. -/
theorem Wave.Before.testMask (h : W.Before m at_ facet X) (hx : x ∈ W.arrivals m at_ facet)
    (hlev : ∀ a ∈ W.arrivals m at_ facet, s.levelOf G (W.fib a.fib) = level) {f : Nat} (hf : f ∈ W.live) :
    W.Before m at_ facet (s.testMask G X f) ∨ (W.covered m ((W.arrivals m at_ facet).map (·.fib)) = true ∧
      W.After m at_ facet x (W.collResults m at_ facet level x) (s.testMask G X f)) := by
  have heased := h.eased.trans (s.eased_testMask G X f)
  rcases s.testMask_cases G X f with he | ⟨l, he, hl⟩ | ⟨c, m', a', g, srcs, src, dst, hw, hcov, he⟩
  · exact .inl (by rw [he]; exact h)
  · refine .inl ⟨heased, fun a ha => ?_⟩
    rw [he, Wave.fib_foldl_unwait_of_not_mem (fun hm => ?_), h.same a ha]
    obtain ⟨m', a', hw⟩ := hl a.fib hm
    rw [h.same a ha, (Wave.mem_arrivals.mp ha).2.1] at hw
    cases hw
  · by_cases hk : m' = m ∧ a' = at_ ∧ (X.fib f).facet.isSome = facet
    · obtain ⟨rfl, rfl, hfa⟩ := hk
      rw [hfa, h.arrivals_eq, h.covered_eq] at hcov
      have hfm : (⟨f, c, g, srcs, src, dst⟩ : Arrival) ∈ W.arrivals m' a' facet := by
        rw [← h.arrivals_eq]
        exact Wave.mem_arrivals.mpr ⟨h.eased.live ▸ hf, hw, hfa⟩
      have hsame : X.fib f = W.fib f := h.same _ hfm
      refine .inr ⟨hcov, ?_⟩
      rw [he, hfa, hsame, show s.levelOf G (W.fib f) = level from hlev _ hfm]
      exact h.release hx
    · refine .inl ⟨heased, fun a ha => ?_⟩
      rw [he, X.fib_releaseColl_ne _ _ _ _ (fun b hb e => ?_), h.same a ha]
      obtain ⟨-, hbw, hbf⟩ := Wave.mem_arrivals.mp hb
      obtain ⟨-, haw, haf⟩ := Wave.mem_arrivals.mp ha
      rw [← e, h.same a ha] at hbw hbf
      rw [haw] at hbw
      injection hbw with _ hm ha'
      exact hk ⟨hm.symm, ha'.symm, hbf.symm.trans haf⟩

/-- The test of the arrival itself releases the collective, if all its members have arrived. -/
theorem Wave.Before.testMask_self (h : W.Before m at_ facet X) (hx : x ∈ W.arrivals m at_ facet)
    (hlev : ∀ a ∈ W.arrivals m at_ facet, s.levelOf G (W.fib a.fib) = level)
    (hcov : W.covered m ((W.arrivals m at_ facet).map (·.fib)) = true) :
    W.After m at_ facet x (W.collResults m at_ facet level x) (s.testMask G X x.fib) := by
  obtain ⟨-, hw, hfa⟩ := Wave.mem_arrivals.mp hx
  have hsame := h.same x hx
  rw [← hsame] at hw hfa
  have hcovX : X.covered m ((X.arrivals m at_ (X.fib x.fib).facet.isSome).map (·.fib)) = true := by
    rw [hfa, h.arrivals_eq, h.covered_eq, hcov]
  rw [State.testMask_of_coll hw hcovX, hfa, hsame, hlev x hx]
  exact h.release hx

/-- A test after the release leaves the arrival and its result. -/
theorem Wave.After.testMask (h : W.After m at_ facet x r X) (hx : x ∈ W.arrivals m at_ facet) (f : Nat) :
    W.After m at_ facet x r (s.testMask G X f) := by
  obtain ⟨U, hU, hUx⟩ := h.given
  refine ⟨h.eased.trans (s.eased_testMask G X f), fun a ha => ?_, ⟨U, hU, ?_⟩, fun i t rest hg hd hr hlast => ?_⟩
  · rw [State.fib_testMask_of_none (h.ended a ha), h.ended a ha]
  · rw [State.fib_testMask_of_none (h.ended x hx), hUx]
  · rw [← h.kreg i t rest hg hd hr hlast]
    rcases s.testMask_cases G X f with he | ⟨l, he, -⟩ | ⟨c, m', a', g, srcs, src, dst, -, -, he⟩ <;> rw [he]
    · rw [Wave.get, Wave.get, Wave.ks_foldl_unwait]
    · refine X.get_k_releaseColl _ _ _ _ x.fib fun b hb hbg => ?_
      obtain ⟨hlive, hw, -⟩ := Wave.mem_arrivals.mp hb
      have hwW := h.eased.wait_eq (f := b.fib) (by rw [hw]; exact Wait.noConfusion)
      rw [hw] at hwW
      refine hlast.coll b.fib (h.eased.live ▸ hlive) (.inr fun hm => ?_) _ _ _ _ _ _ _ hwW.symm hbg
      obtain ⟨a, ha, hab⟩ := List.mem_map.mp hm
      have := h.ended a ha
      rw [hab, hw] at this
      cases this

/-- A fibre outside the collective that leaves its wait leaves the arrival and its result. -/
theorem Wave.After.leaveWait (h : W.After m at_ facet x r X) (hx : x ∈ W.arrivals m at_ facet) {f : Nat} (hf : f ∈ W.live)
    (hne : ∀ a ∈ W.arrivals m at_ facet, a.fib ≠ f) : W.After m at_ facet x r (X.leaveWait G f) := by
  obtain ⟨U, hU, hUx⟩ := h.given
  refine ⟨h.eased.trans (X.eased_leaveWait G f), fun a ha => ?_, ⟨U, hU, ?_⟩, fun i t rest hg hd hr hlast => ?_⟩
  · rw [X.fib_leaveWait_ne G (hne a ha), h.ended a ha]
  · rw [X.fib_leaveWait_ne G (hne x hx), hUx]
  · rw [← h.kreg i t rest hg hd hr hlast]
    refine Wave.get_k_leaveWait (fun mask dst hw => ?_) _
    have hwW := h.eased.wait_eq (f := f) (by rw [hw]; exact Wait.noConfusion)
    exact hlast.twany f hf mask dst (hwW ▸ hw)

/-! ## All waits of the wave -/

theorem foldl_invariant {α β : Type} {p : α → Prop} {step : α → β → α} {l : List β} (h : ∀ a, ∀ b ∈ l, p a → p (step a b)) {a : α}
    (ha : p a) : p (l.foldl step a) := by
  induction l generalizing a with
  | nil => exact ha
  | cons b l ih => exact ih (fun a c hc => h a c (List.mem_cons_of_mem _ hc)) (h a b List.mem_cons_self ha)

/-- The waits on masks and the collectives of a wave tested. -/
def State.maskWaitsTested (s : State) (G : Group) (W : Wave) : Wave := W.live.foldl (s.testMask G) W

theorem Wave.after_maskWaitsTested (hx : x ∈ W.arrivals m at_ facet)
    (hlev : ∀ a ∈ W.arrivals m at_ facet, s.levelOf G (W.fib a.fib) = level)
    (hcov : W.covered m ((W.arrivals m at_ facet).map (·.fib)) = true) :
    W.After m at_ facet x (W.collResults m at_ facet level x) (s.maskWaitsTested G W) := by
  obtain ⟨l1, l2, hl⟩ := List.append_of_mem (Wave.mem_arrivals.mp hx).1
  have hmem : ∀ f ∈ l1, f ∈ W.live := fun f hf => hl ▸ List.mem_append_left _ hf
  have hfirst : W.Before m at_ facet (l1.foldl (s.testMask G) W) ∨
      W.After m at_ facet x (W.collResults m at_ facet level x) (l1.foldl (s.testMask G) W) := by
    refine foldl_invariant (p := fun X => W.Before m at_ facet X ∨ W.After m at_ facet x (W.collResults m at_ facet level x) X)
      (fun X f hf h => ?_) (.inl (.refl W))
    rcases h with h | h
    · exact (h.testMask hx hlev (hmem f hf)).imp_right And.right
    · exact .inr (h.testMask hx f)
  rw [State.maskWaitsTested, hl, List.foldl_append, List.foldl_cons]
  refine foldl_invariant (fun X f _ h => h.testMask hx f) ?_
  rcases hfirst with h | h
  · exact h.testMask_self hx hlev hcov
  · exact h.testMask hx _

theorem Wave.before_maskWaitsTested (hx : x ∈ W.arrivals m at_ facet)
    (hlev : ∀ a ∈ W.arrivals m at_ facet, s.levelOf G (W.fib a.fib) = level)
    (hcov : W.covered m ((W.arrivals m at_ facet).map (·.fib)) = false) : W.Before m at_ facet (s.maskWaitsTested G W) := by
  refine foldl_invariant (fun X f hf h => ?_) (.refl W)
  refine (h.testMask hx hlev hf).resolve_right fun hh => ?_
  rw [hcov] at hh
  cases hh.1

/-- The fibres of a wave whose own waits are over. -/
def State.endedWaits (s : State) (G : Group) (X : Wave) : List Nat := X.live.filter fun f => (s.waitOver G X f).1

/-- A wave whose fibres have left the waits that are over. -/
def State.waitsLeft (s : State) (G : Group) (X : Wave) : Wave := (s.endedWaits G X).foldl (fun Y f => Y.leaveWait G f) X

theorem Wave.After.waitsLeft (h : W.After m at_ facet x r X) (hx : x ∈ W.arrivals m at_ facet) :
    W.After m at_ facet x r (s.waitsLeft G X) := by
  refine foldl_invariant (fun Y f hf hY => hY.leaveWait hx ?_ fun a ha e => ?_) h
  · exact h.eased.live ▸ List.mem_of_mem_filter hf
  · exact (State.waitOver_cases (List.mem_filter.mp hf).2).1 (e ▸ h.ended a ha)

theorem Wave.Before.fib_waitsLeft (h : W.Before m at_ facet X) (hx : x ∈ W.arrivals m at_ facet) :
    (s.waitsLeft G X).fib x.fib = W.fib x.fib := by
  rw [← h.same x hx]
  refine foldl_keeps (fun Y : Wave => Y.fib x.fib) (fun Y f hf => Y.fib_leaveWait_ne G fun e => ?_) X
  have hw := (Wave.mem_arrivals.mp hx).2.1
  rw [← h.same x hx, e] at hw
  exact (State.waitOver_cases (List.mem_filter.mp hf).2).2 _ _ _ _ _ _ _ hw

/-- The wave after a release of its waits, where it runs on a core. -/
theorem State.wave_releaseWave {g w : Nat} {V : Wave} (hg : s.group g = some G) (hw : tabGet G.waves w = some W)
    (htest : testsMasks G W = true) (hcore : G.core?.isSome = true) (hwait : ∃ f ∈ W.live, (W.fib f).wait ≠ .none)
    (hV : (s.releaseWave g w).wave g w = some V) :
    V.fibres = (s.waitsLeft G (s.maskWaitsTested G W)).fibres ∧ V.ks = (s.waitsLeft G (s.maskWaitsTested G W)).ks := by
  have hwave : s.wave g w = some W := by rw [State.wave, hg, Option.bind_some, hw]
  have hnot : (G.core?.isNone || W.live.all fun f => (W.fib f).wait == .none) = false := by
    obtain ⟨f, hf, hne⟩ := hwait
    rw [List.all_eq_false.mpr ⟨f, hf, by simpa using hne⟩, Bool.or_false]
    cases hc : G.core? with
    | none => rw [hc] at hcore; cases hcore
    | some c => rfl
  have hset : ∀ (Y : Wave) (fs : List Nat), (s.modWave g w fun _ => Y.noteReleased fs).wave g w = some (Y.noteReleased fs) := by
    intro Y fs
    rw [State.wave_modWave_self, hwave, Option.map_some]
  simp only [State.releaseWave, hg, hwave, hnot, htest, Bool.false_eq_true, if_false, if_true] at hV
  split at hV
  · next c _ _ =>
    obtain ⟨Y, hY, hf, hk⟩ := State.wave_acquire c (hset _ _)
    cases hY.symm.trans hV
    exact ⟨hf, hk⟩
  · cases (hset _ _).symm.trans hV
    exact ⟨rfl, rfl⟩

end

end Sys2Proof.Machine

/-! Proofs about the results of collectives as a wave's waits are released (R26, R134, R135, R136, R177). -/
namespace Sys2Proof.Machine
open Sys2Proof.Safety

/-! ## Predicates written -/

theorem getLsbD_putPred_self {p : Nat} (hp : p < 7) (v : BitVec 8) (b : Bool) : (putPred v p b).getLsbD p = b := by
  have hbit : (BitVec.ofNat 8 (2 ^ p)).getLsbD p = true := by
    rw [BitVec.getLsbD_ofNat, Nat.testBit_two_pow_self, Bool.and_true, decide_eq_true_iff]
    omega
  rw [putPred, if_neg (by omega)]
  cases b with
  | true => rw [if_pos rfl, BitVec.getLsbD_or, hbit, Bool.or_true]
  | false => rw [if_neg Bool.false_ne_true, BitVec.getLsbD_and, BitVec.getLsbD_not, hbit, Bool.not_true, Bool.and_false, Bool.and_false]

theorem getLsbD_putPred_ne {p q : Nat} (h : p ≠ q) (v : BitVec 8) (b : Bool) : (putPred v q b).getLsbD p = v.getLsbD p := by
  have hbit : (BitVec.ofNat 8 (2 ^ q)).getLsbD p = false := by
    rw [BitVec.getLsbD_ofNat, Nat.testBit_two_pow_of_ne h.symm, Bool.and_false]
  unfold putPred
  split
  · rfl
  · cases b with
    | true => rw [if_pos rfl, BitVec.getLsbD_or, hbit, Bool.or_false]
    | false =>
      rw [if_neg Bool.false_ne_true, BitVec.getLsbD_and, BitVec.getLsbD_not, hbit, Bool.not_false, Bool.and_true]
      by_cases hp : p < 8
      · rw [decide_eq_true hp, Bool.and_true]
      · rw [BitVec.getLsbD_of_ge _ _ (Nat.not_lt.mp hp), Bool.false_and]

theorem Fibre.pred_setPred_self {p : Nat} (hp : p < 7) (F : Fibre) (b : Bool) : (F.setPred p b).pred p = b := by
  have h80 : (0x80 : BitVec 8).getLsbD p = false := by
    rw [show (0x80 : BitVec 8) = BitVec.ofNat 8 (2 ^ 7) from rfl, BitVec.getLsbD_ofNat, Nat.testBit_two_pow_of_ne (by omega), Bool.and_false]
  cases h : F.facet <;>
    simp only [Fibre.setPred, Fibre.pred, Fibre.curPreds, h, BitVec.getLsbD_or, getLsbD_putPred_self hp, h80, Bool.or_false]

theorem Fibre.pred_setPred_ne {p q : Nat} (hpq : p ≠ q) (F : Fibre) (b : Bool) : (F.setPred q b).pred p = F.pred p := by
  cases h : F.facet <;>
    simp only [Fibre.setPred, Fibre.pred, Fibre.curPreds, h, BitVec.getLsbD_or, getLsbD_putPred_ne hpq]

/-! ## What an arrival has when its collective has been released -/

section
variable {W X : Wave} {m : Nat} {at_ : Addr} {facet : Bool} {x : Arrival} {r : List Tagged × Option (Nat × Bool)}
  (h : W.After m at_ facet x r X)
include h

theorem Wave.After.fib_of_guard_false (hg : x.guard = false) : X.fib x.fib = { W.fib x.fib with wait := .none } := by
  obtain ⟨U, hU, hX⟩ := h.given
  rw [hX, U.giveColl_of_guard_false r hg, Wave.unwait, Wave.fib_modFib, hU]

theorem Wave.After.get_v (hg : x.guard = true) {i : Nat} {t : Tagged} {rest : List Tagged} (hd : x.dst = [.v i])
    (hi : i < (W.fib x.fib).alloc) (hr : r.1 = t :: rest) : X.get x.fib (.v i) = t := by
  obtain ⟨U, hU, hX⟩ := h.given
  rw [Wave.get_of_fib hX rfl, U.get_giveColl r hg, hd, hr]
  exact Wave.get_putAll_getElem (k := 0) (List.nodup_singleton _) rfl rfl (show i < (U.fib x.fib).alloc from hU ▸ hi)

theorem Wave.After.get_other (hg : x.guard = true) {d : DReg} (hk : d.isK = false) (hd : d ∉ x.dst) :
    X.get x.fib d = W.get x.fib d := by
  obtain ⟨U, hU, hX⟩ := h.given
  rw [Wave.get_of_fib hX hk, U.get_giveColl r hg, U.get_putAll_of_not_mem r.1 (.inl hd), Wave.get_of_fib hU hk]

/-- The predicates of the arrival: those of before, and the one of its result. -/
theorem Wave.After.pred_eq (hg : x.guard = true) (p : Nat) : ∃ F : Fibre, F.pred p = (W.fib x.fib).pred p ∧
    (X.fib x.fib).pred p = (F.givePred r.2).pred p := by
  obtain ⟨U, hU, hX⟩ := h.given
  refine ⟨(U.putAll x.fib x.dst r.1).fib x.fib, ?_, by rw [hX, U.fib_giveColl r hg]; rfl⟩
  rw [Fibre.pred, Fibre.curPreds_of_bare (U.bare_putAll _ _ _ _), hU, Fibre.pred]

theorem Wave.After.pred_written (hg : x.guard = true) {p : Nat} {v : Bool} (hp : p < 7) (hr : r.2 = some (p, v)) :
    (X.fib x.fib).pred p = v := by
  obtain ⟨F, -, hF⟩ := h.pred_eq hg p
  rw [hF, hr]
  exact F.pred_setPred_self hp v

theorem Wave.After.pred_other (hg : x.guard = true) {p : Nat} (hr : ∀ q v, r.2 = some (q, v) → p ≠ q) :
    (X.fib x.fib).pred p = (W.fib x.fib).pred p := by
  obtain ⟨F, hFW, hF⟩ := h.pred_eq hg p
  rw [hF, ← hFW]
  cases hr2 : r.2 with
  | none => rfl
  | some y => exact F.pred_setPred_ne (hr y.1 y.2 (by rw [hr2])) y.2

end

theorem Wave.covered_iff {W : Wave} {m : Nat} {l : List Nat} : W.covered m l = true ↔ ∀ f ∈ W.members m, f ∈ l := by
  simp [Wave.covered]

/-- A collective of a wave that runs, as the wave's waits are released. -/
theorem collective_released {s : State} {g w m level : Nat} {at_ : Addr} {facet : Bool} {G : Group} {W V : Wave} {x : Arrival}
    (hg : s.group g = some G) (hw : tabGet G.waves w = some W) (htest : testsMasks G W = true) (hcore : G.core?.isSome = true)
    (hx : x ∈ W.arrivals m at_ facet) (hlev : ∀ a ∈ W.arrivals m at_ facet, s.levelOf G (W.fib a.fib) = level)
    (hV : (s.releaseWave g w).wave g w = some V) :
    ((∀ f ∈ W.members m, f ∈ (W.arrivals m at_ facet).map (·.fib)) →
      ∃ X, W.After m at_ facet x (W.collResults m at_ facet level x) X ∧ V.fibres = X.fibres ∧ V.ks = X.ks) ∧
    ((∃ f ∈ W.members m, f ∉ (W.arrivals m at_ facet).map (·.fib)) → V.fib x.fib = W.fib x.fib) := by
  obtain ⟨hlive, hwait, -⟩ := Wave.mem_arrivals.mp hx
  obtain ⟨hf, hk⟩ := State.wave_releaseWave hg hw htest hcore ⟨x.fib, hlive, by rw [hwait]; exact Wait.noConfusion⟩ hV
  refine ⟨fun hall => ⟨_, (Wave.after_maskWaitsTested hx hlev (Wave.covered_iff.mpr hall)).waitsLeft hx, hf, hk⟩, fun hex => ?_⟩
  have hcov : W.covered m ((W.arrivals m at_ facet).map (·.fib)) = false := by
    obtain ⟨f, hfm, hfn⟩ := hex
    by_contra hc
    exact hfn (Wave.covered_iff.mp (Bool.not_eq_false _ ▸ hc) f hfm)
  rw [Wave.fib, hf]
  exact (Wave.before_maskWaitsTested hx hlev hcov).fib_waitsLeft hx

/-- Settles O23: results by kind, SCHIST's exponents, and the release of one collective among the wave's other waits. -/
theorem collectiveResults : Obligations.CollectiveResults := by
  refine ⟨fun present all level me => ⟨fun pd a h ha hf hu => collResult_shfl_present h ha hf hu,
    fun pd h hnone => collResult_shfl_absent h hnone, fun pd h => collResult_vote_all h, fun pd h => collResult_vote_any h,
    fun pd h => collResult_vote_uniform h, fun h => collResult_ballot h,
    fun xs b q mx h hxs hb hq hmx => collResult_schist h hxs hb hq hmx⟩, f32Log_spec, ?_⟩
  rintro s g w m level at_ facet G W V _ _ x hg hw htest hcore rfl hx hlev rfl hV
  obtain ⟨hreleased, hwaits⟩ := collective_released hg hw htest hcore hx hlev hV
  refine ⟨fun hall => ?_, hwaits⟩
  obtain ⟨X, hX, hf, hk⟩ := hreleased hall
  have hfib : V.fib x.fib = X.fib x.fib := by rw [Wave.fib, hf, Wave.fib]
  have hget : ∀ d, V.get x.fib d = X.get x.fib d := Wave.get_eq_of_file hk (by rw [hfib])
  rw [hfib]
  refine ⟨hX.ended x hx, fun hgd => ⟨fun i t rest hd hi hr => ?_, fun i t rest hd hr hcoll htw => ?_, fun d hdk hd => ?_,
    fun p v hp hr => hX.pred_written hgd hp hr, fun p hr => hX.pred_other hgd hr⟩, hX.fib_of_guard_false⟩
  · exact (hget _).trans (hX.get_v hgd hd hi hr)
  · exact (hget _).trans (hX.kreg i t rest hgd hd hr ⟨hcoll, htw⟩)
  · exact (hget d).trans (hX.get_other hgd hdk hd)

end Sys2Proof.Machine

/-! Proofs about the length of an instruction (R62). -/
namespace Sys2Proof.Machine
open Sys2Proof.Safety

/-! ## The length of an instruction (R62) -/

/-- Every opcode has two words, one word, or as many as its X bit says (R62, R73). -/
theorem hasTwoWords_eq (w0 : Nat) :
    hasTwoWords w0 = (twoWordOpcode (w0 / 2 ^ 24 % 2 ^ 8) || (xBitOpcode (w0 / 2 ^ 24 % 2 ^ 8) && w0 % 2 == 1)) := by
  simp only [hasTwoWords, field, Nat.pow_zero, Nat.div_one, Nat.pow_one]

theorem twoWordOpcode_iff (op : Nat) : twoWordOpcode op = true ↔
    op ∈ [0x16, 0x2F, 0x3E, 0x3F, 0x48, 0x4F, 0x5A, 0x90, 0xD1, 0xD2, 0xD5] ∨ (0x70 ≤ op ∧ op ≤ 0x77) ∨ (0x80 ≤ op ∧ op ≤ 0x84) ∨
      (0x88 ≤ op ∧ op ≤ 0x8F) ∨ (0xC0 ≤ op ∧ op ≤ 0xCD) := by
  simp only [twoWordOpcode, Bool.or_eq_true, Bool.and_eq_true, decide_eq_true_eq, beq_iff_eq, List.mem_cons, List.not_mem_nil, or_false]
  omega

theorem xBitOpcode_iff (op : Nat) : xBitOpcode op = true ↔ (0xA0 ≤ op ∧ op ≤ 0xB2) ∨ op = 0xCE ∨ op = 0xCF := by
  simp only [xBitOpcode, Bool.or_eq_true, Bool.and_eq_true, decide_eq_true_eq]
  omega

/-- Settles O4: the opcode alone decides, but for the formats whose X bit does. -/
theorem firstWordFixesTheLength : Obligations.FirstWordFixesTheLength := by
  refine ⟨fun w0 h => ?_, fun w0 h => ?_, fun w0 h => ?_, fun c => ?_⟩
  · have htwo : twoWordOpcode (w0 / 2 ^ 24 % 2 ^ 8) = true := by
      rw [twoWordOpcode_iff]
      generalize w0 / 2 ^ 24 % 2 ^ 8 = op at h
      simp only [List.mem_cons, List.not_mem_nil, or_false] at h ⊢
      omega
    rw [hasTwoWords_eq, htwo, Bool.true_or]
  · have hx : xBitOpcode (w0 / 2 ^ 24 % 2 ^ 8) = true := (xBitOpcode_iff _).mpr (by omega)
    have htwo : twoWordOpcode (w0 / 2 ^ 24 % 2 ^ 8) = false := by
      rw [← Bool.not_eq_true, twoWordOpcode_iff]
      generalize w0 / 2 ^ 24 % 2 ^ 8 = op at h
      simp only [List.mem_cons, List.not_mem_nil, or_false]
      omega
    rw [hasTwoWords_eq, htwo, hx, Bool.false_or, Bool.true_and, beq_iff_eq]
  · have hx : xBitOpcode (w0 / 2 ^ 24 % 2 ^ 8) = false := by
      rw [← Bool.not_eq_true, xBitOpcode_iff]
      omega
    have htwo : twoWordOpcode (w0 / 2 ^ 24 % 2 ^ 8) = false := by
      rw [← Bool.not_eq_true, twoWordOpcode_iff]
      generalize w0 / 2 ^ 24 % 2 ^ 8 = op at h
      simp only [List.mem_cons, List.not_mem_nil, or_false]
      omega
    rw [hasTwoWords_eq, htwo, hx, Bool.false_or, Bool.false_and]
  · rw [Issue.nextPc]
    rfl

end Sys2Proof.Machine

/-! Proofs about what arithmetic leaves in predicates and flags, and about its trap (R61, R113, R116). -/
namespace Sys2Proof.Machine
open Sys2Proof.Safety

/-! ## Predicates and flags of an instruction that does not trap (R61, R113) -/

/-- A fibre with the predicate and the exceptions of an arithmetic result. -/
def Fibre.gains (F : Fibre) (o : Opnds) (x : LaneOut) : Fibre :=
  let F1 := match o.pdst, x.pred with
    | some p, some b => F.setPred p b
    | _, _ => F
  F1.setFlags (flagsAfter F1.curFlags x.exc)

theorem Wave.fib_writePredFlags (W : Wave) (f : Nat) (o : Opnds) (x : LaneOut) (g : Nat) :
    (W.writePredFlags f o x).fib g = if g = f then (W.fib f).gains o x else W.fib g :=
  Wave.fib_modFib_eq W f g fun F => F.gains o x

theorem Fibre.curFlags_setPred (F : Fibre) (p : Nat) (b : Bool) : (F.setPred p b).curFlags = F.curFlags := by
  cases h : F.facet <;> simp [Fibre.setPred, Fibre.curFlags, h]

theorem Fibre.curFlags_setFlags (F : Fibre) (v : Word) : (F.setFlags v).curFlags = v &&& flagBits := by
  cases h : F.facet <;> simp [Fibre.setFlags, Fibre.curFlags, h]

theorem Fibre.curPreds_setFlags (F : Fibre) (v : Word) : (F.setFlags v).curPreds = F.curPreds := by
  cases h : F.facet <;> simp [Fibre.setFlags, Fibre.curPreds, h]

theorem Fibre.curFlags_gains (F : Fibre) (o : Opnds) (x : LaneOut) : (F.gains o x).curFlags = (F.curFlags ||| x.exc) &&& flagBits := by
  have hflags : ∀ H : Fibre, H.curFlags = F.curFlags →
      (H.setFlags (flagsAfter H.curFlags x.exc)).curFlags = (F.curFlags ||| x.exc) &&& flagBits := by
    intro H hH
    rw [Fibre.curFlags_setFlags, hH, flagsAfter]
    ext k hk
    simp only [BitVec.getElem_and, BitVec.getElem_or]
    cases flagBits[k] <;> simp
  unfold Fibre.gains
  split
  · exact hflags _ (F.curFlags_setPred _ _)
  · exact hflags _ rfl

/-- No condition is written to P7; any other predicate that is the destination holds it. -/
theorem Fibre.pred_gains (F : Fibre) {o : Opnds} (x : LaneOut) {p : Nat} (hp : p < 8) (h7 : o.pdst ≠ some 7) :
    (F.gains o x).pred p = if o.pdst = some p then x.pred.getD (F.pred p) else F.pred p := by
  have hkeep : ∀ H : Fibre, (H.setFlags (flagsAfter H.curFlags x.exc)).pred p = H.pred p := fun H => by
    rw [Fibre.pred, Fibre.curPreds_setFlags, Fibre.pred]
  unfold Fibre.gains
  rw [hkeep]
  cases hd : o.pdst with
  | none => rfl
  | some q =>
    cases hx : x.pred with
    | none => simp
    | some b =>
      by_cases hq : q = p
      · subst hq
        rw [if_pos rfl]
        exact F.pred_setPred_self (Nat.lt_of_le_of_ne (Nat.le_of_lt_succ hp) fun h => h7 (h ▸ hd)) b
      · rw [if_neg fun h => hq (Option.some.inj h)]
        exact F.pred_setPred_ne (Ne.symm hq) b

/-- Where the checks of R76 have passed, no operand is one that may not be. -/
theorem legal_of_goes {i : Instr} {s : State} {c : Issue} {G : Group} {W : Wave} (g : Goes i s c G W) : illegalOperand i = false := by
  have hg := g.gate
  by_contra hill
  rw [Bool.not_eq_false] at hill
  simp only [Machine.gate, hill, if_true] at hg
  split at hg
  · cases hg
  · split at hg <;> cases hg

theorem pdst_ne_seven_of_legal {i : Instr} (h : illegalOperand i = false) : (opndsOf i).pdst ≠ some 7 := by
  intro h7
  simp [illegalOperand, h7] at h

/-- A wave after an arithmetic instruction that does not trap. -/
def Wave.performed (W : Wave) (i : Instr) (c : Issue) (out : Nat → LaneOut) : Wave :=
  (acting i c W).foldl (fun X f => X.writePredFlags f (opndsOf i) (out f))
    ((W.advance c).writeRegs (acting i c W) (opndsOf i).dstRegs fun f => (out f).regs)

/-- Beside its registers a fibre has moved on and gained its predicate and flags. -/
theorem Wave.fib_performed {i : Instr} {s : State} {c : Issue} {G : Group} {W : Wave} (h : Issuing s c G W) (out : Nat → LaneOut)
    (f : Nat) : ∃ F : Fibre, F.curPreds = (W.fib f).curPreds ∧ F.curFlags = (W.fib f).curFlags ∧
      (W.performed i c out).fib f = if f ∈ acting i c W then F.gains (opndsOf i) (out f) else F := by
  have hbare := Wave.bare_writeRegs (W.advance c) (acting i c W) (opndsOf i).dstRegs (fun f => (out f).regs) f
  have hadv := Wave.fib_advance W c h.nodup h.live f
  refine ⟨_, (Fibre.curPreds_of_bare hbare).trans ?_, (Fibre.curFlags_of_bare hbare).trans ?_,
    Wave.fib_foldl_step (h := fun f F => F.gains (opndsOf i) (out f)) (fun X f g => X.fib_writePredFlags f _ _ g) (acting_nodup h.nodup) _ f⟩
  · rw [hadv]; split <;> simp
  · rw [hadv]; split <;> simp

theorem exec_of_no_trap {i : Instr} {lane : LaneIn → LaneOut} {s : State} {c : Issue} {G : Group} {W : Wave} (hl : laneOf i = some lane)
    (g : Goes i s c G W) (hexc : ∀ f ∈ acting i c W, trapping (W.fib f) (lane (s.laneIn G W (opndsOf i) f)).exc = 0) :
    exec i s = .next (s.setWave c (W.performed i c fun f => lane (s.laneIn G W (opndsOf i) f))) := by
  have hno : ((acting i c W).any fun f => trapping (W.fib f) (lane (s.laneIn G W (opndsOf i) f)).exc != 0) = false := by
    simpa [List.any_eq_false] using hexc
  rw [exec_of_laneOf hl, execAlu, issueWith_go g]
  simp only [hno, Bool.false_eq_true, if_false]
  rfl

/-! ## The trap (R116) -/

theorem getLsbD_foldl_or {α : Type} (e : α → Exc) (l : List α) (a : Exc) (k : Nat) :
    (l.foldl (fun x f => x ||| e f) a).getLsbD k = (a.getLsbD k || l.any fun f => (e f).getLsbD k) := by
  induction l generalizing a with
  | nil => simp
  | cons f l ih => rw [List.foldl_cons, ih, BitVec.getLsbD_or, List.any_cons, Bool.or_assoc]

/-- The cause of a trap is that of the lowest exception of a set (R115, R116). -/
theorem trapCause_eq {e : Exc} {b : Nat} (hb : b < 7) (hset : e.getLsbD b = true) (hlow : ∀ k < b, e.getLsbD k = false) :
    trapCause e = some (0x20 + b) := by
  rw [trapCause, lowBit, find?_range_first (p := fun i => e.toNat.testBit i) hb hset hlow, Option.map_some]

theorem tabGet_filterMap_of_some {α : Type} {g : Nat × α → Option (Nat × α)} (hg : ∀ e x, g e = some x → x.1 = e.1) {t : Tab α} {k : Nat}
    {v w : α} (ht : tabGet t k = some v) (hv : g (k, v) = some (k, w)) : tabGet (t.filterMap g) k = some w := by
  induction t with
  | nil => cases ht
  | cons e t ih =>
    obtain ⟨j, u⟩ := e
    by_cases hj : j = k
    · subst hj
      simp only [tabGet, if_true, Option.some.injEq] at ht
      subst ht
      simp [hv, tabGet]
    · simp only [tabGet, if_neg hj] at ht
      cases hx : g (j, u) with
      | none => rw [List.filterMap_cons, hx]; exact ih ht
      | some x =>
        have hne : x.1 ≠ k := fun h => hj ((hg _ _ hx).symm.trans h)
        rw [List.filterMap_cons, hx]
        simp only [tabGet, if_neg hne]
        exact ih ht

/-- An entry with no access of a routine stays as the wave stops (R364). -/
theorem Wave.sb_stopped_of_outside {W : Wave} {k : Nat} {e : Entry} (h : tabGet W.sb k = some e) (ho : ∀ a ∈ e.accs, a.inFacet = false) :
    tabGet W.stopped.sb k = some e := by
  refine tabGet_filterMap_of_some (fun x y hxy => ?_) h ?_
  · dsimp only at hxy
    split at hxy
    · cases hxy
    · cases hxy; rfl
  · have hfilter : e.accs.filter (fun a => !(a.inFacet && a.st == .unsent)) = e.accs :=
      List.filter_eq_self.mpr fun a ha => by rw [ho a ha]; rfl
    have hmap : e.accs.map (fun a => if a.inFacet then { a with drop := true, dst := [], pd := none } else a) = e.accs := by
      conv_rhs => rw [← List.map_id e.accs]
      exact List.map_congr_left fun a ha => by rw [ho a ha]; rfl
    simp only [hfilter, hmap, Bool.and_not_self, Bool.false_eq_true, if_false]

theorem Fibre.setPc_preds (F : Fibre) (pc : Addr) : (F.setPc pc).preds = F.preds := by unfold Fibre.setPc; split <;> rfl
theorem Fibre.setPc_flags (F : Fibre) (pc : Addr) : (F.setPc pc).flags = F.flags := by unfold Fibre.setPc; split <;> rfl

/-- What a trap leaves of its wave: every register, predicate and flag of `W`, with the entry `e` at 48. -/
def Wave.trapped (W : Wave) (e : Entry) (X : Wave) : Prop :=
  X.ks = W.ks ∧ (∀ h, (X.fib h).regs = (W.fib h).regs ∧ (X.fib h).preds = (W.fib h).preds ∧ (X.fib h).flags = (W.fib h).flags) ∧
    tabGet X.sb 48 = some e

theorem Wave.trapped_stopped {W X : Wave} {e : Entry} (ho : ∀ a ∈ e.accs, a.inFacet = false) (h : W.trapped e X) :
    W.trapped e X.stopped := by
  obtain ⟨hks, hfib, hsb⟩ := h
  refine ⟨hks, fun f => ?_, Wave.sb_stopped_of_outside hsb ho⟩
  rw [show X.stopped.fib f = X.leaveFrame.fib f from rfl, Wave.fib_leaveFrame]
  exact hfib f

/-- A wave that has moved on, with an instruction in its execution entry (R335). -/
def Wave.holding (W : Wave) (c : Issue) (e : Entry) : Wave := { W.advance c with sb := tabSet W.sb 48 e, nextAge := W.nextAge + 1 }

theorem Wave.trapped_holding {s : State} {c : Issue} {G : Group} {W : Wave} (h : Issuing s c G W) (e : Entry) :
    W.trapped e (W.holding c e) := by
  refine ⟨W.advance_ks c, fun f => ?_, tabGet_tabSet_self _ _ _⟩
  rw [show (W.holding c e).fib f = (W.advance c).fib f from rfl, Wave.fib_advance W c h.nodup h.live]
  split
  · exact ⟨Fibre.setPc_regs _ _, Fibre.setPc_preds _ _, Fibre.setPc_flags _ _⟩
  · exact ⟨rfl, rfl, rfl⟩

/-- A wave with a changed wave in its place takes a fault: it parks, and its die's engine has the subject. -/
theorem takeFault_parks {s : State} {c : Issue} {G : Group} {W X : Wave} {q : Wave → Prop} (h : Issuing s c G W) (r : Raise) (late : Bool)
    (gmask : Word) (mv : PcMove) (hX : q X) (hq : ∀ X, q X → q X.stopped) :
    ∃ V, ((s.setWave c X).takeFault c r late gmask mv).wave c.grp c.wave = some V ∧ V.run = .draining ∧ q V ∧
      (((s.setWave c X).takeFault c r late gmask mv).faultEng G.die).detected =
        (s.faultEng G.die).detected ++ [(s.setWave c X).waveSubject (G.modWave c.wave fun _ => X) c.grp X c r late gmask mv] ∧
      ((s.setWave c X).takeFault c r late gmask mv).mem = s.mem := by
  have hwave := State.wave_setWave X (wave_of_issuing h)
  have hgroup : (s.setWave c X).group c.grp = some (G.modWave c.wave fun _ => X) := by
    rw [State.group_setWave, h.group, Option.map_some]
  have hX' : tabGet (G.modWave c.wave fun _ => X).waves c.wave = some X := by
    rwa [State.wave, hgroup, Option.bind_some] at hwave
  obtain ⟨V, hV, hrun, hqV⟩ := State.wave_stopPair hwave hX hq
  have hkept := (s.setWave c X).keptByStop_stopPair 0 c.grp c.wave
  simp only [State.keptByStop, Prod.mk.injEq] at hkept
  obtain ⟨hmem, heng, -⟩ := hkept
  rw [State.takeFault_eq r late gmask mv hgroup hX']
  refine ⟨V, hV, hrun, hqV, ?_, hmem⟩
  have hdie : (G.modWave c.wave fun _ => X).die = G.die := rfl
  rw [hdie, State.detected_detect, State.faultEng_of_eng heng, State.faultEng_of_eng (State.setWave_eng s c X)]

/-- What a trap raises: the lowest cause of all fibres, and the exceptions of each (R116). -/
def trapRaise (W : Wave) (gt : List Nat) (exc : Nat → Exc) : Raise :=
  { cause := (trapCause (gt.foldl (fun e f => e ||| trapping (W.fib f) (exc f)) 0)).getD 0x20,
    fmask := maskOf (gt.filter fun f => trapping (W.fib f) (exc f) != 0),
    exc := gt.filterMap fun f => if exc f = 0 then none else some (f, (exc f).toNat) }

/-- The execution entry of a trap, with the sources of each fibre (R335). -/
def trapEntry (i : Instr) (c : Issue) (W : Wave) (gt : List Nat) (exc : Nat → Exc) : Entry :=
  { instr := i, pc := c.pc, age := W.nextAge, faulted := true, settle := 0,
    accs := gt.map fun f =>
      { fib := f, va := 0, data := captured W (opndsOf i) f, st := .faulted (trapRaise W gt exc).cause,
        dst := (opndsOf i).dstRegs.map (W.fib f).dreg, pd := (opndsOf i).pdst, skip := 0, drop := false, tmo := 0, inFacet := false } }

theorem State.trapAt_eq {s : State} {c : Issue} {W : Wave} (i : Instr) (gt : List Nat) (exc : Nat → Exc) (h : W.inFacet c = false) :
    s.trapAt i c W gt exc =
      (s.setWave c (W.holding c (trapEntry i c W gt exc))).takeFault c (trapRaise W gt exc) true (maskOf gt) .none := by
  simp only [State.trapAt, h, Bool.false_eq_true, if_false]
  rfl

section
variable {i : Instr} {lane : LaneIn → LaneOut} {s : State} {c : Issue} {G : Group} {W : Wave} (hl : laneOf i = some lane)
  (g : Goes i s c G W)
include hl g

/-- Where nothing traps, each guard-true fibre gains its condition and exceptions, and no other fibre anything. -/
theorem performed_preds_flags {t : State} {V : Wave}
    (hexc : ∀ f ∈ acting i c W, trapping (W.fib f) (lane (s.laneIn G W (opndsOf i) f)).exc = 0) (ht : exec i s = .next t)
    (hV : t.wave c.grp c.wave = some V) :
    (∀ f ∈ acting i c W, (V.fib f).curFlags = ((W.fib f).curFlags ||| (lane (s.laneIn G W (opndsOf i) f)).exc) &&& 0x7F ∧
      ∀ p < 8, (V.fib f).pred p =
        if (opndsOf i).pdst = some p then ((lane (s.laneIn G W (opndsOf i) f)).pred).getD ((W.fib f).pred p) else (W.fib f).pred p) ∧
    (∀ f, f ∉ acting i c W → (V.fib f).curFlags = (W.fib f).curFlags ∧ (V.fib f).curPreds = (W.fib f).curPreds) := by
  rw [exec_of_no_trap hl g hexc] at ht
  cases ht
  rw [State.wave_setWave _ (wave_of_issuing g.toIssuing)] at hV
  cases hV
  have h7 := pdst_ne_seven_of_legal (legal_of_goes g)
  refine ⟨fun f hf => ?_, fun f hf => ?_⟩
  · obtain ⟨F, hp, hfl, hF⟩ := Wave.fib_performed g.toIssuing (fun f => lane (s.laneIn G W (opndsOf i) f)) f
    rw [hF, if_pos hf]
    refine ⟨by rw [Fibre.curFlags_gains, hfl]; rfl, fun p hp8 => ?_⟩
    have hpred : F.pred p = (W.fib f).pred p := by rw [Fibre.pred, hp, Fibre.pred]
    rw [Fibre.pred_gains F _ hp8 h7, hpred]
  · obtain ⟨F, hp, hfl, hF⟩ := Wave.fib_performed g.toIssuing (fun f => lane (s.laneIn G W (opndsOf i) f)) f
    rw [hF, if_neg hf]
    exact ⟨hfl, hp⟩

theorem exec_of_trap {f : Nat} (hf : f ∈ acting i c W) (hexc : trapping (W.fib f) (lane (s.laneIn G W (opndsOf i) f)).exc ≠ 0) :
    exec i s = .next (s.trapAt i c W (acting i c W) fun f => (lane (s.laneIn G W (opndsOf i) f)).exc) := by
  have hany : ((acting i c W).any fun f => trapping (W.fib f) (lane (s.laneIn G W (opndsOf i) f)).exc != 0) = true :=
    List.any_eq_true.mpr ⟨f, hf, by simpa using hexc⟩
  rw [exec_of_laneOf hl, execAlu, issueWith_go g]
  simp only [hany, if_true]

omit hl in
/-- A trap outside facet context parks the wave with the lowest cause, and leaves the instruction in entry 48. -/
theorem trapAt_parks {exc : Nat → Exc} (htwin : G.twin = none) (hfacet : W.inFacet c = false) {f b : Nat} (hf : f ∈ acting i c W)
    (hb : b < 7) (hset : (trapping (W.fib f) (exc f)).getLsbD b = true)
    (hlow : ∀ h ∈ acting i c W, ∀ k < b, (trapping (W.fib h) (exc h)).getLsbD k = false) :
    ∃ V e x, (s.trapAt i c W (acting i c W) exc).wave c.grp c.wave = some V ∧ V.run = .draining ∧ W.trapped e V ∧ e.instr = i ∧
      e.pc = c.pc ∧ e.accs.map (·.fib) = acting i c W ∧
      ((s.trapAt i c W (acting i c W) exc).faultEng G.die).detected = (s.faultEng G.die).detected ++ [x] ∧ x.cause = 0x20 + b ∧
      x.late = true ∧ x.grp = c.grp ∧ x.wave = c.wave ∧ (s.trapAt i c W (acting i c W) exc).mem = s.mem := by
  have hcause : trapCause ((acting i c W).foldl (fun e f => e ||| trapping (W.fib f) (exc f)) 0) = some (0x20 + b) := by
    refine trapCause_eq hb ?_ fun k hk => ?_
    · rw [getLsbD_foldl_or, List.any_eq_true.mpr ⟨f, hf, hset⟩, Bool.or_true]
    · rw [getLsbD_foldl_or, List.any_eq_false.mpr fun h hh => by rw [hlow h hh k hk]; exact Bool.false_ne_true, Bool.or_false]
      exact BitVec.getLsbD_zero
  have hfirst : G.firstOf c.grp = c.grp := by rw [Group.firstOf, htwin]
  have hr : (trapRaise W (acting i c W) exc).cause = 0x20 + b := by rw [trapRaise, hcause, Option.getD_some]
  have hout : ∀ a ∈ (trapEntry i c W (acting i c W) exc).accs, a.inFacet = false := by
    intro a ha
    obtain ⟨f, -, rfl⟩ := List.mem_map.mp ha
    rfl
  obtain ⟨V, hV, hrun, hq, hdet, hmem⟩ := takeFault_parks (q := W.trapped (trapEntry i c W (acting i c W) exc))
    (X := W.holding c (trapEntry i c W (acting i c W) exc)) g.toIssuing (trapRaise W (acting i c W) exc) true (maskOf (acting i c W)) .none
    (Wave.trapped_holding g.toIssuing _) (fun X => Wave.trapped_stopped hout)
  rw [State.trapAt_eq i (acting i c W) exc hfacet]
  refine ⟨V, _, _, hV, hrun, hq, rfl, rfl, ?_, hdet, hr, rfl, hfirst, rfl, hmem⟩
  rw [trapEntry, List.map_map]
  exact List.map_id _

end

/-- Settles O28: a result's predicate and exceptions reach its fibre; a trap is one fault of the wave, with the instruction in entry 48. -/
theorem arithmeticFlagsAndTraps : Obligations.ArithmeticFlagsAndTraps := by
  refine ⟨fun i lane s t c G W V hl g hexc ht hV => performed_preds_flags hl g hexc ht hV,
    fun i lane s c G W f b hl g htwin hfacet hf hb hset hlow => ?_⟩
  obtain ⟨V, e, x, hV, hrun, ⟨hks, hfib, hsb⟩, hi, hpc, haccs, hdet, hcause, hlate, hgrp, hwave, hmem⟩ :=
    trapAt_parks (exc := fun f => (lane (s.laneIn G W (opndsOf i) f)).exc) g htwin hfacet hf hb hset hlow
  have hne : trapping (W.fib f) (lane (s.laneIn G W (opndsOf i) f)).exc ≠ 0 := fun h => by
    rw [h] at hset
    simp at hset
  exact ⟨_, V, e, x, exec_of_trap hl g hf hne, hV, hrun, hks, hfib, hsb, hi, hpc, haccs, hdet, hcause, hlate, hgrp, hwave, hmem⟩

end Sys2Proof.Machine

/-! A bundle that performs a word which no REWRITE slot may hold (R71, R359). -/
namespace Sys2Proof.Machine
open Sys2Proof.Safety

/-! ## A compare whose destination is P7 (R61, R65, R71) -/

theorem Fibre.pred_seven (F : Fibre) : F.pred 7 = true := by
  simp [Fibre.pred, Fibre.curPreds]

/-- A compare of a register with itself for inequality, its result directed at P7. -/
def neToP7 : Instr := .icmpI32 { g := 7, pd := 7, cc := 1, a := .v 4, b := .v 4 }

/-- A bundle of fibre 0 of a loaded group. -/
def p7Issue : Issue := { grp := 1, wave := 0, fibres := [0], pc := 0, w0 := 0, w1 := 0 }

/-- The machine in which that bundle issues. -/
def p7State : State := { State.reset with groups := [(1, loadGroup 2 false false)], cur := some p7Issue }

/-- The wave of that bundle. -/
def p7Wave : Wave := ((loadGroup 2 false false).waves.map (·.2)).headD
  { slot := 0, fibres := [], masks := [], ks := [], sb := [], nextAge := 0, starve := 0, admitted := 0, mxflags := 0, mxdone := 0,
    mxsig := 0, run := .running, bundles := [], ready := [], letGo := [], ageMark := 0, stepArrived := false, noUnits := false }

theorem p7_issuing : Issuing p7State p7Issue (loadGroup 2 false false) p7Wave where
  cur := rfl
  group := rfl
  wave := rfl
  live := by decide
  nodup := by decide
  uniform := by decide

theorem p7_checks : p7Wave.tagMismatch (opcodeOf neToP7) (opndsOf neToP7) p7Issue (acting neToP7 p7Issue p7Wave) = none ∧
    (∀ f ∈ p7Issue.fibres, ∀ r ∈ (opndsOf neToP7).regs, (p7Wave.fib f).inWindow r = true) ∧ 0 ∈ acting neToP7 p7Issue p7Wave := by
  decide

theorem laneIcmpI32_ne_self (g pd : Nat) (a : Reg) (x : LaneIn) (h : x.w 0 = x.w 1) :
    laneIcmpI32 { g := g, pd := pd, cc := 1, a := a, b := a } x = { pred := some false } := by
  simp [laneIcmpI32, predOut, icmp, h]

/-- Refutes O36: its last clause lets any arithmetic word be performed, one that would write P7 too, which no word of a slot may (R71) and
which keeps P7 as it is; the clause asks that P7 then holds the condition. -/
theorem not_facetSlotsAct : ¬ Obligations.FacetSlotsAct := by
  rintro ⟨-, -, h⟩
  obtain ⟨htag, hwin, hact⟩ := p7_checks
  have hlane : ∀ f, laneIcmpI32 { g := 7, pd := 7, cc := 1, a := .v 4, b := .v 4 }
      (p7State.laneIn (loadGroup 2 false false) p7Wave (opndsOf neToP7) f) = { pred := some false } := fun f =>
    laneIcmpI32_ne_self _ _ _ _ rfl
  obtain ⟨-, hperform⟩ := (h neToP7 _ p7State p7Issue _ p7Wave rfl p7_issuing).2 htag
  obtain ⟨V, -, -, -, hpreds, -⟩ := hperform (fun f _ => by rw [hlane]; exact BitVec.zero_and) hwin
  have hp7 := (hpreds 0 hact).2 7 (by decide)
  rw [Fibre.pred_seven, if_pos (show (opndsOf neToP7).pdst = some 7 from rfl), hlane] at hp7
  cases hp7

end Sys2Proof.Machine

/-! Proofs about rounding (R107, R115): codes in the order of their values, a cut magnitude, and the code that a rounding picks. -/
namespace Sys2Proof.Machine
open Sys2Proof.Safety

/-! ## Formats -/

theorem fbits_pos (f : FFmt) : 0 < fbits f := by cases f <;> decide

theorem bias_pos (f : FFmt) : 0 < bias f := by cases f <;> decide

theorem two_pow_ebits (f : FFmt) : 2 ^ ebits f = 2 * bias f + 2 := by cases f <;> decide

/-- The exponent of the least subnormal number: `unitsOne` units are 1 (R96). -/
theorem emin_sub_fbits (f : FFmt) : emin f - fbits f = -((fbits f + bias f - 1 : Nat) : Int) := by cases f <;> decide

/-! ## Magnitudes of codes -/

/-- The magnitude of a code without its sign, in units of the least subnormal number, for `p` fraction bits; codes beyond the format's
count on. -/
def mag (p c : Nat) : Nat := if c / 2 ^ p = 0 then c % 2 ^ p else (2 ^ p + c % 2 ^ p) * 2 ^ (c / 2 ^ p - 1)

/-- A magnitude is a significand `k` times a power of two. -/
theorem mag_add {p j k : Nat} (h : j = 0 ∨ 2 ^ p ≤ k) (hk : k ≤ 2 ^ (p + 1)) : mag p (j * 2 ^ p + k) = k * 2 ^ j := by
  have hp : 0 < 2 ^ p := Nat.two_pow_pos p
  rw [Nat.pow_succ] at hk
  have hdiv : (j * 2 ^ p + k) / 2 ^ p = j + k / 2 ^ p := by rw [Nat.add_comm, Nat.add_mul_div_right _ _ hp, Nat.add_comm]
  have hmod : (j * 2 ^ p + k) % 2 ^ p = k % 2 ^ p := by rw [Nat.add_comm, Nat.add_mul_mod_self_right]
  rw [mag, hdiv, hmod]
  rcases Nat.lt_or_ge k (2 ^ p) with hlt | hge
  · have hj : j = 0 := h.resolve_right (Nat.not_le.mpr hlt)
    rw [hj, Nat.div_eq_of_lt hlt, if_pos rfl, Nat.mod_eq_of_lt hlt, Nat.pow_zero, Nat.mul_one]
  · rcases Nat.lt_or_ge k (2 * 2 ^ p) with hlt2 | hge2
    · have hk1 : k / 2 ^ p = 1 := Nat.div_eq_of_lt_le (by omega) (by omega)
      have hkm : 2 ^ p + k % 2 ^ p = k := by
        have := Nat.div_add_mod k (2 ^ p)
        rw [hk1] at this
        omega
      rw [hk1, if_neg (by omega), hkm, Nat.add_sub_cancel]
    · have hk2 : k = 2 * 2 ^ p := by omega
      rw [hk2, Nat.mul_div_cancel _ hp, Nat.mul_mod_left, if_neg (by omega), show j + 2 - 1 = j + 1 from rfl, Nat.pow_succ]
      ring

/-- Every code has a significand and an exponent of such a form. -/
theorem exists_significand (p c : Nat) : ∃ j k, c = j * 2 ^ p + k ∧ (j = 0 ∨ 2 ^ p ≤ k) ∧ k < 2 ^ (p + 1) ∧ mag p c = k * 2 ^ j := by
  have hp : 0 < 2 ^ p := Nat.two_pow_pos p
  have hm : c % 2 ^ p < 2 ^ p := Nat.mod_lt _ hp
  have hc : 2 ^ p * (c / 2 ^ p) + c % 2 ^ p = c := Nat.div_add_mod c (2 ^ p)
  have hpow : 2 ^ (p + 1) = 2 * 2 ^ p := by rw [Nat.pow_succ, Nat.mul_comm]
  by_cases h0 : c / 2 ^ p = 0
  · rw [h0] at hc
    exact ⟨0, c, by omega, .inl rfl, by omega, by rw [mag, if_pos h0]; omega⟩
  · obtain ⟨n, hn⟩ := Nat.exists_eq_succ_of_ne_zero h0
    refine ⟨n, 2 ^ p + c % 2 ^ p, ?_, .inr (Nat.le_add_right _ _), by omega, by rw [mag, if_neg h0, hn]; rfl⟩
    rw [hn, Nat.mul_succ, Nat.mul_comm] at hc
    omega

/-- Values rise with codes. -/
theorem mag_strictMono (p : Nat) : StrictMono (mag p) := by
  intro c d hcd
  obtain ⟨j, k, hc, hj, hk, hmc⟩ := exists_significand p c
  obtain ⟨i, l, hd, hi, hl, hmd⟩ := exists_significand p d
  have hp : 0 < 2 ^ p := Nat.two_pow_pos p
  have hpow : 2 ^ (p + 1) = 2 * 2 ^ p := by rw [Nat.pow_succ, Nat.mul_comm]
  have hle : ∀ {a b : Nat}, a < b → a * 2 ^ p + 2 ^ p ≤ b * 2 ^ p := fun {a b} h => by
    rw [← Nat.succ_mul]
    exact Nat.mul_le_mul_right _ h
  rw [hmc, hmd]
  rcases Nat.lt_trichotomy j i with hji | rfl | hji
  · have hl' : 2 ^ p ≤ l := hi.resolve_left (by omega)
    calc k * 2 ^ j < 2 ^ (p + 1) * 2 ^ j := Nat.mul_lt_mul_of_pos_right hk (Nat.two_pow_pos j)
      _ = 2 ^ p * 2 ^ (j + 1) := by rw [Nat.pow_succ, Nat.pow_succ]; ring
      _ ≤ l * 2 ^ i := Nat.mul_le_mul hl' (Nat.pow_le_pow_right (by omega) hji)
  · exact Nat.mul_lt_mul_of_pos_right (by omega) (Nat.two_pow_pos j)
  · have hk' : 2 ^ p ≤ k := hj.resolve_left (by omega)
    have := hle hji
    omega

theorem mag_le_mag {p c d : Nat} : mag p c ≤ mag p d ↔ c ≤ d := (mag_strictMono p).le_iff_le

theorem mag_lt_mag {p c d : Nat} : mag p c < mag p d ↔ c < d := (mag_strictMono p).lt_iff_lt

/-- Codes up to the least normal number are their own magnitudes. -/
theorem mag_of_le {p c : Nat} (h : c ≤ 2 ^ p) : mag p c = c := by
  have := mag_add (p := p) (j := 0) (k := c) (.inl rfl) (h.trans (Nat.pow_le_pow_right (by omega) (by omega)))
  simpa using this

/-- The code without its sign. -/
def unsignedOf (f : FFmt) (w : Nat) : Nat := w % 2 ^ (ebits f + fbits f)

theorem unsignedOf_lt (f : FFmt) (w : Nat) : unsignedOf f w < 2 ^ (ebits f + fbits f) := Nat.mod_lt _ (Nat.two_pow_pos _)

/-- The fields of a code are those of its unsigned part. -/
theorem unsignedOf_div (f : FFmt) (w : Nat) : unsignedOf f w / 2 ^ fbits f = w / 2 ^ fbits f % 2 ^ ebits f := by
  rw [unsignedOf, Nat.pow_add, Nat.mul_comm, Nat.mod_mul_right_div_self]

theorem unsignedOf_mod (f : FFmt) (w : Nat) : unsignedOf f w % 2 ^ fbits f = w % 2 ^ fbits f := by
  rw [unsignedOf, Nat.pow_add]
  exact Nat.mod_mul_left_mod _ _ _

theorem units_eq (f : FFmt) (w : Nat) :
    units f w = if signOf f w then -(mag (fbits f) (unsignedOf f w) : Int) else mag (fbits f) (unsignedOf f w) := by
  rw [mag, unsignedOf_div, unsignedOf_mod]
  rfl

theorem abs_units (f : FFmt) (w : Nat) : |units f w| = mag (fbits f) (unsignedOf f w) := by
  rw [units_eq]
  split
  · rw [abs_neg, Nat.abs_cast]
  · rw [Nat.abs_cast]

theorem infOf_false (f : FFmt) : infOf f false = (2 ^ ebits f - 1) * 2 ^ fbits f := by simp [infOf]

theorem infOf_false_eq (f : FFmt) : infOf f false = (2 * bias f + 1) * 2 ^ fbits f := by
  rw [infOf_false, two_pow_ebits]
  rfl

theorem infOf_lt (f : FFmt) : infOf f false < 2 ^ (ebits f + fbits f) := by
  rw [infOf_false, Nat.pow_add]
  exact Nat.mul_lt_mul_of_pos_right (Nat.sub_lt (Nat.two_pow_pos _) Nat.one_pos) (Nat.two_pow_pos _)

theorem infOf_pos (f : FFmt) : 0 < infOf f false := by
  rw [infOf_false_eq]
  exact Nat.mul_pos (by omega) (Nat.two_pow_pos _)

theorem infOf_even (f : FFmt) : infOf f false % 2 = 0 := by cases f <;> decide

/-- A code is finite where its unsigned part is below infinity. -/
theorem isFinite_iff {f : FFmt} {w : Nat} : IsFinite f w ↔ w < 2 ^ (1 + ebits f + fbits f) ∧ unsignedOf f w < infOf f false := by
  have hlt := unsignedOf_lt f w
  rw [Nat.pow_add, ← Nat.div_lt_iff_lt_mul (Nat.two_pow_pos _), unsignedOf_div] at hlt
  rw [IsFinite, infOf_false, ← Nat.div_lt_iff_lt_mul (Nat.two_pow_pos _), unsignedOf_div]
  exact and_congr_right fun _ => ⟨fun h => by omega, fun h => by omega⟩

theorem two_pow_codes (f : FFmt) : 2 ^ (1 + ebits f + fbits f) = 2 * 2 ^ (ebits f + fbits f) := by
  rw [Nat.add_assoc, Nat.add_comm, Nat.pow_succ, Nat.mul_comm]

/-- A signed code: sign and unsigned part. -/
theorem signOf_add {f : FFmt} {s : Bool} {c : Nat} (h : c < 2 ^ (ebits f + fbits f)) : signOf f (signCode f s + c) = s := by
  rw [signOf, signCode]
  cases s with
  | true => simp [Nat.add_div_left, Nat.div_eq_of_lt h]
  | false => simp [Nat.div_eq_of_lt h]

theorem unsignedOf_add {f : FFmt} {s : Bool} {c : Nat} (h : c < 2 ^ (ebits f + fbits f)) : unsignedOf f (signCode f s + c) = c := by
  rw [unsignedOf, signCode]
  cases s <;> simp [Nat.mod_eq_of_lt h]

theorem signCode_add_lt {f : FFmt} {s : Bool} {c : Nat} (h : c < 2 ^ (ebits f + fbits f)) : signCode f s + c < 2 ^ (1 + ebits f + fbits f) := by
  rw [signCode, two_pow_codes]
  split <;> omega

theorem units_add {f : FFmt} {s : Bool} {c : Nat} (h : c < 2 ^ (ebits f + fbits f)) :
    units f (signCode f s + c) = if s then -(mag (fbits f) c : Int) else mag (fbits f) c := by
  rw [units_eq, signOf_add h, unsignedOf_add h]

/-- A code below twice the format's codes is its sign and its unsigned part. -/
theorem signCode_signOf_add {f : FFmt} {w : Nat} (h : w < 2 ^ (1 + ebits f + fbits f)) : signCode f (signOf f w) + unsignedOf f w = w := by
  have hdm := Nat.div_add_mod w (2 ^ (ebits f + fbits f))
  have hq : w / 2 ^ (ebits f + fbits f) < 2 := Nat.div_lt_of_lt_mul (by rwa [two_pow_codes, Nat.mul_comm] at h)
  rw [signCode, signOf, unsignedOf, Nat.mod_eq_of_lt hq]
  rcases Nat.lt_or_ge (w / 2 ^ (ebits f + fbits f)) 1 with h0 | h1
  · rw [Nat.lt_one_iff.mp h0] at hdm ⊢
    simpa using hdm
  · rw [Nat.le_antisymm (Nat.le_of_lt_succ hq) h1] at hdm ⊢
    simpa using hdm

end Sys2Proof.Machine

namespace Sys2Proof.Machine
open Sys2Proof.Safety

/-! ## A cut magnitude -/

/-- The magnitude `v` that `m × 2^e` stands for; with `sticky` it is a little more. -/
def Stands (m : Nat) (e : Int) (sticky : Bool) (v : ℝ) : Prop :=
  if sticky then (m : ℝ) * 2 ^ e < v ∧ v < (m + 1) * 2 ^ e else v = m * 2 ^ e

theorem Stands.le {m : Nat} {e : Int} {sticky : Bool} {v : ℝ} (h : Stands m e sticky v) : (m : ℝ) * 2 ^ e ≤ v := by
  cases sticky with
  | true => exact (show (m : ℝ) * 2 ^ e < v ∧ v < (m + 1) * 2 ^ e from h).1.le
  | false => exact (show v = m * 2 ^ e from h).ge

theorem Stands.lt {m : Nat} {e : Int} {sticky : Bool} {v : ℝ} (h : Stands m e sticky v) : v < (m + 1) * 2 ^ e := by
  cases sticky with
  | true => exact (show (m : ℝ) * 2 ^ e < v ∧ v < (m + 1) * 2 ^ e from h).2
  | false =>
    rw [show v = m * 2 ^ e from h]
    exact mul_lt_mul_of_pos_right (lt_add_one _) (by positivity)

theorem Stands.eq_iff {m : Nat} {e : Int} {sticky : Bool} {v : ℝ} (h : Stands m e sticky v) : v = m * 2 ^ e ↔ sticky = false := by
  cases sticky with
  | true => exact ⟨fun he => absurd he (show (m : ℝ) * 2 ^ e < v ∧ v < (m + 1) * 2 ^ e from h).1.ne', fun h => by cases h⟩
  | false => exact ⟨fun _ => rfl, fun _ => h⟩

/-- A cut tells of `y` its whole part, whether that is all of it, and how the rest compares with a half. -/
structure CutOf (c : Cut) (y : ℝ) : Prop where
  le : (c.kept : ℝ) ≤ y
  lt : y < c.kept + 1
  exact : c.exact = true ↔ y = c.kept
  below : c.half = .lt ↔ 2 * y < 2 * c.kept + 1
  tie : c.half = .eq ↔ 2 * y = 2 * c.kept + 1

theorem cutOf_whole {m : Nat} {sticky : Bool} (h : sticky = false) : CutOf ⟨m, .lt, !sticky⟩ m where
  le := le_rfl
  lt := lt_add_one _
  exact := by simp [h]
  below := by simp
  tie := by simp

section
variable {m k kept rest : Nat} {x : ℝ} (hm : (2 : ℝ) * 2 ^ k * kept + rest = m) (hle : (m : ℝ) ≤ x) (hlt : x < m + 1)
include hm hle hlt

/-- Of `x` cut after `k + 1` bits the rest is below a half where the bits that fall away are. -/
theorem cut_below_half_iff : 2 * (x / (2 * 2 ^ k)) < 2 * (kept : ℝ) + 1 ↔ rest < 2 ^ k := by
  rw [← mul_div_assoc, div_lt_iff₀ (by positivity)]
  constructor
  · intro h
    have h1 : (rest : ℝ) < 2 ^ k := by nlinarith
    exact_mod_cast h1
  · intro h
    have h1 : (rest : ℝ) + 1 ≤ 2 ^ k := by exact_mod_cast h
    nlinarith

/-- It is a half where they are and nothing lies below them. -/
theorem cut_eq_half_iff : 2 * (x / (2 * 2 ^ k)) = 2 * (kept : ℝ) + 1 ↔ rest = 2 ^ k ∧ x = m := by
  rw [← mul_div_assoc, div_eq_iff (by positivity)]
  constructor
  · intro h
    have h1 : ((2 ^ k : Nat) : ℝ) < (rest + 1 : Nat) := by
      push_cast
      nlinarith
    have h2 : (rest : ℝ) ≤ (2 ^ k : Nat) := by
      push_cast
      nlinarith
    have heq : rest = 2 ^ k := le_antisymm (by exact_mod_cast h2) (Nat.lt_succ_iff.mp (by exact_mod_cast h1))
    have hcast : (rest : ℝ) = 2 ^ k := by exact_mod_cast heq
    exact ⟨heq, by nlinarith⟩
  · rintro ⟨h, rfl⟩
    have hcast : (rest : ℝ) = 2 ^ k := by exact_mod_cast h
    nlinarith

/-- It is nothing where they are all 0 and nothing lies below them. -/
theorem cut_eq_iff : x / (2 * 2 ^ k) = kept ↔ rest = 0 ∧ x = m := by
  rw [div_eq_iff (by positivity)]
  constructor
  · intro h
    have h0 : (rest : ℝ) = 0 := le_antisymm (by nlinarith) (Nat.cast_nonneg _)
    exact ⟨by exact_mod_cast h0, by nlinarith⟩
  · rintro ⟨h, rfl⟩
    have hcast : (rest : ℝ) = 0 := by exact_mod_cast h
    nlinarith

end

/-- Cutting bits off `m` cuts the magnitude that it stands for. -/
theorem cutOf_cutBits {m k : Nat} {sticky : Bool} {x : ℝ} (hx : Stands m 0 sticky x) (hk : 0 < k) :
    CutOf (cutBits m k sticky) (x / 2 ^ k) := by
  have hle : (m : ℝ) ≤ x := by simpa using hx.le
  have hlt : x < m + 1 := by simpa using hx.lt
  have heq : x = m ↔ sticky = false := by simpa using hx.eq_iff
  obtain ⟨h, rfl⟩ := Nat.exists_eq_succ_of_ne_zero hk.ne'
  have hpow : (2 : ℝ) ^ h.succ = 2 * 2 ^ h := pow_succ' 2 h
  have hdm : (2 : ℝ) * 2 ^ h * (m / 2 ^ h.succ : Nat) + (m % 2 ^ h.succ : Nat) = m := by
    rw [← hpow]
    exact_mod_cast Nat.div_add_mod m (2 ^ h.succ)
  have hrest : ((m % 2 ^ h.succ : Nat) : ℝ) + 1 ≤ 2 * 2 ^ h := by
    rw [← hpow]
    exact_mod_cast Nat.succ_le_of_lt (Nat.mod_lt m (Nat.two_pow_pos h.succ))
  rw [cutBits, if_neg (Nat.succ_ne_zero h), Nat.succ_eq_add_one, Nat.add_sub_cancel, ← Nat.succ_eq_add_one]
  generalize m % 2 ^ h.succ = rest at hdm hrest
  generalize m / 2 ^ h.succ = kept at hdm
  rw [hpow]
  refine ⟨?_, ?_, ?_, ?_, ?_⟩
  · rw [le_div_iff₀ (by positivity)]
    nlinarith
  · rw [div_lt_iff₀ (by positivity)]
    nlinarith
  · show ((rest == 0 && !sticky) = true) ↔ _
    rw [cut_eq_iff hdm hle hlt, Bool.and_eq_true, beq_iff_eq, Bool.not_eq_true', heq]
  · show (if rest < 2 ^ h then Ordering.lt else if (rest == 2 ^ h && !sticky) = true then .eq else .gt) = .lt ↔ _
    rw [cut_below_half_iff hdm hle hlt]
    split
    · next hr => exact iff_of_true rfl hr
    · next hr => split <;> exact iff_of_false nofun hr
  · show (if rest < 2 ^ h then Ordering.lt else if (rest == 2 ^ h && !sticky) = true then .eq else .gt) = .eq ↔ _
    rw [cut_eq_half_iff hdm hle hlt, heq]
    split
    · next hl => simp [hl.ne]
    · split <;> simp_all

theorem cutOf_cutAt {m : Nat} {e q : Int} {sticky : Bool} {v : ℝ} (hv : Stands m e sticky v) (hs : sticky = true → e < q) :
    CutOf (cutAt m e q sticky) (v / 2 ^ q) := by
  have h2 : (2 : ℝ) ≠ 0 := two_ne_zero
  have hpos : (0 : ℝ) < 2 ^ e := by positivity
  rw [cutAt]
  split
  · next hle =>
    have hst : sticky = false := Bool.eq_false_iff.mpr fun h => absurd (hs h) (not_lt.mpr hle)
    have hval : v / 2 ^ q = ((m * 2 ^ (e - q).toNat : Nat) : ℝ) := by
      have hexp : (2 : ℝ) ^ (e - q).toNat = 2 ^ (e - q) := by
        rw [← zpow_natCast, Int.toNat_of_nonneg (by omega)]
      rw [hv.eq_iff.mpr hst, Nat.cast_mul, Nat.cast_pow, Nat.cast_ofNat, hexp, zpow_sub₀ h2, mul_div_assoc]
    rw [hval]
    exact cutOf_whole hst
  · next hlt =>
    have hval : v / 2 ^ q = v / 2 ^ e / 2 ^ (q - e).toNat := by
      rw [← zpow_natCast, Int.toNat_of_nonneg (by omega), div_div, ← zpow_add₀ h2, add_sub_cancel]
    rw [hval]
    refine cutOf_cutBits ?_ (by omega)
    cases sticky with
    | true =>
      obtain ⟨hl, hu⟩ := show (m : ℝ) * 2 ^ e < v ∧ v < (m + 1) * 2 ^ e from hv
      refine show (m : ℝ) * 2 ^ (0 : ℤ) < _ ∧ _ < ((m : ℝ) + 1) * 2 ^ (0 : ℤ) from ⟨?_, ?_⟩
      · rw [zpow_zero, mul_one, lt_div_iff₀ hpos]
        exact hl
      · rw [zpow_zero, mul_one, div_lt_iff₀ hpos]
        exact hu
    | false =>
      show _ = (m : ℝ) * 2 ^ (0 : ℤ)
      rw [show v = m * 2 ^ e from hv, mul_div_assoc, div_self hpos.ne', zpow_zero]

/-! ## The neighbour that a mode takes (R107) -/

/-- Of the neighbours `lo ≤ v < hi` the mode takes the upper one; `odd` tells of the lower one's last bit. -/
def TakesUpper (r : Rnd) (neg odd : Bool) (lo hi v : ℝ) : Prop :=
  match r with
  | .rne => lo + hi < 2 * v ∨ (lo + hi = 2 * v ∧ odd = true)
  | .rz => False
  | .rp => neg = false ∧ lo < v
  | .rm => neg = true ∧ lo < v
  | .rna => lo + hi ≤ 2 * v

theorem takesUpper_mul {r : Rnd} {neg odd : Bool} {lo hi v s : ℝ} (hs : 0 < s) :
    TakesUpper r neg odd (lo * s) (hi * s) (v * s) ↔ TakesUpper r neg odd lo hi v := by
  have hsum : lo * s + hi * s = (lo + hi) * s := by ring
  have htwo : 2 * (v * s) = 2 * v * s := by ring
  cases r <;> simp only [TakesUpper, hsum, htwo, mul_lt_mul_iff_left₀ hs, mul_le_mul_iff_left₀ hs, mul_left_inj' hs.ne']

/-- An exact magnitude keeps its place. -/
theorem not_takesUpper_of_eq {r : Rnd} {neg odd : Bool} {lo hi v : ℝ} (h : lo = v) (hv : v < hi) : ¬TakesUpper r neg odd lo hi v := by
  subst h
  cases r <;> simp only [TakesUpper, lt_irrefl, and_false, not_false_eq_true]
  · rintro (h | ⟨h, -⟩) <;> linarith
  · linarith

theorem roundsUp_iff {c : Cut} {y : ℝ} (h : CutOf c y) (r : Rnd) (neg : Bool) :
    roundsUp r neg c = true ↔ TakesUpper r neg (c.kept % 2 == 1) c.kept (c.kept + 1) y := by
  have hle := h.le
  cases hex : c.exact with
  | true =>
    have hy := h.exact.mp hex
    exact iff_of_false (by simp [roundsUp, hex]) (not_takesUpper_of_eq hy.symm h.lt)
  | false =>
    have hy : (c.kept : ℝ) < y := lt_of_le_of_ne hle fun he => by
      rw [h.exact.mpr he.symm] at hex
      cases hex
    have hgt : c.half = .gt ↔ 2 * (c.kept : ℝ) + 1 < 2 * y := by
      constructor
      · intro hg
        rcases lt_trichotomy (2 * y) (2 * c.kept + 1) with h1 | h1 | h1
        · rw [h.below.mpr h1] at hg; cases hg
        · rw [h.tie.mpr h1] at hg; cases hg
        · exact h1
      · intro hg
        cases hh : c.half with
        | lt => exact absurd (h.below.mp hh) (by linarith)
        | eq => exact absurd (h.tie.mp hh) (by linarith)
        | gt => rfl
    have hnlt : c.half ≠ .lt ↔ 2 * (c.kept : ℝ) + 1 ≤ 2 * y := by rw [Ne, h.below, not_lt]
    have hsum : (c.kept : ℝ) + (c.kept + 1) = 2 * c.kept + 1 := by ring
    have htie : c.half = .eq ↔ 2 * (c.kept : ℝ) + 1 = 2 * y := h.tie.trans eq_comm
    cases r with
    | rne => simp [roundsUp, hex, TakesUpper, hsum, hgt, htie]
    | rz => simp [roundsUp, TakesUpper]
    | rp => simp [roundsUp, hex, TakesUpper, hy]
    | rm => simp [roundsUp, hex, TakesUpper, hy]
    | rna => simp [roundsUp, hex, TakesUpper, hsum, hnlt]

/-- A cut magnitude rounded is its whole part or the next number. -/
theorem rounded_eq_or {c : Cut} {y : ℝ} (h : CutOf c y) (r : Rnd) (neg : Bool) :
    (TakesUpper r neg (c.kept % 2 == 1) c.kept (c.kept + 1) y ∧ rounded r neg c = c.kept + 1) ∨
      (¬TakesUpper r neg (c.kept % 2 == 1) c.kept (c.kept + 1) y ∧ rounded r neg c = c.kept) := by
  rw [← roundsUp_iff h, rounded]
  cases roundsUp r neg c <;> simp

end Sys2Proof.Machine

namespace Sys2Proof.Machine
open Sys2Proof.Safety

/-! ## The code that a rounding picks -/

/-- `c` is the code at or below the magnitude `v` in units, with `p` fraction bits, and the mode picks `C`, `c` or the next one (R107). -/
def Picks (p : Nat) (r : Rnd) (neg : Bool) (v : ℝ) (c C : Nat) : Prop :=
  (mag p c : ℝ) ≤ v ∧ v < mag p (c + 1) ∧
    ((TakesUpper r neg (c % 2 == 1) (mag p c) (mag p (c + 1)) v ∧ C = c + 1) ∨
      (¬TakesUpper r neg (c % 2 == 1) (mag p c) (mag p (c + 1)) v ∧ C = c))

/-- The exceptions of a rounding that does not overflow. -/
def roundExc (inexact tiny : Bool) : Exc := excIf inexact excInx ||| excIf (inexact && tiny) excUnf

/-- A magnitude cut to multiples of `2^j`, at most `2^(p+1)` of them and for `j` not 0 no fewer than `2^p`, is rounded to a code. -/
theorem picks_of_cut {p j : Nat} {c : Cut} {v : ℝ} (hp : 0 < p) (h : CutOf c (v / 2 ^ j)) (r : Rnd) (neg : Bool)
    (hlt : v / 2 ^ j < 2 ^ (p + 1)) (hge : j = 0 ∨ 2 ^ p ≤ v / 2 ^ j) :
    Picks p r neg v (j * 2 ^ p + c.kept) (j * 2 ^ p + rounded r neg c) ∧ (mag p (j * 2 ^ p + c.kept) : ℝ) = c.kept * 2 ^ j ∧
      c.kept < 2 ^ (p + 1) ∧ (j = 0 ∨ 2 ^ p ≤ c.kept) := by
  have hJ : (0 : ℝ) < 2 ^ j := by positivity
  have hk : c.kept < 2 ^ (p + 1) := by exact_mod_cast h.le.trans_lt hlt
  have hkp : j = 0 ∨ 2 ^ p ≤ c.kept := hge.imp_right fun hge => Nat.lt_succ_iff.mp (by exact_mod_cast hge.trans_lt h.lt)
  have hlo : (mag p (j * 2 ^ p + c.kept) : ℝ) = c.kept * 2 ^ j := by
    rw [mag_add hkp hk.le]
    push_cast
    rfl
  have hhi : (mag p (j * 2 ^ p + c.kept + 1) : ℝ) = (c.kept + 1) * 2 ^ j := by
    rw [Nat.add_assoc, mag_add (hkp.imp_right fun h => by omega) hk]
    push_cast
    rfl
  have hv : v / 2 ^ j * 2 ^ j = v := div_mul_cancel₀ v hJ.ne'
  have hodd : ((j * 2 ^ p + c.kept) % 2 == 1) = (c.kept % 2 == 1) := by
    obtain ⟨n, rfl⟩ := Nat.exists_eq_succ_of_ne_zero hp.ne'
    rw [Nat.pow_succ, ← Nat.mul_assoc, Nat.add_comm, Nat.add_mul_mod_self_right]
  have htake : TakesUpper r neg ((j * 2 ^ p + c.kept) % 2 == 1) (mag p (j * 2 ^ p + c.kept)) (mag p (j * 2 ^ p + c.kept + 1)) v ↔
      TakesUpper r neg (c.kept % 2 == 1) c.kept (c.kept + 1) (v / 2 ^ j) := by
    rw [hodd, hlo, hhi]
    conv_lhs => rw [← hv]
    exact takesUpper_mul hJ
  refine ⟨⟨?_, ?_, ?_⟩, hlo, hk, hkp⟩
  · rw [hlo, ← le_div_iff₀ hJ]
    exact h.le
  · rw [hhi, ← div_lt_iff₀ hJ]
    exact h.lt
  · rw [htake]
    exact (rounded_eq_or h r neg).imp (fun h => ⟨h.1, by rw [h.2, Nat.add_assoc]⟩) (fun h => ⟨h.1, by rw [h.2]⟩)

section
variable {f : FFmt} {level : Nat} {r : Rnd} {neg : Bool} {m : Nat} {e : Int} {sticky : Bool} {v : ℝ}

/-- The magnitude lies in the binade that the leading bit of `m` tells. -/
theorem Stands.binade {V : ℝ} (hm : m ≠ 0) (hv : Stands m e sticky V) : (2 : ℝ) ^ ((Nat.log2 m : Int) + e) ≤ V ∧
    V < 2 ^ ((Nat.log2 m : Int) + e + 1) := by
  have h2 : (2 : ℝ) ≠ 0 := two_ne_zero
  have hlo : (2 : ℝ) ^ Nat.log2 m ≤ m := by exact_mod_cast Nat.log2_self_le hm
  have hhi : (m : ℝ) + 1 ≤ 2 ^ (Nat.log2 m + 1) := by exact_mod_cast Nat.succ_le_of_lt Nat.lt_log2_self
  have hpos : (0 : ℝ) < 2 ^ e := by positivity
  constructor
  · calc (2 : ℝ) ^ ((Nat.log2 m : Int) + e) = 2 ^ Nat.log2 m * 2 ^ e := by rw [zpow_add₀ h2, zpow_natCast]
      _ ≤ m * 2 ^ e := by gcongr
      _ ≤ V := hv.le
  · calc V < (m + 1) * 2 ^ e := hv.lt
      _ ≤ 2 ^ (Nat.log2 m + 1) * 2 ^ e := by gcongr
      _ = 2 ^ ((Nat.log2 m : Int) + e + 1) := by rw [← zpow_natCast, ← zpow_add₀ h2]; congr 1; push_cast; ring

/-- The number of binades that `m × 2^e` lies above the least normal one, 0 below it. -/
def binadeAbove (f : FFmt) (m : Nat) (e : Int) : Nat := ((Nat.log2 m : Int) + e - emin f).toNat

/-- The magnitude cut where `roundF` cuts it for its code. -/
def codeCut (f : FFmt) (m : Nat) (e : Int) (sticky : Bool) : Cut := cutAt m e (emin f - fbits f + binadeAbove f m e) sticky

/-- The exponent after a rounding with no bound on exponents. -/
def roundedExp (f : FFmt) (r : Rnd) (neg : Bool) (m : Nat) (e : Int) (sticky : Bool) : Int :=
  if rounded r neg (cutAt m e ((Nat.log2 m : Int) + e - fbits f) sticky) = 2 ^ (fbits f + 1) then (Nat.log2 m : Int) + e + 1
  else (Nat.log2 m : Int) + e

theorem le_roundedExp : (Nat.log2 m : Int) + e ≤ roundedExp f r neg m e sticky := by
  rw [roundedExp]
  split <;> omega

theorem codeCut_of_normal (h : emin f ≤ (Nat.log2 m : Int) + e) :
    cutAt m e ((Nat.log2 m : Int) + e - fbits f) sticky = codeCut f m e sticky := by
  rw [codeCut, binadeAbove, show (Nat.log2 m : Int) + e - fbits f = emin f - fbits f + ((Nat.log2 m : Int) + e - emin f).toNat by omega]

variable (hm : m ≠ 0)
include hm

/-- The magnitude in units of the last place of its binade. -/
theorem codeCut_bounds (hv : Stands m e sticky (v * 2 ^ (emin f - fbits f))) (hs : sticky = true → 2 ^ (fbits f + 1) ≤ m) :
    CutOf (codeCut f m e sticky) (v / 2 ^ binadeAbove f m e) ∧ v / 2 ^ binadeAbove f m e < 2 ^ (fbits f + 1) ∧
      (binadeAbove f m e = 0 ∨ 2 ^ fbits f ≤ v / 2 ^ binadeAbove f m e) ∧
      ((Nat.log2 m : Int) + e < emin f → v / 2 ^ binadeAbove f m e < 2 ^ fbits f) := by
  have h2 : (2 : ℝ) ≠ 0 := two_ne_zero
  obtain ⟨hlo, hhi⟩ := hv.binade hm
  have hlog : sticky = true → fbits f + 1 ≤ Nat.log2 m := fun h => (Nat.le_log2 hm).mpr (hs h)
  rw [codeCut]
  obtain ⟨j, hj⟩ : ∃ j, j = binadeAbove f m e := ⟨_, rfl⟩
  have hj2 := hj
  rw [binadeAbove] at hj2
  rw [← hj]
  have hscale : v * 2 ^ (emin f - fbits f) / 2 ^ (emin f - fbits f + j) = v / 2 ^ j := by
    rw [zpow_add₀ h2, zpow_natCast, mul_comm v, mul_div_mul_left _ _ (by positivity)]
  have hcut := cutOf_cutAt (q := emin f - fbits f + j) hv (fun h => by have := hlog h; omega)
  rw [hscale] at hcut
  refine ⟨hcut, ?_, ?_, fun h => ?_⟩
  · rw [← hscale, div_lt_iff₀ (by positivity), ← zpow_natCast, ← zpow_add₀ h2]
    exact hhi.trans_le (zpow_le_zpow_right₀ one_le_two (by push_cast; omega))
  · rcases Nat.eq_zero_or_pos j with h0 | h0
    · exact .inl h0
    · right
      rw [← hscale, le_div_iff₀ (by positivity), ← zpow_natCast, ← zpow_add₀ h2]
      exact (zpow_le_zpow_right₀ one_le_two (by omega)).trans hlo
  · rw [← hscale, div_lt_iff₀ (by positivity), ← zpow_natCast, ← zpow_add₀ h2]
    exact hhi.trans_le (zpow_le_zpow_right₀ one_le_two (by omega))

omit hm in
/-- The rounded exponent is out of range exactly where the picked code is the infinity's or lies beyond it (R107). -/
theorem lt_roundedExp_iff {K k : Nat} (hK : rounded r neg (codeCut f m e sticky) = K) (hnext : K = k + 1 ∨ K = k) (hk : k < 2 ^ (fbits f + 1))
    (hkp : binadeAbove f m e = 0 ∨ 2 ^ fbits f ≤ k) :
    (bias f : Int) < roundedExp f r neg m e sticky ↔ infOf f false ≤ binadeAbove f m e * 2 ^ fbits f + K := by
  have hb := bias_pos f
  have hpow : 2 ^ (fbits f + 1) = 2 * 2 ^ fbits f := by rw [Nat.pow_succ, Nat.mul_comm]
  have hemin : emin f = 1 - bias f := rfl
  have hinf := infOf_false_eq f
  obtain ⟨exn, hexn⟩ : ∃ exn, exn = roundedExp f r neg m e sticky := ⟨_, rfl⟩
  obtain ⟨j, hj⟩ : ∃ j, j = binadeAbove f m e := ⟨_, rfl⟩
  rw [← hexn, ← hj]
  rw [← hj] at hkp
  rw [binadeAbove] at hj
  rw [roundedExp] at hexn
  rcases lt_trichotomy ((Nat.log2 m : Int) + e) (bias f) with hlt | heq | hgt
  · have hj2 : (j + 2) * 2 ^ fbits f ≤ 2 * bias f * 2 ^ fbits f := Nat.mul_le_mul_right _ (by omega)
    rw [Nat.add_mul] at hj2
    rw [Nat.add_mul] at hinf
    exact iff_of_false (by split at hexn <;> omega) (by omega)
  · rw [codeCut_of_normal (by omega), hK] at hexn
    have hj2 : (j + 2) * 2 ^ fbits f = (2 * bias f + 1) * 2 ^ fbits f := by congr 1; omega
    rw [Nat.add_mul] at hj2
    split at hexn
    · exact iff_of_true (by omega) (by omega)
    · exact iff_of_false (by omega) (by omega)
  · have hj2 : (2 * bias f) * 2 ^ fbits f ≤ j * 2 ^ fbits f := Nat.mul_le_mul_right _ (by omega)
    have hk2 := hkp.resolve_left (by omega)
    rw [Nat.add_mul] at hinf
    exact iff_of_true (by split at hexn <;> omega) (by omega)

/-- `roundF` by the cut that it takes for its code. -/
theorem roundF_eq_codeCut {c : Cut} {K : Nat} (hc : codeCut f m e sticky = c) (hK : rounded r neg c = K)
    (hk : K < 2 ^ fbits f → binadeAbove f m e = 0) (level : Nat) :
    roundF f level r neg m e sticky = if (bias f : Int) < roundedExp f r neg m e sticky then (overflowCode f r neg, 0x14)
      else if flushes f level = true ∧ binadeAbove f m e * 2 ^ fbits f + K ≠ 0 ∧ binadeAbove f m e * 2 ^ fbits f + K < 2 ^ fbits f
        then (signCode f neg, 0x18)
      else (signCode f neg + (binadeAbove f m e * 2 ^ fbits f + K),
        roundExc (!c.exact) (decide (K < 2 ^ fbits f) || decide (roundedExp f r neg m e sticky < emin f))) := by
  have hP : 0 < 2 ^ fbits f := Nat.two_pow_pos _
  have hpow : 2 ^ (fbits f + 1) = 2 * 2 ^ fbits f := by rw [Nat.pow_succ, Nat.mul_comm]
  have hemin : emin f = 1 - bias f := rfl
  have hq : max ((Nat.log2 m : Int) + e - fbits f) (emin f - fbits f) = emin f - fbits f + binadeAbove f m e := by rw [binadeAbove]; omega
  obtain ⟨exn, hexn⟩ : ∃ exn, exn = roundedExp f r neg m e sticky := ⟨_, rfl⟩
  rw [← hexn]
  rw [roundedExp] at hexn
  rw [codeCut] at hc
  rw [roundF, if_neg hm]
  simp only [hq, hc, hK, ← hexn]
  refine if_congr Iff.rfl rfl ?_
  by_cases hk1 : K < 2 ^ fbits f
  · rw [if_pos hk1, hk hk1, Nat.zero_mul, Nat.zero_add]
    refine if_congr ?_ rfl ?_
    · rw [Bool.and_eq_true, bne_iff_ne, and_iff_left hk1]
    · cases c.exact <;> simp [hk1, roundExc, excIf, excUnf, excInx]
  · have hcode : (if K = 2 ^ (fbits f + 1) then (emin f - fbits f + binadeAbove f m e + 1 + fbits f + bias f).toNat * 2 ^ fbits f
        else (emin f - fbits f + binadeAbove f m e + fbits f + bias f).toNat * 2 ^ fbits f + (K - 2 ^ fbits f)) =
          binadeAbove f m e * 2 ^ fbits f + K := by
      rw [show (emin f - fbits f + binadeAbove f m e + 1 + fbits f + bias f).toNat = binadeAbove f m e + 2 by omega,
        show (emin f - fbits f + binadeAbove f m e + fbits f + bias f).toNat = binadeAbove f m e + 1 by omega, Nat.add_mul, Nat.add_mul]
      split <;> omega
    rw [if_neg hk1, hcode, if_neg (c := _ ∧ _) fun h => hk1 ((Nat.le_add_left _ _).trans_lt h.2.2), decide_eq_false hk1, Bool.false_or]
    rfl

/-- What `roundF` gives: the picked code with its exceptions, the zero that a flushed subnormal becomes, or overflow. -/
theorem roundF_picks_or_flushes (hv : Stands m e sticky (v * 2 ^ (emin f - fbits f))) (hs : sticky = true → 2 ^ (fbits f + 1) ≤ m) :
    ∃ c C tiny, Picks (fbits f) r neg v c C ∧ (C < 2 ^ fbits f → tiny = true) ∧ (tiny = true → C ≤ 2 ^ fbits f) ∧
      ∀ level, roundF f level r neg m e sticky = if infOf f false ≤ C then (overflowCode f r neg, 0x14)
        else if flushes f level = true ∧ C ≠ 0 ∧ C < 2 ^ fbits f then (signCode f neg, 0x18)
        else (signCode f neg + C, roundExc (decide ((mag (fbits f) c : ℝ) ≠ v)) tiny) := by
  obtain ⟨hcut, hlt, hge, htiny⟩ := codeCut_bounds hm hv hs
  obtain ⟨hpicks, hlow, hk, hkp⟩ := picks_of_cut (fbits_pos f) hcut r neg hlt hge
  have hnext := (rounded_eq_or hcut r neg).imp And.right And.right
  have hovf := lt_roundedExp_iff (r := r) (neg := neg) rfl hnext hk hkp
  have hroundF := roundF_eq_codeCut (r := r) (neg := neg) (sticky := sticky) hm rfl rfl fun h => hkp.resolve_right (by omega)
  generalize codeCut f m e sticky = c at *
  generalize rounded r neg c = K at *
  generalize binadeAbove f m e = j at *
  have hinexact : decide ((mag (fbits f) (j * 2 ^ fbits f + c.kept) : ℝ) ≠ v) = !c.exact := by
    rw [hlow, decide_not]
    congr 1
    rw [Bool.eq_iff_iff, decide_eq_true_iff, hcut.exact, div_eq_iff (by positivity), eq_comm]
  refine ⟨j * 2 ^ fbits f + c.kept, j * 2 ^ fbits f + K, decide (K < 2 ^ fbits f) || decide (roundedExp f r neg m e sticky < emin f), hpicks,
    fun h => ?_, fun h => ?_, fun level => ?_⟩
  · rw [decide_eq_true (show K < 2 ^ fbits f by omega), Bool.true_or]
  · have hzero : c.kept < 2 ^ fbits f → j = 0 := fun h => hkp.resolve_right (by omega)
    rw [Bool.or_eq_true, decide_eq_true_iff, decide_eq_true_iff] at h
    rcases h with h | h
    · rw [hzero (by omega)]
      omega
    · have hkept : c.kept < 2 ^ fbits f := by exact_mod_cast hcut.le.trans_lt (htiny (le_roundedExp.trans_lt h))
      rw [hzero hkept]
      omega
  · rw [hroundF, hinexact]
    exact if_congr hovf rfl rfl

/-- What `roundF` gives where the level flushes nothing: the picked code with its exceptions, or overflow. -/
theorem roundF_picks (hfl : flushes f level = false) (hv : Stands m e sticky (v * 2 ^ (emin f - fbits f)))
    (hs : sticky = true → 2 ^ (fbits f + 1) ≤ m) :
    ∃ c C tiny, Picks (fbits f) r neg v c C ∧ (C < 2 ^ fbits f → tiny = true) ∧ (tiny = true → C ≤ 2 ^ fbits f) ∧
      roundF f level r neg m e sticky = if infOf f false ≤ C then (overflowCode f r neg, 0x14)
        else (signCode f neg + C, roundExc (decide ((mag (fbits f) c : ℝ) ≠ v)) tiny) := by
  obtain ⟨c, C, tiny, hpick, h1, h2, heq⟩ := roundF_picks_or_flushes (r := r) (neg := neg) hm hv hs
  refine ⟨c, C, tiny, hpick, h1, h2, ?_⟩
  rw [heq, hfl, if_neg (c := false = true ∧ _) fun h => Bool.false_ne_true h.1]

/-- A magnitude that is no subnormal number is not flushed. -/
theorem roundF_level (hv : Stands m e sticky (v * 2 ^ (emin f - fbits f))) (hs : sticky = true → 2 ^ (fbits f + 1) ≤ m)
    (hbig : 2 ^ fbits f ≤ v) (level' : Nat) : roundF f level r neg m e sticky = roundF f level' r neg m e sticky := by
  obtain ⟨c, C, tiny, ⟨-, hlt, hC⟩, -, -, heq⟩ := roundF_picks_or_flushes (r := r) (neg := neg) hm hv hs
  have hc : 2 ^ fbits f ≤ C := by
    have h1 : mag (fbits f) (2 ^ fbits f) < mag (fbits f) (c + 1) := by
      rw [mag_of_le le_rfl]
      exact_mod_cast hbig.trans_lt hlt
    have h2 := mag_lt_mag.mp h1
    rcases hC with ⟨-, rfl⟩ | ⟨-, rfl⟩ <;> omega
  rw [heq, heq, if_neg (c := flushes f level = true ∧ _) fun h => h.2.2.not_ge hc, if_neg (c := flushes f level' = true ∧ _) fun h => h.2.2.not_ge hc]

end

end Sys2Proof.Machine

namespace Sys2Proof.Machine
open Sys2Proof.Safety

/-! ## The picked code is what the mode asks for (R107) -/

/-- The finite code `w` is the real value `t` in units as the mode rounds it. -/
def RoundsReal (f : FFmt) (r : Rnd) (t : ℝ) (w : Nat) : Prop := ∀ v, IsFinite f v →
  match r with
  | .rne => |(units f w : ℝ) - t| ≤ |(units f v : ℝ) - t| ∧
      (|(units f w : ℝ) - t| = |(units f v : ℝ) - t| → units f v = units f w ∨ w % 2 = 0)
  | .rna => |(units f w : ℝ) - t| ≤ |(units f v : ℝ) - t| ∧
      (|(units f w : ℝ) - t| = |(units f v : ℝ) - t| → |(units f v : ℝ)| ≤ |(units f w : ℝ)|)
  | .rz => |(units f w : ℝ)| ≤ |t| ∧ (|(units f v : ℝ)| ≤ |t| → |(units f v : ℝ)| ≤ |(units f w : ℝ)|)
  | .rp => t ≤ units f w ∧ (t ≤ units f v → (units f w : ℝ) ≤ units f v)
  | .rm => (units f w : ℝ) ≤ t ∧ ((units f v : ℝ) ≤ t → (units f v : ℝ) ≤ units f w)

theorem roundsTo_of_real {f : FFmt} {r : Rnd} {n : Int} {d w : Nat} (hd : 0 < d) (h : RoundsReal f r (n / d) w) : RoundsTo f r n d w := by
  intro v hv
  have hD : (0 : ℝ) < d := by exact_mod_cast hd
  have hsub : ∀ U : Int, ((|U * d - n| : Int) : ℝ) = |(U : ℝ) - n / d| * d := fun U => by
    push_cast
    rw [← abs_of_pos hD, ← abs_mul, abs_of_pos hD, sub_mul, div_mul_cancel₀ _ hD.ne']
  have habs : ∀ U : Int, (|U * d| ≤ |n| ↔ |(U : ℝ)| ≤ |(n : ℝ) / d|) := fun U => by
    rw [abs_div, le_div_iff₀ (abs_pos.mpr hD.ne'), ← abs_mul]
    exact_mod_cast Iff.rfl
  have hle : ∀ U : Int, (n ≤ U * d ↔ (n : ℝ) / d ≤ U) := fun U => by rw [div_le_iff₀ hD]; exact_mod_cast Iff.rfl
  have hge : ∀ U : Int, (U * d ≤ n ↔ (U : ℝ) ≤ n / d) := fun U => by rw [le_div_iff₀ hD]; exact_mod_cast Iff.rfl
  have hdle : ∀ U V : Int, (|U * d - n| ≤ |V * d - n| ↔ |(U : ℝ) - n / d| ≤ |(V : ℝ) - n / d|) := fun U V => by
    rw [← Int.cast_le (R := ℝ), hsub, hsub, mul_le_mul_iff_left₀ hD]
  have hdeq : ∀ U V : Int, (|U * d - n| = |V * d - n| ↔ |(U : ℝ) - n / d| = |(V : ℝ) - n / d|) := fun U V => by
    rw [← Int.cast_inj (α := ℝ), hsub, hsub, mul_left_inj' hD.ne']
  have h1 := h v hv
  cases r with
  | rne => simpa only [hdle, hdeq] using h1
  | rz => simp only [habs]; exact_mod_cast h1
  | rp => simp only [hle]; exact_mod_cast h1
  | rm => simp only [hge]; exact_mod_cast h1
  | rna => simp only [hdle, hdeq]; exact_mod_cast h1

/-- A value with a sign given. -/
def signed (neg : Bool) (x : ℝ) : ℝ := if neg then -x else x

theorem signed_signed (neg : Bool) (x : ℝ) : signed neg (signed neg x) = x := by cases neg <;> simp [signed]

theorem abs_signed (neg : Bool) (x : ℝ) : |signed neg x| = |x| := by cases neg <;> simp [signed]

theorem abs_signed_sub (neg : Bool) (x y : ℝ) : |signed neg x - y| = |x - signed neg y| := by
  cases neg
  · rfl
  · simp only [signed, if_true, sub_neg_eq_add]
    rw [← abs_neg, neg_sub, sub_neg_eq_add, add_comm]

theorem signed_inj (neg : Bool) {x y : ℝ} : signed neg x = signed neg y ↔ x = y := by cases neg <;> simp [signed]

section
variable {r : Rnd} {neg odd : Bool} {lo hi v u X : ℝ} (hlo : lo ≤ v) (hhi : v < hi) (hX : X ≤ lo ∨ hi ≤ X)
  (hu : (TakesUpper r neg odd lo hi v ∧ u = hi) ∨ (¬TakesUpper r neg odd lo hi v ∧ u = lo))
include hlo hhi hX hu

/-- Nothing that is not between the neighbours lies nearer than the one that a nearest mode takes. -/
theorem nearest_le (hr : r = .rne ∨ r = .rna) : |u - v| ≤ |X - v| := by
  rcases hu with ⟨ht, rfl⟩ | ⟨ht, rfl⟩
  · have h2 : lo + u ≤ 2 * v := by
      rcases hr with rfl | rfl
      · exact ht.elim le_of_lt fun h => h.1.le
      · exact ht
    rw [abs_of_pos (sub_pos.mpr hhi)]
    rcases hX with h | h
    · rw [abs_of_nonpos (by linarith)]; linarith
    · rw [abs_of_nonneg (by linarith)]; linarith
  · have h2 : 2 * v ≤ u + hi := by
      rcases hr with rfl | rfl
      · exact not_lt.mp fun h => ht (.inl h)
      · exact (not_le.mp ht).le
    rw [abs_of_nonpos (sub_nonpos.mpr hlo)]
    rcases hX with h | h
    · rw [abs_of_nonpos (by linarith)]; linarith
    · rw [abs_of_nonneg (by linarith)]; linarith

/-- What lies as near lies halfway on the other side. -/
theorem eq_or_tie_of_nearest (hr : r = .rne ∨ r = .rna) (he : |u - v| = |X - v|) :
    X = u ∨ (lo + hi = 2 * v ∧ ((u = lo ∧ X = hi) ∨ (u = hi ∧ X = lo))) := by
  rcases hu with ⟨ht, rfl⟩ | ⟨ht, rfl⟩
  · have h2 : lo + u ≤ 2 * v := by
      rcases hr with rfl | rfl
      · exact ht.elim le_of_lt fun h => h.1.le
      · exact ht
    rw [abs_of_pos (sub_pos.mpr hhi)] at he
    rcases hX with h | h
    · rw [abs_of_nonpos (by linarith)] at he
      exact .inr ⟨by linarith, .inr ⟨rfl, by linarith⟩⟩
    · rw [abs_of_nonneg (by linarith)] at he
      exact .inl (by linarith)
  · have h2 : 2 * v ≤ u + hi := by
      rcases hr with rfl | rfl
      · exact not_lt.mp fun h => ht (.inl h)
      · exact (not_le.mp ht).le
    rw [abs_of_nonpos (sub_nonpos.mpr hlo)] at he
    rcases hX with h | h
    · rw [abs_of_nonpos (by linarith)] at he
      exact .inl (by linarith)
    · rw [abs_of_nonneg (by linarith)] at he
      exact .inr ⟨by linarith, .inl ⟨rfl, by linarith⟩⟩

end

/-- No finite code lies between neighbouring codes. -/
theorem units_outside {f : FFmt} (c w : Nat) (neg : Bool) :
    signed neg (units f w) ≤ mag (fbits f) c ∨ (mag (fbits f) (c + 1) : ℝ) ≤ signed neg (units f w) := by
  have h0 : (0 : ℝ) ≤ mag (fbits f) c := Nat.cast_nonneg _
  have hm : (0 : ℝ) ≤ mag (fbits f) (unsignedOf f w) := Nat.cast_nonneg _
  have hside : (mag (fbits f) (unsignedOf f w) : ℝ) ≤ mag (fbits f) c ∨ (mag (fbits f) (c + 1) : ℝ) ≤ mag (fbits f) (unsignedOf f w) := by
    rcases Nat.lt_or_ge c (unsignedOf f w) with h | h
    · exact .inr (by exact_mod_cast mag_le_mag.mpr h)
    · exact .inl (by exact_mod_cast mag_le_mag.mpr h)
  have hval : (units f w : ℝ) = mag (fbits f) (unsignedOf f w) ∨ (units f w : ℝ) = -mag (fbits f) (unsignedOf f w) := by
    rw [units_eq]
    split <;> simp
  rcases hval with h | h <;> cases neg <;> simp only [signed, h, if_true, Bool.false_eq_true, if_false, neg_neg]
  · exact hside
  · exact .inl (by linarith)
  · exact .inl (by linarith)
  · exact hside

theorem Picks.cases {p : Nat} {r : Rnd} {neg : Bool} {v : ℝ} {c C : Nat} (h : Picks p r neg v c C) :
    (TakesUpper r neg (c % 2 == 1) (mag p c) (mag p (c + 1)) v ∧ (mag p C : ℝ) = mag p (c + 1)) ∨
      (¬TakesUpper r neg (c % 2 == 1) (mag p c) (mag p (c + 1)) v ∧ (mag p C : ℝ) = mag p c) :=
  h.2.2.imp (fun h => ⟨h.1, by rw [h.2]⟩) fun h => ⟨h.1, by rw [h.2]⟩

/-- The picked code is the magnitude only where the magnitude is a code's. -/
theorem Picks.exact_iff {p : Nat} {r : Rnd} {neg : Bool} {v : ℝ} {c C : Nat} (h : Picks p r neg v c C) :
    (mag p C : ℝ) = v ↔ (mag p c : ℝ) = v := by
  obtain ⟨hlo, hhi, ⟨ht, rfl⟩ | ⟨ht, rfl⟩⟩ := h
  · exact ⟨fun he => absurd he hhi.ne', fun he => absurd ht (not_takesUpper_of_eq he hhi)⟩
  · exact Iff.rfl

/-- On a tie of RNE the picked code is even. -/
theorem Picks.even_of_tie {p : Nat} {neg : Bool} {v : ℝ} {c C : Nat} (h : Picks p .rne neg v c C)
    (ht : (mag p c : ℝ) + mag p (c + 1) = 2 * v) : C % 2 = 0 := by
  obtain ⟨-, -, ⟨hu, rfl⟩ | ⟨hu, rfl⟩⟩ := h
  · have hodd : c % 2 = 1 := by simpa using (hu.resolve_left (by linarith)).2
    omega
  · have heven : ¬(C % 2 == 1) = true := fun ho => hu (.inr ⟨ht, ho⟩)
    rw [beq_iff_eq] at heven
    omega

theorem signCode_even (f : FFmt) (s : Bool) : signCode f s % 2 = 0 := by cases f <;> cases s <;> decide

/-- The code that a mode picks for a magnitude is, with the sign, the value as the mode rounds it. -/
theorem roundsReal_of_picks {f : FFmt} {r : Rnd} {neg : Bool} {v : ℝ} {c C : Nat} (h : Picks (fbits f) r neg v c C) (hv : 0 ≤ v)
    (hC : C < 2 ^ (ebits f + fbits f)) : RoundsReal f r (signed neg v) (signCode f neg + C) := by
  intro w _
  have hU : (units f (signCode f neg + C) : ℝ) = signed neg (mag (fbits f) C) := by
    rw [units_add hC]
    cases neg <;> simp [signed]
  have hX := units_outside (f := f) c w neg
  have hXn := units_outside (f := f) c w (!neg)
  have hcases := h.cases
  obtain ⟨hlo, hhi, -⟩ := id h
  have h0 : (0 : ℝ) ≤ mag (fbits f) c := Nat.cast_nonneg _
  have hu0 : (0 : ℝ) ≤ mag (fbits f) C := Nat.cast_nonneg _
  have hsub : ∀ x, |x - signed neg v| = |signed neg x - v| := fun x => by rw [abs_signed_sub]
  have hUs : signed neg (units f (signCode f neg + C)) = mag (fbits f) C := by rw [hU, signed_signed]
  have hparity : (signCode f neg + C) % 2 = C % 2 := by rw [Nat.add_mod, signCode_even, Nat.zero_add, Nat.mod_mod]
  cases r with
  | rne =>
    dsimp only
    rw [hsub, hsub, hUs]
    refine ⟨nearest_le hlo hhi hX hcases (.inl rfl), fun he => ?_⟩
    rcases eq_or_tie_of_nearest hlo hhi hX hcases (.inl rfl) he with h1 | ⟨h1, -⟩
    · left
      rw [← hUs, signed_inj] at h1
      exact_mod_cast h1
    · right
      rw [hparity]
      exact h.even_of_tie h1
  | rna =>
    dsimp only
    rw [hsub, hsub, hUs]
    refine ⟨nearest_le hlo hhi hX hcases (.inr rfl), fun he => ?_⟩
    rw [← abs_signed neg (units f w), ← abs_signed neg (units f (signCode f neg + C)), hUs]
    rcases eq_or_tie_of_nearest hlo hhi hX hcases (.inr rfl) he with h1 | ⟨h1, ⟨h2, -⟩ | ⟨h2, h3⟩⟩
    · rw [h1]
    · rcases hcases with ⟨-, h4⟩ | ⟨h4, -⟩
      · linarith
      · exact absurd h1.le h4
    · rw [h3, h2, abs_of_nonneg h0, abs_of_nonneg (h2 ▸ hu0)]
      linarith
  | rz =>
    have hlow : (mag (fbits f) C : ℝ) = mag (fbits f) c := hcases.elim (fun h => h.1.elim) And.right
    dsimp only
    rw [hU, abs_signed, abs_signed, abs_of_nonneg hu0, abs_of_nonneg hv, hlow]
    refine ⟨hlo, fun hw => ?_⟩
    rw [abs_le] at hw ⊢
    cases neg <;> simp only [signed, if_true, Bool.false_eq_true, if_false, Bool.not_true, Bool.not_false] at hX hXn <;>
      constructor <;> rcases hX with hX | hX <;> rcases hXn with hXn | hXn <;> linarith
  | rp =>
    dsimp only
    rw [hU]
    cases neg with
    | false =>
      simp only [signed, Bool.false_eq_true, if_false] at hX ⊢
      rcases hcases with ⟨⟨-, h1⟩, h2⟩ | ⟨h1, h2⟩
      · rw [h2]
        exact ⟨hhi.le, fun hw => hX.resolve_left (by linarith)⟩
      · have h3 : v ≤ mag (fbits f) c := not_lt.mp fun h3 => h1 ⟨rfl, h3⟩
        rw [h2]
        exact ⟨h3, fun hw => by linarith⟩
    | true =>
      simp only [signed, if_true] at hX ⊢
      have hlow : (mag (fbits f) C : ℝ) = mag (fbits f) c := hcases.elim (fun h => by cases h.1.1) And.right
      rw [hlow]
      exact ⟨by linarith, fun hw => by have := hX.resolve_right (by linarith); linarith⟩
  | rm =>
    dsimp only
    rw [hU]
    cases neg with
    | true =>
      simp only [signed, if_true] at hX ⊢
      rcases hcases with ⟨⟨-, h1⟩, h2⟩ | ⟨h1, h2⟩
      · rw [h2]
        exact ⟨by linarith, fun hw => by have := hX.resolve_left (by linarith); linarith⟩
      · have h3 : v ≤ mag (fbits f) c := not_lt.mp fun h3 => h1 ⟨rfl, h3⟩
        rw [h2]
        exact ⟨by linarith, fun hw => by linarith⟩
    | false =>
      simp only [signed, Bool.false_eq_true, if_false] at hX ⊢
      have hlow : (mag (fbits f) C : ℝ) = mag (fbits f) c := hcases.elim (fun h => by cases h.1.1) And.right
      rw [hlow]
      exact ⟨hlo, fun hw => hX.resolve_right (by linarith)⟩

end Sys2Proof.Machine

namespace Sys2Proof.Machine
open Sys2Proof.Safety

/-! ## A rounding meets its statement (R107, R115) -/

theorem infCode_eq (f : FFmt) (s : Bool) : infCode f s = infOf f s := rfl

theorem infOf_eq (f : FFmt) (s : Bool) : infOf f s = signCode f s + infOf f false := by
  cases s <;> simp [infOf, signCode]

/-- An unsigned code is its own unsigned part. -/
theorem units_of_lt {f : FFmt} {c : Nat} (h : c < 2 ^ (ebits f + fbits f)) : units f c = mag (fbits f) c := by
  have := units_add (s := false) h
  simpa [signCode] using this

/-- Whether a magnitude is beyond the greatest finite one `lo` in the sense of a mode, `hi` in the place of infinity (R107). -/
def PassesTop (r : Rnd) (neg : Bool) (lo hi v : ℝ) : Prop :=
  match r with
  | .rne | .rna => lo + hi ≤ 2 * v
  | .rz => hi ≤ v
  | .rp => if neg then hi ≤ v else lo < v
  | .rm => if neg then lo < v else hi ≤ v

/-- Just below infinity, whose code is even, a mode passes the top where it takes the upper neighbour. -/
theorem passesTop_iff {r : Rnd} {neg : Bool} {lo hi v : ℝ} (h : v < hi) : PassesTop r neg lo hi v ↔ TakesUpper r neg true lo hi v := by
  cases r <;> cases neg <;> simp [PassesTop, TakesUpper, h.not_gt, h.ne', le_iff_lt_or_eq]

/-- The value overflows where the picked code would be infinity or more. -/
theorem overflows_iff {f : FFmt} {r : Rnd} {neg : Bool} {n : Int} {d c C : Nat} (hd : 0 < d) (hn : n ≠ 0) (hneg : neg = decide (n < 0))
    (h : Picks (fbits f) r neg (|(n : ℝ)| / d) c C) : Overflows f r n d ↔ infOf f false ≤ C := by
  have hD : (0 : ℝ) < d := by exact_mod_cast hd
  have hinf := infOf_pos f
  obtain ⟨i, hi⟩ := Nat.exists_eq_succ_of_ne_zero hinf.ne'
  have hodd : i % 2 = 1 := by have := infOf_even f; omega
  obtain ⟨hlo, hhi, htake⟩ := h
  obtain ⟨v, hv⟩ : ∃ v, v = |(n : ℝ)| / d := ⟨_, rfl⟩
  have hnv : |(n : ℝ)| = v * d := by rw [hv, div_mul_cancel₀ _ hD.ne']
  rw [← hv] at hlo hhi htake
  have hM : units f (infOf f false - 1) = mag (fbits f) i := by
    rw [hi, Nat.succ_sub_one, units_of_lt]
    exact (Nat.lt_succ_self i).trans (hi ▸ infOf_lt f)
  have hT : units f (infOf f false) = mag (fbits f) (i + 1) := by rw [units_of_lt (infOf_lt f), hi]
  have hover : Overflows f r n d ↔ PassesTop r neg (mag (fbits f) i) (mag (fbits f) (i + 1)) v := by
    have hle : ∀ a : Nat, ((a : Int) * d ≤ |n| ↔ (a : ℝ) ≤ v) := fun a => by
      rw [← mul_le_mul_iff_left₀ hD, ← hnv]
      exact_mod_cast Iff.rfl
    have hlt : ∀ a : Nat, ((a : Int) * d < |n| ↔ (a : ℝ) < v) := fun a => by
      rw [← mul_lt_mul_iff_left₀ hD, ← hnv]
      exact_mod_cast Iff.rfl
    have htwo : ∀ a b : Nat, (((a : Int) + b) * d ≤ 2 * |n| ↔ (a : ℝ) + b ≤ 2 * v) := fun a b => by
      rw [← mul_le_mul_iff_left₀ hD, mul_assoc, ← hnv]
      exact_mod_cast Iff.rfl
    rw [Overflows.eq_def, hM, hT]
    rcases lt_or_gt_of_ne hn with h0 | h0
    · rw [decide_eq_true h0] at hneg
      rw [abs_of_neg h0] at hle hlt htwo
      cases r <;> simp [PassesTop, hneg, not_le.mpr h0, ← hle, ← hlt, ← htwo, abs_of_neg h0]
    · rw [decide_eq_false (by omega)] at hneg
      rw [abs_of_pos h0] at hle hlt htwo
      cases r <;> simp [PassesTop, hneg, h0.le, ← hle, ← hlt, ← htwo, abs_of_pos h0]
  rw [hover, hi]
  have hmi : (mag (fbits f) i : ℝ) < mag (fbits f) (i + 1) := by exact_mod_cast mag_lt_mag.mpr (Nat.lt_succ_self i)
  rcases Nat.lt_trichotomy c i with hc | rfl | hc
  · -- below the greatest finite value
    have hvi : v < mag (fbits f) i := hhi.trans_le (by exact_mod_cast mag_le_mag.mpr hc)
    refine iff_of_false ?_ (by rcases htake with ⟨-, h⟩ | ⟨-, h⟩ <;> omega)
    cases r <;> cases neg <;> simp [PassesTop] <;> linarith
  · -- between it and infinity the mode decides
    have hup : TakesUpper r neg (c % 2 == 1) (mag (fbits f) c) (mag (fbits f) (c + 1)) v ↔ c.succ ≤ C := by
      rcases htake with ⟨ht, h⟩ | ⟨ht, h⟩
      · exact iff_of_true ht h.ge
      · exact iff_of_false ht (by omega)
    rw [← hup, passesTop_iff hhi, hodd]
    exact Iff.rfl
  · have hvi : (mag (fbits f) (i + 1) : ℝ) ≤ v := le_trans (by exact_mod_cast mag_le_mag.mpr hc) hlo
    refine iff_of_true ?_ (by rcases htake with ⟨-, h⟩ | ⟨-, h⟩ <;> omega)
    cases r <;> cases neg <;> simp [PassesTop] <;> linarith

theorem getLsbD_roundExc_inexact (i t : Bool) : (roundExc i t).getLsbD 4 = i := by cases i <;> cases t <;> decide

theorem getLsbD_roundExc_tiny (i t : Bool) : (roundExc i t).getLsbD 3 = (i && t) := by cases i <;> cases t <;> decide

theorem roundExc_and (i t : Bool) : roundExc i t &&& 0xFFFFFFE7 = 0 := by cases i <;> cases t <;> decide

theorem overflowCode_eq (f : FFmt) (r : Rnd) (n : Int) (hn : n ≠ 0) : overflowCode f r (decide (n < 0)) =
    if r = .rz ∨ (r = .rp ∧ n < 0) ∨ (r = .rm ∧ 0 < n) then infOf f (decide (n < 0)) - 1 else infOf f (decide (n < 0)) := by
  rcases lt_or_gt_of_ne hn with h | h <;> cases r <;> simp [overflowCode, maxCode, infCode_eq, h, not_lt.mpr h.le]

/-- A rounding of a value that is not zero: the picked code is what the statement asks for. -/
theorem rounded_of_picks {f : FFmt} {r : Rnd} {n : Int} {d : Nat} {z : Bool} {c C : Nat} {tiny : Bool} (hd : 0 < d) (hn : n ≠ 0)
    (h : Picks (fbits f) r (decide (n < 0)) (|(n : ℝ)| / d) c C) (ht1 : C < 2 ^ fbits f → tiny = true) (ht2 : tiny = true → C ≤ 2 ^ fbits f) :
    Rounded f r n d z (if infOf f false ≤ C then (overflowCode f r (decide (n < 0)), 0x14)
      else (signCode f (decide (n < 0)) + C, roundExc (decide ((mag (fbits f) c : ℝ) ≠ |(n : ℝ)| / d)) tiny)) := by
  have hD : (0 : ℝ) < d := by exact_mod_cast hd
  have hover := overflows_iff hd hn rfl h
  refine ⟨fun ho => ?_, fun ho => ?_⟩
  · rw [if_pos (hover.mp ho), overflowCode_eq f r n hn]
  · have hC : C < infOf f false := not_le.mp (mt hover.mpr ho)
    have hlt := hC.trans (infOf_lt f)
    have hval : (n : ℝ) / d = signed (decide (n < 0)) (|(n : ℝ)| / d) := by
      rcases lt_or_gt_of_ne hn with h0 | h0
      · have h0r : (n : ℝ) < 0 := by exact_mod_cast h0
        simp [signed, h0, abs_of_neg h0r, neg_div]
      · have h0r : (0 : ℝ) < n := by exact_mod_cast h0
        simp [signed, not_lt.mpr h0.le, abs_of_pos h0r]
    have habs : |units f (signCode f (decide (n < 0)) + C)| = mag (fbits f) C := by rw [abs_units, unsignedOf_add hlt]
    have hexact : units f (signCode f (decide (n < 0)) + C) * d ≠ n ↔ (mag (fbits f) c : ℝ) ≠ |(n : ℝ)| / d := by
      rw [Ne, Ne, ← h.exact_iff, not_iff_not, units_add hlt, ← Int.cast_inj (α := ℝ), Int.cast_mul, Int.cast_natCast, ← eq_div_iff hD.ne', hval,
        ← signed_inj (decide (n < 0)), signed_signed]
      cases decide (n < 0) <;> simp [signed]
    have hpow : ((2 : Int) ^ fbits f) = mag (fbits f) (2 ^ fbits f) := by rw [mag_of_le le_rfl]; norm_cast
    rw [if_neg (not_le.mpr hC)]
    refine ⟨isFinite_iff.mpr ⟨signCode_add_lt hlt, by rwa [unsignedOf_add hlt]⟩, ?_, ?_, roundExc_and _ _, ?_, ?_, ?_⟩
    · rw [signOf_add hlt, if_neg hn]
    · refine roundsTo_of_real hd ?_
      rw [hval]
      exact roundsReal_of_picks h (by positivity) hlt
    · rw [getLsbD_roundExc_inexact, decide_eq_true_iff, hexact]
    · rw [getLsbD_roundExc_tiny, Bool.and_eq_true, decide_eq_true_iff, habs, hpow, hexact]
      exact fun ht => ⟨ht.1, by exact_mod_cast mag_le_mag.mpr (ht2 ht.2)⟩
    · rw [getLsbD_roundExc_tiny, Bool.and_eq_true, decide_eq_true_iff, habs, hpow, hexact]
      exact fun h1 h2 => ⟨h1, ht1 (mag_lt_mag.mp (by exact_mod_cast h2))⟩

theorem units_signCode (f : FFmt) (s : Bool) : units f (signCode f s) = 0 := by
  have h := units_add (f := f) (s := s) (c := 0) (Nat.two_pow_pos _)
  rw [mag_of_le (Nat.zero_le _)] at h
  simpa using h

/-- A zero result. -/
theorem rounded_zero (f : FFmt) (r : Rnd) {d : Nat} (z : Bool) (hd : 0 < d) : Rounded f r 0 d z (signCode f z, 0) := by
  have hT : 0 < units f (infOf f false) := by
    rw [units_of_lt (infOf_lt f)]
    exact_mod_cast (mag_lt_mag (p := fbits f)).mpr (infOf_pos f) |>.trans_le' (Nat.zero_le _)
  have hM : 0 ≤ units f (infOf f false - 1) := by
    rw [units_of_lt ((Nat.sub_le _ _).trans_lt (infOf_lt f))]
    exact Nat.cast_nonneg _
  have hno : ¬Overflows f r 0 d := by
    have h1 : 0 < units f (infOf f false) * d := by positivity
    have h2 : 0 ≤ units f (infOf f false - 1) * d := by positivity
    cases r <;> simp only [Overflows, abs_zero, mul_zero, le_refl, if_true] <;> nlinarith
  refine ⟨fun h => absurd h hno, fun _ => ?_⟩
  have hu := units_signCode f z
  have hs := signOf_add (f := f) (s := z) (c := 0) (Nat.two_pow_pos _)
  have hf := unsignedOf_add (f := f) (s := z) (c := 0) (Nat.two_pow_pos _)
  have hl := signCode_add_lt (f := f) (s := z) (c := 0) (Nat.two_pow_pos _)
  rw [Nat.add_zero] at hs hf hl
  refine ⟨isFinite_iff.mpr ⟨hl, hf ▸ infOf_pos f⟩, by rw [hs, if_pos rfl], fun w _ => ?_, BitVec.zero_and, ?_, ?_, ?_⟩
  · simp only [hu, zero_mul, sub_zero, abs_zero]
    have hD : (0 : Int) < d := by exact_mod_cast hd
    cases r with
    | rne => exact ⟨abs_nonneg _, fun h => .inl (by simpa [hd.ne'] using h.symm)⟩
    | rna => exact ⟨abs_nonneg _, fun h => by have : units f w = 0 := by simpa [hd.ne'] using h.symm
                                              simp [this]⟩
    | rz => exact ⟨le_rfl, fun h => by have : units f w = 0 := by simpa [hd.ne'] using abs_nonpos_iff.mp h
                                       simp [this]⟩
    | rp => exact ⟨le_rfl, fun h => by nlinarith⟩
    | rm => exact ⟨le_rfl, fun h => by nlinarith⟩
  all_goals simp [hu]

/-- What `roundF` gives of the value `n / d` in units meets the statement, where the level flushes nothing. -/
theorem rounded_roundF {f : FFmt} {level : Nat} {r : Rnd} {neg : Bool} {m : Nat} {e : Int} {sticky : Bool} {n : Int} {d : Nat} {z : Bool}
    (hd : 0 < d) (hfl : flushes f level = false) (hv : Stands m e sticky (|(n : ℝ)| / d * 2 ^ (emin f - fbits f)))
    (hs : sticky = true → 2 ^ (fbits f + 1) ≤ m) (hneg : n ≠ 0 → neg = decide (n < 0)) (hz : n = 0 → neg = z) :
    Rounded f r n d z (roundF f level r neg m e sticky) := by
  have hpos : (0 : ℝ) < 2 ^ e := by positivity
  by_cases hn : n = 0
  · have hm : m = 0 := by
      have h := hv.le
      rw [hn, Int.cast_zero, abs_zero, zero_div, zero_mul] at h
      by_contra hne
      have : (0 : ℝ) < m * 2 ^ e := mul_pos (by exact_mod_cast Nat.pos_of_ne_zero hne) hpos
      linarith
    rw [roundF, if_pos hm, hz hn, hn]
    exact rounded_zero f r z hd
  · have hm : m ≠ 0 := by
      rintro rfl
      have hst : sticky = false := Bool.eq_false_iff.mpr fun h => absurd (hs h) (not_le.mpr (Nat.two_pow_pos _))
      have h := hv.eq_iff.mpr hst
      have hpos : 0 < |(n : ℝ)| / d * 2 ^ (emin f - fbits f) := by
        have : (0 : ℝ) < d := by exact_mod_cast hd
        have : (n : ℝ) ≠ 0 := by exact_mod_cast hn
        positivity
      simp at h
      rcases h with h | h
      · rcases h with h | h
        · exact hn h
        · omega
      · have : (0 : ℝ) < 2 ^ (emin f - fbits f) := by positivity
        linarith
    obtain ⟨c, C, tiny, hp, ht1, ht2, heq⟩ := roundF_picks (r := r) (neg := neg) hm hfl hv hs
    rw [heq]
    rw [hneg hn] at hp ⊢
    exact rounded_of_picks hd hn hp ht1 ht2

end Sys2Proof.Machine

namespace Sys2Proof.Machine
open Sys2Proof.Safety

/-! ## Codes as operands (R96, R109, R110, R159) -/

theorem bits_sign (f : FFmt) (w : Nat) : (bits w (ebits f + fbits f) 1 == 1) = signOf f w := by rw [bits, signOf, Nat.pow_one]

theorem bits_exp (f : FFmt) (w : Nat) : bits w (fbits f) (ebits f) = unsignedOf f w / 2 ^ fbits f := (unsignedOf_div f w).symm

theorem bits_frac (f : FFmt) (w : Nat) : bits w 0 (fbits f) = unsignedOf f w % 2 ^ fbits f := by
  rw [bits, Nat.pow_zero, Nat.div_one, unsignedOf_mod]

theorem bits_low (f : FFmt) (w : Nat) : bits w 0 (ebits f + fbits f) = unsignedOf f w := by
  rw [bits, Nat.pow_zero, Nat.div_one, unsignedOf]

/-- The unsigned part by its fields. -/
theorem unsignedOf_fields (f : FFmt) (w : Nat) :
    2 ^ fbits f * (unsignedOf f w / 2 ^ fbits f) + unsignedOf f w % 2 ^ fbits f = unsignedOf f w ∧ unsignedOf f w % 2 ^ fbits f < 2 ^ fbits f ∧
      unsignedOf f w / 2 ^ fbits f < 2 ^ ebits f := by
  refine ⟨Nat.div_add_mod _ _, Nat.mod_lt _ (Nat.two_pow_pos _), ?_⟩
  rw [unsignedOf_div]
  exact Nat.mod_lt _ (Nat.two_pow_pos _)

theorem infOf_false_le_iff {f : FFmt} {w : Nat} : infOf f false ≤ unsignedOf f w ↔ unsignedOf f w / 2 ^ fbits f = 2 ^ ebits f - 1 := by
  obtain ⟨-, -, hlt⟩ := unsignedOf_fields f w
  rw [infOf_false, ← Nat.le_div_iff_mul_le (Nat.two_pow_pos _)]
  omega

theorem unsignedOf_eq_infOf_iff {f : FFmt} {w : Nat} :
    unsignedOf f w = infOf f false ↔ unsignedOf f w / 2 ^ fbits f = 2 ^ ebits f - 1 ∧ unsignedOf f w % 2 ^ fbits f = 0 := by
  obtain ⟨hdm, -, -⟩ := unsignedOf_fields f w
  constructor
  · intro h
    refine ⟨infOf_false_le_iff.mp h.ge, ?_⟩
    rw [h, infOf_false, Nat.mul_mod_left]
  · rintro ⟨h1, h2⟩
    rw [← hdm, h1, h2, infOf_false, Nat.add_zero, Nat.mul_comm]

theorem isNan_iff {f : FFmt} {w : Nat} : isNan f w = true ↔ IsNan f w := by
  rw [isNan, Bool.and_eq_true, beq_iff_eq, bne_iff_ne, bits_exp, bits_frac, ← infOf_false_le_iff]
  show _ ↔ infOf f false < unsignedOf f w
  rw [Nat.lt_iff_le_and_ne]
  refine and_congr_right fun h => ?_
  rw [Ne, Ne, not_iff_not, eq_comm (a := infOf f false), unsignedOf_eq_infOf_iff, ← infOf_false_le_iff]
  exact ⟨fun h0 => ⟨h, h0⟩, And.right⟩

theorem isNan_eq_false_iff {f : FFmt} {w : Nat} : isNan f w = false ↔ ¬IsNan f w := by rw [← isNan_iff, Bool.not_eq_true]

theorem isSnan_iff {f : FFmt} {w : Nat} : isSnan f w = true ↔ Safety.Signals f w := by
  rw [isSnan, Bool.and_eq_true, isNan_iff, beq_iff_eq, bits, Nat.pow_one, Safety.Signals]

theorem not_isNan_of_finite {f : FFmt} {w : Nat} (h : IsFinite f w) : ¬IsNan f w := (isFinite_iff.mp h).2.not_gt

/-- A code that is no NaN with a negation bit applied: its sign flipped where the bit asks for it. -/
theorem negF_eq {f : FFmt} {w : Nat} (hw : w < 2 ^ (1 + ebits f + fbits f)) (h : ¬IsNan f w) (n : Bool) :
    negF f n w = signCode f (signOf f w != n) + unsignedOf f w := by
  have hsplit := signCode_signOf_add hw
  cases n with
  | false => rw [Bool.bne_false, hsplit]; rfl
  | true =>
    rw [negF, isNan_eq_false_iff.mpr h, Bool.not_false, Bool.and_self, if_pos rfl, Bool.bne_true]
    have hbit : bits w (ebits f + fbits f) 1 = 0 ↔ signOf f w = false := by
      rw [← bits_sign, beq_eq_false_iff_ne]
      have : bits w (ebits f + fbits f) 1 < 2 := Nat.mod_lt _ (by decide)
      omega
    cases hs : signOf f w with
    | false =>
      rw [if_pos (hbit.mpr hs)]
      rw [hs] at hsplit
      simp only [signCode, Bool.not_false, if_true, Bool.false_eq_true, if_false] at hsplit ⊢
      omega
    | true =>
      rw [if_neg (fun h => by rw [hbit, hs] at h; cases h)]
      rw [hs] at hsplit
      simp only [signCode, Bool.not_true, if_true, Bool.false_eq_true, if_false] at hsplit ⊢
      omega

theorem negF_of_nan {f : FFmt} {w : Nat} (h : IsNan f w) (n : Bool) : negF f n w = w := by
  rw [negF, isNan_iff.mpr h, Bool.not_true, Bool.and_false, if_neg Bool.false_ne_true]

section
variable {f : FFmt} {w : Nat} (hw : w < 2 ^ (1 + ebits f + fbits f)) (n : Bool)
include hw

theorem unsignedOf_negF : unsignedOf f (negF f n w) = unsignedOf f w := by
  by_cases h : IsNan f w
  · rw [negF_of_nan h]
  · rw [negF_eq hw h, unsignedOf_add (unsignedOf_lt f w)]

theorem negF_lt : negF f n w < 2 ^ (1 + ebits f + fbits f) := by
  by_cases h : IsNan f w
  · rwa [negF_of_nan h]
  · rw [negF_eq hw h]
    exact signCode_add_lt (unsignedOf_lt f w)

theorem signOf_negF (h : ¬IsNan f w) : signOf f (negF f n w) = (signOf f w != n) := by
  rw [negF_eq hw h, signOf_add (unsignedOf_lt f w)]

theorem isFinite_negF : IsFinite f (negF f n w) ↔ IsFinite f w := by
  rw [isFinite_iff, isFinite_iff, unsignedOf_negF hw]
  exact and_congr_left' (iff_of_true (negF_lt hw n) hw)

omit hw in
theorem isNan_negF (hw : w < 2 ^ (1 + ebits f + fbits f)) : IsNan f (negF f n w) ↔ IsNan f w := by
  show infOf f false < unsignedOf f _ ↔ _
  rw [unsignedOf_negF hw]
  exact Iff.rfl

theorem units_negF (h : ¬IsNan f w) : units f (negF f n w) = if n then -units f w else units f w := by
  rw [units_eq, signOf_negF hw n h, unsignedOf_negF hw, units_eq]
  cases n <;> cases signOf f w <;> simp

/-- An operand with its negation bit has the value and the sign of the code that the arithmetic sees. -/
theorem operand_eq (h : ¬IsNan f w) (k : Nat) : operand f k w = (units f (negF f (k == 1) w), signOf f (negF f (k == 1) w)) := by
  rw [units_negF hw _ h, signOf_negF hw _ h, operand]
  by_cases hk : k = 1 <;> simp [hk]

end

/-! ## What a code means -/

theorem flushed_of_not {f : FFmt} {level : Nat} (hfl : flushes f level = false) (w : Nat) : flushed f level w = w := by
  rw [flushed, hfl, Bool.false_and, if_neg Bool.false_ne_true]

theorem readF_of_not {f : FFmt} {level : Nat} (hfl : flushes f level = false) (w : Nat) : readF f level w = unpackF f w := by
  rw [readF, flushed_of_not hfl]

theorem unpackF_eq (f : FFmt) (w : Nat) : unpackF f w =
    if unsignedOf f w / 2 ^ fbits f = 2 ^ ebits f - 1 then
      (if unsignedOf f w % 2 ^ fbits f = 0 then .inf (signOf f w) else .nan (signOf f w) (unsignedOf f w % 2 ^ fbits f))
    else if unsignedOf f w / 2 ^ fbits f = 0 then .num (signOf f w) (unsignedOf f w % 2 ^ fbits f) (emin f - fbits f)
    else .num (signOf f w) (2 ^ fbits f + unsignedOf f w % 2 ^ fbits f) ((unsignedOf f w / 2 ^ fbits f : Nat) - bias f - fbits f) := by
  rw [unpackF, bits_exp, bits_frac, bits_sign]

theorem unpackF_inf {f : FFmt} {w : Nat} (h : unsignedOf f w = infOf f false) : unpackF f w = .inf (signOf f w) := by
  obtain ⟨h1, h2⟩ := unsignedOf_eq_infOf_iff.mp h
  rw [unpackF_eq, if_pos h1, if_pos h2]

theorem unpackF_nan {f : FFmt} {w : Nat} (h : IsNan f w) : ∃ fr, unpackF f w = .nan (signOf f w) fr := by
  have h : infOf f false < unsignedOf f w := h
  rw [unpackF_eq, if_pos (infOf_false_le_iff.mp h.le)]
  rw [if_neg fun h0 => h.ne' (unsignedOf_eq_infOf_iff.mpr ⟨infOf_false_le_iff.mp h.le, h0⟩)]
  exact ⟨_, rfl⟩

/-- The value of a signed dyadic number. -/
noncomputable def dyadic (s : Bool) (m : Nat) (e : Int) : ℝ := signed s (m * 2 ^ e)

theorem unitsOne_pos (f : FFmt) : (0 : ℝ) < unitsOne f := by
  rw [unitsOne]
  positivity

/-- One unit is the least subnormal number. -/
theorem unitsOne_mul (f : FFmt) : (unitsOne f : ℝ) * 2 ^ (emin f - fbits f) = 1 := by
  rw [emin_sub_fbits, zpow_neg, zpow_natCast, unitsOne, Nat.cast_pow, Nat.cast_ofNat, mul_inv_cancel₀ (by positivity)]

/-- A finite code means its units, exactly. -/
theorem unpackF_finite {f : FFmt} {w : Nat} (h : unsignedOf f w < infOf f false) :
    ∃ m e, unpackF f w = .num (signOf f w) m e ∧ dyadic (signOf f w) m e * unitsOne f = units f w := by
  have h2 : (2 : ℝ) ≠ 0 := two_ne_zero
  obtain ⟨m, e, hu, hm⟩ : ∃ m e, unpackF f w = .num (signOf f w) m e ∧ (m : ℝ) * 2 ^ e * unitsOne f = mag (fbits f) (unsignedOf f w) := by
    rw [unpackF_eq, if_neg fun he => (infOf_false_le_iff.mpr he).not_gt h, mag]
    split
    · refine ⟨_, _, rfl, ?_⟩
      rw [mul_assoc, mul_comm _ (unitsOne f : ℝ), unitsOne_mul, mul_one]
    · next hne =>
      refine ⟨_, _, rfl, ?_⟩
      have hexp : ((unsignedOf f w / 2 ^ fbits f : Nat) : Int) - bias f - fbits f =
          (emin f - fbits f) + (unsignedOf f w / 2 ^ fbits f - 1 : Nat) := by
        have hemin : emin f = 1 - bias f := rfl
        generalize unsignedOf f w / 2 ^ fbits f = ex at hne
        omega
      rw [hexp, zpow_add₀ h2, zpow_natCast, Nat.cast_mul, Nat.cast_pow, Nat.cast_ofNat]
      calc _ = ((2 ^ fbits f + unsignedOf f w % 2 ^ fbits f : Nat) : ℝ) * 2 ^ (unsignedOf f w / 2 ^ fbits f - 1) *
            (unitsOne f * 2 ^ (emin f - fbits f)) := by ring
        _ = _ := by rw [unitsOne_mul, mul_one]
  refine ⟨m, e, hu, ?_⟩
  rw [units_eq, dyadic]
  cases signOf f w
  · simpa [signed] using hm
  · simpa [signed] using hm

theorem readF_finite {f : FFmt} {level w : Nat} (hfl : flushes f level = false) (h : IsFinite f w) :
    ∃ m e, readF f level w = .num (signOf f w) m e ∧ dyadic (signOf f w) m e * unitsOne f = units f w := by
  rw [readF_of_not hfl]
  exact unpackF_finite (isFinite_iff.mp h).2

/-- A value with a sign is zero where its magnitude is, else negative where the sign says so. -/
theorem dyadic_eq_zero {s : Bool} {m : Nat} {e : Int} : dyadic s m e = 0 ↔ m = 0 := by
  have : (2 : ℝ) ^ e ≠ 0 := by positivity
  cases s <;> simp [dyadic, signed, this]

theorem dyadic_neg_iff {s : Bool} {m : Nat} {e : Int} (hm : m ≠ 0) : dyadic s m e < 0 ↔ s = true := by
  have : (0 : ℝ) < m * 2 ^ e := mul_pos (by exact_mod_cast Nat.pos_of_ne_zero hm) (by positivity)
  cases s
  · simp [dyadic, signed, this.le]
  · simp [dyadic, signed, this]

theorem abs_dyadic (s : Bool) (m : Nat) (e : Int) : |dyadic s m e| = m * 2 ^ e := by
  rw [dyadic, abs_signed, abs_of_nonneg (by positivity)]

/-- An exact dyadic value rounded meets the statement. -/
theorem rounded_exact {f : FFmt} {level : Nat} {s : Bool} {m : Nat} {e : Int} {n : Int} {d : Nat} {z : Bool} (r : Rnd) (hd : 0 < d)
    (hfl : flushes f level = false) (hval : dyadic s m e * unitsOne f = n / d) (hz : n = 0 → s = z) :
    Rounded f r n d z (roundF f level r s m e false) := by
  have hD : (0 : ℝ) < d := by exact_mod_cast hd
  have hU := unitsOne_pos f
  refine rounded_roundF hd hfl ?_ (fun h => by cases h) (fun hn => ?_) hz
  · show _ = (m : ℝ) * 2 ^ e
    rw [← abs_of_pos hD, ← abs_div, ← hval, abs_mul, abs_of_pos hU, abs_dyadic, mul_assoc, unitsOne_mul, mul_one]
  · have hne : dyadic s m e ≠ 0 := fun h0 => hn (by
      rw [h0, zero_mul, eq_comm, div_eq_zero_iff] at hval
      exact_mod_cast hval.resolve_right hD.ne')
    have hsign : n < 0 ↔ dyadic s m e < 0 := by
      rw [← mul_lt_mul_iff_left₀ hU, hval, zero_mul, div_lt_iff₀ hD, zero_mul, Int.cast_lt_zero]
    rw [Bool.eq_iff_iff, decide_eq_true_iff, hsign, dyadic_neg_iff (mt dyadic_eq_zero.mpr hne)]

end Sys2Proof.Machine

/-! Proofs about floating-point arithmetic of finite operands (R108, R161, R162): exact sums, products, quotients and roots, rounded once. -/
namespace Sys2Proof.Machine
open Sys2Proof.Safety

/-! ## Modes and saturation -/

theorem rndOf_of_mode {rnd : Nat} {m : Rnd} (h : modeOf rnd m) : rndOf rnd = m := by
  match rnd with
  | 0 | 1 | 2 | 3 | 4 => exact Option.some.inj h
  | n + 5 => cases h

theorem saturate_eq (f : FFmt) (sat w : Nat) : saturate f (sat == 1) w = saturated f sat w := by
  rw [saturate, saturated, bits_exp, bits_frac]
  congr 1
  rw [Bool.and_eq_true, Bool.and_eq_true, beq_iff_eq, beq_iff_eq, beq_iff_eq, eq_iff_iff, and_assoc, and_comm (a := _ % _ = 0),
    ← unsignedOf_eq_infOf_iff, unsignedOf]

theorem finishF_eq {env : FEnv} {sat : Nat} (h : env.sat = (sat == 1)) (f : FFmt) (x : Nat × Exc) :
    finishF f env x = (saturated f sat x.1, x.2) := by
  rw [finishF, h, saturate_eq]

/-- Only an infinity is saturated. -/
theorem saturated_of_ne {f : FFmt} {sat w : Nat} (h : unsignedOf f w ≠ infOf f false) : saturated f sat w = w := if_neg fun h' => h h'.2

theorem saturated_of_finite {f : FFmt} {sat w : Nat} (h : IsFinite f w) : saturated f sat w = w :=
  saturated_of_ne (isFinite_iff.mp h).2.ne

theorem unsignedOf_signCode (f : FFmt) (s : Bool) : unsignedOf f (signCode f s) = 0 :=
  unsignedOf_add (c := 0) (Nat.two_pow_pos _)

theorem finishF_signCode (f : FFmt) (env : FEnv) (s : Bool) (e : Exc) : finishF f env (signCode f s, e) = (signCode f s, e) := by
  have h : saturate f env.sat (signCode f s) = signCode f s := by
    have h1 := saturate_eq f (if env.sat then 1 else 0) (signCode f s)
    rw [saturated_of_ne (by rw [unsignedOf_signCode]; exact (infOf_pos f).ne)] at h1
    cases hs : env.sat <;> simpa [hs] using h1
  rw [finishF, h]

/-! ## Exact sums -/

/-- The value of a dyadic number. -/
noncomputable def Dyad.val (d : Dyad) : ℝ := dyadic d.neg d.m d.e

theorem foldl_min_le (l : List Dyad) (a : Int) : l.foldl (fun q d => min q d.e) a ≤ a ∧ ∀ d ∈ l, l.foldl (fun q d => min q d.e) a ≤ d.e := by
  induction l generalizing a with
  | nil => simp
  | cons x l ih =>
    obtain ⟨h1, h2⟩ := ih (min a x.e)
    refine ⟨h1.trans (min_le_left _ _), fun d hd => ?_⟩
    rcases List.mem_cons.mp hd with rfl | hd
    · exact h1.trans (min_le_right _ _)
    · exact h2 d hd

theorem dyadAt_mul {q : Int} {d : Dyad} (h : q ≤ d.e) : (dyadAt q d : ℝ) * 2 ^ q = d.val := by
  have hexp : (2 : ℝ) ^ (d.e - q).toNat * 2 ^ q = 2 ^ d.e := by
    rw [← zpow_natCast, Int.toNat_of_nonneg (by omega), ← zpow_add₀ two_ne_zero, sub_add_cancel]
  rw [Dyad.val, dyadic, ← hexp, dyadAt]
  cases d.neg <;> simp [signed] <;> ring

theorem foldl_dyadAt {q : Int} (l : List Dyad) (h : ∀ d ∈ l, q ≤ d.e) (a : Int) :
    ((l.foldl (fun v d => v + dyadAt q d) a : Int) : ℝ) * 2 ^ q = a * 2 ^ q + (l.map Dyad.val).sum := by
  induction l generalizing a with
  | nil => simp
  | cons x l ih =>
    rw [List.foldl_cons, ih (fun d hd => h d (List.mem_cons_of_mem _ hd)), Int.cast_add, add_mul, dyadAt_mul (h x List.mem_cons_self),
      List.map_cons, List.sum_cons, add_assoc]

/-- A sum of dyadic numbers is exact; a zero has the sign that R162 gives it. -/
theorem sumDyads_spec (r : Rnd) (ds : List Dyad) : (sumDyads r ds).val = (ds.map Dyad.val).sum ∧
    ((ds.map Dyad.val).sum = 0 → (sumDyads r ds).neg = if ds.all (·.neg) then true else if ds.all (!·.neg) then false else r == .rm) := by
  have hle := (foldl_min_le ds 0).2
  have hsum := foldl_dyadAt ds hle 0
  rw [Int.cast_zero, zero_mul, zero_add] at hsum
  rw [sumDyads]
  generalize ds.foldl (fun q d => min q d.e) 0 = q at *
  generalize ds.foldl (fun v d => v + dyadAt q d) 0 = v at *
  have hpos : (2 : ℝ) ^ q ≠ 0 := by positivity
  by_cases hv : v = 0
  · rw [if_pos hv]
    rw [hv, Int.cast_zero, zero_mul] at hsum
    exact ⟨by rw [← hsum]; exact dyadic_eq_zero.mpr rfl, fun _ => rfl⟩
  · rw [if_neg hv]
    refine ⟨?_, fun h0 => absurd (hsum.trans h0) (mul_ne_zero (by exact_mod_cast hv) hpos)⟩
    rw [← hsum, Dyad.val, dyadic, Nat.cast_natAbs, Int.cast_abs]
    rcases lt_or_gt_of_ne hv with h0 | h0
    · have h0r : (v : ℝ) < 0 := by exact_mod_cast h0
      simp [signed, h0, abs_of_neg h0r]
    · have h0r : (0 : ℝ) < v := by exact_mod_cast h0
      simp [signed, h0.le, abs_of_pos h0r]

theorem dyadic_mul (s t : Bool) (m n : Nat) (e g : Int) : dyadic (s != t) (m * n) (e + g) = dyadic s m e * dyadic t n g := by
  have h := zpow_add₀ (two_ne_zero (α := ℝ)) e g
  cases s <;> cases t <;> simp [dyadic, signed, h] <;> ring

/-- A dyadic number rounded meets the statement for its value. -/
theorem rounded_roundDyad {f : FFmt} {env : FEnv} {D : Dyad} {n : Int} {d : Nat} {z : Bool} (hd : 0 < d)
    (hfl : flushes f env.level = false) (hval : D.val * unitsOne f = n / d) (hz : n = 0 → D.neg = z) :
    ∃ x, Rounded f env.rnd n d z x ∧ roundDyad f env D = finishF f env x :=
  ⟨_, rounded_exact env.rnd hd hfl hval hz, rfl⟩

/-- Value and sign of a code. -/
def valued (f : FFmt) (w : Nat) : Int × Bool := (units f w, signOf f w)

section
variable {f : FFmt} {env : FEnv} {a b c : Nat} (hfl : flushes f env.level = false) (ha : IsFinite f a) (hb : IsFinite f b)
include hfl ha hb

theorem sumOf_faddF : ∃ x, SumOf f env.rnd (valued f a) (valued f b) x ∧ faddF f env a b = finishF f env x := by
  obtain ⟨m, e, hra, hva⟩ := readF_finite hfl ha
  obtain ⟨n, g, hrb, hvb⟩ := readF_finite hfl hb
  obtain ⟨hval, hneg⟩ := sumDyads_spec env.rnd [⟨signOf f a, m, e⟩, ⟨signOf f b, n, g⟩]
  have hU := (unitsOne_pos f).ne'
  simp only [List.map_cons, List.map_nil, List.sum_cons, List.sum_nil, add_zero] at hval hneg
  have hunits : (sumDyads env.rnd [⟨signOf f a, m, e⟩, ⟨signOf f b, n, g⟩]).val * unitsOne f = ((units f a + units f b : Int) : ℝ) / (1 : Nat) := by
    rw [hval, add_mul, Nat.cast_one, div_one, Int.cast_add, ← hva, ← hvb]
    rfl
  obtain ⟨x, hx, heq⟩ := rounded_roundDyad (z := if signOf f a = signOf f b then signOf f a else env.rnd == .rm) Nat.one_pos hfl hunits
    (fun h0 => by
      rw [h0, Int.cast_zero, zero_div, hval] at hunits
      rw [hneg ((mul_eq_zero.mp hunits).resolve_right hU)]
      cases signOf f a <;> cases signOf f b <;> simp)
  exact ⟨x, hx, by rw [faddF, hra, hrb, ← heq]⟩

theorem productOf_fmulF : ∃ x, ProductOf f env.rnd (valued f a) (valued f b) x ∧ fmulF f env a b = finishF f env x := by
  obtain ⟨m, e, hra, hva⟩ := readF_finite hfl ha
  obtain ⟨n, g, hrb, hvb⟩ := readF_finite hfl hb
  have hU := (unitsOne_pos f).ne'
  obtain ⟨x, hx, heq⟩ := rounded_roundDyad (f := f) (env := env) (D := ⟨signOf f a != signOf f b, m * n, e + g⟩) (n := units f a * units f b)
    (d := unitsOne f) (z := signOf f a != signOf f b) (by exact_mod_cast unitsOne_pos f) hfl
    (by rw [Dyad.val, dyadic_mul, Int.cast_mul, ← hva, ← hvb]; field_simp) fun _ => rfl
  exact ⟨x, hx, by rw [fmulF, hra, hrb, ← heq]⟩

theorem fusedOf_ffmaF (hc : IsFinite f c) : ∃ x, FusedOf f env.rnd (valued f a) (valued f b) (valued f c) x ∧
    ffmaF f env a b c = finishF f env x := by
  obtain ⟨m, e, hra, hva⟩ := readF_finite hfl ha
  obtain ⟨n, g, hrb, hvb⟩ := readF_finite hfl hb
  obtain ⟨k, h, hrc, hvc⟩ := readF_finite hfl hc
  obtain ⟨hval, hneg⟩ := sumDyads_spec env.rnd [⟨signOf f a != signOf f b, m * n, e + g⟩, ⟨signOf f c, k, h⟩]
  have hU := (unitsOne_pos f).ne'
  simp only [List.map_cons, List.map_nil, List.sum_cons, List.sum_nil, add_zero] at hval hneg
  have hunits : (sumDyads env.rnd [⟨signOf f a != signOf f b, m * n, e + g⟩, ⟨signOf f c, k, h⟩]).val * unitsOne f =
      ((units f a * units f b + units f c * unitsOne f : Int) : ℝ) / unitsOne f := by
    rw [hval, Dyad.val, Dyad.val, dyadic_mul]
    push_cast
    rw [← hva, ← hvb, ← hvc]
    field_simp
  obtain ⟨x, hx, heq⟩ := rounded_roundDyad (z := if (signOf f a != signOf f b) = signOf f c then signOf f c else env.rnd == .rm)
    (by exact_mod_cast unitsOne_pos f) hfl hunits
    (fun h0 => by
      rw [h0, Int.cast_zero, zero_div, hval] at hunits
      rw [hneg ((mul_eq_zero.mp hunits).resolve_right hU)]
      cases signOf f a != signOf f b <;> cases signOf f c <;> simp)
  exact ⟨x, hx, by rw [ffmaF, hra, hrb, hrc, ← heq]⟩

end

/-! ## Quotients -/

/-- A whole quotient with its remainder's trace stands for the quotient. -/
theorem stands_div {x y : Nat} (hy : 0 < y) (e : Int) : Stands (x / y) e (x % y != 0) ((x : ℝ) / y * 2 ^ e) := by
  have hY : (0 : ℝ) < y := by exact_mod_cast hy
  have hpos : (0 : ℝ) < 2 ^ e := by positivity
  have hdm : (y : ℝ) * (x / y : Nat) + (x % y : Nat) = x := by exact_mod_cast Nat.div_add_mod x y
  have hlt : ((x % y : Nat) : ℝ) < y := by exact_mod_cast Nat.mod_lt x hy
  by_cases h0 : x % y = 0
  · rw [h0, bne_self_eq_false]
    rw [h0, Nat.cast_zero, add_zero] at hdm
    show _ = _
    rw [← hdm, mul_div_cancel_left₀ _ hY.ne']
  · have h1 : (0 : ℝ) < (x % y : Nat) := by exact_mod_cast Nat.pos_of_ne_zero h0
    rw [bne_iff_ne.mpr h0]
    constructor
    · rw [mul_lt_mul_iff_left₀ hpos, lt_div_iff₀ hY]
      linarith
    · rw [mul_lt_mul_iff_left₀ hpos, div_lt_iff₀ hY]
      linarith

/-- A dividend with `k` more bits than the divisor has at least that many in its quotient. -/
theorem two_pow_le_div {m n k : Nat} (hm : m ≠ 0) (hn : n ≠ 0) : 2 ^ k ≤ m * 2 ^ (k + 1 + Nat.log2 n) / n := by
  rw [Nat.le_div_iff_mul_le (Nat.pos_of_ne_zero hn)]
  calc 2 ^ k * n ≤ 2 ^ k * 2 ^ (Nat.log2 n + 1) := Nat.mul_le_mul_left _ Nat.lt_log2_self.le
    _ = 2 ^ (k + 1 + Nat.log2 n) := by rw [← Nat.pow_add]; congr 1; omega
    _ ≤ m * 2 ^ (k + 1 + Nat.log2 n) := Nat.le_mul_of_pos_left _ (Nat.pos_of_ne_zero hm)

section
variable {f : FFmt} {env : FEnv} {a b : Nat} (hfl : flushes f env.level = false) (ha : IsFinite f a) (hb : IsFinite f b)
include hfl ha hb

theorem quotientOf_fdivF (h0 : units f b ≠ 0) : ∃ x, QuotientOf f env.rnd (valued f a) (valued f b) x ∧ fdivF f env a b = finishF f env x := by
  obtain ⟨m, e, hra, hva⟩ := readF_finite hfl ha
  obtain ⟨n, g, hrb, hvb⟩ := readF_finite hfl hb
  have hU := unitsOne_pos f
  have hd : 0 < (units f b).natAbs := Int.natAbs_pos.mpr h0
  have hne : ∀ {s k h w}, dyadic s k h * unitsOne f = units f w → (k = 0 ↔ units f w = 0) := fun {s k h w} hv => by
    rw [← dyadic_eq_zero (s := s) (e := h), ← Int.cast_eq_zero (α := ℝ), ← hv, mul_eq_zero, or_iff_left hU.ne']
  have hn : n ≠ 0 := mt (hne hvb).mp h0
  by_cases hm : m = 0
  · have hz : units f a = 0 := (hne hva).mp hm
    refine ⟨(signCode f (signOf f a != signOf f b), 0), ?_, ?_⟩
    · show Rounded f env.rnd (units f a * unitsOne f * (units f b).sign) _ _ _
      rw [hz, zero_mul, zero_mul]
      exact rounded_zero f env.rnd _ hd
    · rw [finishF_signCode]
      simp only [fdivF, hra, hrb, if_neg hn, if_pos hm]
      rfl
  · refine ⟨roundF f env.level env.rnd (signOf f a != signOf f b) (m * 2 ^ (fbits f + 4 + Nat.log2 n) / n)
      (e - g - (fbits f + 4 + Nat.log2 n : Nat)) (m * 2 ^ (fbits f + 4 + Nat.log2 n) % n != 0), ?_, ?_⟩
    · have hN : units f a * unitsOne f * (units f b).sign ≠ 0 :=
        mul_ne_zero (mul_ne_zero (mt (hne hva).mpr hm) (by exact_mod_cast hU.ne')) (mt Int.sign_eq_zero_iff_zero.mp h0)
      show Rounded f env.rnd (units f a * unitsOne f * (units f b).sign) (units f b).natAbs (signOf f a != signOf f b) _
      refine rounded_roundF hd hfl ?_ (fun _ => ?_) (fun _ => ?_) fun h => absurd h hN
      · have habs : |((units f a * unitsOne f * (units f b).sign : Int) : ℝ)| / (units f b).natAbs * 2 ^ (emin f - fbits f) =
            ((m * 2 ^ (fbits f + 4 + Nat.log2 n) : Nat) : ℝ) / n * 2 ^ (e - g - (fbits f + 4 + Nat.log2 n : Nat)) := by
          have hsign : |((units f b).sign : ℝ)| = 1 := by exact_mod_cast (Int.abs_sign_of_ne_zero h0)
          have hn' : (n : ℝ) ≠ 0 := by exact_mod_cast hn
          have hg : (2 : ℝ) ^ g ≠ 0 := by positivity
          have hU1 := unitsOne_mul f
          generalize fbits f + 4 + Nat.log2 n = K
          generalize (2 : ℝ) ^ (emin f - fbits f) = u at *
          push_cast
          rw [Nat.cast_natAbs, Int.cast_abs, abs_mul, abs_mul, hsign, ← hva, ← hvb, abs_mul, abs_mul, abs_of_pos hU, abs_dyadic, abs_dyadic,
            zpow_sub₀ two_ne_zero (e - g), zpow_sub₀ two_ne_zero e, zpow_natCast]
          calc _ = ((m : ℝ) * 2 ^ e) / ((n : ℝ) * 2 ^ g) * (unitsOne f * u) := by field_simp
            _ = _ := by rw [hU1]; field_simp
        rw [habs]
        exact stands_div (Nat.pos_of_ne_zero hn) _
      · exact le_trans (Nat.pow_le_pow_right (by decide) (by omega)) (two_pow_le_div (k := fbits f + 3) hm hn)
      · have hs : ∀ {s k h w}, k ≠ 0 → dyadic s k h * unitsOne f = units f w → (units f w < 0 ↔ s = true) := fun {s k h w} hk hv => by
          rw [← dyadic_neg_iff (s := s) (e := h) hk, ← Int.cast_lt_zero (R := ℝ), ← hv, mul_neg_iff]
          simp [hU, hU.not_gt]
        have hsa := hs hm hva
        have hsb := hs hn hvb
        have hza := mt (hne hva).mpr hm
        have hUi : (0 : Int) < unitsOne f := by exact_mod_cast hU
        rw [Bool.eq_iff_iff, decide_eq_true_iff, bne_iff_ne, ne_eq, Bool.eq_iff_iff, ← hsa, ← hsb]
        rcases lt_or_gt_of_ne hza with h1 | h1 <;> rcases lt_or_gt_of_ne h0 with h2 | h2
        · simp [h1, h2, Int.sign_eq_neg_one_of_neg h2, (mul_neg_of_neg_of_pos h1 hUi).le]
        · simp [h1, h2.not_gt, Int.sign_eq_one_of_pos h2, mul_neg_of_neg_of_pos h1 hUi]
        · simp [h1.not_gt, h2, Int.sign_eq_neg_one_of_neg h2, mul_pos h1 hUi]
        · simp [h1.not_gt, h2.not_gt, Int.sign_eq_one_of_pos h2, (mul_pos h1 hUi).le]
    · simp only [fdivF, hra, hrb, if_neg hn, if_neg hm]

end

end Sys2Proof.Machine

/-! Proofs about reciprocals and square roots (R161, R162). -/
namespace Sys2Proof.Machine
open Sys2Proof.Safety

/-! ## Whole square roots -/

theorem isqrtFrom_spec {x i r : Nat} (hlo : r * r ≤ x) (hhi : x < (r + 2 ^ i) * (r + 2 ^ i)) :
    isqrtFrom x i r * isqrtFrom x i r ≤ x ∧ x < (isqrtFrom x i r + 1) * (isqrtFrom x i r + 1) := by
  induction i generalizing r with
  | zero => exact ⟨hlo, hhi⟩
  | succ i ih =>
    rw [Nat.pow_succ, Nat.mul_two, ← Nat.add_assoc] at hhi
    rw [isqrtFrom]
    split
    · next h => exact ih h hhi
    · next h => exact ih hlo (not_le.mp h)

theorem isqrt_spec (x : Nat) : isqrt x * isqrt x ≤ x ∧ x < (isqrt x + 1) * (isqrt x + 1) := by
  refine isqrtFrom_spec (Nat.zero_le _) ?_
  rw [Nat.zero_add, ← Nat.pow_add]
  exact Nat.lt_log2_self.trans_le (Nat.pow_le_pow_right (by decide) (by omega))

theorem le_isqrt {x k : Nat} (h : 2 ^ (2 * k) ≤ x) : 2 ^ k ≤ isqrt x := by
  by_contra hlt
  have h1 : isqrt x + 1 ≤ 2 ^ k := by omega
  have h2 := h.trans_lt ((isqrt_spec x).2.trans_le (Nat.mul_le_mul h1 h1))
  rw [← Nat.pow_add, ← Nat.two_mul] at h2
  exact lt_irrefl _ h2

/-- The whole root of a whole quotient, with its remainder's trace, stands for the root. -/
theorem stands_root {N D : Nat} (hD : 0 < D) (e : Int) :
    Stands (isqrt (N / D)) e (isqrt (N / D) * isqrt (N / D) * D != N) (√((N : ℝ) / D) * 2 ^ e) := by
  obtain ⟨hlo, hhi⟩ := isqrt_spec (N / D)
  rw [Nat.le_div_iff_mul_le hD] at hlo
  rw [Nat.div_lt_iff_lt_mul hD] at hhi
  generalize isqrt (N / D) = r at *
  have hR : (0 : ℝ) < D := by exact_mod_cast hD
  have hpos : (0 : ℝ) < 2 ^ e := by positivity
  by_cases h0 : r * r * D = N
  · rw [bne_eq_false_iff_eq.mpr h0]
    show _ = _
    rw [← h0, Nat.cast_mul, mul_div_cancel_right₀ _ hR.ne', Nat.cast_mul, Real.sqrt_mul_self (Nat.cast_nonneg _)]
  · have h1 : ((r * r * D : Nat) : ℝ) < N := by exact_mod_cast lt_of_le_of_ne hlo h0
    have h2 : (N : ℝ) < ((r + 1) * (r + 1) * D : Nat) := by exact_mod_cast hhi
    push_cast at h1 h2
    rw [bne_iff_ne.mpr h0]
    constructor
    · rw [mul_lt_mul_iff_left₀ hpos, Real.lt_sqrt (Nat.cast_nonneg _), lt_div_iff₀ hR, sq]
      exact h1
    · rw [mul_lt_mul_iff_left₀ hpos, Real.sqrt_lt' (by positivity), div_lt_iff₀ hR, sq]
      exact h2

theorem sqrt_mul_zpow (x : ℝ) (e : Int) : √x * 2 ^ e = √(x * 2 ^ (2 * e)) := by
  have h : (2 : ℝ) ^ (2 * e) = (2 ^ e) ^ 2 := by rw [mul_comm, zpow_mul]; rfl
  rw [h, Real.sqrt_mul' _ (sq_nonneg _), Real.sqrt_sq (by positivity)]

/-! ## A rounded root -/

/-- The magnitude of the greatest power of two of a format. -/
theorem mag_top (f : FFmt) : mag (fbits f) (2 * bias f * 2 ^ fbits f) = 2 ^ (fbits f + 2 * bias f - 1) := by
  have hb := bias_pos f
  have h := mag_add (p := fbits f) (j := 2 * bias f - 1) (k := 2 ^ fbits f) (.inr le_rfl) (Nat.pow_le_pow_right (by decide) (Nat.le_succ _))
  rw [← Nat.succ_mul, ← Nat.pow_add] at h
  rw [show 2 * bias f = (2 * bias f - 1).succ by omega, h]
  congr 1

theorem Picks.le_of_le {p T : Nat} {r : Rnd} {neg : Bool} {v : ℝ} {c C : Nat} (h : Picks p r neg v c C) (hT : v ≤ mag p T) : C ≤ T := by
  obtain ⟨hlo, hhi, ⟨ht, rfl⟩ | ⟨-, rfl⟩⟩ := h
  · have hlt : (mag p c : ℝ) < mag p T := lt_of_le_of_ne (hlo.trans hT) fun he =>
      not_takesUpper_of_eq (le_antisymm hlo (hT.trans he.ge)) hhi ht
    exact mag_lt_mag.mp (by exact_mod_cast hlt)
  · exact mag_le_mag.mp (by exact_mod_cast hlo.trans hT)

theorem Picks.ge_of_ge {p T : Nat} {r : Rnd} {neg : Bool} {v : ℝ} {c C : Nat} (h : Picks p r neg v c C) (hT : (mag p T : ℝ) ≤ v) : T ≤ C := by
  obtain ⟨-, hhi, htake⟩ := h
  have hlt : T < c + 1 := mag_lt_mag.mp (by exact_mod_cast hT.trans_lt hhi)
  rcases htake with ⟨-, rfl⟩ | ⟨-, rfl⟩ <;> omega

section
variable {f : FFmt} {r : Rnd} {n d : Int} {w : Nat} (hd : 0 < d) (hn : 0 ≤ n)
include hd hn

theorem le_root_iff {x : Int} (hx : 0 ≤ x) : (x : ℝ) ≤ √((n : ℝ) / d) ↔ x ^ 2 * d ≤ n := by
  have hD : (0 : ℝ) < d := by exact_mod_cast hd
  rw [Real.le_sqrt (by exact_mod_cast hx) (div_nonneg (by exact_mod_cast hn) hD.le), le_div_iff₀ hD]
  exact_mod_cast Iff.rfl

omit hn in
theorem root_le_iff {x : Int} (hx : 0 ≤ x) : √((n : ℝ) / d) ≤ x ↔ n ≤ x ^ 2 * d := by
  rw [Real.sqrt_le_left (by exact_mod_cast hx), div_le_iff₀ (by exact_mod_cast hd)]
  exact_mod_cast Iff.rfl

theorem eq_root_iff {x : Int} (hx : 0 ≤ x) : (x : ℝ) = √((n : ℝ) / d) ↔ x ^ 2 * d = n := by
  rw [le_antisymm_iff, le_root_iff hd hn hx, root_le_iff hd hx, le_antisymm_iff]

/-- A code that is the root as the mode rounds it, with its exception, meets the statement for roots. -/
theorem rootOf_of_real {x : Nat × Exc} (hfin : IsFinite f x.1) (hsign : signOf f x.1 = false) (hx : 0 ≤ units f x.1)
    (hexc : x.2 = if units f x.1 ^ 2 * d = n then 0 else 0x10) (h : RoundsReal f r √((n : ℝ) / d) x.1) : RootOf f r n d x := by
  refine ⟨hfin, hsign, hexc, fun v hv h0 => ?_⟩
  have ht0 := Real.sqrt_nonneg ((n : ℝ) / d)
  have hxr : (0 : ℝ) ≤ units f x.1 := by exact_mod_cast hx
  have hvr : (0 : ℝ) ≤ units f v := by exact_mod_cast h0
  have hmid : |(units f x.1 : ℝ) - √((n : ℝ) / d)| ≤ |(units f v : ℝ) - √((n : ℝ) / d)| →
      (units f x.1 < units f v → 4 * n ≤ (units f x.1 + units f v) ^ 2 * d) ∧
        (units f v < units f x.1 → (units f x.1 + units f v) ^ 2 * d ≤ 4 * n) := fun hle => by
    have hsq : √(((4 * n : Int) : ℝ) / d) = 2 * √((n : ℝ) / d) := by
      rw [Int.cast_mul, mul_div_assoc, Real.sqrt_mul (by norm_num)]
      norm_num
    have hn4 : 0 ≤ 4 * n := by omega
    have hle2 := sq_le_sq.mpr hle
    have hiff := fun x => le_root_iff (x := x) hd hn4
    have hiff2 := fun x => root_le_iff (n := 4 * n) (x := x) hd
    rw [hsq] at hiff hiff2
    refine ⟨fun hlt => (hiff2 _ (by omega)).mp ?_, fun hlt => (hiff _ (by omega)).mp ?_⟩
    · have hltr : (0 : ℝ) < units f v - units f x.1 := sub_pos.mpr (by exact_mod_cast hlt)
      push_cast
      nlinarith
    · have hltr : (0 : ℝ) < units f x.1 - units f v := sub_pos.mpr (by exact_mod_cast hlt)
      push_cast
      nlinarith
  have h1 := h v hv
  cases r with
  | rne => exact hmid h1.1
  | rna => exact hmid h1.1
  | rz =>
    rw [abs_of_nonneg hxr, abs_of_nonneg hvr, abs_of_nonneg ht0, le_root_iff hd hn hx, le_root_iff hd hn h0] at h1
    exact_mod_cast h1
  | rm =>
    rw [le_root_iff hd hn hx, le_root_iff hd hn h0] at h1
    exact_mod_cast h1
  | rp =>
    rw [root_le_iff hd hx, root_le_iff hd h0] at h1
    exact_mod_cast h1

end

/-- A root away from the ends of the format, rounded: it neither overflows nor is tiny. -/
theorem rootOf_roundF {f : FFmt} {level m : Nat} {e : Int} {sticky : Bool} {n d : Int} (r : Rnd) (hfl : flushes f level = false) (hm : m ≠ 0)
    (hd : 0 < d) (hlow : 2 ^ (2 * (fbits f + 1)) * d ≤ n) (htop : n ≤ 2 ^ (2 * (fbits f + 2 * bias f - 1)) * d)
    (hv : Stands m e sticky (√((n : ℝ) / d) * 2 ^ (emin f - fbits f))) (hs : sticky = true → 2 ^ (fbits f + 1) ≤ m) :
    RootOf f r n d (roundF f level r false m e sticky) := by
  have hn : 0 ≤ n := (by positivity : 0 ≤ 2 ^ (2 * (fbits f + 1)) * d).trans hlow
  obtain ⟨c, C, tiny, hpick, -, htiny, heq⟩ := roundF_picks (r := r) (neg := false) hm hfl hv hs
  have hge : 2 ^ fbits f + 2 ^ fbits f ≤ C := hpick.ge_of_ge (by
    have h1 := mag_add (p := fbits f) (j := 1) (k := 2 ^ fbits f) (.inr le_rfl) (Nat.pow_le_pow_right (by decide) (Nat.le_succ _))
    rw [Nat.one_mul, ← Nat.pow_add] at h1
    rw [h1]
    have h2 := (le_root_iff hd hn (x := 2 ^ (fbits f + 1)) (by positivity)).mpr (by rwa [← pow_mul, Nat.mul_comm])
    exact_mod_cast h2)
  have hle : C ≤ 2 * bias f * 2 ^ fbits f := hpick.le_of_le (by
    rw [mag_top]
    have h2 := (root_le_iff (n := n) hd (x := 2 ^ (fbits f + 2 * bias f - 1)) (by positivity)).mpr (by rwa [← pow_mul, Nat.mul_comm])
    exact_mod_cast h2)
  have hP : 0 < 2 ^ fbits f := Nat.two_pow_pos _
  have hC : C < infOf f false := by
    rw [infOf_false_eq, Nat.succ_mul]
    omega
  have hlt := hC.trans (infOf_lt f)
  have ht : tiny = false := by
    cases tiny
    · rfl
    · have := htiny rfl
      omega
  have hU : units f (signCode f false + C) = mag (fbits f) C := by rw [units_add hlt]; rfl
  rw [heq, if_neg hC.not_ge, ht]
  refine rootOf_of_real hd hn (isFinite_iff.mpr ⟨signCode_add_lt hlt, ?_⟩) (signOf_add hlt) ?_ ?_ (roundsReal_of_picks hpick (Real.sqrt_nonneg _) hlt)
  · rwa [unsignedOf_add hlt]
  · rw [hU]
    exact Int.natCast_nonneg _
  · have hex : ((mag (fbits f) c : ℝ) ≠ √((n : ℝ) / d)) ↔ ¬ (mag (fbits f) C : Int) ^ 2 * d = n := by
      rw [ne_eq, ← hpick.exact_iff, ← eq_root_iff hd hn (Int.natCast_nonneg _), Int.cast_natCast]
    rw [hU]
    by_cases h0 : (mag (fbits f) C : Int) ^ 2 * d = n
    · rw [if_pos h0, decide_eq_false (mt hex.mp (not_not.mpr h0))]
      rfl
    · rw [if_neg h0, decide_eq_true (hex.mpr h0)]
      rfl

/-! ## The operations -/

theorem saturate_of_finite {f : FFmt} {w : Nat} (s : Bool) (h : IsFinite f w) : saturate f s w = w := by
  have h1 := saturate_eq f (if s then 1 else 0) w
  rw [saturated_of_finite h] at h1
  cases s <;> simpa using h1

theorem finishF_of_finite {f : FFmt} {env : FEnv} {x : Nat × Exc} (h : IsFinite f x.1) : finishF f env x = x := by
  rw [finishF, saturate_of_finite _ h]

theorem mag_infOf (f : FFmt) : mag (fbits f) (infOf f false) = 2 ^ (fbits f + 2 * bias f) := by
  have h := mag_add (p := fbits f) (j := 2 * bias f) (k := 2 ^ fbits f) (.inr le_rfl) (Nat.pow_le_pow_right (by decide) (Nat.le_succ _))
  rw [infOf_false_eq, Nat.add_mul, Nat.one_mul, h, ← Nat.pow_add]

theorem units_lt_two_pow {f : FFmt} {w : Nat} (h : IsFinite f w) : units f w < 2 ^ (fbits f + 2 * bias f) := by
  have h1 := mag_lt_mag (p := fbits f).mpr (isFinite_iff.mp h).2
  rw [mag_infOf] at h1
  refine (le_abs_self _).trans_lt ?_
  rw [abs_units]
  exact_mod_cast h1

section
variable {f : FFmt} {env : FEnv} {a : Nat} (hfl : flushes f env.level = false) (ha : IsFinite f a) (h0 : 0 < units f a)
include hfl ha h0

/-- A positive finite code means a positive dyadic number without a sign. -/
theorem readF_pos : ∃ m e, readF f env.level a = .num false m e ∧ m ≠ 0 ∧ (m : ℝ) * 2 ^ e * unitsOne f = units f a := by
  obtain ⟨m, e, hra, hva⟩ := readF_finite hfl ha
  have hU := unitsOne_pos f
  have hpos : 0 < dyadic (signOf f a) m e := by
    have : (0 : ℝ) < units f a := by exact_mod_cast h0
    rw [← hva] at this
    exact pos_of_mul_pos_left this hU.le
  have hm : m ≠ 0 := fun h => hpos.ne' (dyadic_eq_zero.mpr h)
  have hs : signOf f a = false := by
    rw [← Bool.not_eq_true, ← dyadic_neg_iff hm]
    exact hpos.not_gt
  rw [hs] at hra hva
  exact ⟨m, e, hra, hm, hva⟩

theorem rootOf_fsqrtF : ∃ x, RootOf f env.rnd (units f a * unitsOne f) 1 x ∧ fsqrtF f env a = x := by
  obtain ⟨m, e, hra, hm, hva⟩ := readF_pos hfl ha h0
  obtain ⟨k, hk⟩ : ∃ k, k = 2 * (fbits f + 4) + (e % 2).toNat := ⟨_, rfl⟩
  have hr : 2 ^ (fbits f + 4) ≤ isqrt (m * 2 ^ k) :=
    le_isqrt ((Nat.pow_le_pow_right (by decide) (by omega)).trans (Nat.le_mul_of_pos_left _ (Nat.pos_of_ne_zero hm)))
  have hst := stands_root (N := m * 2 ^ k) Nat.one_pos ((e - k) / 2)
  rw [Nat.div_one, Nat.mul_one] at hst
  have hval : √((m * 2 ^ k : Nat) / (1 : Nat)) * 2 ^ ((e - k) / 2) =
      √(((units f a * unitsOne f : Int) : ℝ) / (1 : Int)) * 2 ^ (emin f - fbits f) := by
    have hE : 2 * ((e - k) / 2) = e - k := by omega
    have hU := unitsOne_mul f
    rw [sqrt_mul_zpow, sqrt_mul_zpow, hE, two_mul, zpow_add₀ two_ne_zero, zpow_sub₀ two_ne_zero e, zpow_natCast]
    generalize (2 : ℝ) ^ (emin f - fbits f) = u at *
    push_cast
    rw [← hva]
    congr 1
    calc _ = (m : ℝ) * 2 ^ e := by field_simp
      _ = m * 2 ^ e * (unitsOne f * u) * (unitsOne f * u) := by rw [hU, mul_one, mul_one]
      _ = _ := by ring
  rw [hval] at hst
  obtain ⟨hb, hb2⟩ : 1 ≤ bias f ∧ fbits f + 3 ≤ bias f := by cases f <;> decide
  have hroot := rootOf_roundF env.rnd hfl (Nat.ne_of_gt ((Nat.two_pow_pos _).trans_le hr)) Int.one_pos ?_ ?_ hst
    fun _ => (Nat.pow_le_pow_right (by decide) (by omega)).trans hr
  · refine ⟨_, hroot, ?_⟩
    rw [fsqrtF, hra]
    dsimp only
    rw [if_neg hm, if_neg Bool.false_ne_true, ← hk, finishF_of_finite hroot.1]
  · rw [mul_one, unitsOne]
    push_cast
    exact (pow_le_pow_right₀ (by decide) (by omega)).trans (le_mul_of_one_le_left (by positivity) h0)
  · have ha1 := (units_lt_two_pow ha).le
    rw [mul_one, unitsOne]
    push_cast
    calc _ ≤ (2 : Int) ^ (fbits f + 2 * bias f) * 2 ^ (fbits f + bias f - 1) := mul_le_mul_of_nonneg_right ha1 (by positivity)
      _ ≤ _ := by
        rw [← pow_add]
        exact pow_le_pow_right₀ (by decide) (by omega)

theorem rootOf_frsqF : ∃ x, RootOf f env.rnd ((unitsOne f : Int) ^ 3) (units f a) x ∧ frsqF f env a = x := by
  obtain ⟨m, e, hra, hm, hva⟩ := readF_pos hfl ha h0
  obtain ⟨odd, hodd⟩ : ∃ odd, odd = (e % 2).toNat := ⟨_, rfl⟩
  obtain ⟨n, hn⟩ : ∃ n, n = m * 2 ^ odd := ⟨_, rfl⟩
  obtain ⟨k, hk⟩ : ∃ k, k = fbits f + 6 + Nat.log2 n := ⟨_, rfl⟩
  have hn0 : 0 < n := hn ▸ Nat.mul_pos (Nat.pos_of_ne_zero hm) (Nat.two_pow_pos _)
  have hr : 2 ^ (fbits f + 5) ≤ isqrt (2 ^ (2 * k) / n) := by
    refine le_isqrt ((Nat.le_div_iff_mul_le hn0).mpr ?_)
    calc _ ≤ 2 ^ (2 * (fbits f + 5)) * 2 ^ (Nat.log2 n + 1) := Nat.mul_le_mul_left _ Nat.lt_log2_self.le
      _ ≤ 2 ^ (2 * k) := by
        rw [← Nat.pow_add]
        exact Nat.pow_le_pow_right (by decide) (by omega)
  have hst := stands_root (N := 2 ^ (2 * k)) hn0 (-((e - odd) / 2) - k)
  have hval : √((2 ^ (2 * k) : Nat) / n) * 2 ^ (-((e - odd) / 2) - k) =
      √((((unitsOne f : Int) ^ 3 : Int) : ℝ) / units f a) * 2 ^ (emin f - fbits f) := by
    have hE : 2 * (-((e - odd) / 2) - k) = (odd - e : Int) - (2 * k : Nat) := by omega
    have hU := unitsOne_mul f
    have hU0 := (unitsOne_pos f).ne'
    have hm' : (m : ℝ) ≠ 0 := by exact_mod_cast hm
    rw [sqrt_mul_zpow, sqrt_mul_zpow, hE, two_mul (emin f - _), zpow_add₀ two_ne_zero, zpow_sub₀ two_ne_zero (_ - e),
      zpow_sub₀ two_ne_zero _ e, zpow_natCast, zpow_natCast, hn]
    generalize (2 : ℝ) ^ (emin f - fbits f) = u at *
    push_cast
    rw [← hva]
    congr 1
    calc _ = 1 / ((m : ℝ) * 2 ^ e) := by field_simp
      _ = (unitsOne f * u) * (unitsOne f * u) / (m * 2 ^ e) := by rw [hU, mul_one]
      _ = _ := by field_simp
  rw [hval] at hst
  have hb : 5 ≤ bias f ∧ fbits f ≤ bias f + 1 := by cases f <;> decide
  have hroot := rootOf_roundF env.rnd hfl (Nat.ne_of_gt ((Nat.two_pow_pos _).trans_le hr)) h0 ?_ ?_ hst
    fun _ => (Nat.pow_le_pow_right (by decide) (by omega)).trans hr
  · refine ⟨_, hroot, ?_⟩
    rw [frsqF, hra]
    dsimp only
    rw [if_neg hm, if_neg Bool.false_ne_true, ← hodd, ← hn, ← hk, finishF_of_finite hroot.1]
  · rw [unitsOne]
    push_cast
    calc _ ≤ (2 : Int) ^ (2 * (fbits f + 1)) * 2 ^ (fbits f + 2 * bias f) := mul_le_mul_of_nonneg_left (units_lt_two_pow ha).le (by positivity)
      _ ≤ _ := by
        rw [← pow_add, ← pow_mul]
        exact pow_le_pow_right₀ (by decide) (by omega)
  · rw [unitsOne]
    push_cast
    rw [← pow_mul]
    exact (pow_le_pow_right₀ (by decide) (by omega)).trans (le_mul_of_one_le_right (by positivity) h0)

end

end Sys2Proof.Machine

/-! Proofs about integer compares, selection, pairs and moves (R153 to R158). -/
namespace Sys2Proof.Machine
open Sys2Proof.Safety

/-! ## Words and pairs as numbers -/

theorem sx_of_lt {v n : Nat} (hv : v < 2 ^ n) : sx v n = if v < 2 ^ (n - 1) then (v : Int) else v - (2 ^ n : Nat) := by
  rw [sx, Nat.mod_eq_of_lt hv]
  push_cast
  rfl

theorem sx_eq_toInt (v n : Nat) : sx v n = (BitVec.ofNat n v).toInt := by
  rcases Nat.eq_zero_or_pos n with rfl | hn
  · simp [sx, Nat.mod_one, BitVec.toInt_zero_length]
  · obtain ⟨k, rfl⟩ := Nat.exists_eq_succ_of_ne_zero hn.ne'
    rw [sx, BitVec.toInt_eq_toNat_cond, BitVec.toNat_ofNat]
    have h : 2 * (v % 2 ^ (k + 1)) < 2 ^ (k + 1) ↔ v % 2 ^ (k + 1) < 2 ^ k := by
      rw [Nat.pow_succ, Nat.mul_comm 2]
      omega
    simp only [Nat.succ_eq_add_one, Nat.add_sub_cancel, h]
    push_cast
    rfl

@[simp] theorem sx32_eq (w : Word) : sx32 w = w.toInt := by
  rw [sx32, sx_eq_toInt, BitVec.ofNat_toNat, BitVec.setWidth_eq]

@[simp] theorem wordOf_eq (v : Int) : wordOf v = BitVec.ofInt 32 v := by
  apply BitVec.eq_of_toNat_eq
  rw [wordOf, narrow, BitVec.toNat_ofNat, BitVec.toNat_ofInt]
  omega

theorem n_lt (x : LaneIn) (i : Nat) : x.n i < 2 ^ 32 := (x.w i).isLt

theorem pairCode_lt (x : LaneIn) (i : Nat) : pairCode x i < 2 ^ 64 := by
  have h1 := n_lt x i
  have h2 := n_lt x (i + 1)
  rw [pairCode]
  omega

@[simp] theorem q_toNat (x : LaneIn) (i : Nat) : (x.q i).toNat = pairCode x i := by
  have h := pairCode_lt x i
  rw [LaneIn.q, pair, BitVec.toNat_ofNat, Nat.mul_comm]
  exact Nat.mod_eq_of_lt h

/-- The halves of a pair together are the pair. -/
theorem loWord_add_hiWord (v : Addr) : (loWord v).toNat + 2 ^ 32 * (hiWord v).toNat = v.toNat := by
  have h := v.isLt
  rw [loWord, hiWord, BitVec.toNat_ofNat, BitVec.toNat_ofNat]
  omega

theorem toNat_and_eq_zero (a b : Word) : a.toNat &&& b.toNat = 0 ↔ a &&& b = 0 := by
  rw [← BitVec.toNat_and, ← BitVec.toNat_inj]
  rfl

/-! ## Conditions -/

theorem laneIcmpI32_iff (o : Form.C) (x : LaneIn) (hcc : o.cc < 8) : ∃ b, laneIcmpI32 o x = { pred := some b } ∧
    (b = true ↔ match o.cc with
      | 0 => x.w 0 = x.w 1 | 1 => x.w 0 ≠ x.w 1 | 2 => (x.w 0).toInt < (x.w 1).toInt | 3 => (x.w 0).toInt ≤ (x.w 1).toInt
      | 4 => (x.w 1).toInt < (x.w 0).toInt | 5 => (x.w 1).toInt ≤ (x.w 0).toInt | 6 => x.w 0 &&& x.w 1 ≠ 0 | _ => x.w 0 &&& x.w 1 = 0) := by
  refine ⟨_, rfl, ?_⟩
  generalize o.cc = cc at hcc
  interval_cases cc <;> simp [icmp, toNat_and_eq_zero, BitVec.toInt_inj]

theorem laneIcmpN32_iff (o : Form.C) (x : LaneIn) (hcc : o.cc < 8) : ∃ b, laneIcmpN32 o x = { pred := some b } ∧
    (b = true ↔ match o.cc with
      | 0 => x.w 0 = x.w 1 | 1 => x.w 0 ≠ x.w 1 | 2 => x.n 0 < x.n 1 | 3 => x.n 0 ≤ x.n 1
      | 4 => x.n 1 < x.n 0 | 5 => x.n 1 ≤ x.n 0 | 6 => x.w 0 &&& x.w 1 ≠ 0 | _ => x.w 0 &&& x.w 1 = 0) := by
  refine ⟨_, rfl, ?_⟩
  generalize o.cc = cc at hcc
  interval_cases cc <;> simp [icmp, LaneIn.n, toNat_and_eq_zero, BitVec.toNat_inj]

theorem laneIcmpiI32_iff (o : Form.CI) (x : LaneIn) (a b : Int) (hcc : o.cc < 8) (himm : o.imm < 2 ^ 7)
    (ha : a = (x.w 0).toInt) (hb : b = (if o.imm < 2 ^ 6 then (o.imm : Int) else (o.imm : Int) - 2 ^ 7)) :
    ∃ p, laneIcmpiI32 o x = { pred := some p } ∧ (p = true ↔ match o.cc with
      | 0 => a = b | 1 => a ≠ b | 2 => a < b | 3 => a ≤ b | 4 => b < a | 5 => b ≤ a
      | 6 => x.w 0 &&& BitVec.ofInt 32 b ≠ 0 | _ => x.w 0 &&& BitVec.ofInt 32 b = 0) := by
  have hsx : sx o.imm 7 = b := by rw [sx_of_lt himm, hb]; rfl
  refine ⟨_, rfl, ?_⟩
  rw [hsx, sx32_eq, ← ha, wordOf_eq]
  generalize o.cc = cc at hcc
  interval_cases cc <;> simp [icmp, toNat_and_eq_zero, -BitVec.toNat_ofInt]

theorem laneIcmpiN32_iff (o : Form.CI) (x : LaneIn) (hcc : o.cc < 8) : ∃ p, laneIcmpiN32 o x = { pred := some p } ∧
    (p = true ↔ match o.cc with
      | 0 => x.n 0 = o.imm | 1 => x.n 0 ≠ o.imm | 2 => x.n 0 < o.imm | 3 => x.n 0 ≤ o.imm | 4 => o.imm < x.n 0 | 5 => o.imm ≤ x.n 0
      | 6 => x.n 0 &&& o.imm ≠ 0 | _ => x.n 0 &&& o.imm = 0) := by
  refine ⟨_, rfl, ?_⟩
  generalize o.cc = cc at hcc
  interval_cases cc <;> simp [icmp, LaneIn.n]

theorem laneIcmp64_iff (o : Form.C) (x : LaneIn) (a b : Nat) (i j : Int) (hcc : o.cc < 8) (ha : a = x.n 0 + 2 ^ 32 * x.n 1)
    (hb : b = x.n 2 + 2 ^ 32 * x.n 3) (hi : i = (if a < 2 ^ 63 then (a : Int) else (a : Int) - 2 ^ 64))
    (hj : j = (if b < 2 ^ 63 then (b : Int) else (b : Int) - 2 ^ 64)) :
    (∃ p, laneIcmpI64 o x = { pred := some p } ∧ (p = true ↔ match o.cc with
      | 0 => i = j | 1 => i ≠ j | 2 => i < j | 3 => i ≤ j | 4 => j < i | 5 => j ≤ i | 6 => a &&& b ≠ 0 | _ => a &&& b = 0)) ∧
    ∃ p, laneIcmpN64 o x = { pred := some p } ∧ (p = true ↔ match o.cc with
      | 0 => a = b | 1 => a ≠ b | 2 => a < b | 3 => a ≤ b | 4 => b < a | 5 => b ≤ a | 6 => a &&& b ≠ 0 | _ => a &&& b = 0) := by
  have hqa : (x.q 0).toNat = a := (q_toNat x 0).trans ha.symm
  have hqb : (x.q 2).toNat = b := (q_toNat x 2).trans hb.symm
  have hsa : sx a 64 = i := by rw [← hqa, sx_of_lt (x.q 0).isLt, hqa, hi]; rfl
  have hsb : sx b 64 = j := by rw [← hqb, sx_of_lt (x.q 2).isLt, hqb, hj]; rfl
  refine ⟨⟨_, rfl, ?_⟩, _, rfl, ?_⟩
  · rw [hqa, hqb, hsa, hsb]
    generalize o.cc = cc at hcc
    interval_cases cc <;> simp [icmp]
  · rw [hqa, hqb]
    generalize o.cc = cc at hcc
    interval_cases cc <;> simp [icmp]

theorem lanePlog_eq (o : Form.Plog) (x : LaneIn) :
    lanePlog o x = { pred := some (o.tt.testBit (2 * (x.p.getLsbD o.pa).toNat + (x.p.getLsbD o.pb).toNat)) } := by
  rw [lanePlog, LaneIn.pr, LaneIn.pr]
  cases x.p.getLsbD o.pa <;> cases x.p.getLsbD o.pb <;> rfl

theorem laneSel_eq (o : Form.Sel) (x : LaneIn) :
    (x.p.getLsbD o.ps = true → laneSel o x = { regs := [⟨x.w 0, x.t 0⟩] }) ∧
      (x.p.getLsbD o.ps = false → laneSel o x = { regs := [⟨x.w 1, x.t 1⟩] }) := by
  constructor <;> intro h <;> simp [laneSel, LaneIn.pr, h, one]

/-! ## Pairs and moves -/

/-- A pair of results whose value is known. -/
theorem exists_two {v : Addr} {t : Tag} {n : Nat} (h : v.toNat = n) :
    ∃ lo hi, two v t = { regs := [⟨lo, t⟩, ⟨hi, t⟩] } ∧ lo.toNat + 2 ^ 32 * hi.toNat = n :=
  ⟨_, _, rfl, (loWord_add_hiWord v).trans h⟩

theorem exists_two_tag {v : Addr} {t : Tag} {P : Nat → Prop} (h : P v.toNat) :
    ∃ lo hi t', two v t = { regs := [⟨lo, t'⟩, ⟨hi, t'⟩] } ∧ P (lo.toNat + 2 ^ 32 * hi.toNat) :=
  ⟨_, _, t, rfl, by rwa [loWord_add_hiWord]⟩

theorem tagOf_spec {c : Nat} (h : c < 13) : ∃ t, tagCode t = c ∧ tagOf c = some t := by
  interval_cases c <;> exact ⟨_, rfl, rfl⟩

theorem laneIaddB64_spec (x : LaneIn) : ∃ lo hi t, laneIaddB64 x = { regs := [⟨lo, t⟩, ⟨hi, t⟩] } ∧
    lo.toNat + 2 ^ 32 * hi.toNat = (x.n 0 + 2 ^ 32 * x.n 1 + (x.n 2 + 2 ^ 32 * x.n 3)) % 2 ^ 64 :=
  exists_two_tag (P := (· = _)) (by rw [BitVec.toNat_add, q_toNat, q_toNat]; rfl)

theorem laneIsubB64_spec (x : LaneIn) : ∃ lo hi t, laneIsubB64 x = { regs := [⟨lo, t⟩, ⟨hi, t⟩] } ∧
    (lo.toNat + 2 ^ 32 * hi.toNat + (x.n 2 + 2 ^ 32 * x.n 3)) % 2 ^ 64 = (x.n 0 + 2 ^ 32 * x.n 1) % 2 ^ 64 :=
  exists_two_tag (P := fun v => (v + _) % _ = _) (by
    have h := congrArg BitVec.toNat (BitVec.sub_add_cancel (x.q 0) (x.q 2))
    rw [BitVec.toNat_add, q_toNat, q_toNat] at h
    rw [← pairCode, ← pairCode, h, Nat.mod_eq_of_lt (pairCode_lt x 0)])

theorem laneImulwN32_spec (x : LaneIn) :
    ∃ lo hi, laneImulwN32 x = { regs := [⟨lo, .n32⟩, ⟨hi, .n32⟩] } ∧ lo.toNat + 2 ^ 32 * hi.toNat = x.n 0 * x.n 1 :=
  exists_two (by
    rw [BitVec.toNat_ofNat]
    exact Nat.mod_eq_of_lt ((Nat.mul_lt_mul'' (n_lt x 0) (n_lt x 1)).trans_eq (by norm_num)))

/-- A pair of results from a whole number. -/
theorem exists_two_int {t : Tag} (v : Int) : ∃ lo hi, two (BitVec.ofNat 64 (narrow 64 v)) t = { regs := [⟨lo, t⟩, ⟨hi, t⟩] } ∧
    ((lo.toNat + 2 ^ 32 * hi.toNat : Nat) : Int) = v % 2 ^ 64 := by
  refine ⟨_, _, rfl, ?_⟩
  rw [loWord_add_hiWord, narrow, BitVec.toNat_ofNat]
  omega

theorem laneImulwI32_spec (x : LaneIn) : ∃ lo hi, laneImulwI32 x = { regs := [⟨lo, .i32⟩, ⟨hi, .i32⟩] } ∧
    ((lo.toNat + 2 ^ 32 * hi.toNat : Nat) : Int) = (x.w 0).toInt * (x.w 1).toInt % 2 ^ 64 := by
  rw [laneImulwI32, sx32_eq, sx32_eq]
  exact exists_two_int _

theorem laneShlB64_spec (x : LaneIn) : ∃ lo hi t, laneShlB64 x = { regs := [⟨lo, t⟩, ⟨hi, t⟩] } ∧
    lo.toNat + 2 ^ 32 * hi.toNat = (x.n 0 + 2 ^ 32 * x.n 1) * 2 ^ x.n 2 % 2 ^ 64 :=
  exists_two_tag (P := (· = _)) (by
    show _ = pairCode x 0 * 2 ^ x.n 2 % 2 ^ 64
    split
    · rw [BitVec.toNat_shiftLeft, q_toNat, Nat.shiftLeft_eq]
      rfl
    · next h =>
      exact (Nat.mod_eq_zero_of_dvd (Dvd.dvd.mul_left (Nat.pow_dvd_pow 2 (not_lt.mp h)) _)).symm)

theorem laneShrB64_spec (x : LaneIn) : ∃ lo hi t, laneShrB64 x = { regs := [⟨lo, t⟩, ⟨hi, t⟩] } ∧
    lo.toNat + 2 ^ 32 * hi.toNat = (x.n 0 + 2 ^ 32 * x.n 1) / 2 ^ x.n 2 :=
  exists_two_tag (P := (· = _)) (by
    show _ = pairCode x 0 / 2 ^ x.n 2
    split
    · rw [BitVec.toNat_ushiftRight, q_toNat, Nat.shiftRight_eq_div_pow]
      rfl
    · next h =>
      exact (Nat.div_eq_of_lt ((pairCode_lt x 0).trans_le (Nat.pow_le_pow_right (by decide) (not_lt.mp h)))).symm)

/-- A shift by more than the width leaves the sign. -/
theorem ediv_two_pow_min {i : Int} (h1 : -2 ^ 63 ≤ i) (h2 : i < 2 ^ 63) (n : Nat) : i / 2 ^ min n 63 = i / 2 ^ n := by
  rcases le_total n 63 with h | h
  · rw [min_eq_left h]
  · rw [min_eq_right h]
    have hp : (2 : Int) ^ 63 ≤ 2 ^ n := pow_le_pow_right₀ (by decide) h
    rcases lt_or_ge i 0 with h0 | h0
    · rw [Int.ediv_eq_neg_one_of_neg_of_le h0 (by omega), Int.ediv_eq_neg_one_of_neg_of_le h0 (by omega)]
    · rw [Int.ediv_eq_zero_of_lt h0 h2, Int.ediv_eq_zero_of_lt h0 (by omega)]

theorem laneSarB64_spec (x : LaneIn) (a : Nat) (i : Int) (ha : a = x.n 0 + 2 ^ 32 * x.n 1)
    (hi : i = (if a < 2 ^ 63 then (a : Int) else (a : Int) - 2 ^ 64)) :
    ∃ (lo hi : Word), laneSarB64 x = { regs := [⟨lo, .i32⟩, ⟨hi, .i32⟩] } ∧
      ((lo.toNat + 2 ^ 32 * hi.toNat : Nat) : Int) = (i / 2 ^ x.n 2) % 2 ^ 64 := by
  have hq : (x.q 0).toInt = i := by
    rw [BitVec.toInt_eq_toNat_cond, q_toNat, hi, pairCode, ← ha]
    split <;> split <;> omega
  have hnat : ∀ v : Addr, (v.toNat : Int) = v.toInt % 2 ^ 64 := fun v => by
    have := v.isLt
    rw [BitVec.toInt_eq_toNat_cond]
    split <;> omega
  refine ⟨_, _, rfl, ?_⟩
  rw [loWord_add_hiWord, ← hq, ← ediv_two_pow_min (by have := (x.q 0).le_toInt; omega) (by have := (x.q 0).toInt_lt; omega),
    hnat, BitVec.toInt_sshiftRight, Int.shiftRight_eq_div_pow]
  push_cast
  rfl

theorem laneLea_spec (x : LaneIn) (o : Form.Lea) : ∃ (lo hi : Word), laneLea o x = { regs := [⟨lo, .b32⟩, ⟨hi, .b32⟩] } ∧
    ((lo.toNat + 2 ^ 32 * hi.toNat : Nat) : Int) = ((x.n 0 + 2 ^ 32 * x.n 1 : Nat) + (x.w 2).toInt * 2 ^ o.sh) % 2 ^ 64 := by
  refine ⟨_, _, rfl, ?_⟩
  rw [loWord_add_hiWord, BitVec.toNat_add, q_toNat, narrow, BitVec.toNat_ofNat, sx32_eq, ← pairCode]
  generalize (x.w 2).toInt * 2 ^ o.sh = v
  omega

end Sys2Proof.Machine

/-! Proofs about FMIN, FMAX and FCMP (R163, R165). -/
namespace Sys2Proof.Machine
open Sys2Proof.Safety

/-! ## Codes in the order of their values -/

/-- A code's place among the codes, the zeros in one place. -/
def place (f : FFmt) (w : Nat) : Int := if signOf f w then -(unsignedOf f w : Int) else unsignedOf f w

theorem units_eq_signed_mag (f : FFmt) (w : Nat) :
    units f w = if signOf f w then -(mag (fbits f) (unsignedOf f w) : Int) else mag (fbits f) (unsignedOf f w) := units_eq f w

theorem units_lt_iff {f : FFmt} {a b : Nat} : units f a < units f b ↔ place f a < place f b := by
  have h0 : mag (fbits f) 0 = 0 := mag_of_le (Nat.zero_le _)
  have hab := mag_lt_mag (p := fbits f) (c := unsignedOf f a) (d := unsignedOf f b)
  have hba := mag_lt_mag (p := fbits f) (c := unsignedOf f b) (d := unsignedOf f a)
  have ha := mag_lt_mag (p := fbits f) (c := 0) (d := unsignedOf f a)
  have hb := mag_lt_mag (p := fbits f) (c := 0) (d := unsignedOf f b)
  rw [h0] at ha hb
  rw [units_eq_signed_mag, units_eq_signed_mag, place, place]
  cases signOf f a <;> cases signOf f b <;> simp only [Bool.false_eq_true, if_true, if_false] <;> omega

theorem units_le_iff {f : FFmt} {a b : Nat} : units f a ≤ units f b ↔ place f a ≤ place f b := by
  rw [← not_lt, ← not_lt, units_lt_iff]

theorem units_eq_iff {f : FFmt} {a b : Nat} : units f a = units f b ↔ place f a = place f b := by
  rw [le_antisymm_iff, le_antisymm_iff, units_le_iff, units_le_iff]

theorem cmpF_eq (f : FFmt) (a b : Nat) : cmpF f a b = compare (place f a) (place f b) := by
  have h : ∀ w, (bits w (ebits f + fbits f) 1 = 1) = (signOf f w = true) := fun w => by rw [← bits_sign, beq_iff_eq]
  simp only [cmpF, bits_low, h, place]

/-- The order of FMIN and FMAX puts −0 below +0. -/
theorem orderKey_le_iff {f : FFmt} {a b : Nat} : orderKey f a ≤ orderKey f b ↔
    units f a < units f b ∨ (units f a = units f b ∧ (signOf f a = true ∨ signOf f b = false)) := by
  have h : ∀ w, (bits w (ebits f + fbits f) 1 = 1) = (signOf f w = true) := fun w => by rw [← bits_sign, beq_iff_eq]
  rw [units_lt_iff, units_eq_iff]
  simp only [orderKey, bits_low, h, place]
  cases signOf f a <;> cases signOf f b <;> simp only [reduceCtorEq, if_true, if_false, or_true, or_false, and_true, and_false] <;> omega

/-- Codes of one value and one sign are one code. -/
theorem code_ext {f : FFmt} {a b : Nat} (ha : a < 2 ^ (1 + ebits f + fbits f)) (hb : b < 2 ^ (1 + ebits f + fbits f))
    (hs : signOf f a = signOf f b) (hu : units f a = units f b) : a = b := by
  have h : unsignedOf f a = unsignedOf f b := by
    rw [units_eq_iff, place, place, hs] at hu
    split at hu <;> omega
  rw [← signCode_signOf_add ha, ← signCode_signOf_add hb, hs, h]

/-! ## FMIN and FMAX -/

theorem isSnan_eq_false {f : FFmt} {w : Nat} (h : ¬IsNan f w) : isSnan f w = false := by
  rw [isSnan, isNan_eq_false_iff.mpr h, Bool.false_and]

theorem fminmaxF_eq {f : FFmt} {level a b : Nat} (hfl : flushes f level = false) (ha : ¬IsNan f a) (hb : ¬IsNan f b) (wantMax : Bool) :
    fminmaxF f level wantMax a b = (if decide (orderKey f a ≤ orderKey f b) != wantMax then a else b, 0) := by
  simp only [fminmaxF, flushed_of_not hfl, isNan_eq_false_iff.mpr ha, isNan_eq_false_iff.mpr hb, isSnan_eq_false ha, isSnan_eq_false hb,
    Bool.false_eq_true, if_false, Bool.or_false]
  split <;> rfl

theorem fminmaxF_spec {f : FFmt} {level a b : Nat} (hfl : flushes f level = false) (ha : ¬IsNan f a) (hb : ¬IsNan f b)
    (hac : a < 2 ^ (1 + ebits f + fbits f)) (hbc : b < 2 ^ (1 + ebits f + fbits f)) :
    ((units f a < units f b ∨ (units f a = units f b ∧ signOf f a = true)) →
      fminmaxF f level false a b = (a, 0) ∧ fminmaxF f level true a b = (b, 0)) ∧
    (¬(units f a < units f b ∨ (units f a = units f b ∧ signOf f a = true)) →
      fminmaxF f level false a b = (b, 0) ∧ fminmaxF f level true a b = (a, 0)) := by
  rw [fminmaxF_eq hfl ha hb, fminmaxF_eq hfl ha hb]
  refine ⟨fun h => ?_, fun h => ?_⟩
  · have hk : orderKey f a ≤ orderKey f b := orderKey_le_iff.mpr (h.imp_right fun h => ⟨h.1, .inl h.2⟩)
    rw [decide_eq_true hk]
    exact ⟨rfl, rfl⟩
  · by_cases hk : orderKey f a ≤ orderKey f b
    · obtain ⟨hu, hs⟩ := (orderKey_le_iff.mp hk).resolve_left fun h' => h (.inl h')
      have hsa : signOf f a = false := Bool.eq_false_iff.mpr fun h' => h (.inr ⟨hu, h'⟩)
      have hab := code_ext hac hbc (by rw [hsa, hs.resolve_left (by simp [hsa])]) hu
      rw [hab]
      simp
    · rw [decide_eq_false hk]
      exact ⟨rfl, rfl⟩

theorem fminmaxF_nan_left {f : FFmt} {level a b : Nat} (wantMax : Bool) (hfl : flushes f level = false) (ha : IsNan f a)
    (hq : ¬Safety.Signals f a) (hb : ¬IsNan f b) : fminmaxF f level wantMax a b = (b, 0) := by
  have hs : isSnan f a = false := by rw [← Bool.not_eq_true, isSnan_iff]; exact hq
  simp only [fminmaxF, flushed_of_not hfl, isNan_iff.mpr ha, isNan_eq_false_iff.mpr hb, hs, isSnan_eq_false hb, if_true, Bool.false_eq_true, if_false]
  rfl

theorem fminmaxF_nan_right {f : FFmt} {level a b : Nat} (wantMax : Bool) (hfl : flushes f level = false) (hb : IsNan f b)
    (hq : ¬Safety.Signals f b) (ha : ¬IsNan f a) : fminmaxF f level wantMax a b = (a, 0) := by
  have hs : isSnan f b = false := by rw [← Bool.not_eq_true, isSnan_iff]; exact hq
  simp only [fminmaxF, flushed_of_not hfl, isNan_iff.mpr hb, isNan_eq_false_iff.mpr ha, hs, isSnan_eq_false ha, if_true, Bool.false_eq_true, if_false]
  rfl

/-! ## FCMP -/

theorem fcmpF_nan {f : FFmt} {level a b cc : Nat} (hcc : cc < 8) (h : IsNan f a ∨ IsNan f b) :
    (fcmpF f level cc a b).1 = (cc == 1 || cc == 7) ∧
      (((2 ≤ cc ∧ cc ≤ 5) ∨ Safety.Signals f a ∨ Safety.Signals f b) → (fcmpF f level cc a b).2 = 1) ∧
      (¬((2 ≤ cc ∧ cc ≤ 5) ∨ Safety.Signals f a ∨ Safety.Signals f b) → (fcmpF f level cc a b).2 = 0) := by
  have hn : (isNan f a || isNan f b) = true := by rw [Bool.or_eq_true, isNan_iff, isNan_iff]; exact h
  have hs : (isSnan f a || isSnan f b) = true ↔ Safety.Signals f a ∨ Safety.Signals f b := by rw [Bool.or_eq_true, isSnan_iff, isSnan_iff]
  have hexc : (fcmpF f level cc a b).2 = excIf (if 2 ≤ cc ∧ cc ≤ 5 then true else isSnan f a || isSnan f b) excInv := by simp only [fcmpF, hn]
  refine ⟨?_, fun h1 => ?_, fun h1 => ?_⟩
  · simp only [fcmpF, hn]
    interval_cases cc <;> rfl
  · rw [hexc]
    split
    · rfl
    · next h2 => rw [hs.mpr (h1.resolve_left h2)]; rfl
  · rw [not_or] at h1
    rw [hexc, if_neg h1.1, Bool.eq_false_iff.mpr (mt hs.mp h1.2)]
    rfl

theorem fcmpF_spec {f : FFmt} {level a b cc : Nat} (hfl : flushes f level = false) (hcc : cc < 8) (ha : ¬IsNan f a) (hb : ¬IsNan f b) :
    (fcmpF f level cc a b).2 = 0 ∧ ((fcmpF f level cc a b).1 = true ↔ match (generalizing := false) cc with
      | 0 => units f a = units f b | 1 => units f a ≠ units f b | 2 => units f a < units f b | 3 => units f a ≤ units f b
      | 4 => units f b < units f a | 5 => units f b ≤ units f a | 6 => True | _ => False) := by
  simp only [fcmpF, isNan_eq_false_iff.mpr ha, isNan_eq_false_iff.mpr hb, isSnan_eq_false ha, isSnan_eq_false hb, flushed_of_not hfl, cmpF_eq,
    units_lt_iff, units_le_iff, units_eq_iff, Bool.or_false, ite_self]
  refine ⟨rfl, ?_⟩
  interval_cases cc <;> simp [compare_lt_iff_lt, compare_gt_iff_gt, units_eq_iff]

end Sys2Proof.Machine

/-! Proofs about the special operands of floating-point arithmetic (R110, R162). -/
namespace Sys2Proof.Machine
open Sys2Proof.Safety

/-! ## What special codes mean -/

/-- A bit set by OR is added where it was clear. -/
theorem lor_two_pow (w k : Nat) : w ||| 2 ^ k = if w / 2 ^ k % 2 = 0 then w + 2 ^ k else w := by
  obtain ⟨A, b, C, hb, hC, rfl⟩ : ∃ A b C, b < 2 ∧ C < 2 ^ k ∧ w = 2 ^ (k + 1) * A + (2 ^ k * b + C) :=
    ⟨w / 2 ^ k / 2, w / 2 ^ k % 2, w % 2 ^ k, Nat.mod_lt _ two_pos, Nat.mod_lt _ (Nat.two_pow_pos _), by
      rw [Nat.pow_succ, Nat.mul_assoc, ← Nat.add_assoc, ← Nat.mul_add, Nat.div_add_mod, Nat.div_add_mod]⟩
  have hdiv : (2 ^ (k + 1) * A + (2 ^ k * b + C)) / 2 ^ k % 2 = b := by
    rw [Nat.pow_succ, Nat.mul_assoc, ← Nat.add_assoc, ← Nat.mul_add, Nat.mul_add_div (Nat.two_pow_pos _), Nat.div_eq_of_lt hC]
    omega
  have hlt : ∀ d < 2, 2 ^ k * d + C < 2 ^ (k + 1) := fun d hd => by
    rw [Nat.pow_succ]
    have : 2 ^ k * d ≤ 2 ^ k * 1 := Nat.mul_le_mul_left _ (by omega)
    omega
  have hor : 2 ^ (k + 1) * A + (2 ^ k * b + C) ||| 2 ^ k = 2 ^ (k + 1) * A + (2 ^ k * 1 + C) := by
    have h1 : 2 ^ k * b ||| 2 ^ k = 2 ^ k * 1 := by
      interval_cases b
      · rw [Nat.mul_zero, Nat.zero_or, Nat.mul_one]
      · rw [Nat.mul_one, Nat.or_self]
    rw [Nat.two_pow_add_eq_or_of_lt (hlt b hb), Nat.two_pow_add_eq_or_of_lt (hlt 1 (by decide)), Nat.two_pow_add_eq_or_of_lt hC,
      Nat.two_pow_add_eq_or_of_lt hC, Nat.or_assoc, Nat.or_assoc, Nat.or_comm C, ← Nat.or_assoc (2 ^ k * b), h1]
  rw [hor, hdiv]
  interval_cases b
  · rw [if_pos rfl]
    omega
  · rfl

theorem quiet_eq (f : FFmt) (w : Nat) : quiet f w = w ||| 2 ^ (fbits f - 1) := by rw [quiet, lor_two_pow, bits, Nat.pow_one]

section
variable {f : FFmt} {level w : Nat} (hfl : flushes f level = false)
include hfl

theorem readF_inf (h : unsignedOf f w = infOf f false) : readF f level w = .inf (signOf f w) := by rw [readF_of_not hfl, unpackF_inf h]

theorem readF_nan (h : IsNan f w) : ∃ fr, readF f level w = .nan (signOf f w) fr := by
  rw [readF_of_not hfl]
  exact unpackF_nan h

/-- A finite code means a number that is 0 where its units are, and negative where they are. -/
theorem readF_num (h : IsFinite f w) : ∃ m e, readF f level w = .num (signOf f w) m e ∧ (m = 0 ↔ units f w = 0) ∧
    (m ≠ 0 → (signOf f w = true ↔ units f w < 0)) := by
  obtain ⟨m, e, hr, hv⟩ := readF_finite hfl h
  have hU := unitsOne_pos f
  refine ⟨m, e, hr, ?_, fun hm => ?_⟩
  · rw [← dyadic_eq_zero (s := signOf f w) (e := e), ← Int.cast_eq_zero (α := ℝ), ← hv, mul_eq_zero, or_iff_left hU.ne']
  · rw [← dyadic_neg_iff (s := signOf f w) (e := e) hm, ← Int.cast_lt_zero (R := ℝ), ← hv, mul_neg_iff]
    simp [hU, hU.not_gt]

end

/-- A code is a NaN, an infinity or finite. -/
theorem nan_or_inf_or_finite {f : FFmt} {w : Nat} (hw : w < 2 ^ (1 + ebits f + fbits f)) :
    IsNan f w ∨ unsignedOf f w = infOf f false ∨ IsFinite f w := by
  rw [isFinite_iff, IsNan]
  rcases lt_trichotomy (unsignedOf f w) (infOf f false) with h | h | h
  · exact .inr (.inr ⟨hw, h⟩)
  · exact .inr (.inl h)
  · exact .inl h

theorem not_isNan_of_inf {f : FFmt} {w : Nat} (h : unsignedOf f w = infOf f false) : ¬IsNan f w := fun h' => h'.ne' h

theorem units_inf_ne_zero {f : FFmt} {w : Nat} (h : unsignedOf f w = infOf f false) : units f w ≠ 0 := by
  have h1 := mag_lt_mag (p := fbits f).mpr (infOf_pos f)
  rw [mag_of_le (Nat.zero_le _)] at h1
  rw [units_eq_signed_mag, h]
  split <;> omega

/-! ## Results with a NaN operand, and invalid operations -/

section
variable {f : FFmt} {level : Nat} (hl : 0 < level)
include hl

theorem nanOf_pair_left {a b : Nat} (ha : IsNan f a) :
    nanOf f level [a, b] = (a ||| 2 ^ (fbits f - 1), excIf (isSnan f a || isSnan f b) excInv) := by
  simp [nanOf, nanResult, hl.ne', isNan_iff.mpr ha, quiet_eq]

theorem nanOf_pair_right {a b : Nat} (ha : ¬IsNan f a) (hb : IsNan f b) :
    nanOf f level [a, b] = (b ||| 2 ^ (fbits f - 1), excIf (isSnan f a || isSnan f b) excInv) := by
  simp [nanOf, nanResult, hl.ne', isNan_eq_false_iff.mpr ha, isNan_iff.mpr hb, quiet_eq]

end

/-- An invalid operation of operands that are no NaN gives the canonical NaN. -/
theorem invalidF_of_not_nan {f : FFmt} {level : Nat} {srcs : List Nat} (h : ∀ w ∈ srcs, ¬IsNan f w) : invalidF f level srcs = (canonNan f, 1) := by
  have hfind : srcs.find? (isNan f) = none := List.find?_eq_none.mpr fun w hw => by rw [isNan_iff]; exact h w hw
  rw [invalidF, nanResult, hfind]
  split <;> rfl

section
variable {f : FFmt} {env : FEnv} {a b c : Nat} (hfl : flushes f env.level = false)
include hfl

theorem faddF_nan (h : IsNan f a ∨ IsNan f b) : faddF f env a b = nanOf f env.level [a, b] := by
  rw [faddF]
  rcases h with h | h
  · obtain ⟨fr, hr⟩ := readF_nan hfl h
    rw [hr]
  · obtain ⟨fr, hr⟩ := readF_nan hfl h
    rw [hr]
    cases readF f env.level a <;> rfl

theorem fmulF_nan (h : IsNan f a ∨ IsNan f b) : fmulF f env a b = nanOf f env.level [a, b] := by
  rw [fmulF]
  rcases h with h | h
  · obtain ⟨fr, hr⟩ := readF_nan hfl h
    rw [hr]
  · obtain ⟨fr, hr⟩ := readF_nan hfl h
    rw [hr]
    cases readF f env.level a <;> rfl

theorem fdivF_nan (h : IsNan f a ∨ IsNan f b) : fdivF f env a b = nanOf f env.level [a, b] := by
  rw [fdivF]
  rcases h with h | h
  · obtain ⟨fr, hr⟩ := readF_nan hfl h
    rw [hr]
  · obtain ⟨fr, hr⟩ := readF_nan hfl h
    rw [hr]
    cases readF f env.level a <;> rfl

/-- ∞ + b. -/
theorem faddF_inf (ha : unsignedOf f a = infOf f false) (hb : ¬IsNan f b) (hbc : b < 2 ^ (1 + ebits f + fbits f)) :
    faddF f env a b = if unsignedOf f b = infOf f false ∧ signOf f a ≠ signOf f b then (canonNan f, 1)
      else finishF f env (infOf f (signOf f a), 0) := by
  rw [faddF, readF_inf hfl ha]
  rcases (nan_or_inf_or_finite hbc).resolve_left hb with hi | hfin
  · rw [readF_inf hfl hi]
    by_cases hs : signOf f a = signOf f b
    · rw [if_neg fun h => h.2 hs]
      exact if_pos hs
    · rw [if_pos ⟨hi, hs⟩, ← invalidF_of_not_nan (f := f) (level := env.level) (srcs := [a, b]) (by simp [not_isNan_of_inf ha, hb])]
      exact if_neg hs
  · obtain ⟨m, e, hr, -⟩ := readF_num hfl hfin
    rw [hr, if_neg fun h => (isFinite_iff.mp hfin).2.ne h.1]
    rfl

/-- ∞ × b. -/
theorem fmulF_inf (ha : unsignedOf f a = infOf f false) (hb : ¬IsNan f b) (hbc : b < 2 ^ (1 + ebits f + fbits f)) :
    fmulF f env a b = if units f b = 0 then (canonNan f, 1) else finishF f env (infOf f (signOf f a != signOf f b), 0) := by
  rw [fmulF, readF_inf hfl ha]
  rcases (nan_or_inf_or_finite hbc).resolve_left hb with hi | hfin
  · rw [readF_inf hfl hi, if_neg (units_inf_ne_zero hi)]
    rfl
  · obtain ⟨m, e, hr, hm, -⟩ := readF_num hfl hfin
    rw [hr, ← invalidF_of_not_nan (f := f) (level := env.level) (srcs := [a, b]) (by simp [not_isNan_of_inf ha, hb])]
    exact if_congr hm rfl rfl

/-- ∞ ÷ b. -/
theorem fdivF_inf (ha : unsignedOf f a = infOf f false) (hb : ¬IsNan f b) (hbc : b < 2 ^ (1 + ebits f + fbits f)) :
    fdivF f env a b = if unsignedOf f b = infOf f false then (canonNan f, 1) else finishF f env (infOf f (signOf f a != signOf f b), 0) := by
  rw [fdivF, readF_inf hfl ha]
  rcases (nan_or_inf_or_finite hbc).resolve_left hb with hi | hfin
  · rw [readF_inf hfl hi, if_pos hi, ← invalidF_of_not_nan (f := f) (level := env.level) (srcs := [a, b]) (by simp [not_isNan_of_inf ha, hb])]
  · obtain ⟨m, e, hr, -⟩ := readF_num hfl hfin
    rw [hr, if_neg (isFinite_iff.mp hfin).2.ne]
    rfl

theorem fdivF_by_inf (ha : IsFinite f a) (hb : unsignedOf f b = infOf f false) :
    fdivF f env a b = (signCode f (signOf f a != signOf f b), 0) := by
  obtain ⟨m, e, hr, -⟩ := readF_num hfl ha
  rw [fdivF, hr, readF_inf hfl hb]
  rfl

/-- A quotient by zero. -/
theorem fdivF_by_zero (ha : IsFinite f a) (hb : IsFinite f b) (h0 : units f b = 0) :
    fdivF f env a b = if units f a = 0 then (canonNan f, 1) else finishF f env (infOf f (signOf f a != signOf f b), 2) := by
  obtain ⟨m, e, hra, hm, -⟩ := readF_num hfl ha
  obtain ⟨n, g, hrb, hn, -⟩ := readF_num hfl hb
  rw [fdivF, hra, hrb, ← invalidF_of_not_nan (f := f) (level := env.level) (srcs := [a, b])
    (by simp [not_isNan_of_finite ha, not_isNan_of_finite hb])]
  dsimp only
  rw [if_pos (hn.mpr h0)]
  exact if_congr hm rfl rfl

/-- ∞ × 0 is invalid whatever is added. -/
theorem ffmaF_inf_zero (ha : unsignedOf f a = infOf f false) (hb : IsFinite f b) (h0 : units f b = 0) :
    ffmaF f env a b c = invalidF f env.level [a, b, c] := by
  obtain ⟨n, g, hrb, hn, -⟩ := readF_num hfl hb
  rw [ffmaF, readF_inf hfl ha, hrb]
  exact if_pos (hn.mpr h0)

/-! ### Reciprocals and roots -/

theorem frcpF_inf (ha : unsignedOf f a = infOf f false) : frcpF f env a = (signCode f (signOf f a), 0) := by
  rw [frcpF, readF_inf hfl ha]
  rfl

theorem frcpF_zero (ha : IsFinite f a) (h0 : units f a = 0) : frcpF f env a = finishF f env (infOf f (signOf f a), 2) := by
  obtain ⟨m, e, hr, hm, -⟩ := readF_num hfl ha
  rw [frcpF, hr]
  exact if_pos (hm.mpr h0)

theorem frcpF_ne_zero (ha : IsFinite f a) (h0 : units f a ≠ 0) : frcpF f env a = fdivF f env (oneCode f) a := by
  obtain ⟨m, e, hr, hm, -⟩ := readF_num hfl ha
  rw [frcpF, hr]
  exact if_neg (mt hm.mp h0)

theorem frsqF_zero (ha : IsFinite f a) (h0 : units f a = 0) : frsqF f env a = finishF f env (infOf f (signOf f a), 2) := by
  obtain ⟨m, e, hr, hm, -⟩ := readF_num hfl ha
  rw [frsqF, hr]
  exact if_pos (hm.mpr h0)

theorem fsqrtF_zero (ha : IsFinite f a) (h0 : units f a = 0) : fsqrtF f env a = (signCode f (signOf f a), 0) := by
  obtain ⟨m, e, hr, hm, -⟩ := readF_num hfl ha
  rw [fsqrtF, hr]
  exact if_pos (hm.mpr h0)

theorem frsqF_inf (ha : unsignedOf f a = infOf f false) (hs : signOf f a = false) : frsqF f env a = (0, 0) := by
  rw [frsqF, readF_inf hfl ha, hs]
  rfl

theorem fsqrtF_inf (ha : unsignedOf f a = infOf f false) (hs : signOf f a = false) :
    fsqrtF f env a = finishF f env (infOf f false, 0) := by
  rw [fsqrtF, readF_inf hfl ha, hs]
  rfl

/-- A root of a negative operand is invalid. -/
theorem root_negative (ha : ¬IsNan f a) (hac : a < 2 ^ (1 + ebits f + fbits f)) (h0 : units f a < 0) :
    frsqF f env a = (canonNan f, 1) ∧ fsqrtF f env a = (canonNan f, 1) := by
  rw [← invalidF_of_not_nan (f := f) (level := env.level) (srcs := [a]) (by simpa using ha)]
  rcases (nan_or_inf_or_finite hac).resolve_left ha with hi | hfin
  · have hs : signOf f a = true := by
      rw [units_eq_signed_mag] at h0
      by_contra h
      rw [if_neg h] at h0
      omega
    rw [frsqF, fsqrtF, readF_inf hfl hi, hs]
    exact ⟨rfl, rfl⟩
  · obtain ⟨m, e, hr, hm, hs⟩ := readF_num hfl hfin
    have hm0 : m ≠ 0 := mt hm.mp h0.ne
    rw [frsqF, fsqrtF, hr]
    dsimp only
    rw [if_neg hm0, if_neg hm0, if_pos ((hs hm0).mpr h0), if_pos ((hs hm0).mpr h0)]
    exact ⟨rfl, rfl⟩

end

/-! ### One -/

theorem oneCode_lt (f : FFmt) : oneCode f < infOf f false := by
  rw [oneCode, infOf_false_eq]
  exact Nat.mul_lt_mul_of_pos_right (by omega) (Nat.two_pow_pos _)

theorem isFinite_oneCode (f : FFmt) : IsFinite f (oneCode f) := by
  have h := (oneCode_lt f).trans (infOf_lt f)
  rw [isFinite_iff, unsignedOf, Nat.mod_eq_of_lt h, two_pow_codes]
  exact ⟨by omega, oneCode_lt f⟩

theorem mag_oneCode (f : FFmt) : mag (fbits f) (oneCode f) = unitsOne f := by
  have hb := bias_pos f
  have h := mag_add (p := fbits f) (j := bias f - 1) (k := 2 ^ fbits f) (.inr le_rfl) (Nat.pow_le_pow_right (by decide) (Nat.le_succ _))
  rw [← Nat.succ_mul, ← Nat.pow_add] at h
  rw [oneCode, unitsOne, show bias f = (bias f - 1).succ by omega, h]
  congr 1

theorem valued_oneCode (f : FFmt) : valued f (oneCode f) = ((unitsOne f : Int), false) := by
  have h := (oneCode_lt f).trans (infOf_lt f)
  have hs := signOf_add (f := f) (s := false) h
  rw [signCode, if_neg Bool.false_ne_true, Nat.zero_add] at hs
  rw [valued, hs, units_of_lt h, mag_oneCode]

end Sys2Proof.Machine

/-! Proofs about f32 arithmetic of lanes (R159 to R162). -/
namespace Sys2Proof.Machine
open Sys2Proof.Safety

/-! ## Operations on operands with their negation bits -/

/-- The code that the arithmetic sees of an operand. -/
def seen (f : FFmt) (k w : Nat) : Nat := negF f (k == 1) w

theorem operand_eq_valued {f : FFmt} {w : Nat} (hw : w < 2 ^ (1 + ebits f + fbits f)) (h : ¬IsNan f w) (k : Nat) :
    operand f k w = valued f (seen f k w) := operand_eq hw h k

theorem isFinite_seen {f : FFmt} {w : Nat} (h : IsFinite f w) (k : Nat) : IsFinite f (seen f k w) := (isFinite_negF h.1 _).mpr h

theorem operand_of_finite {f : FFmt} {w : Nat} (h : IsFinite f w) (k : Nat) : operand f k w = valued f (seen f k w) :=
  operand_eq_valued h.1 (not_isNan_of_finite h) k

theorem valued_negF {f : FFmt} {w : Nat} (h : IsFinite f w) : valued f (negF f true w) = (-(valued f w).1, !(valued f w).2) := by
  rw [valued, units_negF h.1 _ (not_isNan_of_finite h), signOf_negF h.1 _ (not_isNan_of_finite h), Bool.bne_true]
  rfl

section
variable {f : FFmt} {rnd sat level na nb nc v w z : Nat} {m : Rnd} (hfl : flushes f level = false) (hm : modeOf rnd m)
  (hv : IsFinite f v) (hw : IsFinite f w)
include hfl hm hv hw

theorem sum_of_operands : ∃ r, SumOf f m (operand f na v) (operand f nb w) r ∧
    faddF f (envOf rnd sat level) (seen f na v) (seen f nb w) = (saturated f sat r.1, r.2) := by
  obtain ⟨r, hr, heq⟩ := sumOf_faddF (env := envOf rnd sat level) hfl (isFinite_seen hv na) (isFinite_seen hw nb)
  rw [operand_of_finite hv, operand_of_finite hw, ← rndOf_of_mode hm]
  exact ⟨r, hr, heq.trans (finishF_eq rfl f r)⟩

theorem difference_of_operands : ∃ r, SumOf f m (operand f na v) (-(operand f nb w).1, !(operand f nb w).2) r ∧
    faddF f (envOf rnd sat level) (seen f na v) (negF f true (seen f nb w)) = (saturated f sat r.1, r.2) := by
  have hb := isFinite_seen hw nb
  obtain ⟨r, hr, heq⟩ := sumOf_faddF (env := envOf rnd sat level) hfl (isFinite_seen hv na) ((isFinite_negF hb.1 true).mpr hb)
  rw [valued_negF hb] at hr
  rw [operand_of_finite hv, operand_of_finite hw, ← rndOf_of_mode hm]
  exact ⟨r, hr, heq.trans (finishF_eq rfl f r)⟩

theorem product_of_operands : ∃ r, ProductOf f m (operand f na v) (operand f nb w) r ∧
    fmulF f (envOf rnd sat level) (seen f na v) (seen f nb w) = (saturated f sat r.1, r.2) := by
  obtain ⟨r, hr, heq⟩ := productOf_fmulF (env := envOf rnd sat level) hfl (isFinite_seen hv na) (isFinite_seen hw nb)
  rw [operand_of_finite hv, operand_of_finite hw, ← rndOf_of_mode hm]
  exact ⟨r, hr, heq.trans (finishF_eq rfl f r)⟩

theorem quotient_of_operands (h0 : (operand f nb w).1 ≠ 0) : ∃ r, QuotientOf f m (operand f na v) (operand f nb w) r ∧
    fdivF f (envOf rnd sat level) (seen f na v) (seen f nb w) = (saturated f sat r.1, r.2) := by
  rw [operand_of_finite hw] at h0
  obtain ⟨r, hr, heq⟩ := quotientOf_fdivF (env := envOf rnd sat level) hfl (isFinite_seen hv na) (isFinite_seen hw nb) h0
  rw [operand_of_finite hv, operand_of_finite hw, ← rndOf_of_mode hm]
  exact ⟨r, hr, heq.trans (finishF_eq rfl f r)⟩

theorem fused_of_operands (hz : IsFinite f z) : ∃ r, FusedOf f m (operand f na v) (operand f nb w) (operand f nc z) r ∧
    ffmaF f (envOf rnd sat level) (seen f na v) (seen f nb w) (seen f nc z) = (saturated f sat r.1, r.2) := by
  obtain ⟨r, hr, heq⟩ := fusedOf_ffmaF (env := envOf rnd sat level) hfl (isFinite_seen hv na) (isFinite_seen hw nb) (isFinite_seen hz nc)
  rw [operand_of_finite hv, operand_of_finite hw, operand_of_finite hz, ← rndOf_of_mode hm]
  exact ⟨r, hr, heq.trans (finishF_eq rfl f r)⟩

end

section
variable {f : FFmt} {rnd sat level na v : Nat} {m : Rnd} (hfl : flushes f level = false) (hm : modeOf rnd m) (hv : IsFinite f v)
include hfl hm hv

theorem reciprocal_of_operand (h0 : (operand f na v).1 ≠ 0) : ∃ r, QuotientOf f m (unitsOne f, false) (operand f na v) r ∧
    frcpF f (envOf rnd sat level) (seen f na v) = (saturated f sat r.1, r.2) := by
  rw [operand_of_finite hv] at h0
  have hs := isFinite_seen hv na
  obtain ⟨r, hr, heq⟩ := quotientOf_fdivF (env := envOf rnd sat level) hfl (isFinite_oneCode f) hs h0
  rw [operand_of_finite hv, ← rndOf_of_mode hm, ← valued_oneCode, frcpF_ne_zero hfl hs h0]
  exact ⟨r, hr, heq.trans (finishF_eq rfl f r)⟩

theorem root_of_operand (h0 : 0 < (operand f na v).1) : ∃ r, RootOf f m ((operand f na v).1 * unitsOne f) 1 r ∧
    fsqrtF f (envOf rnd sat level) (seen f na v) = r := by
  rw [operand_of_finite hv] at h0 ⊢
  rw [← rndOf_of_mode hm]
  exact rootOf_fsqrtF (env := envOf rnd sat level) hfl (isFinite_seen hv na) h0

theorem reciprocal_root_of_operand (h0 : 0 < (operand f na v).1) : ∃ r, RootOf f m ((unitsOne f : Int) ^ 3) (operand f na v).1 r ∧
    frsqF f (envOf rnd sat level) (seen f na v) = r := by
  rw [operand_of_finite hv] at h0 ⊢
  rw [← rndOf_of_mode hm]
  exact rootOf_frsqF (env := envOf rnd sat level) hfl (isFinite_seen hv na) h0

end

/-! ## f32 lanes -/

theorem flushes_f32 {level : Nat} (hl : 0 < level) : flushes .f32 level = false := by simp [flushes, hl.ne']

theorem n_lt_f32 (x : LaneIn) (i : Nat) : x.n i < 2 ^ (1 + ebits .f32 + fbits .f32) := n_lt x i

/-- Arithmetic of two finite f32 operands in its long form. -/
theorem laneF32Long_spec (x : LaneIn) (o : Form.Fp2) (m : Rnd) (a b : Int × Bool) (hl : 0 < x.level) (h0 : IsFinite .f32 (x.n 0))
    (h1 : IsFinite .f32 (x.n 1)) (hm : modeOf o.rnd m) (ha : a = operand .f32 o.na (x.n 0)) (hb : b = operand .f32 o.nb (x.n 1)) :
    (∃ r, SumOf .f32 m a b r ∧ laneFaddF32Long o x = gives .f32 (saturated .f32 o.sat r.1, r.2)) ∧
    (∃ r, SumOf .f32 m a (-b.1, !b.2) r ∧ laneFsubF32Long o x = gives .f32 (saturated .f32 o.sat r.1, r.2)) ∧
    (∃ r, ProductOf .f32 m a b r ∧ laneFmulF32Long o x = gives .f32 (saturated .f32 o.sat r.1, r.2)) ∧
    (b.1 ≠ 0 → ∃ r, QuotientOf .f32 m a b r ∧ laneFdivF32 o x = gives .f32 (saturated .f32 o.sat r.1, r.2)) ∧
    (b.1 = 0 → a.1 ≠ 0 → laneFdivF32 o x = gives .f32 (saturated .f32 o.sat (infOf .f32 (a.2 != b.2)), 2)) ∧
    (b.1 = 0 → a.1 = 0 → laneFdivF32 o x = gives .f32 (0x7FC00000, 1)) := by
  have hfl := flushes_f32 hl
  subst ha hb
  obtain ⟨r, hr, hre⟩ := sum_of_operands (sat := o.sat) (na := o.na) (nb := o.nb) hfl hm h0 h1
  obtain ⟨q, hq, hqe⟩ := difference_of_operands (sat := o.sat) (na := o.na) (nb := o.nb) hfl hm h0 h1
  obtain ⟨p, hp, hpe⟩ := product_of_operands (sat := o.sat) (na := o.na) (nb := o.nb) hfl hm h0 h1
  have hs0 := isFinite_seen h0 o.na
  have hs1 := isFinite_seen h1 o.nb
  refine ⟨⟨r, hr, congrArg (gives .f32) hre⟩, ⟨q, hq, congrArg (gives .f32) hqe⟩, ⟨p, hp, congrArg (gives .f32) hpe⟩, fun hne => ?_, ?_, ?_⟩
  · obtain ⟨d, hd, hde⟩ := quotient_of_operands (sat := o.sat) (na := o.na) (nb := o.nb) hfl hm h0 h1 hne
    exact ⟨d, hd, congrArg (gives .f32) hde⟩
  · rw [operand_of_finite h0, operand_of_finite h1]
    intro hb ha
    have h := fdivF_by_zero (env := envOf o.rnd o.sat x.level) hfl hs0 hs1 hb
    rw [if_neg (c := units _ _ = 0) ha, finishF_eq rfl] at h
    exact congrArg (gives .f32) h
  · rw [operand_of_finite h0, operand_of_finite h1]
    intro hb ha
    have h := fdivF_by_zero (env := envOf o.rnd o.sat x.level) hfl hs0 hs1 hb
    rw [if_pos (c := units _ _ = 0) ha] at h
    exact congrArg (gives .f32) h

theorem laneFfmaF32Long_spec (x : LaneIn) (o : Form.Fp3) (m : Rnd) (hl : 0 < x.level) (h : ∀ i < 3, IsFinite .f32 (x.n i)) (hm : modeOf o.rnd m) :
    ∃ r, FusedOf .f32 m (operand .f32 o.na (x.n 0)) (operand .f32 o.nb (x.n 1)) (operand .f32 o.nc (x.n 2)) r ∧
      laneFfmaF32Long o x = gives .f32 (saturated .f32 o.sat r.1, r.2) := by
  obtain ⟨r, hr, hre⟩ := fused_of_operands (sat := o.sat) (na := o.na) (nb := o.nb) (nc := o.nc) (flushes_f32 hl) hm (h 0 (by decide))
    (h 1 (by decide)) (h 2 (by decide))
  exact ⟨r, hr, congrArg (gives .f32) hre⟩

theorem saturated_zero (f : FFmt) (w : Nat) : saturated f 0 w = w := if_neg fun h => by cases h.1

/-- A short form is the long one with no field set. -/
theorem laneF32Short_spec (x : LaneIn) (hl : 0 < x.level) (h0 : IsFinite .f32 (x.n 0)) (h1 : IsFinite .f32 (x.n 1)) :
    (∃ r, SumOf .f32 .rne (operand .f32 0 (x.n 0)) (operand .f32 0 (x.n 1)) r ∧ laneFaddF32 x = gives .f32 r) ∧
    (∃ r, SumOf .f32 .rne (operand .f32 0 (x.n 0)) (operand .f32 1 (x.n 1)) r ∧ laneFsubF32 x = gives .f32 r) ∧
    (∃ r, ProductOf .f32 .rne (operand .f32 0 (x.n 0)) (operand .f32 0 (x.n 1)) r ∧ laneFmulF32 x = gives .f32 r) ∧
    (IsFinite .f32 (x.n 2) → ∃ r, FusedOf .f32 .rne (operand .f32 0 (x.n 0)) (operand .f32 0 (x.n 1)) (operand .f32 0 (x.n 2)) r ∧
      laneFfmaF32 x = gives .f32 r) := by
  have hfl := flushes_f32 hl
  have hm : modeOf 0 .rne := rfl
  obtain ⟨r, hr, hre⟩ := sum_of_operands (sat := 0) (na := 0) (nb := 0) hfl hm h0 h1
  obtain ⟨q, hq, hqe⟩ := sum_of_operands (sat := 0) (na := 0) (nb := 1) hfl hm h0 h1
  obtain ⟨p, hp, hpe⟩ := product_of_operands (sat := 0) (na := 0) (nb := 0) hfl hm h0 h1
  rw [saturated_zero] at hre hqe hpe
  refine ⟨⟨r, hr, congrArg (gives .f32) hre⟩, ⟨q, hq, congrArg (gives .f32) hqe⟩, ⟨p, hp, congrArg (gives .f32) hpe⟩, fun h2 => ?_⟩
  obtain ⟨d, hd, hde⟩ := fused_of_operands (sat := 0) (na := 0) (nb := 0) (nc := 0) hfl hm h0 h1 h2
  rw [saturated_zero] at hde
  exact ⟨d, hd, congrArg (gives .f32) hde⟩

/-! ## Reciprocals and roots -/

theorem gives_signCode (s : Bool) : gives .f32 (signCode .f32 s, 0) = gives .f32 (if s then 2 ^ 31 else 0, 0) := by cases s <;> rfl

theorem laneF32Unary_spec (x : LaneIn) (o : Form.Fp1) (m : Rnd) (a : Int × Bool) (hl : 0 < x.level) (hm : modeOf o.rnd m)
    (ha : a = operand .f32 o.na (x.n 0)) :
    (IsFinite .f32 (x.n 0) → a.1 ≠ 0 → ∃ r, QuotientOf .f32 m (unitsOne .f32, false) a r ∧
      laneFrcpF32Long o x = gives .f32 (saturated .f32 o.sat r.1, r.2)) ∧
    (IsFinite .f32 (x.n 0) → a.1 = 0 → laneFrcpF32Long o x = gives .f32 (saturated .f32 o.sat (infOf .f32 a.2), 2) ∧
      laneFrsqF32Long o x = gives .f32 (saturated .f32 o.sat (infOf .f32 a.2), 2) ∧
      laneFsqrtF32Long o x = gives .f32 (if a.2 then 2 ^ 31 else 0, 0)) ∧
    (x.n 0 % 2 ^ 31 = infOf .f32 false → laneFrcpF32Long o x = gives .f32 (if a.2 then 2 ^ 31 else 0, 0)) ∧
    (x.n 0 % 2 ^ 31 = infOf .f32 false → a.2 = false → laneFrsqF32Long o x = gives .f32 (0, 0) ∧
      laneFsqrtF32Long o x = gives .f32 (saturated .f32 o.sat (infOf .f32 false), 0)) ∧
    (¬IsNan .f32 (x.n 0) → a.1 < 0 → laneFrsqF32Long o x = gives .f32 (0x7FC00000, 1) ∧ laneFsqrtF32Long o x = gives .f32 (0x7FC00000, 1)) ∧
    (IsFinite .f32 (x.n 0) → 0 < a.1 → (∃ r, RootOf .f32 m (a.1 * unitsOne .f32) 1 r ∧ laneFsqrtF32Long o x = gives .f32 r) ∧
      ∃ r, RootOf .f32 m ((unitsOne .f32 : Int) ^ 3) a.1 r ∧ laneFrsqF32Long o x = gives .f32 r) := by
  have hfl := flushes_f32 hl
  have hlt := n_lt_f32 x 0
  have hinf : x.n 0 % 2 ^ 31 = infOf .f32 false → unsignedOf .f32 (seen .f32 o.na (x.n 0)) = infOf .f32 false ∧
      a = valued .f32 (seen .f32 o.na (x.n 0)) := fun h =>
    ⟨(unsignedOf_negF hlt _).trans h, ha.trans (operand_eq_valued hlt (not_isNan_of_inf h) _)⟩
  have hfin : IsFinite .f32 (x.n 0) → a = valued .f32 (seen .f32 o.na (x.n 0)) := fun h => ha.trans (operand_of_finite h _)
  refine ⟨fun h h0 => ?_, fun h h0 => ?_, fun h => ?_, fun h hs => ?_, fun h h0 => ?_, fun h h0 => ⟨?_, ?_⟩⟩
  · subst ha
    obtain ⟨r, hr, hre⟩ := reciprocal_of_operand (sat := o.sat) hfl hm h h0
    exact ⟨r, hr, congrArg (gives .f32) hre⟩
  · rw [hfin h] at h0 ⊢
    have hs := isFinite_seen h o.na
    rw [← gives_signCode]
    exact ⟨congrArg (gives .f32) ((frcpF_zero hfl hs h0).trans (finishF_eq rfl _ _)),
      congrArg (gives .f32) ((frsqF_zero hfl hs h0).trans (finishF_eq rfl _ _)), congrArg (gives .f32) (fsqrtF_zero hfl hs h0)⟩
  · obtain ⟨hu, hav⟩ := hinf h
    rw [hav, ← gives_signCode]
    exact congrArg (gives .f32) (frcpF_inf hfl hu)
  · obtain ⟨hu, hav⟩ := hinf h
    rw [hav] at hs
    exact ⟨congrArg (gives .f32) (frsqF_inf hfl hu hs), congrArg (gives .f32) ((fsqrtF_inf hfl hu hs).trans (finishF_eq rfl _ _))⟩
  · rw [ha, operand_eq_valued hlt h] at h0
    obtain ⟨h1, h2⟩ := root_negative (env := envOf o.rnd o.sat x.level) hfl (mt (isNan_negF _ hlt).mp h) (negF_lt hlt _) h0
    exact ⟨congrArg (gives .f32) h1, congrArg (gives .f32) h2⟩
  · subst ha
    obtain ⟨r, hr, hre⟩ := root_of_operand (sat := o.sat) hfl hm h h0
    exact ⟨r, hr, congrArg (gives .f32) hre⟩
  · subst ha
    obtain ⟨r, hr, hre⟩ := reciprocal_root_of_operand (sat := o.sat) hfl hm h h0
    exact ⟨r, hr, congrArg (gives .f32) hre⟩

theorem laneF32Unary_short (x : LaneIn) (o : Form.Fp1) (hr : o.rnd = 0) (hs : o.sat = 0) (hn : o.na = 0) :
    laneFrcpF32 x = laneFrcpF32Long o x ∧ laneFrsqF32 x = laneFrsqF32Long o x ∧ laneFsqrtF32 x = laneFsqrtF32Long o x := by
  rw [laneFrcpF32Long, laneFrsqF32Long, laneFsqrtF32Long, hr, hs, hn]
  exact ⟨rfl, rfl, rfl⟩

/-! ## Special operands -/

/-- `v` is `w` with its sign perhaps changed, but a NaN is left as it is. -/
def Negates (f : FFmt) (w v : Nat) : Prop := (IsNan f w → v = w) ∧ (¬IsNan f w → ¬IsNan f v)

theorem negates_seen {f : FFmt} {w : Nat} (hw : w < 2 ^ (1 + ebits f + fbits f)) (k : Nat) : Negates f w (seen f k w) :=
  ⟨fun h => negF_of_nan h _, mt (isNan_negF _ hw).mp⟩

theorem negates_negF_seen {f : FFmt} {w : Nat} (hw : w < 2 ^ (1 + ebits f + fbits f)) (k : Nat) : Negates f w (negF f true (seen f k w)) :=
  ⟨fun h => by rw [seen, negF_of_nan h, negF_of_nan h], fun h => mt (isNan_negF _ (negF_lt hw _)).mp (mt (isNan_negF _ hw).mp h)⟩

theorem Negates.isNan_iff {f : FFmt} {w v : Nat} (h : Negates f w v) : IsNan f v ↔ IsNan f w := by
  by_cases hw : IsNan f w
  · rw [h.1 hw]
  · exact iff_of_false (h.2 hw) hw

theorem Negates.isSnan_iff {f : FFmt} {w v : Nat} (h : Negates f w v) : isSnan f v = true ↔ Safety.Signals f w := by
  rw [Machine.isSnan_iff]
  by_cases hw : IsNan f w
  · rw [h.1 hw]
  · exact iff_of_false (fun hs => h.2 hw hs.1) fun hs => hw hs.1

/-- The NaN result of two operands, of which one at least is a NaN. -/
theorem nanOf_of_negates {f : FFmt} {level a b v w : Nat} {e : Exc} (hl : 0 < level) (ha : Negates f a v) (hb : Negates f b w)
    (h1 : (Safety.Signals f a ∨ Safety.Signals f b) → e = 1) (h0 : ¬(Safety.Signals f a ∨ Safety.Signals f b) → e = 0) :
    (IsNan f a → nanOf f level [v, w] = (a ||| 2 ^ (fbits f - 1), e)) ∧
      (¬IsNan f a → IsNan f b → nanOf f level [v, w] = (b ||| 2 ^ (fbits f - 1), e)) := by
  have he : excIf (isSnan f v || isSnan f w) excInv = e := by
    by_cases hs : Safety.Signals f a ∨ Safety.Signals f b
    · rw [h1 hs, Bool.or_eq_true _ _ |>.mpr (by rwa [ha.isSnan_iff, hb.isSnan_iff])]
      rfl
    · rw [h0 hs, Bool.eq_false_iff.mpr (mt (Bool.or_eq_true _ _).mp (by rwa [ha.isSnan_iff, hb.isSnan_iff]))]
      rfl
  rw [← he]
  refine ⟨fun h => ?_, fun hna h => ?_⟩
  · rw [nanOf_pair_left hl (ha.isNan_iff.mpr h), ha.1 h]
  · rw [nanOf_pair_right hl (mt ha.isNan_iff.mp hna) (hb.isNan_iff.mpr h), hb.1 h]

theorem laneF32Nan_spec (x : LaneIn) (o : Form.Fp2) (hl : 0 < x.level) :
    ∀ l ∈ [laneFaddF32Long o, laneFsubF32Long o, laneFmulF32Long o, laneFdivF32 o], ∀ e : Exc,
      ((Safety.Signals .f32 (x.n 0) ∨ Safety.Signals .f32 (x.n 1)) → e = 1) → (¬(Safety.Signals .f32 (x.n 0) ∨ Safety.Signals .f32 (x.n 1)) → e = 0) →
      (IsNan .f32 (x.n 0) → l x = gives .f32 (x.n 0 ||| 0x400000, e)) ∧
      (¬IsNan .f32 (x.n 0) → IsNan .f32 (x.n 1) → l x = gives .f32 (x.n 1 ||| 0x400000, e)) := by
  intro l hmem e h1 h0
  have hfl := flushes_f32 hl
  have ha := negates_seen (n_lt_f32 x 0) o.na
  have hb := negates_seen (n_lt_f32 x 1) o.nb
  have hnb := negates_negF_seen (n_lt_f32 x 1) o.nb
  have hnan : ∀ {v w : Nat} {r : Nat × Exc}, Negates .f32 (x.n 0) v → Negates .f32 (x.n 1) w →
      (IsNan .f32 v ∨ IsNan .f32 w → r = nanOf .f32 x.level [v, w]) →
      (IsNan .f32 (x.n 0) → gives .f32 r = gives .f32 (x.n 0 ||| 0x400000, e)) ∧
        (¬IsNan .f32 (x.n 0) → IsNan .f32 (x.n 1) → gives .f32 r = gives .f32 (x.n 1 ||| 0x400000, e)) := fun {v w r} hv hw hr => by
    obtain ⟨hleft, hright⟩ := nanOf_of_negates hl hv hw h1 h0
    exact ⟨fun h => congrArg _ ((hr (.inl (hv.isNan_iff.mpr h))).trans (hleft h)),
      fun hna h => congrArg _ ((hr (.inr (hw.isNan_iff.mpr h))).trans (hright hna h))⟩
  simp only [List.mem_cons, List.not_mem_nil, or_false] at hmem
  rcases hmem with rfl | rfl | rfl | rfl
  · exact hnan ha hb (faddF_nan (env := envOf o.rnd o.sat x.level) hfl)
  · exact hnan ha hnb (faddF_nan (env := envOf o.rnd o.sat x.level) hfl)
  · exact hnan ha hb (fmulF_nan (env := envOf o.rnd o.sat x.level) hfl)
  · exact hnan ha hb (fdivF_nan (env := envOf o.rnd o.sat x.level) hfl)

theorem laneF32Inf_spec (x : LaneIn) (o : Form.Fp2) (a b : Int × Bool) (hl : 0 < x.level) (ha : a = operand .f32 o.na (x.n 0))
    (hb : b = operand .f32 o.nb (x.n 1)) (hi : x.n 0 % 2 ^ 31 = infOf .f32 false) (hn : ¬IsNan .f32 (x.n 1)) :
    (x.n 1 % 2 ^ 31 = infOf .f32 false → a.2 ≠ b.2 → laneFaddF32Long o x = gives .f32 (0x7FC00000, 1)) ∧
    (x.n 1 % 2 ^ 31 ≠ infOf .f32 false ∨ a.2 = b.2 → laneFaddF32Long o x = gives .f32 (saturated .f32 o.sat (infOf .f32 a.2), 0)) ∧
    (b.1 = 0 → laneFmulF32Long o x = gives .f32 (0x7FC00000, 1)) ∧
    (b.1 ≠ 0 → laneFmulF32Long o x = gives .f32 (saturated .f32 o.sat (infOf .f32 (a.2 != b.2)), 0)) ∧
    (x.n 1 % 2 ^ 31 = infOf .f32 false → laneFdivF32 o x = gives .f32 (0x7FC00000, 1)) ∧
    (x.n 1 % 2 ^ 31 ≠ infOf .f32 false → laneFdivF32 o x = gives .f32 (saturated .f32 o.sat (infOf .f32 (a.2 != b.2)), 0)) := by
  have hfl := flushes_f32 hl
  have h0 := n_lt_f32 x 0
  have h1 := n_lt_f32 x 1
  have hsn := mt (isNan_negF (o.nb == 1) h1).mp hn
  have hs1 := negF_lt (f := .f32) h1 (o.nb == 1)
  have hsi := (unsignedOf_negF (f := .f32) h0 (o.na == 1)).trans hi
  have hu1 : unsignedOf .f32 (negF .f32 (o.nb == 1) (x.n 1)) = x.n 1 % 2 ^ 31 := unsignedOf_negF (f := .f32) h1 _
  have hadd := faddF_inf (env := envOf o.rnd o.sat x.level) hfl hsi hsn hs1
  have hmul := fmulF_inf (env := envOf o.rnd o.sat x.level) hfl hsi hsn hs1
  have hdiv := fdivF_inf (env := envOf o.rnd o.sat x.level) hfl hsi hsn hs1
  rw [hu1, finishF_eq rfl] at hadd hdiv
  rw [finishF_eq rfl] at hmul
  rw [ha, hb, operand_eq h0 (not_isNan_of_inf hi), operand_eq h1 hn]
  refine ⟨fun h hs => ?_, fun h => ?_, fun h => ?_, fun h => ?_, fun h => ?_, fun h => ?_⟩
  · exact congrArg (gives .f32) (hadd.trans (if_pos ⟨h, hs⟩))
  · exact congrArg (gives .f32) (hadd.trans (if_neg fun h' => h.elim (· h'.1) h'.2))
  · exact congrArg (gives .f32) (hmul.trans (if_pos h))
  · exact congrArg (gives .f32) (hmul.trans (if_neg h))
  · exact congrArg (gives .f32) (hdiv.trans (if_pos h))
  · exact congrArg (gives .f32) (hdiv.trans (if_neg h))

theorem laneFdivF32_by_inf (x : LaneIn) (o : Form.Fp2) (a b : Int × Bool) (hl : 0 < x.level) (ha : a = operand .f32 o.na (x.n 0))
    (hb : b = operand .f32 o.nb (x.n 1)) (hf : IsFinite .f32 (x.n 0)) (hi : x.n 1 % 2 ^ 31 = infOf .f32 false) :
    laneFdivF32 o x = gives .f32 (if a.2 != b.2 then 2 ^ 31 else 0, 0) := by
  have h1 := n_lt_f32 x 1
  rw [ha, hb, operand_of_finite hf, operand_eq h1 (not_isNan_of_inf hi), ← gives_signCode]
  exact congrArg (gives .f32) (fdivF_by_inf (flushes_f32 hl) (isFinite_seen hf _) ((unsignedOf_negF h1 _).trans hi))

theorem units_of_unsigned_zero {f : FFmt} {w : Nat} (h : unsignedOf f w = 0) : units f w = 0 := by
  rw [units_eq_signed_mag, h, mag_of_le (Nat.zero_le _)]
  split <;> rfl

/-- ∞ × 0 is invalid even beside a NaN. -/
theorem laneFfmaF32_inf_zero (x : LaneIn) (o : Form.Fp3) (hl : 0 < x.level) (hi : x.n 0 % 2 ^ 31 = infOf .f32 false) (h0 : x.n 1 % 2 ^ 31 = 0) :
    (IsNan .f32 (x.n 2) → laneFfmaF32Long o x = gives .f32 (x.n 2 ||| 0x400000, 1)) ∧
    (¬IsNan .f32 (x.n 2) → laneFfmaF32Long o x = gives .f32 (0x7FC00000, 1)) := by
  have hna : ¬IsNan .f32 (seen .f32 o.na (x.n 0)) := mt (isNan_negF _ (n_lt_f32 x 0)).mp (not_isNan_of_inf hi)
  have hb : unsignedOf .f32 (seen .f32 o.nb (x.n 1)) = 0 := (unsignedOf_negF (n_lt_f32 x 1) _).trans h0
  have hbf : IsFinite .f32 (seen .f32 o.nb (x.n 1)) := isFinite_iff.mpr ⟨negF_lt (n_lt_f32 x 1) _, by rw [hb]; exact infOf_pos _⟩
  have hnb := not_isNan_of_finite hbf
  have hc := negates_seen (n_lt_f32 x 2) o.nc
  have h := ffmaF_inf_zero (env := envOf o.rnd o.sat x.level) (a := seen .f32 o.na (x.n 0)) (c := seen .f32 o.nc (x.n 2)) (flushes_f32 hl)
    ((unsignedOf_negF (n_lt_f32 x 0) _).trans hi) hbf (units_of_unsigned_zero hb)
  refine ⟨fun hn => congrArg (gives .f32) (h.trans ?_), fun hn => congrArg (gives .f32) (h.trans ?_)⟩
  · rw [hc.1 hn]
    simp [invalidF, nanResult, envOf, hl.ne', isNan_eq_false_iff.mpr hna, isNan_eq_false_iff.mpr hnb, isNan_iff.mpr hn, quiet_eq, fbits]
    rfl
  · exact invalidF_of_not_nan (by simp [hna, hnb, hc.2 hn])

end Sys2Proof.Machine

/-! Proofs about f64 lanes, packed lanes and dot products, and FMIN, FMAX and FCMP of lanes (R163 to R169). -/
namespace Sys2Proof.Machine
open Sys2Proof.Safety

/-! ## f64 lanes -/

theorem twoF_eq (r : Nat × Exc) : twoF r = givesPair r := by
  have hlo : loWord (BitVec.ofNat 64 r.1) = BitVec.ofNat 32 (r.1 % 2 ^ 32) := by
    apply BitVec.eq_of_toNat_eq
    rw [loWord, BitVec.toNat_ofNat, BitVec.toNat_ofNat, BitVec.toNat_ofNat]
    omega
  have hhi : hiWord (BitVec.ofNat 64 r.1) = BitVec.ofNat 32 (r.1 / 2 ^ 32) := by
    apply BitVec.eq_of_toNat_eq
    rw [hiWord, BitVec.toNat_ofNat, BitVec.toNat_ofNat, BitVec.toNat_ofNat]
    omega
  rw [twoF, givesPair]
  rw [hlo, hhi]

theorem q64_eq (x : LaneIn) (i : Nat) : x.q64 i = pairCode x i := q_toNat x i

theorem laneF64Binary_spec (x : LaneIn) (o : Form.Fp2) (m : Rnd) (a b : Int × Bool) (h0 : IsFinite .f64 (pairCode x 0))
    (h1 : IsFinite .f64 (pairCode x 2)) (hm : modeOf o.rnd m) (ha : a = operand .f64 o.na (pairCode x 0)) (hb : b = operand .f64 o.nb (pairCode x 2)) :
    (∃ r, SumOf .f64 m a b r ∧ laneFaddF64 o x = givesPair (saturated .f64 o.sat r.1, r.2)) ∧
    (∃ r, ProductOf .f64 m a b r ∧ laneFmulF64 o x = givesPair (saturated .f64 o.sat r.1, r.2)) ∧
    (b.1 ≠ 0 → ∃ r, QuotientOf .f64 m a b r ∧ laneFdivF64 o x = givesPair (saturated .f64 o.sat r.1, r.2)) := by
  have hfl : flushes .f64 x.level = false := rfl
  subst ha hb
  rw [laneFaddF64, laneFmulF64, laneFdivF64, q64_eq, q64_eq, twoF_eq, twoF_eq, twoF_eq]
  obtain ⟨r, hr, hre⟩ := sum_of_operands (sat := o.sat) (na := o.na) (nb := o.nb) hfl hm h0 h1
  obtain ⟨p, hp, hpe⟩ := product_of_operands (sat := o.sat) (na := o.na) (nb := o.nb) hfl hm h0 h1
  refine ⟨⟨r, hr, congrArg givesPair hre⟩, ⟨p, hp, congrArg givesPair hpe⟩, fun hne => ?_⟩
  obtain ⟨d, hd, hde⟩ := quotient_of_operands (sat := o.sat) (na := o.na) (nb := o.nb) hfl hm h0 h1 hne
  exact ⟨d, hd, congrArg givesPair hde⟩

theorem laneFfmaF64_spec (x : LaneIn) (o : Form.Fp3) (m : Rnd) (h : ∀ i < 3, IsFinite .f64 (pairCode x (2 * i))) (hm : modeOf o.rnd m) :
    ∃ r, FusedOf .f64 m (operand .f64 o.na (pairCode x 0)) (operand .f64 o.nb (pairCode x 2)) (operand .f64 o.nc (pairCode x 4)) r ∧
      laneFfmaF64 o x = givesPair (saturated .f64 o.sat r.1, r.2) := by
  obtain ⟨r, hr, hre⟩ := fused_of_operands (sat := o.sat) (na := o.na) (nb := o.nb) (nc := o.nc) (level := x.level) (f := .f64) rfl hm
    (h 0 (by decide)) (h 1 (by decide)) (h 2 (by decide))
  rw [laneFfmaF64, q64_eq, q64_eq, q64_eq, twoF_eq]
  exact ⟨r, hr, congrArg givesPair hre⟩

theorem laneFsqrtF64_spec (x : LaneIn) (o : Form.Fp1) (m : Rnd) (a : Int × Bool) (h : IsFinite .f64 (pairCode x 0)) (hm : modeOf o.rnd m)
    (ha : a = operand .f64 o.na (pairCode x 0)) (h0 : 0 < a.1) :
    ∃ r, RootOf .f64 m (a.1 * unitsOne .f64) 1 r ∧ laneFsqrtF64 o x = givesPair r := by
  subst ha
  obtain ⟨r, hr, hre⟩ := root_of_operand (sat := o.sat) (level := x.level) rfl hm h h0
  rw [laneFsqrtF64, q64_eq, twoF_eq]
  exact ⟨r, hr, congrArg givesPair hre⟩

/-! ## FMIN, FMAX and FCMP -/

/-- The 32-bit codes and the 64-bit codes of FMIN, FMAX and FCMP that no level flushes. -/
theorem laneFminmax_spec (f : FFmt) (x : LaneIn) (a b : Nat) (lo hi : LaneOut)
    (h : (f = .f32 ∧ 0 < x.level ∧ a = x.n 0 ∧ b = x.n 1 ∧ lo = laneFminF32 x ∧ hi = laneFmaxF32 x) ∨
      (f = .f64 ∧ a = pairCode x 0 ∧ b = pairCode x 2 ∧ lo = laneFminF64 x ∧ hi = laneFmaxF64 x)) (ha : ¬IsNan f a) (hb : ¬IsNan f b) :
    let below : Prop := units f a < units f b ∨ (units f a = units f b ∧ signOf f a = true)
    let out := fun w : Nat => if f = .f32 then gives .f32 (w, 0) else givesPair (w, 0)
    (below → lo = out a ∧ hi = out b) ∧ (¬below → lo = out b ∧ hi = out a) := by
  intro below out
  obtain ⟨hfl, hac, hbc, hlo, hhi⟩ : flushes f x.level = false ∧ a < 2 ^ (1 + ebits f + fbits f) ∧ b < 2 ^ (1 + ebits f + fbits f) ∧
      (∀ w, fminmaxF f x.level false a b = (w, 0) → lo = out w) ∧ ∀ w, fminmaxF f x.level true a b = (w, 0) → hi = out w := by
    rcases h with ⟨rfl, hl, rfl, rfl, rfl, rfl⟩ | ⟨rfl, rfl, rfl, rfl, rfl⟩
    · exact ⟨flushes_f32 hl, n_lt x 0, n_lt x 1, fun w hw => congrArg (gives .f32) hw, fun w hw => congrArg (gives .f32) hw⟩
    · refine ⟨rfl, pairCode_lt x 0, pairCode_lt x 2, fun w hw => ?_, fun w hw => ?_⟩
      · rw [laneFminF64, q64_eq, q64_eq, twoF_eq, hw]
        rfl
      · rw [laneFmaxF64, q64_eq, q64_eq, twoF_eq, hw]
        rfl
  obtain ⟨h1, h2⟩ := fminmaxF_spec hfl ha hb hac hbc
  exact ⟨fun hbel => ⟨hlo _ (h1 hbel).1, hhi _ (h1 hbel).2⟩, fun hbel => ⟨hlo _ (h2 hbel).1, hhi _ (h2 hbel).2⟩⟩

/-- A code whose exponent field is all ones and whose top fraction bit is set is a quiet NaN; one whose exponent field is not is none. -/
theorem quiet_nan_of_fields {w : Nat} (h1 : w / 2 ^ 23 % 256 = 255) (h2 : w % 2 ^ 23 ≥ 2 ^ 22) : IsNan .f32 w ∧ ¬Safety.Signals .f32 w := by
  have hd : infOf .f32 false = 255 * 2 ^ 23 := by decide
  refine ⟨?_, fun hs => ?_⟩
  · show infOf .f32 false < w % 2 ^ 31
    omega
  · have hs2 : w / 2 ^ 22 % 2 = 0 := hs.2
    omega

theorem not_isNan_of_exponent {w : Nat} (h : w / 2 ^ 23 % 256 < 255) : ¬IsNan .f32 w := by
  have hd : infOf .f32 false = 255 * 2 ^ 23 := by decide
  show ¬infOf .f32 false < w % 2 ^ 31
  omega

theorem gives_word (x : LaneIn) (i : Nat) (t : Tag) : gives t (x.n i, 0) = { regs := [⟨x.w i, t⟩] } := by
  rw [gives, LaneIn.n, BitVec.ofNat_toNat, BitVec.setWidth_eq]

/-- The number where exactly one operand is a NaN, a quiet one. -/
theorem laneFminmaxF32_nan (x : LaneIn) :
    (0 < x.level → (x.n 0 / 2 ^ 23 % 256 = 255 ∧ x.n 0 % 2 ^ 23 ≥ 2 ^ 22) → x.n 1 / 2 ^ 23 % 256 < 255 →
      laneFminF32 x = { regs := [⟨x.w 1, .f32⟩] } ∧ laneFmaxF32 x = { regs := [⟨x.w 1, .f32⟩] }) ∧
    (0 < x.level → (x.n 1 / 2 ^ 23 % 256 = 255 ∧ x.n 1 % 2 ^ 23 ≥ 2 ^ 22) → x.n 0 / 2 ^ 23 % 256 < 255 →
      laneFminF32 x = { regs := [⟨x.w 0, .f32⟩] } ∧ laneFmaxF32 x = { regs := [⟨x.w 0, .f32⟩] }) := by
  rw [← gives_word, ← gives_word]
  refine ⟨fun hl h hn => ?_, fun hl h hn => ?_⟩
  · obtain ⟨h1, h2⟩ := quiet_nan_of_fields h.1 h.2
    have heq := fun wantMax => fminmaxF_nan_left wantMax (flushes_f32 hl) h1 h2 (not_isNan_of_exponent hn)
    exact ⟨congrArg (gives .f32) (heq false), congrArg (gives .f32) (heq true)⟩
  · obtain ⟨h1, h2⟩ := quiet_nan_of_fields h.1 h.2
    have heq := fun wantMax => fminmaxF_nan_right wantMax (flushes_f32 hl) h1 h2 (not_isNan_of_exponent hn)
    exact ⟨congrArg (gives .f32) (heq false), congrArg (gives .f32) (heq true)⟩

theorem laneFcmp_spec (f : FFmt) (o : Form.C) (x : LaneIn) (a b : Nat) (y : LaneOut)
    (h : (f = .f32 ∧ 0 < x.level ∧ a = x.n 0 ∧ b = x.n 1 ∧ y = laneFcmpF32 o x) ∨
      (f = .f64 ∧ a = pairCode x 0 ∧ b = pairCode x 2 ∧ y = laneFcmpF64 o x)) (hcc : o.cc < 8) :
    (IsNan f a ∨ IsNan f b → ∃ e : Exc, y = { pred := some (o.cc == 1 || o.cc == 7), exc := e } ∧
      (((2 ≤ o.cc ∧ o.cc ≤ 5) ∨ Safety.Signals f a ∨ Safety.Signals f b) → e = 1) ∧
      (¬((2 ≤ o.cc ∧ o.cc ≤ 5) ∨ Safety.Signals f a ∨ Safety.Signals f b) → e = 0)) ∧
    (¬IsNan f a → ¬IsNan f b → ∃ p, y = { pred := some p } ∧ (p = true ↔ match o.cc with
      | 0 => units f a = units f b | 1 => units f a ≠ units f b | 2 => units f a < units f b | 3 => units f a ≤ units f b
      | 4 => units f b < units f a | 5 => units f b ≤ units f a | 6 => True | _ => False)) := by
  obtain ⟨hfl, rfl⟩ : flushes f x.level = false ∧ y = predExc (fcmpF f x.level o.cc a b) := by
    rcases h with ⟨rfl, hl, rfl, rfl, rfl⟩ | ⟨rfl, rfl, rfl, rfl⟩
    · exact ⟨flushes_f32 hl, rfl⟩
    · exact ⟨rfl, by rw [laneFcmpF64, q64_eq, q64_eq]⟩
  refine ⟨fun hn => ?_, fun ha hb => ?_⟩
  · obtain ⟨hp, h1, h0⟩ := fcmpF_nan (level := x.level) hcc hn
    exact ⟨_, by rw [predExc, hp], h1, h0⟩
  · obtain ⟨he, hp⟩ := fcmpF_spec hfl hcc ha hb
    exact ⟨_, by rw [predExc, he], hp⟩

/-! ## Packed lanes -/

theorem infOf_lt_codes (f : FFmt) (s : Bool) : infOf f s < 2 ^ (1 + ebits f + fbits f) := by
  rw [infOf_eq]
  exact signCode_add_lt (infOf_lt f)

/-- A rounded result is a code of the format. -/
theorem Rounded.lt {f : FFmt} {r : Rnd} {n : Int} {d : Nat} {z : Bool} {x : Nat × Exc} (h : Rounded f r n d z x) :
    x.1 < 2 ^ (1 + ebits f + fbits f) := by
  by_cases ho : Overflows f r n d
  · have hlt := infOf_lt_codes f (decide (n < 0))
    rw [h.1 ho]
    dsimp only
    split <;> omega
  · exact (h.2 ho).1.1

theorem saturated_le (f : FFmt) (sat w : Nat) : saturated f sat w ≤ w := by
  rw [saturated]
  split <;> omega

/-- Two lanes packed. -/
theorem wordExc_lanes2 {op : Nat → Nat × Exc} {r q : Nat × Exc} (t : Tag) (h0 : op 0 = r) (h1 : op 1 = q) (hr : r.1 < 2 ^ 16) :
    wordExc (lanes2 op) t = givesLanes t r q := by
  rw [lanes2, h0, h1, pack16, Nat.mod_eq_of_lt hr, Nat.mul_comm]
  rfl

section
variable {f : FFmt} (hcodes : 1 + ebits f + fbits f = 16) {x : LaneIn} (hfl : flushes f x.level = false) {m : Rnd}
include hcodes hfl

theorem lanes2_sum {t : Tag} {o : Form.Fp2} (hm : modeOf o.rnd m) (h : ∀ i < 2, ∀ j < 2, IsFinite f (halfOf x j i)) :
    ∃ r q, SumOf f m (operand f o.na (halfOf x 0 0)) (operand f o.nb (halfOf x 1 0)) r ∧
      SumOf f m (operand f o.na (halfOf x 0 1)) (operand f o.nb (halfOf x 1 1)) q ∧
      wordExc (lanes2 fun i => faddF f (envOf o.rnd o.sat x.level) (negF f (o.na == 1) (lane16 (x.w 0) i)) (negF f (o.nb == 1) (lane16 (x.w 1) i))) t =
        givesLanes t (saturated f o.sat r.1, r.2) (saturated f o.sat q.1, q.2) := by
  obtain ⟨r, hr, hre⟩ := sum_of_operands (sat := o.sat) (na := o.na) (nb := o.nb) hfl hm (h 0 two_pos 0 two_pos) (h 0 two_pos 1 one_lt_two)
  obtain ⟨q, hq, hqe⟩ := sum_of_operands (sat := o.sat) (na := o.na) (nb := o.nb) hfl hm (h 1 one_lt_two 0 two_pos) (h 1 one_lt_two 1 one_lt_two)
  exact ⟨r, q, hr, hq, wordExc_lanes2 t hre hqe ((saturated_le _ _ _).trans_lt (hcodes ▸ Rounded.lt hr))⟩

theorem lanes2_product {t : Tag} {o : Form.Fp2} (hm : modeOf o.rnd m) (h : ∀ i < 2, ∀ j < 2, IsFinite f (halfOf x j i)) :
    ∃ r q, ProductOf f m (operand f o.na (halfOf x 0 0)) (operand f o.nb (halfOf x 1 0)) r ∧
      ProductOf f m (operand f o.na (halfOf x 0 1)) (operand f o.nb (halfOf x 1 1)) q ∧
      wordExc (lanes2 fun i => fmulF f (envOf o.rnd o.sat x.level) (negF f (o.na == 1) (lane16 (x.w 0) i)) (negF f (o.nb == 1) (lane16 (x.w 1) i))) t =
        givesLanes t (saturated f o.sat r.1, r.2) (saturated f o.sat q.1, q.2) := by
  obtain ⟨r, hr, hre⟩ := product_of_operands (sat := o.sat) (na := o.na) (nb := o.nb) hfl hm (h 0 two_pos 0 two_pos) (h 0 two_pos 1 one_lt_two)
  obtain ⟨q, hq, hqe⟩ := product_of_operands (sat := o.sat) (na := o.na) (nb := o.nb) hfl hm (h 1 one_lt_two 0 two_pos) (h 1 one_lt_two 1 one_lt_two)
  exact ⟨r, q, hr, hq, wordExc_lanes2 t hre hqe ((saturated_le _ _ _).trans_lt (hcodes ▸ Rounded.lt hr))⟩

theorem lanes2_fused {t : Tag} {o : Form.Fp3} (hm : modeOf o.rnd m) (h : ∀ i < 2, ∀ j < 2, IsFinite f (halfOf x j i))
    (hc : ∀ i < 2, IsFinite f (halfOf x 2 i)) :
    ∃ r q, FusedOf f m (operand f o.na (halfOf x 0 0)) (operand f o.nb (halfOf x 1 0)) (operand f o.nc (halfOf x 2 0)) r ∧
      FusedOf f m (operand f o.na (halfOf x 0 1)) (operand f o.nb (halfOf x 1 1)) (operand f o.nc (halfOf x 2 1)) q ∧
      wordExc (lanes2 fun i => ffmaF f (envOf o.rnd o.sat x.level) (negF f (o.na == 1) (lane16 (x.w 0) i)) (negF f (o.nb == 1) (lane16 (x.w 1) i))
        (negF f (o.nc == 1) (lane16 (x.w 2) i))) t = givesLanes t (saturated f o.sat r.1, r.2) (saturated f o.sat q.1, q.2) := by
  obtain ⟨r, hr, hre⟩ := fused_of_operands (sat := o.sat) (na := o.na) (nb := o.nb) (nc := o.nc) hfl hm (h 0 two_pos 0 two_pos)
    (h 0 two_pos 1 one_lt_two) (hc 0 two_pos)
  obtain ⟨q, hq, hqe⟩ := fused_of_operands (sat := o.sat) (na := o.na) (nb := o.nb) (nc := o.nc) hfl hm (h 1 one_lt_two 0 two_pos)
    (h 1 one_lt_two 1 one_lt_two) (hc 1 one_lt_two)
  exact ⟨r, q, hr, hq, wordExc_lanes2 t hre hqe ((saturated_le _ _ _).trans_lt (hcodes ▸ Rounded.lt hr))⟩

end

/-! ## Dot products -/

/-- A dot product of finite codes is exact until its one rounding. -/
theorem fdotF_finite {f : FFmt} {env : FEnv} {a0 a1 b0 b1 c : Nat} (hfl : flushes f env.level = false) (hfl32 : flushes .f32 env.level = false)
    (ha0 : IsFinite f a0) (ha1 : IsFinite f a1) (hb0 : IsFinite f b0) (hb1 : IsFinite f b1) (hc : IsFinite .f32 c) :
    ∃ x, Rounded .f32 env.rnd ((units f a0 * units f b0 + units f a1 * units f b1) * unitsOne .f32 + units .f32 c * unitsOne f ^ 2) (unitsOne f ^ 2)
      (if (signOf f a0 != signOf f b0) = (signOf f a1 != signOf f b1) ∧ (signOf f a0 != signOf f b0) = signOf .f32 c then signOf .f32 c
        else env.rnd == .rm) x ∧ fdotF f env a0 a1 b0 b1 c = finishF .f32 env x := by
  obtain ⟨m0, e0, hra0, hva0⟩ := readF_finite hfl ha0
  obtain ⟨m1, e1, hra1, hva1⟩ := readF_finite hfl ha1
  obtain ⟨n0, g0, hrb0, hvb0⟩ := readF_finite hfl hb0
  obtain ⟨n1, g1, hrb1, hvb1⟩ := readF_finite hfl hb1
  obtain ⟨k, h, hrc, hvc⟩ := readF_finite hfl32 hc
  have hn := fun {g : FFmt} {w : Nat} (hw : IsFinite g w) => isNan_eq_false_iff.mpr (not_isNan_of_finite hw)
  obtain ⟨ds, hds⟩ : ∃ ds : List Dyad, ds = [⟨signOf f a0 != signOf f b0, m0 * n0, e0 + g0⟩, ⟨signOf f a1 != signOf f b1, m1 * n1, e1 + g1⟩,
    ⟨signOf .f32 c, k, h⟩] := ⟨_, rfl⟩
  obtain ⟨hval, hneg⟩ := sumDyads_spec env.rnd ds
  rw [hds] at hval hneg
  have hU := (unitsOne_pos f).ne'
  have hU32 := (unitsOne_pos .f32).ne'
  simp only [List.map_cons, List.map_nil, List.sum_cons, List.sum_nil, add_zero] at hval hneg
  have hunits : (sumDyads env.rnd ds).val * unitsOne .f32 = (((units f a0 * units f b0 + units f a1 * units f b1) * unitsOne .f32 +
      units .f32 c * unitsOne f ^ 2 : Int) : ℝ) / (unitsOne f ^ 2 : Nat) := by
    rw [hds, hval, Dyad.val, Dyad.val, Dyad.val, dyadic_mul, dyadic_mul]
    push_cast
    rw [← hva0, ← hva1, ← hvb0, ← hvb1, ← hvc]
    field_simp
    ring
  obtain ⟨x, hx, heq⟩ := rounded_roundDyad (z := if (signOf f a0 != signOf f b0) = (signOf f a1 != signOf f b1) ∧
      (signOf f a0 != signOf f b0) = signOf .f32 c then signOf .f32 c else env.rnd == .rm)
    (Nat.pow_pos (by exact_mod_cast unitsOne_pos f)) hfl32 hunits
    (fun h0 => by
      rw [h0, Int.cast_zero, zero_div, hds, hval] at hunits
      rw [hds, hneg ((mul_eq_zero.mp hunits).resolve_right hU32)]
      cases signOf f a0 != signOf f b0 <;> cases signOf f a1 != signOf f b1 <;> cases signOf .f32 c <;> simp)
  refine ⟨x, hx, ?_⟩
  rw [← heq, hds]
  simp [fdotF, hra0, hra1, hrb0, hrb1, hrc, mulVal, hn ha0, hn ha1, hn hb0, hn hb1, hn hc]

end Sys2Proof.Machine

/-! Proofs about packed arithmetic and dot products of lanes (R168, R169). -/
namespace Sys2Proof.Machine
open Sys2Proof.Safety

/-- The packed formats: their instructions compute each lane on its own, and levels from `least` on keep their subnormals. -/
structure PackedFormat (f : FFmt) (t : Tag) (add mul : Form.Fp2 → LaneIn → LaneOut) (fma dot : Form.Fp3 → LaneIn → LaneOut) (least : Nat) : Prop where
  codes : 1 + ebits f + fbits f = 16
  keeps : ∀ {level}, least ≤ level → flushes f level = false ∧ flushes .f32 level = false
  add : ∀ o x, add o x = wordExc (lanes2 fun i => faddF f (envOf o.rnd o.sat x.level) (seen f o.na (lane16 (x.w 0) i)) (seen f o.nb (lane16 (x.w 1) i))) t
  mul : ∀ o x, mul o x = wordExc (lanes2 fun i => fmulF f (envOf o.rnd o.sat x.level) (seen f o.na (lane16 (x.w 0) i)) (seen f o.nb (lane16 (x.w 1) i))) t
  fma : ∀ o x, fma o x = wordExc (lanes2 fun i => ffmaF f (envOf o.rnd o.sat x.level) (seen f o.na (lane16 (x.w 0) i))
    (seen f o.nb (lane16 (x.w 1) i)) (seen f o.nc (lane16 (x.w 2) i))) t
  dot : ∀ o x, dot o x = gives .f32 (fdotF f (envOf o.rnd o.sat x.level) (seen f o.na (lane16 (x.w 0) 0)) (seen f o.na (lane16 (x.w 0) 1))
    (seen f o.nb (lane16 (x.w 1) 0)) (seen f o.nb (lane16 (x.w 1) 1)) (seen .f32 o.nc (x.n 2)))

theorem packedFormat_f16 : PackedFormat .f16 .f16x2 laneFaddF16x2 laneFmulF16x2 laneFfmaF16x2 laneFdotF16x2 1 where
  codes := rfl
  keeps h := ⟨by simp [flushes]; omega, flushes_f32 h⟩
  add _ _ := rfl
  mul _ _ := rfl
  fma _ _ := rfl
  dot _ _ := rfl

theorem packedFormat_bf16 : PackedFormat .bf16 .bf16x2 laneFaddBf16x2 laneFmulBf16x2 laneFfmaBf16x2 laneFdotBf16x2 2 where
  codes := rfl
  keeps h := ⟨by simp [flushes]; omega, flushes_f32 (by omega)⟩
  add _ _ := rfl
  mul _ _ := rfl
  fma _ _ := rfl
  dot _ _ := rfl

section
variable {f : FFmt} {t : Tag} {add mul : Form.Fp2 → LaneIn → LaneOut} {fma dot : Form.Fp3 → LaneIn → LaneOut} {least : Nat}
  (F : PackedFormat f t add mul fma dot least)
include F

theorem packed_binary_spec (x : LaneIn) (o : Form.Fp2) (m : Rnd) (a b : Nat → Int × Bool) (hl : least ≤ x.level) (hm : modeOf o.rnd m)
    (h : ∀ i < 2, ∀ j < 2, IsFinite f (halfOf x j i)) (ha : a = fun i => operand f o.na (halfOf x 0 i)) (hb : b = fun i => operand f o.nb (halfOf x 1 i)) :
    (∃ r q, SumOf f m (a 0) (b 0) r ∧ SumOf f m (a 1) (b 1) q ∧
      add o x = givesLanes t (saturated f o.sat r.1, r.2) (saturated f o.sat q.1, q.2)) ∧
    ∃ r q, ProductOf f m (a 0) (b 0) r ∧ ProductOf f m (a 1) (b 1) q ∧
      mul o x = givesLanes t (saturated f o.sat r.1, r.2) (saturated f o.sat q.1, q.2) := by
  subst ha hb
  rw [F.add, F.mul]
  exact ⟨lanes2_sum F.codes (F.keeps hl).1 hm h, lanes2_product F.codes (F.keeps hl).1 hm h⟩

theorem packed_ternary_spec (x : LaneIn) (o : Form.Fp3) (m : Rnd) (a b : Nat → Int × Bool) (hl : least ≤ x.level) (hm : modeOf o.rnd m)
    (h : ∀ i < 2, ∀ j < 2, IsFinite f (halfOf x j i)) (ha : a = fun i => operand f o.na (halfOf x 0 i)) (hb : b = fun i => operand f o.nb (halfOf x 1 i)) :
    ((∀ i < 2, IsFinite f (halfOf x 2 i)) → ∃ r q, FusedOf f m (a 0) (b 0) (operand f o.nc (halfOf x 2 0)) r ∧
      FusedOf f m (a 1) (b 1) (operand f o.nc (halfOf x 2 1)) q ∧ fma o x = givesLanes t (saturated f o.sat r.1, r.2) (saturated f o.sat q.1, q.2)) ∧
    (IsFinite .f32 (x.n 2) → ∃ r, Rounded .f32 m
        (((a 0).1 * (b 0).1 + (a 1).1 * (b 1).1) * unitsOne .f32 + (operand .f32 o.nc (x.n 2)).1 * unitsOne f ^ 2) (unitsOne f ^ 2)
        (if ((a 0).2 != (b 0).2) = ((a 1).2 != (b 1).2) ∧ ((a 0).2 != (b 0).2) = (operand .f32 o.nc (x.n 2)).2 then (operand .f32 o.nc (x.n 2)).2 else m == .rm) r ∧
      dot o x = gives .f32 (saturated .f32 o.sat r.1, r.2)) := by
  subst ha hb
  obtain ⟨hfl, hfl32⟩ := F.keeps hl
  rw [F.fma, F.dot]
  refine ⟨lanes2_fused F.codes hfl hm h, fun hc => ?_⟩
  have ha0 := h 0 two_pos 0 two_pos
  have ha1 := h 1 one_lt_two 0 two_pos
  have hb0 := h 0 two_pos 1 one_lt_two
  have hb1 := h 1 one_lt_two 1 one_lt_two
  obtain ⟨r, hr, hre⟩ := fdotF_finite (env := envOf o.rnd o.sat x.level) hfl hfl32 (isFinite_seen ha0 o.na) (isFinite_seen ha1 o.na)
    (isFinite_seen hb0 o.nb) (isFinite_seen hb1 o.nb) (isFinite_seen hc o.nc)
  rw [finishF_eq (sat := o.sat) rfl] at hre
  rw [← rndOf_of_mode hm, operand_of_finite hc]
  simp only [operand_of_finite ha0, operand_of_finite ha1, operand_of_finite hb0, operand_of_finite hb1]
  exact ⟨r, hr, congrArg (gives .f32) hre⟩

end

end Sys2Proof.Machine

/-! Proofs about level 0: f32 subnormals are flushed, and every NaN result is the canonical one (R119). -/
namespace Sys2Proof.Machine
open Sys2Proof.Safety

/-! ## Results at level 0 -/

/-- A result that level 0 can give: no subnormal number, and no NaN but the canonical one. -/
def Settled (w : Nat) : Prop := w < 2 ^ 32 ∧ (unsignedOf .f32 w = 0 ∨ 2 ^ 23 ≤ unsignedOf .f32 w) ∧ (IsNan .f32 w → w = canonNan .f32)

theorem settled_canonNan : Settled (canonNan .f32) := ⟨by decide, .inr (by decide), fun _ => rfl⟩

theorem settled_add {s : Bool} {c : Nat} (hc : c ≤ infOf .f32 false) (h : c = 0 ∨ 2 ^ 23 ≤ c) : Settled (signCode .f32 s + c) := by
  have hlt := hc.trans_lt (infOf_lt .f32)
  have hu := unsignedOf_add (f := .f32) (s := s) hlt
  refine ⟨signCode_add_lt (f := .f32) hlt, by rwa [hu], fun hn => absurd hn ?_⟩
  show ¬infOf .f32 false < unsignedOf .f32 _
  rw [hu]
  exact hc.not_gt

theorem settled_signCode (s : Bool) : Settled (signCode .f32 s) := settled_add (c := 0) (Nat.zero_le _) (.inl rfl)

theorem settled_infCode (s : Bool) : Settled (infCode .f32 s) := by
  rw [infCode_eq, infOf_eq]
  exact settled_add le_rfl (.inr (by decide))

theorem settled_overflowCode (r : Rnd) (s : Bool) : Settled (overflowCode .f32 r s) := by
  have hmax : Settled (maxCode .f32 s) := by
    rw [maxCode, infCode_eq, infOf_eq, Nat.add_sub_assoc (by decide)]
    exact settled_add (Nat.sub_le _ _) (.inr (by decide))
  have hinf := settled_infCode s
  cases r <;> cases s <;> assumption

theorem settled_roundF (r : Rnd) (s : Bool) (m : Nat) (e : Int) : Settled (roundF .f32 0 r s m e false).1 := by
  by_cases hm : m = 0
  · rw [roundF, if_pos hm]
    exact settled_signCode s
  · have hpos : (2 : ℝ) ^ (emin .f32 - fbits .f32) ≠ 0 := by positivity
    have hst : Stands m e false ((m : ℝ) * 2 ^ e / 2 ^ (emin .f32 - fbits .f32) * 2 ^ (emin .f32 - fbits .f32)) := div_mul_cancel₀ _ hpos
    obtain ⟨c, C, tiny, -, -, -, heq⟩ := roundF_picks_or_flushes (r := r) (neg := s) hm hst fun h => by cases h
    rw [heq]
    split
    · exact settled_overflowCode r s
    · next hC =>
      split
      · exact settled_signCode s
      · next hf => exact settled_add (by omega) (by
          by_contra h
          rw [not_or, not_le] at h
          exact hf ⟨rfl, h.1, h.2⟩)

theorem settled_roundDyad (r : Rnd) (d : Dyad) : Settled (roundDyad .f32 ⟨r, false, 0⟩ d).1 := settled_roundF r d.neg d.m d.e

theorem settled_faddF (r : Rnd) (a b : Nat) : Settled (faddF .f32 ⟨r, false, 0⟩ a b).1 := by
  rw [faddF]
  split
  · exact settled_canonNan
  · exact settled_canonNan
  · split
    · exact settled_infCode _
    · exact settled_canonNan
  · exact settled_infCode _
  · exact settled_infCode _
  · exact settled_roundDyad _ _

theorem settled_fmulF (r : Rnd) (a b : Nat) : Settled (fmulF .f32 ⟨r, false, 0⟩ a b).1 := by
  rw [fmulF]
  split
  · exact settled_canonNan
  · exact settled_canonNan
  · exact settled_infCode _
  · split
    · exact settled_canonNan
    · exact settled_infCode _
  · split
    · exact settled_canonNan
    · exact settled_infCode _
  · exact settled_roundDyad _ _

theorem settled_ffmaF (r : Rnd) (a b c : Nat) : Settled (ffmaF .f32 ⟨r, false, 0⟩ a b c).1 := by
  rw [ffmaF]
  split
  · exact settled_canonNan
  · exact settled_canonNan
  · split
    · exact settled_canonNan
    · split
      · exact settled_canonNan
      · split
        · exact settled_infCode _
        · exact settled_canonNan
      · exact settled_infCode _
  · split
    · exact settled_canonNan
    · split
      · exact settled_canonNan
      · split
        · exact settled_infCode _
        · exact settled_canonNan
      · exact settled_infCode _
  · split
    · exact settled_canonNan
    · split
      · exact settled_infCode _
      · exact settled_canonNan
    · exact settled_infCode _
  · exact settled_canonNan
  · exact settled_infCode _
  · exact settled_roundDyad _ _

/-! ## Subnormal operands at level 0 -/

/-- Two codes that no operation of level 0 tells apart. -/
def Alike (a b : Nat) : Prop := readF .f32 0 a = readF .f32 0 b ∧ isSnan .f32 a = isSnan .f32 b

theorem flushed_f32 (w : Nat) : flushed .f32 0 w = if unsignedOf .f32 w < 2 ^ 23 then signCode .f32 (signOf .f32 w) else w := by
  have hiff : (flushes .f32 0 && bits w (fbits .f32) (ebits .f32) == 0) = true ↔ unsignedOf .f32 w < 2 ^ 23 := by
    rw [bits_exp, Bool.and_eq_true, beq_iff_eq, Nat.div_eq_zero_iff_lt (Nat.two_pow_pos _), and_iff_right (show flushes .f32 0 = true from rfl)]
    rfl
  rw [flushed, bits_sign]
  exact if_congr hiff rfl rfl

theorem not_isNan_of_lt {w : Nat} (h : unsignedOf .f32 w < 2 ^ 23) : ¬IsNan .f32 w := not_lt.mpr (h.le.trans (by decide))

theorem signOf_signCode (f : FFmt) (s : Bool) : signOf f (signCode f s) = s := signOf_add (c := 0) (Nat.two_pow_pos _)

/-- Numbers below the least normal one are alike where they have one sign. -/
theorem alike_of_small {a b : Nat} (ha : unsignedOf .f32 a < 2 ^ 23) (hb : unsignedOf .f32 b < 2 ^ 23) (hs : signOf .f32 a = signOf .f32 b) :
    Alike a b := by
  refine ⟨?_, ?_⟩
  · rw [readF, readF, flushed_f32, flushed_f32, if_pos ha, if_pos hb, hs]
  · rw [isSnan_eq_false (not_isNan_of_lt ha), isSnan_eq_false (not_isNan_of_lt hb)]

theorem alike_flushed (w : Nat) : Alike (flushed .f32 0 w) w := by
  rw [flushed_f32]
  split
  · next h => exact alike_of_small (by rw [unsignedOf_signCode]; decide) h (signOf_signCode _ _)
  · exact ⟨rfl, rfl⟩

theorem alike_negF_flushed {w : Nat} (hw : w < 2 ^ 32) : Alike (negF .f32 true (flushed .f32 0 w)) (negF .f32 true w) := by
  rw [flushed_f32]
  split
  · next h =>
    have hz : unsignedOf .f32 (signCode .f32 (signOf .f32 w)) < 2 ^ 23 := by rw [unsignedOf_signCode]; decide
    have hc : signCode .f32 (signOf .f32 w) < 2 ^ (1 + ebits .f32 + fbits .f32) := signCode_add_lt (f := .f32) (c := 0) (Nat.two_pow_pos _)
    refine alike_of_small ?_ ?_ ?_
    · rwa [unsignedOf_negF hc]
    · rwa [unsignedOf_negF (f := .f32) hw]
    · rw [signOf_negF hc _ (not_isNan_of_lt hz), signOf_negF (f := .f32) hw _ (not_isNan_of_lt h), signOf_signCode]
  · exact ⟨rfl, rfl⟩

section
variable {r : Rnd} {a b c v w z : Nat} (ha : Alike a v) (hb : Alike b w)
include ha hb

theorem faddF_congr : faddF .f32 ⟨r, false, 0⟩ a b = faddF .f32 ⟨r, false, 0⟩ v w := by
  simp only [faddF, nanOf, invalidF, nanResult, if_true, ha.1, hb.1, List.any_cons, List.any_nil, ha.2, hb.2]

theorem fmulF_congr : fmulF .f32 ⟨r, false, 0⟩ a b = fmulF .f32 ⟨r, false, 0⟩ v w := by
  simp only [fmulF, nanOf, invalidF, nanResult, if_true, ha.1, hb.1, List.any_cons, List.any_nil, ha.2, hb.2]

theorem ffmaF_congr (hc : Alike c z) : ffmaF .f32 ⟨r, false, 0⟩ a b c = ffmaF .f32 ⟨r, false, 0⟩ v w z := by
  simp only [ffmaF, nanOf, invalidF, nanResult, if_true, ha.1, hb.1, hc.1, List.any_cons, List.any_nil, ha.2, hb.2, hc.2]

end

/-- A register with the word of a subnormal number replaced by the zero of its sign. -/
def flushReg (t : Tagged) : Tagged := if t.val.toNat / 2 ^ 23 % 2 ^ 8 = 0 then { t with val := t.val &&& 0x80000000 } else t

theorem flushReg_val (t : Tagged) : (flushReg t).val.toNat = flushed .f32 0 t.val.toNat := by
  have hand : (t.val &&& 0x80000000).toNat = signCode .f32 (signOf .f32 t.val.toNat) := by
    rw [BitVec.toNat_and, show (0x80000000 : Word).toNat = 2 ^ 31 from rfl, Nat.and_two_pow, Nat.testBit_eq_decide_div_mod_eq, signCode, signOf]
    by_cases h : t.val.toNat / 2147483648 % 2 = 1 <;> simp [h, ebits, fbits]
  have hiff : t.val.toNat / 2 ^ 23 % 2 ^ 8 = 0 ↔ unsignedOf .f32 t.val.toNat < 2 ^ 23 := by
    show _ ↔ t.val.toNat % 2 ^ 31 < 2 ^ 23
    omega
  rw [flushReg, flushed_f32, ← hand, apply_ite Tagged.val, apply_ite BitVec.toNat]
  exact if_congr hiff rfl rfl

theorem n_flushReg (x : LaneIn) (i : Nat) : LaneIn.n { x with r := x.r.map flushReg } i = flushed .f32 0 (x.n i) := by
  rw [LaneIn.n, LaneIn.n, LaneIn.w, LaneIn.w, ← flushReg_val]
  dsimp only
  rw [show zeroReg = flushReg zeroReg from rfl, List.getD_map]
  rfl

/-- What a level-0 lane gives: a settled result, whatever subnormal operands it has. -/
theorem laneLevelZero_spec (x : LaneIn) (hl : x.level = 0) : ∀ l ∈ [laneFaddF32, laneFsubF32, laneFmulF32, laneFfmaF32],
    ∃ (w : Word) (e : Exc), l x = { regs := [⟨w, .f32⟩], exc := e } ∧
    (w.toNat / 2 ^ 23 % 2 ^ 8 = 0 → w.toNat % 2 ^ 23 = 0) ∧ (IsNan .f32 w.toNat → w = 0x7FC00000) ∧
    l { x with r := x.r.map fun t => if t.val.toNat / 2 ^ 23 % 2 ^ 8 = 0 then { t with val := t.val &&& 0x80000000 } else t } = l x := by
  intro l hmem
  have hx : ∀ {r q : Nat × Exc}, Settled r.1 → q = r → ∃ (w : Word) (e : Exc), gives .f32 r = { regs := [⟨w, .f32⟩], exc := e } ∧
      (w.toNat / 2 ^ 23 % 2 ^ 8 = 0 → w.toNat % 2 ^ 23 = 0) ∧ (IsNan .f32 w.toNat → w = 0x7FC00000) ∧ gives .f32 q = gives .f32 r := by
    rintro r q ⟨hlt, hu, hn⟩ heq
    have hw : (BitVec.ofNat 32 r.1).toNat = r.1 := by rw [BitVec.toNat_ofNat, Nat.mod_eq_of_lt hlt]
    refine ⟨_, _, rfl, ?_, ?_, by rw [heq]⟩
    · rw [hw]
      have hmod : unsignedOf .f32 r.1 = r.1 % 2 ^ 31 := rfl
      omega
    · rw [hw]
      exact fun h => by rw [hn h]; rfl
  have ha := fun i => alike_flushed (x.n i)
  have hr : (fun t : Tagged => if t.val.toNat / 2 ^ 23 % 2 ^ 8 = 0 then { t with val := t.val &&& 0x80000000 } else t) = flushReg := rfl
  rw [hr]
  simp only [List.mem_cons, List.not_mem_nil, or_false] at hmem
  have hshort : shortEnv x = ⟨.rne, false, 0⟩ := by rw [shortEnv, hl]
  have hshort2 : shortEnv { x with r := x.r.map flushReg } = ⟨.rne, false, 0⟩ := by rw [shortEnv, hl]
  rcases hmem with rfl | rfl | rfl | rfl
  · rw [laneFaddF32, laneFaddF32, hshort, hshort2, n_flushReg, n_flushReg]
    exact hx (settled_faddF _ _ _) (faddF_congr (ha 0) (ha 1))
  · rw [laneFsubF32, laneFsubF32, hshort, hshort2, n_flushReg, n_flushReg]
    exact hx (settled_faddF _ _ _) (faddF_congr (ha 0) (alike_negF_flushed (n_lt x 1)))
  · rw [laneFmulF32, laneFmulF32, hshort, hshort2, n_flushReg, n_flushReg]
    exact hx (settled_fmulF _ _ _) (fmulF_congr (ha 0) (ha 1))
  · rw [laneFfmaF32, laneFfmaF32, hshort, hshort2, n_flushReg, n_flushReg, n_flushReg]
    exact hx (settled_ffmaF _ _ _ _) (ffmaF_congr (ha 0) (ha 1) (ha 2))

end Sys2Proof.Machine

/-! Proofs about what R166 fixes exactly: powers of two, their logarithms, and special operands. -/
namespace Sys2Proof.Machine
open Sys2Proof.Safety

/-! ## Values that have codes -/

/-- A magnitude that is a code's is rounded to that code, and exactly. -/
theorem roundF_of_code {f : FFmt} {level m C : Nat} {e : Int} (r : Rnd) (neg : Bool) (h : (m : ℝ) * 2 ^ e = mag (fbits f) C * 2 ^ (emin f - fbits f))
    (hC : C < infOf f false) (hfl : flushes f level = false ∨ C = 0 ∨ 2 ^ fbits f ≤ C) :
    roundF f level r neg m e false = (signCode f neg + C, 0) := by
  have h0 : mag (fbits f) 0 = 0 := mag_of_le (Nat.zero_le _)
  have hpos : (2 : ℝ) ^ (emin f - fbits f) ≠ 0 := by positivity
  by_cases hm : m = 0
  · rw [hm, Nat.cast_zero, zero_mul, eq_comm, mul_eq_zero, or_iff_left hpos] at h
    have hC0 : C = 0 := (mag_strictMono (fbits f)).injective (by rw [h0]; exact_mod_cast h)
    rw [roundF, if_pos hm, hC0]
    rfl
  · obtain ⟨c, D, tiny, hpick, -, -, heq⟩ := roundF_picks_or_flushes (r := r) (neg := neg) hm (show Stands m e false _ from h.symm) fun h => by cases h
    have hD : D = C := le_antisymm (hpick.le_of_le le_rfl) (hpick.ge_of_ge le_rfl)
    have hexact := hpick.exact_iff.mp (by rw [hD])
    rw [heq, hD, if_neg hC.not_ge, decide_eq_false (not_not.mpr hexact), if_neg]
    · cases tiny <;> rfl
    · rintro ⟨h1, h2, h3⟩
      rcases hfl with h | h | h
      · exact Bool.false_ne_true (h.symm.trans h1)
      · exact h2 h
      · exact h3.not_ge h

theorem exists_code_two_pow {f : FFmt} {k : Nat} (h : k < fbits f + 2 * bias f) : ∃ C, C < infOf f false ∧ mag (fbits f) C = 2 ^ k := by
  have hinf := infOf_false_eq f
  rw [Nat.add_mul] at hinf
  have hP := Nat.two_pow_pos (fbits f)
  by_cases hk : k < fbits f
  · have hle : 2 ^ k ≤ 2 ^ fbits f := Nat.pow_le_pow_right (by decide) hk.le
    have hb : 1 * 2 ^ fbits f ≤ 2 * bias f * 2 ^ fbits f := Nat.mul_le_mul_right _ (by have := bias_pos f; omega)
    exact ⟨2 ^ k, by omega, mag_of_le hle⟩
  · have hj : (k - fbits f + 1) * 2 ^ fbits f ≤ 2 * bias f * 2 ^ fbits f := Nat.mul_le_mul_right _ (by omega)
    rw [Nat.add_mul] at hj
    refine ⟨(k - fbits f) * 2 ^ fbits f + 2 ^ fbits f, by omega, ?_⟩
    rw [mag_add (.inr le_rfl) (Nat.pow_le_pow_right (by decide) (Nat.le_succ _)), ← Nat.pow_add]
    congr 1
    omega

/-- A whole number of no more bits than a significand has a normal code. -/
theorem exists_code_whole {f : FFmt} {k : Nat} (h : k < 2 ^ (fbits f + 1)) (hb : fbits f < bias f) :
    ∃ C, C < infOf f false ∧ (C = 0 ∨ 2 ^ fbits f ≤ C) ∧ mag (fbits f) C = k * unitsOne f := by
  by_cases hk : k = 0
  · exact ⟨0, infOf_pos f, .inl rfl, by rw [hk, Nat.zero_mul, mag_of_le (Nat.zero_le _)]⟩
  · have hlog : Nat.log2 k ≤ fbits f := Nat.lt_succ_iff.mp ((Nat.log2_lt hk).mpr h)
    have hpow : 2 ^ Nat.log2 k * 2 ^ (fbits f - Nat.log2 k) = 2 ^ fbits f := by rw [← Nat.pow_add, Nat.add_sub_of_le hlog]
    have hlo : 2 ^ fbits f ≤ k * 2 ^ (fbits f - Nat.log2 k) := hpow.symm.le.trans (Nat.mul_le_mul_right _ (Nat.log2_self_le hk))
    have hhi : k * 2 ^ (fbits f - Nat.log2 k) ≤ 2 ^ (fbits f + 1) := by
      calc _ ≤ 2 ^ (Nat.log2 k + 1) * 2 ^ (fbits f - Nat.log2 k) := Nat.mul_le_mul_right _ Nat.lt_log2_self.le
        _ = 2 ^ (fbits f + 1) := by rw [← Nat.pow_add]; congr 1; omega
    have hj : (bias f - 1 + Nat.log2 k + 2) * 2 ^ fbits f ≤ (2 * bias f) * 2 ^ fbits f := Nat.mul_le_mul_right _ (by omega)
    have hinf := infOf_false_eq f
    have hP := Nat.two_pow_pos (fbits f)
    rw [Nat.add_mul] at hinf hj
    rw [Nat.pow_succ] at hhi
    refine ⟨(bias f - 1 + Nat.log2 k) * 2 ^ fbits f + k * 2 ^ (fbits f - Nat.log2 k), by omega, .inr (by omega), ?_⟩
    rw [mag_add (.inr hlo) (by rw [Nat.pow_succ]; exact hhi), Nat.mul_assoc, ← Nat.pow_add, unitsOne]
    congr 2
    omega

theorem units_signCode_add {f : FFmt} {s : Bool} {C : Nat} (hC : C < infOf f false) :
    IsFinite f (signCode f s + C) ∧ signOf f (signCode f s + C) = s ∧ units f (signCode f s + C) = if s then -(mag (fbits f) C : Int) else mag (fbits f) C := by
  have hlt := hC.trans (infOf_lt f)
  refine ⟨isFinite_iff.mpr ⟨signCode_add_lt hlt, by rwa [unsignedOf_add hlt]⟩, signOf_add hlt, ?_⟩
  rw [units_eq_signed_mag, signOf_add hlt, unsignedOf_add hlt]

/-- One unit as a power of two. -/
theorem unitsOne_zpow (f : FFmt) : (unitsOne f : ℝ) = 2 ^ (fbits f - emin f : Int) := by
  rw [eq_comm, ← neg_sub, zpow_neg, inv_eq_of_mul_eq_one_left (unitsOne_mul f)]

/-! ## FEXP2 and FLOG2 -/

theorem flushOut_of_not {level : Nat} (hfl : flushes .f32 level = false) (r : Nat × Exc) : flushOut level r = r := by
  rw [flushOut, hfl, Bool.false_and, Bool.false_and, if_neg Bool.false_ne_true]

/-- A finite code whose value is the whole number `n`. -/
theorem readF_whole {level w : Nat} {n : Int} (hfl : flushes .f32 level = false) (hw : IsFinite .f32 w) (hn : units .f32 w = n * unitsOne .f32) :
    ∃ s m e, readF .f32 level w = .num s m e ∧ ((if s then -(m : Int) else m : Int) : ℝ) * 2 ^ e = n := by
  obtain ⟨m, e, hr, hv⟩ := readF_finite hfl hw
  refine ⟨_, m, e, hr, ?_⟩
  rw [hn, Int.cast_mul, Int.cast_natCast, mul_left_inj' (unitsOne_pos .f32).ne'] at hv
  rw [← hv, dyadic, signed]
  cases signOf .f32 w <;> simp

/-- The floor that FEXP2 takes of a whole operand is the operand. -/
theorem floor_of_whole {v n e : Int} (h : (v : ℝ) * 2 ^ e = n) :
    (if 0 ≤ e then v * 2 ^ e.toNat else v / (2 ^ (-e).toNat : Nat)) = n ∧
      (decide (0 ≤ e) || v % (2 ^ (-e).toNat : Nat) == 0) = true := by
  by_cases he : 0 ≤ e
  · obtain ⟨k, rfl⟩ := Int.eq_ofNat_of_zero_le he
    rw [zpow_natCast] at h
    rw [if_pos he, decide_eq_true he]
    exact ⟨by exact_mod_cast h, rfl⟩
  · obtain ⟨k, hk⟩ := Int.eq_ofNat_of_zero_le (show 0 ≤ -e by omega)
    obtain rfl : e = -k := by omega
    have hv : v = n * (2 ^ k : Nat) := by
      rw [zpow_neg, zpow_natCast, mul_inv_eq_iff_eq_mul₀ (by positivity)] at h
      exact_mod_cast h
    rw [if_neg he, decide_eq_false he, neg_neg, Int.toNat_natCast, hv]
    exact ⟨Int.mul_ediv_cancel _ (by positivity), by simp⟩

theorem fexp2_whole {level w : Nat} {n : Int} (hfl : flushes .f32 level = false) (hw : IsFinite .f32 w) (hn : units .f32 w = n * unitsOne .f32) :
    (128 ≤ n → fexp2 level w = (infOf .f32 false, 0x14)) ∧
      (-149 ≤ n → n < 128 → fexp2 level w = roundF .f32 2 .rne false 1 n false) := by
  obtain ⟨s, m, e, hr, hv⟩ := readF_whole hfl hw hn
  obtain ⟨hfloor, hwhole⟩ := floor_of_whole hv
  rw [fexp2, hr]
  dsimp only
  rw [hfloor]
  refine ⟨fun h => if_pos h, fun h1 h2 => ?_⟩
  rw [if_neg (by omega), flushOut_of_not hfl, if_pos]
  rw [hwhole, decide_eq_true h1]
  rfl

theorem laneFexp2_spec (x : LaneIn) (n : Int) (hl : 0 < x.level) (hn : units .f32 (x.n 0) = n * unitsOne .f32) (hw : IsFinite .f32 (x.n 0)) :
    (-149 ≤ n → n < 128 → ∃ c, laneFexp2F32 x = gives .f32 (c, 0) ∧ IsFinite .f32 c ∧ units .f32 c = 2 ^ (n + 149).toNat) ∧
    (128 ≤ n → laneFexp2F32 x = gives .f32 (infOf .f32 false, 0x14)) := by
  obtain ⟨hbig, hsmall⟩ := fexp2_whole (flushes_f32 hl) hw hn
  refine ⟨fun h1 h2 => ?_, fun h => congrArg (gives .f32) (hbig h)⟩
  obtain ⟨C, hC, hmag⟩ := exists_code_two_pow (f := .f32) (k := (n + 149).toNat) (by
    have : fbits .f32 + 2 * bias .f32 = 277 := by decide
    omega)
  have hround := roundF_of_code (f := .f32) (level := 2) (m := 1) (e := n) .rne false (by
    rw [hmag, Nat.cast_one, one_mul, Nat.cast_pow, ← zpow_natCast, Nat.cast_ofNat, ← zpow_add₀ two_ne_zero]
    congr 1
    have : emin .f32 - fbits .f32 = -149 := by decide
    omega) hC (.inl rfl)
  obtain ⟨hfin, -, hu⟩ := units_signCode_add (s := false) hC
  refine ⟨_, congrArg (gives .f32) ((hsmall h1 h2).trans hround), hfin, ?_⟩
  rw [hu, if_neg Bool.false_ne_true, hmag]
  push_cast
  rfl

/-- The logarithm of a power of two is a whole number. -/
theorem flog2_two_pow {level w : Nat} {n : Int} (hfl : flushes .f32 level = false) (hw : IsFinite .f32 w) (h1 : -149 ≤ n)
    (hn : units .f32 w = 2 ^ (n + 149).toNat) : flog2 level w = ((cvtIF .f32 ⟨.rne, false, level⟩ n).1, 0) := by
  obtain ⟨m, e, hr, hm, hv⟩ := readF_pos (env := ⟨.rne, false, level⟩) hfl hw (by rw [hn]; positivity)
  have hval : (m : ℝ) * 2 ^ e = 2 ^ n := by
    have hU := unitsOne_pos .f32
    rw [← mul_left_inj' hU.ne', hv, hn, unitsOne_zpow, ← zpow_add₀ two_ne_zero]
    push_cast
    rw [← zpow_natCast]
    congr 1
    have : fbits .f32 - emin .f32 = 149 := by decide
    omega
  have hm2 : (m : ℝ) = 2 ^ (n - e) := by rw [zpow_sub₀ two_ne_zero, ← hval, mul_div_cancel_right₀ _ (by positivity)]
  have hle : 0 ≤ n - e := by
    by_contra hlt
    have h2 : (1 : ℝ) ≤ m := by exact_mod_cast Nat.one_le_iff_ne_zero.mpr hm
    rw [hm2] at h2
    exact h2.not_gt (zpow_lt_one_of_neg₀ one_lt_two (by omega))
  obtain ⟨k, hk⟩ := Int.eq_ofNat_of_zero_le hle
  have hmk : m = 2 ^ k := by
    rw [hk, zpow_natCast] at hm2
    exact_mod_cast hm2
  rw [flog2, hr]
  dsimp only
  rw [if_neg hm, if_neg Bool.false_ne_true, hmk, Nat.log2_two_pow, if_pos rfl, show (k : Int) + e = n by omega]
  rfl

theorem laneFlog2_spec (x : LaneIn) (n : Int) (hl : 0 < x.level) (h1 : -149 ≤ n) (h2 : n < 128) (hn : units .f32 (x.n 0) = 2 ^ (n + 149).toNat)
    (hw : IsFinite .f32 (x.n 0)) : ∃ c, laneFlog2F32 x = gives .f32 (c, 0) ∧ IsFinite .f32 c ∧ units .f32 c = n * unitsOne .f32 := by
  obtain ⟨C, hC, hnorm, hmag⟩ := exists_code_whole (f := .f32) (k := n.natAbs) (by
    have : 2 ^ (fbits .f32 + 1) = 16777216 := by decide
    omega) (by decide)
  have hround := roundF_of_code (f := .f32) (level := x.level) (m := n.natAbs) (e := 0) .rne (decide (n < 0)) (by
    rw [hmag, Nat.cast_mul, mul_assoc, unitsOne_mul, zpow_zero]) hC (.inr hnorm)
  obtain ⟨hfin, -, hu⟩ := units_signCode_add (s := decide (n < 0)) hC
  have heq := flog2_two_pow (flushes_f32 hl) hw h1 hn
  have hcvt : cvtIF .f32 ⟨.rne, false, x.level⟩ n = roundF .f32 x.level .rne (decide (n < 0)) n.natAbs 0 false := rfl
  rw [hcvt, hround] at heq
  refine ⟨_, congrArg (gives .f32) heq, hfin, ?_⟩
  rw [hu, hmag]
  push_cast
  by_cases h0 : n < 0
  · rw [decide_eq_true h0, if_pos rfl, abs_of_neg h0]
    ring
  · rw [decide_eq_false h0, if_neg Bool.false_ne_true, abs_of_nonneg (not_lt.mp h0)]

/-- Special operands of FEXP2, FLOG2, FSIN and FCOS. -/
theorem laneTransc_special (x : LaneIn) (hl : 0 < x.level) :
    (x.n 0 = infOf .f32 true → laneFexp2F32 x = gives .f32 (0, 0)) ∧ (x.n 0 = infOf .f32 false → laneFexp2F32 x = gives .f32 (infOf .f32 false, 0)) ∧
    (x.n 0 % 2 ^ 31 = 0 → laneFlog2F32 x = gives .f32 (infOf .f32 true, 2) ∧ laneFsinF32 x = gives .f32 (x.n 0, 0) ∧
      laneFcosF32 x = gives .f32 (0x3F800000, 0)) ∧
    (units .f32 (x.n 0) < 0 → ¬IsNan .f32 (x.n 0) → laneFlog2F32 x = gives .f32 (0x7FC00000, 1)) ∧
    (x.n 0 = infOf .f32 false → laneFlog2F32 x = gives .f32 (infOf .f32 false, 0)) ∧
    (x.n 0 % 2 ^ 31 = infOf .f32 false → laneFsinF32 x = gives .f32 (0x7FC00000, 1) ∧ laneFcosF32 x = gives .f32 (0x7FC00000, 1)) := by
  have hfl := flushes_f32 hl
  have hlt := n_lt_f32 x 0
  refine ⟨fun h => ?_, fun h => ?_, fun h => ?_, fun h hn => ?_, fun h => ?_, fun h => ?_⟩
  · have hr := readF_inf (f := .f32) hfl (w := infOf .f32 true) (by decide)
    rw [laneFexp2F32, h, fexp2, hr]
    rfl
  · have hr := readF_inf (f := .f32) hfl (w := infOf .f32 false) (by decide)
    rw [laneFexp2F32, h, fexp2, hr]
    rfl
  · have hu : unsignedOf .f32 (x.n 0) = 0 := h
    have hfin : IsFinite .f32 (x.n 0) := isFinite_iff.mpr ⟨hlt, by rw [hu]; exact infOf_pos _⟩
    obtain ⟨m, e, hr, hm, -⟩ := readF_num hfl hfin
    obtain rfl := hm.mpr (units_of_unsigned_zero hu)
    have hcode : signCode .f32 (signOf .f32 (x.n 0)) = x.n 0 := by
      have := signCode_signOf_add hlt
      rwa [hu, Nat.add_zero] at this
    rw [laneFlog2F32, laneFsinF32, laneFcosF32, flog2, fsin, fcos, hr]
    dsimp only
    rw [if_pos rfl, if_pos rfl, if_pos rfl, hcode]
    exact ⟨rfl, rfl, rfl⟩
  · have hinv : flog2 x.level (x.n 0) = invalidF .f32 x.level [x.n 0] := by
      rcases (nan_or_inf_or_finite hlt).resolve_left hn with hi | hfin
      · have hs : signOf .f32 (x.n 0) = true := by
          rw [units_eq_signed_mag] at h
          by_contra hs
          rw [if_neg hs] at h
          omega
        rw [flog2, readF_inf hfl hi, hs]
        rfl
      · obtain ⟨m, e, hr, hm, hs⟩ := readF_num hfl hfin
        have hm0 : m ≠ 0 := mt hm.mp h.ne
        rw [flog2, hr]
        dsimp only
        rw [if_neg hm0, if_pos ((hs hm0).mpr h)]
    exact congrArg (gives .f32) (hinv.trans (invalidF_of_not_nan (by simpa using hn)))
  · have hr := readF_inf (f := .f32) hfl (w := infOf .f32 false) (by decide)
    rw [laneFlog2F32, h, flog2, hr]
    rfl
  · have hinv := invalidF_of_not_nan (f := .f32) (level := x.level) (srcs := [x.n 0]) (by simpa using not_isNan_of_inf (f := .f32) h)
    rw [laneFsinF32, laneFcosF32, fsin, fcos, readF_inf hfl h]
    exact ⟨congrArg (gives .f32) hinv, congrArg (gives .f32) hinv⟩

end Sys2Proof.Machine

/-! Proofs about conversions of whole numbers (R112, R171, R172). -/
namespace Sys2Proof.Machine
open Sys2Proof.Safety

/-! ## Sources -/

theorem narrow_lt (n : Nat) (v : Int) : narrow n v < 2 ^ n := by
  have h : (0 : Int) < (2 ^ n : Nat) := by exact_mod_cast Nat.two_pow_pos n
  have h1 := Int.emod_lt_of_pos v h
  have h2 := Int.emod_nonneg v h.ne'
  rw [narrow]
  omega

/-- The whole number that CVT reads of an integer source. -/
theorem cvtLane_int {o : Form.Cvt} {x : LaneIn} {v : Int} (h : ([(x.w 0).toInt, (x.n 0 : Int), (BitVec.ofNat 64 (pairCode x 0)).toInt,
      (pairCode x 0 : Int), (BitVec.ofNat 16 (x.n 0)).toInt, ((x.n 0 % 2 ^ 16 : Nat) : Int), (BitVec.ofNat 8 (x.n 0)).toInt,
      ((x.n 0 % 2 ^ 8 : Nat) : Int)] : List Int)[o.sf]? = some v) :
    laneCvt o x = if o.df < 8 then intOut o.df (cvtII o.df (o.sat == 1) v)
      else if o.df < 12 then codeOut o.df (cvtIF (floatOf o.df) (envOf o.rnd o.sat x.level) v)
      else codeOut o.df (toTapered (taperedBits o.df) (envOf o.rnd o.sat x.level) (decide (v < 0)) v.natAbs 0) := by
  have hlt8 : o.sf < 8 := (List.getElem?_eq_some_iff.mp h).1
  have hread : (if (intOf o.sf).1 = true then sx (if o.sf = 2 ∨ o.sf = 3 ∨ o.sf = 9 then x.q64 0 else x.n 0) (intOf o.sf).2
      else (bits (if o.sf = 2 ∨ o.sf = 3 ∨ o.sf = 9 then x.q64 0 else x.n 0) 0 (intOf o.sf).2 : Nat)) = v := by
    have hp : pairCode x 0 % 2 ^ 64 = pairCode x 0 := Nat.mod_eq_of_lt (pairCode_lt x 0)
    have hn : x.n 0 % 2 ^ 32 = x.n 0 := Nat.mod_eq_of_lt (n_lt x 0)
    have hw : BitVec.ofNat 32 (x.n 0) = x.w 0 := by rw [LaneIn.n, BitVec.ofNat_toNat, BitVec.setWidth_eq]
    rw [q64_eq]
    generalize o.sf = sf at h hlt8
    interval_cases sf <;> rw [← Option.some.inj h] <;> simp [intOf, sx_eq_toInt, bits, hw] <;> omega
  have hne : ¬(o.df = 11 ∧ o.sf = 8 ∧ x.level = 0) := by omega
  rw [laneCvt, cvtLane]
  simp only [if_neg hne, if_pos hlt8, hread]
  rfl

/-! ## Whole numbers into IEEE formats -/

/-- A whole number is never a subnormal number, so no level flushes it. -/
theorem rounded_cvtIF {f : FFmt} {rnd sat level : Nat} {m : Rnd} (hm : modeOf rnd m) (v : Int) :
    ∃ r, Rounded f m (v * unitsOne f) 1 false r ∧ cvtIF f (envOf rnd sat level) v = (saturated f sat r.1, r.2) := by
  have hfl : flushes f 2 = false := by cases f <;> rfl
  have hval : dyadic (decide (v < 0)) v.natAbs 0 * unitsOne f = ((v * unitsOne f : Int) : ℝ) / (1 : Nat) := by
    rw [dyadic, zpow_zero, mul_one, Nat.cast_one, div_one, Int.cast_mul, Int.cast_natCast, signed, Nat.cast_natAbs, Int.cast_abs]
    congr 1
    by_cases h : v < 0
    · have hr : (v : ℝ) < 0 := by exact_mod_cast h
      rw [decide_eq_true h, if_pos rfl, abs_of_neg hr, neg_neg]
    · have hr : (0 : ℝ) ≤ v := by exact_mod_cast not_lt.mp h
      rw [decide_eq_false h, if_neg Bool.false_ne_true, abs_of_nonneg hr]
  have hr := rounded_exact (z := false) m Nat.one_pos hfl hval fun h => by
    have h0 : v = 0 := (mul_eq_zero.mp h).resolve_right (by have := unitsOne_pos f; exact_mod_cast this.ne')
    rw [h0]
    rfl
  have hlevel : roundF f level m (decide (v < 0)) v.natAbs 0 false = roundF f 2 m (decide (v < 0)) v.natAbs 0 false := by
    by_cases h0 : v.natAbs = 0
    · rw [roundF, roundF, if_pos h0, if_pos h0]
    · have hU : (2 : ℝ) ^ fbits f ≤ unitsOne f := by
        have hb := bias_pos f
        rw [unitsOne, Nat.cast_pow, Nat.cast_ofNat]
        exact pow_le_pow_right₀ one_le_two (by omega)
      have h1 : (1 : ℝ) ≤ v.natAbs := by exact_mod_cast Nat.one_le_iff_ne_zero.mpr h0
      refine roundF_level (v := v.natAbs * unitsOne f) h0 ?_ (fun h => by cases h) ?_ 2
      · show _ * _ = _
        rw [mul_assoc, unitsOne_mul, zpow_zero]
      · nlinarith
  rw [← hlevel] at hr
  refine ⟨_, hr, ?_⟩
  rw [cvtIF, finishF_eq (sat := sat) rfl, ← rndOf_of_mode hm]
  rfl

/-! ## Whole numbers into integer formats -/

theorem emod_narrow (n : Nat) (v : Int) : (narrow n v - v) % (2 ^ n : Nat) = 0 := by
  have h : (0 : Int) < (2 ^ n : Nat) := by exact_mod_cast Nat.two_pow_pos n
  rw [narrow, Int.toNat_of_nonneg (Int.emod_nonneg v h.ne'), Int.sub_emod, Int.emod_emod, sub_self, Int.zero_emod]

/-- A whole number wrapped into an integer format lies in its range and differs by a multiple of its size. -/
theorem wrapped_spec (s : Bool) {n : Nat} (hn : 0 < n) (v : Int) : ∃ k : Int, (if s then sx (narrow n v) n else (narrow n v : Int)) = k ∧
    (intRange s n).1 ≤ k ∧ k ≤ (intRange s n).2 ∧ (k - v) % 2 ^ n = 0 := by
  have hlt := narrow_lt n v
  have hmod := emod_narrow n v
  have hpow : 2 ^ n = 2 * 2 ^ (n - 1) := by rw [← Nat.pow_succ']; congr 1; omega
  have hmod2 : ((narrow n v - (2 ^ n : Nat) : Int) - v) % (2 ^ n : Nat) = 0 := by
    rw [sub_right_comm, Int.sub_emod_right, hmod]
  refine ⟨_, rfl, ?_⟩
  cases s
  · rw [if_neg Bool.false_ne_true]
    refine ⟨Int.natCast_nonneg _, ?_, by exact_mod_cast hmod⟩
    show (narrow n v : Int) ≤ (2 ^ n : Nat) - 1
    omega
  · rw [if_pos rfl, sx_of_lt hlt]
    show -((2 ^ (n - 1) : Nat) : Int) ≤ _ ∧ _ ≤ ((2 ^ (n - 1) : Nat) : Int) - 1 ∧ _
    split
    · refine ⟨by omega, by omega, by exact_mod_cast hmod⟩
    · refine ⟨by omega, by omega, by exact_mod_cast hmod2⟩

/-- The integer formats of one register: range, size and tag. -/
def IntFormat (df : Nat) (lo hi : Int) (n : Nat) (t : Tag) : Prop :=
  df < 8 ∧ 0 < n ∧ (intOf df).2 = n ∧ intRange (intOf df).1 n = (lo, hi) ∧ ∀ r, intOut df r = oneExc (BitVec.ofInt 32 r.1) t r.2

theorem intFormat_of_mem {df : Nat} {lo hi : Int} {n : Nat} {t : Tag} (h : (df, lo, hi, n, t) ∈ [(0, -2 ^ 31, 2 ^ 31 - 1, 32, Tag.i32), (1, 0, 2 ^ 32 - 1, 32, .n32),
      (4, -2 ^ 15, 2 ^ 15 - 1, 16, .i32), (5, 0, 2 ^ 16 - 1, 16, .n32), (6, -2 ^ 7, 2 ^ 7 - 1, 8, .i32), (7, 0, 2 ^ 8 - 1, 8, .n32)]) :
    IntFormat df lo hi n t := by
  have hout : ∀ {df t}, (df ≠ 2 ∧ df ≠ 3) → (if df % 2 = 0 then Tag.i32 else .n32) = t → ∀ r, intOut df r = oneExc (BitVec.ofInt 32 r.1) t r.2 :=
    fun {df t} hne ht r => by rw [intOut, if_neg (by omega), ht, wordOf_eq]
  simp only [List.mem_cons, Prod.mk.injEq, List.not_mem_nil, or_false] at h
  rcases h with ⟨rfl, rfl, rfl, rfl, rfl⟩ | ⟨rfl, rfl, rfl, rfl, rfl⟩ | ⟨rfl, rfl, rfl, rfl, rfl⟩ | ⟨rfl, rfl, rfl, rfl, rfl⟩ |
    ⟨rfl, rfl, rfl, rfl, rfl⟩ | ⟨rfl, rfl, rfl, rfl, rfl⟩
  all_goals exact ⟨by decide, by decide, rfl, by decide, hout (by decide) rfl⟩

/-- CVT of a whole number. -/
theorem laneCvt_int (x : LaneIn) (o : Form.Cvt) (m : Rnd) (v : Int) (hm : modeOf o.rnd m)
    (hv : (([(x.w 0).toInt, (x.n 0 : Int), (BitVec.ofNat 64 (pairCode x 0)).toInt, (pairCode x 0 : Int), (BitVec.ofNat 16 (x.n 0)).toInt,
        ((x.n 0 % 2 ^ 16 : Nat) : Int), (BitVec.ofNat 8 (x.n 0)).toInt, ((x.n 0 % 2 ^ 8 : Nat) : Int)] : List Int)[o.sf]? = some v)) :
    (∀ (f : FFmt) (t : Tag), (o.df, f, t) ∈ [(8, FFmt.f32, Tag.f32), (10, .f16, .f16x2), (11, .bf16, .bf16x2)] →
      ∃ r, Rounded f m (v * unitsOne f) 1 false r ∧ laneCvt o x = gives t (saturated f o.sat r.1, r.2)) ∧
    (o.df = 9 → ∃ r, Rounded .f64 m (v * unitsOne .f64) 1 false r ∧ laneCvt o x = givesPair (saturated .f64 o.sat r.1, r.2)) ∧
    (∀ (lo hi : Int) (n : Nat) (t : Tag), (o.df, lo, hi, n, t) ∈ [(0, -2 ^ 31, 2 ^ 31 - 1, 32, Tag.i32), (1, 0, 2 ^ 32 - 1, 32, .n32),
        (4, -2 ^ 15, 2 ^ 15 - 1, 16, .i32), (5, 0, 2 ^ 16 - 1, 16, .n32), (6, -2 ^ 7, 2 ^ 7 - 1, 8, .i32), (7, 0, 2 ^ 8 - 1, 8, .n32)] →
      (o.sat = 1 → laneCvt o x = { regs := [⟨BitVec.ofInt 32 (max lo (min hi v)), t⟩] }) ∧
      (o.sat = 0 → ∃ k : Int, lo ≤ k ∧ k ≤ hi ∧ (k - v) % 2 ^ n = 0 ∧ laneCvt o x = { regs := [⟨BitVec.ofInt 32 k, t⟩] })) := by
  rw [cvtLane_int hv]
  refine ⟨fun f t h => ?_, fun h => ?_, fun lo hi n t h => ?_⟩
  · obtain ⟨r, hr, hre⟩ := rounded_cvtIF (f := f) (sat := o.sat) (level := x.level) hm v
    refine ⟨r, hr, ?_⟩
    rw [← hre]
    simp only [List.mem_cons, Prod.mk.injEq, List.not_mem_nil, or_false] at h
    rcases h with ⟨hd, rfl, rfl⟩ | ⟨hd, rfl, rfl⟩ | ⟨hd, rfl, rfl⟩ <;> rw [hd] <;> rfl
  · obtain ⟨r, hr, hre⟩ := rounded_cvtIF (f := .f64) (sat := o.sat) (level := x.level) hm v
    refine ⟨r, hr, ?_⟩
    rw [← hre, h, ← twoF_eq]
    rfl
  · obtain ⟨hlt, hn, hsize, hrange, hout⟩ := intFormat_of_mem h
    rw [if_pos hlt, hout]
    have hcvt : ∀ b, cvtII o.df b v = (if b then max lo (min hi v) else if (intOf o.df).1 then sx (narrow n v) n else narrow n v, 0) := fun b => by
      simp only [cvtII, clampInt, hsize, hrange]
      rfl
    rw [hcvt]
    refine ⟨fun hs => by rw [hs]; rfl, fun hs => ?_⟩
    obtain ⟨k, hk, hlo, hhi, hmod⟩ := wrapped_spec (intOf o.df).1 hn v
    rw [hrange] at hlo hhi
    refine ⟨k, hlo, hhi, hmod, ?_⟩
    rw [hs, hk]
    rfl

end Sys2Proof.Machine

/-! Proofs about rounding to a whole number (R107, R108). -/
namespace Sys2Proof.Machine
open Sys2Proof.Safety

/-- The whole number `k` is the real number `t` as the mode rounds it. -/
def RoundsWhole (r : Rnd) (t : ℝ) (k : Int) : Prop :=
  match r with
  | .rne => 2 * |(k : ℝ) - t| ≤ 1 ∧ (2 * |(k : ℝ) - t| = 1 → k % 2 = 0)
  | .rna => 2 * |(k : ℝ) - t| ≤ 1 ∧ (2 * |(k : ℝ) - t| = 1 → |t| ≤ |(k : ℝ)|)
  | .rz => |(k : ℝ)| ≤ |t| ∧ |t| < |(k : ℝ)| + 1 ∧ 0 ≤ k * t
  | .rp => t ≤ k ∧ k < t + 1
  | .rm => k ≤ t ∧ t < k + 1

theorem roundsWhole_of_roundsInt {r : Rnd} {n k : Int} {d : Nat} (hd : 0 < d) (h : RoundsInt r n d k) : RoundsWhole r (n / d) k := by
  have hD : (0 : ℝ) < d := by exact_mod_cast hd
  obtain ⟨t, ht⟩ : ∃ t : ℝ, t = n / d := ⟨_, rfl⟩
  have hn : (n : ℝ) = t * d := by rw [ht, div_mul_cancel₀ _ hD.ne']
  have hsub : ((|k * d - n| : Int) : ℝ) = |(k : ℝ) - t| * d := by
    push_cast
    rw [hn, ← sub_mul, abs_mul, abs_of_pos hD]
  have habsk : ((|k * d| : Int) : ℝ) = |(k : ℝ)| * d := by
    push_cast
    rw [abs_mul, abs_of_pos hD]
  have habsn : ((|n| : Int) : ℝ) = |t| * d := by rw [Int.cast_abs, hn, abs_mul, abs_of_pos hD]
  rw [← ht]
  cases r with
  | rne =>
    obtain ⟨h1, h2⟩ := h
    have h1r : 2 * ((|k * d - n| : Int) : ℝ) ≤ d := by exact_mod_cast h1
    have h2r : 2 * ((|k * d - n| : Int) : ℝ) = d → k % 2 = 0 := fun he => h2 (by exact_mod_cast he)
    rw [hsub] at h1r h2r
    exact ⟨by nlinarith, fun he => h2r (by rw [← mul_assoc, he, one_mul])⟩
  | rna =>
    obtain ⟨h1, h2⟩ := h
    have h1r : 2 * ((|k * d - n| : Int) : ℝ) ≤ d := by exact_mod_cast h1
    have h2r : 2 * ((|k * d - n| : Int) : ℝ) = d → ((|n| : Int) : ℝ) ≤ ((|k * d| : Int) : ℝ) := fun he => by exact_mod_cast h2 (by exact_mod_cast he)
    rw [hsub] at h1r h2r
    rw [habsk, habsn, mul_le_mul_iff_left₀ hD] at h2r
    exact ⟨by nlinarith, fun he => h2r (by rw [← mul_assoc, he, one_mul])⟩
  | rz =>
    obtain ⟨h1, h2, h3⟩ := h
    have h1r : ((|k * d| : Int) : ℝ) ≤ ((|n| : Int) : ℝ) := by exact_mod_cast h1
    have h2r : ((|n| : Int) : ℝ) < ((|k * d| : Int) : ℝ) + d := by exact_mod_cast h2
    have h3r : (0 : ℝ) ≤ k * n := by exact_mod_cast h3
    rw [habsk, habsn] at h1r h2r
    rw [hn, ← mul_assoc] at h3r
    exact ⟨by nlinarith, by nlinarith, nonneg_of_mul_nonneg_left h3r hD⟩
  | rp =>
    obtain ⟨h1, h2⟩ := h
    have h1r : (n : ℝ) ≤ k * d := by exact_mod_cast h1
    have h2r : (k : ℝ) * d < n + d := by exact_mod_cast h2
    rw [hn] at h1r h2r
    exact ⟨by nlinarith, by nlinarith⟩
  | rm =>
    obtain ⟨h1, h2⟩ := h
    have h1r : (k : ℝ) * d ≤ n := by exact_mod_cast h1
    have h2r : (n : ℝ) < k * d + d := by exact_mod_cast h2
    rw [hn] at h1r h2r
    exact ⟨by nlinarith, by nlinarith⟩

/-- Whole numbers within a half of one number are one, or lie halfway on its two sides. -/
theorem eq_or_tie_whole {t : ℝ} {k l : Int} (hk : 2 * |(k : ℝ) - t| ≤ 1) (hl : 2 * |(l : ℝ) - t| ≤ 1) :
    k = l ∨ (2 * |(k : ℝ) - t| = 1 ∧ 2 * |(l : ℝ) - t| = 1 ∧ (k + l : ℝ) = 2 * t ∧ (k - l = 1 ∨ l - k = 1)) := by
  by_cases he : k = l
  · exact .inl he
  · right
    have h1 := abs_le.mp (show |(k : ℝ) - t| ≤ 1 / 2 by linarith)
    have h2 := abs_le.mp (show |(l : ℝ) - t| ≤ 1 / 2 by linarith)
    rcases lt_or_gt_of_ne he with hlt | hlt
    · have hr : (k : ℝ) + 1 ≤ l := by exact_mod_cast hlt
      have h3 : (l : ℝ) - t = 1 / 2 := by linarith
      have h4 : (k : ℝ) - t = -(1 / 2) := by linarith
      have h5 : (l : ℝ) = k + 1 := by linarith
      exact ⟨by rw [h4, abs_neg, abs_of_pos] <;> norm_num, by rw [h3, abs_of_pos] <;> norm_num, by linarith,
        .inr (by have : l = k + 1 := by exact_mod_cast h5
                 omega)⟩
    · have hr : (l : ℝ) + 1 ≤ k := by exact_mod_cast hlt
      have h3 : (k : ℝ) - t = 1 / 2 := by linarith
      have h4 : (l : ℝ) - t = -(1 / 2) := by linarith
      have h5 : (k : ℝ) = l + 1 := by linarith
      exact ⟨by rw [h3, abs_of_pos] <;> norm_num, by rw [h4, abs_neg, abs_of_pos] <;> norm_num, by linarith,
        .inl (by have : k = l + 1 := by exact_mod_cast h5
                 omega)⟩

theorem RoundsWhole.unique {r : Rnd} {t : ℝ} {k l : Int} (hk : RoundsWhole r t k) (hl : RoundsWhole r t l) : k = l := by
  cases r with
  | rne =>
    refine (eq_or_tie_whole hk.1 hl.1).resolve_right ?_
    rintro ⟨h1, h2, -, h3⟩
    have := hk.2 h1
    have := hl.2 h2
    omega
  | rna =>
    refine (eq_or_tie_whole hk.1 hl.1).resolve_right ?_
    rintro ⟨h1, h2, h3, h4⟩
    have hak := hk.2 h1
    have hal := hl.2 h2
    have ht : |(k : ℝ) + l| = 2 * |t| := by rw [h3, abs_mul, abs_two]
    have h5 : |k + l| ≤ 2 * |k| := by exact_mod_cast ht.trans_le (mul_le_mul_of_nonneg_left hak two_pos.le)
    have h6 : |k + l| ≤ 2 * |l| := by exact_mod_cast ht.trans_le (mul_le_mul_of_nonneg_left hal two_pos.le)
    rw [Int.abs_eq_natAbs, Int.abs_eq_natAbs] at h5 h6
    omega
  | rz =>
    obtain ⟨h1, h2, h3⟩ := hk
    obtain ⟨h4, h5, h6⟩ := hl
    have h7 : |k| < |l| + 1 := by exact_mod_cast h1.trans_lt h5
    have h8 : |l| < |k| + 1 := by exact_mod_cast h4.trans_lt h2
    rcases abs_eq_abs.mp (show |k| = |l| by omega) with h9 | h9
    · exact h9
    · have hl0 : l = 0 := by
        by_contra hne
        rw [h9, Int.cast_neg] at h3
        have hlt : (l : ℝ) * t = 0 := by linarith
        have ht0 : t = 0 := (mul_eq_zero.mp hlt).resolve_left (by exact_mod_cast hne)
        rw [ht0, abs_zero] at h4
        exact hne (by exact_mod_cast abs_eq_zero.mp (le_antisymm h4 (abs_nonneg _)))
      rw [h9, hl0]
      rfl
  | rp =>
    have h1 : k < l + 1 := by exact_mod_cast hk.2.trans_le (add_le_add_left hl.1 1)
    have h2 : l < k + 1 := by exact_mod_cast hl.2.trans_le (add_le_add_left hk.1 1)
    omega
  | rm =>
    have h1 : k < l + 1 := by exact_mod_cast hk.1.trans_lt hl.2
    have h2 : l < k + 1 := by exact_mod_cast hl.1.trans_lt hk.2
    omega

/-- A whole number with a sign. -/
def signedInt (neg : Bool) (k : Nat) : Int := if neg then -(k : Int) else k

theorem cast_signedInt (neg : Bool) (k : Nat) : ((signedInt neg k : Int) : ℝ) = signed neg k := by cases neg <;> simp [signedInt, signed]

/-- A cut magnitude with its sign, rounded, is the whole number that the mode asks for. -/
theorem roundsWhole_rounded {c : Cut} {y : ℝ} (h : CutOf c y) (r : Rnd) (neg : Bool) :
    RoundsWhole r (signed neg y) (signedInt neg (rounded r neg c)) := by
  have hle := h.le
  have hlt := h.lt
  have h0 : (0 : ℝ) ≤ c.kept := Nat.cast_nonneg _
  have hcases : (TakesUpper r neg (c.kept % 2 == 1) c.kept (c.kept + 1) y ∧ rounded r neg c = c.kept + 1 ∧ (rounded r neg c : ℝ) = c.kept + 1) ∨
      (¬TakesUpper r neg (c.kept % 2 == 1) c.kept (c.kept + 1) y ∧ rounded r neg c = c.kept ∧ (rounded r neg c : ℝ) = c.kept) :=
    (rounded_eq_or h r neg).imp (fun h => ⟨h.1, h.2, by rw [h.2]; push_cast; rfl⟩) fun h => ⟨h.1, h.2, by rw [h.2]⟩
  have hdist : |((signedInt neg (rounded r neg c) : Int) : ℝ) - signed neg y| = |(rounded r neg c : ℝ) - y| := by
    rw [cast_signedInt, abs_signed_sub, signed_signed]
  have habsk : |((signedInt neg (rounded r neg c) : Int) : ℝ)| = rounded r neg c := by rw [cast_signedInt, abs_signed, abs_of_nonneg (Nat.cast_nonneg _)]
  have habst : |signed neg y| = y := by rw [abs_signed, abs_of_nonneg (h0.trans hle)]
  generalize rounded r neg c = K at *
  have hup : ∀ z : ℝ, z = c.kept + 1 → |z - y| = c.kept + 1 - y := fun z hz => by rw [hz, abs_of_pos (by linarith)]
  have hdown : ∀ z : ℝ, z = c.kept → |z - y| = y - c.kept := fun z hz => by rw [hz, abs_sub_comm, abs_of_nonneg (by linarith)]
  have hparity : signedInt neg K % 2 = 0 ↔ K % 2 = 0 := by cases neg <;> simp only [signedInt] <;> omega
  cases r with
  | rne =>
    show 2 * |((signedInt neg K : Int) : ℝ) - signed neg y| ≤ 1 ∧ (2 * |((signedInt neg K : Int) : ℝ) - signed neg y| = 1 → signedInt neg K % 2 = 0)
    rw [hdist, hparity]
    rcases hcases with ⟨ht, hK, hKr⟩ | ⟨ht, hK, hKr⟩
    · rw [hup _ hKr]
      refine ⟨by rcases ht with ht | ⟨ht, -⟩ <;> linarith, fun he => ?_⟩
      have hodd : c.kept % 2 = 1 := by simpa using (ht.resolve_left (by linarith)).2
      omega
    · rw [hdown _ hKr]
      refine ⟨by by_contra hlt; exact ht (.inl (by linarith)), fun he => ?_⟩
      have hodd : ¬c.kept % 2 = 1 := fun ho => ht (.inr ⟨by linarith, by simpa using ho⟩)
      omega
  | rna =>
    show 2 * |((signedInt neg K : Int) : ℝ) - signed neg y| ≤ 1 ∧
      (2 * |((signedInt neg K : Int) : ℝ) - signed neg y| = 1 → |signed neg y| ≤ |((signedInt neg K : Int) : ℝ)|)
    rw [hdist, habsk, habst]
    rcases hcases with ⟨ht, -, hKr⟩ | ⟨ht, -, hKr⟩
    · have ht2 : (c.kept : ℝ) + (c.kept + 1) ≤ 2 * y := ht
      rw [hup _ hKr, hKr]
      exact ⟨by linarith, fun _ => by linarith⟩
    · have ht2 : ¬(c.kept : ℝ) + (c.kept + 1) ≤ 2 * y := ht
      rw [hdown _ hKr]
      exact ⟨by linarith, fun he => absurd (by linarith) ht2⟩
  | rz =>
    have hKr : (K : ℝ) = c.kept := (hcases.resolve_left fun h => h.1).2.2
    refine ⟨by rw [habsk, habst, hKr]; exact hle, by rw [habsk, habst, hKr]; exact hlt, ?_⟩
    rw [cast_signedInt]
    have hK0 : (0 : ℝ) ≤ K := Nat.cast_nonneg _
    cases neg <;> simp only [signed, Bool.false_eq_true, if_true, if_false, neg_mul_neg] <;> exact mul_nonneg hK0 (h0.trans hle)
  | rp =>
    show signed neg y ≤ ((signedInt neg K : Int) : ℝ) ∧ ((signedInt neg K : Int) : ℝ) < signed neg y + 1
    rw [cast_signedInt]
    cases neg with
    | true =>
      have hKr : (K : ℝ) = c.kept := (hcases.resolve_left fun h => by cases h.1.1).2.2
      show -y ≤ -(K : ℝ) ∧ -(K : ℝ) < -y + 1
      constructor <;> linarith
    | false =>
      show y ≤ K ∧ (K : ℝ) < y + 1
      rcases hcases with ⟨ht, -, hKr⟩ | ⟨ht, -, hKr⟩
      · exact ⟨by linarith, by have := ht.2; linarith⟩
      · have hy : ¬(c.kept : ℝ) < y := fun h => ht ⟨rfl, h⟩
        constructor <;> linarith
  | rm =>
    show ((signedInt neg K : Int) : ℝ) ≤ signed neg y ∧ signed neg y < ((signedInt neg K : Int) : ℝ) + 1
    rw [cast_signedInt]
    cases neg with
    | false =>
      have hKr : (K : ℝ) = c.kept := (hcases.resolve_left fun h => by cases h.1.1).2.2
      show (K : ℝ) ≤ y ∧ y < K + 1
      constructor <;> linarith
    | true =>
      show -(K : ℝ) ≤ -y ∧ -y < -(K : ℝ) + 1
      rcases hcases with ⟨ht, -, hKr⟩ | ⟨ht, -, hKr⟩
      · exact ⟨by linarith, by have := ht.2; linarith⟩
      · have hy : ¬(c.kept : ℝ) < y := fun h => ht ⟨rfl, h⟩
        constructor <;> linarith

theorem rounded_exact_iff {c : Cut} {y : ℝ} (h : CutOf c y) {r : Rnd} {neg : Bool} : (rounded r neg c : ℝ) = y ↔ (c.kept : ℝ) = y := by
  rcases rounded_eq_or h r neg with ⟨ht, hr⟩ | ⟨-, hr⟩
  · rw [hr]
    push_cast
    exact iff_of_false h.lt.ne' fun he => not_takesUpper_of_eq he h.lt ht
  · rw [hr]

/-- What `toIntRange` gives of a number whose rounded value is known. -/
theorem toIntRange_spec {lo hi n k : Int} {d : Nat} {r : Rnd} {s : Bool} {m : Nat} {e : Int} (hd : 0 < d) (hval : dyadic s m e = n / d)
    (hk : RoundsInt r n d k) (hrange : lo ≤ hi) :
    (lo ≤ k → k ≤ hi → toIntRange (lo, hi) r s m e = (k, if k * d = n then 0 else 0x10)) ∧
      (k < lo → toIntRange (lo, hi) r s m e = (lo, 0x11)) ∧ (hi < k → toIntRange (lo, hi) r s m e = (hi, 0x11)) := by
  have hD : (0 : ℝ) < d := by exact_mod_cast hd
  have hcut := cutOf_cutAt (q := 0) (show Stands m e false _ from rfl) fun h => by cases h
  rw [zpow_zero, div_one] at hcut
  have hrounds := roundsWhole_rounded hcut r s
  rw [show signed s (m * 2 ^ e) = n / d from hval] at hrounds
  have hkv : signedInt s (rounded r s (cutAt m e 0 false)) = k := hrounds.unique (roundsWhole_of_roundsInt hd hk)
  have heq : toIntRange (lo, hi) r s m e = if k < lo ∨ hi < k then (clampInt (lo, hi) k, 0x11) else (k, excIf (!(cutAt m e 0 false).exact) 0x10) := by
    rw [← hkv]
    rfl
  have hexact : (cutAt m e 0 false).exact = true ↔ k * d = n := by
    have h1 : k * d = n ↔ signed s (rounded r s (cutAt m e 0 false)) = signed s (m * 2 ^ e) := by
      rw [← cast_signedInt, hkv, show signed s (m * 2 ^ e) = n / d from hval, eq_div_iff hD.ne']
      exact_mod_cast Iff.rfl
    rw [h1, signed_inj, rounded_exact_iff hcut, hcut.exact, eq_comm]
  rw [heq]
  refine ⟨fun h1 h2 => ?_, fun h => ?_, fun h => ?_⟩
  · rw [if_neg (by omega)]
    by_cases he : k * d = n
    · rw [if_pos he, hexact.mpr he]
      rfl
    · rw [if_neg he, Bool.eq_false_iff.mpr (mt hexact.mp he)]
      rfl
  · rw [if_pos (.inl h), clampInt, min_eq_right (by omega), max_eq_left h.le]
  · rw [if_pos (.inr h), clampInt, min_eq_left h.le, max_eq_right hrange]

end Sys2Proof.Machine

/-! Proofs about conversions of IEEE values (R112, R171 to R176). -/
namespace Sys2Proof.Machine
open Sys2Proof.Safety

/-! ## IEEE formats into IEEE formats -/

theorem flushes_of_two_le (f : FFmt) {level : Nat} (hl : 2 ≤ level) : flushes f level = false := by
  cases f <;> simp [flushes] <;> omega

theorem rounded_cvtFF {f g : FFmt} {env : FEnv} {c : Nat} (hf : flushes f env.level = false) (hg : flushes g env.level = false) (hc : IsFinite f c) :
    ∃ r, Rounded g env.rnd (units f c * unitsOne g) (unitsOne f) (signOf f c) r ∧ cvtFF f g env c = finishF g env r := by
  obtain ⟨m, e, hr, hv⟩ := readF_finite hf hc
  have hU := unitsOne_pos f
  refine ⟨_, rounded_exact (s := signOf f c) (m := m) (e := e) env.rnd (by exact_mod_cast hU) hg ?_ fun _ => rfl, by rw [cvtFF, hr]⟩
  rw [Int.cast_mul, Int.cast_natCast, ← hv]
  field_simp

/-- A significand with an exponent has a code. -/
theorem exists_code_scaled {f : FFmt} {k j : Nat} (hk : k < 2 ^ (fbits f + 1)) (htop : k * 2 ^ j < 2 ^ (fbits f + 2 * bias f)) :
    ∃ C, C < infOf f false ∧ mag (fbits f) C = k * 2 ^ j := by
  suffices h : ∃ C, mag (fbits f) C = k * 2 ^ j by
    obtain ⟨C, hC⟩ := h
    exact ⟨C, mag_lt_mag (p := fbits f).mp (by rwa [hC, mag_infOf]), hC⟩
  by_cases hk0 : k = 0
  · exact ⟨0, by rw [hk0, Nat.zero_mul, mag_of_le (Nat.zero_le _)]⟩
  · have hlog : Nat.log2 k ≤ fbits f := Nat.lt_succ_iff.mp ((Nat.log2_lt hk0).mpr hk)
    obtain ⟨d, hd⟩ : ∃ d, d = min j (fbits f - Nat.log2 k) := ⟨_, rfl⟩
    have hlt : k * 2 ^ d < 2 ^ (fbits f + 1) := by
      calc _ < 2 ^ (Nat.log2 k + 1) * 2 ^ d := Nat.mul_lt_mul_of_pos_right Nat.lt_log2_self (Nat.two_pow_pos _)
        _ ≤ 2 ^ (fbits f + 1) := by rw [← Nat.pow_add]; exact Nat.pow_le_pow_right (by decide) (by omega)
    have hge : j - d = 0 ∨ 2 ^ fbits f ≤ k * 2 ^ d := by
      by_cases h : j ≤ fbits f - Nat.log2 k
      · exact .inl (by omega)
      · right
        calc 2 ^ fbits f = 2 ^ Nat.log2 k * 2 ^ d := by rw [← Nat.pow_add]; congr 1; omega
          _ ≤ k * 2 ^ d := Nat.mul_le_mul_right _ (Nat.log2_self_le hk0)
    refine ⟨(j - d) * 2 ^ fbits f + k * 2 ^ d, ?_⟩
    rw [mag_add hge hlt.le, Nat.mul_assoc, ← Nat.pow_add]
    congr 2
    omega

/-- A narrower format's values are exact in f32. -/
theorem cvtFF_widening {f : FFmt} {env : FEnv} {c : Nat} (hf : flushes f env.level = false) (hg : flushes .f32 env.level = false) (hc : IsFinite f c)
    (hwide : fbits f < fbits .f32) (hU : ∃ j, unitsOne .f32 = unitsOne f * 2 ^ j ∧ fbits f + 2 * bias f + j ≤ fbits .f32 + 2 * bias .f32) :
    ∃ k, cvtFF f .f32 env c = (k, 0) ∧ IsFinite .f32 k ∧ signOf .f32 k = signOf f c ∧ units .f32 k * unitsOne f = units f c * unitsOne .f32 := by
  obtain ⟨j, hj, htop⟩ := hU
  obtain ⟨i, k, -, -, hk, hmag⟩ := exists_significand (fbits f) (unsignedOf f c)
  have hlt : mag (fbits f) (unsignedOf f c) < 2 ^ (fbits f + 2 * bias f) := by
    rw [← mag_infOf]
    exact mag_lt_mag.mpr (isFinite_iff.mp hc).2
  obtain ⟨C, hC, hCm⟩ := exists_code_scaled (f := .f32) (k := k) (j := i + j) (hk.trans_le (Nat.pow_le_pow_right (by decide) (by omega))) (by
    rw [Nat.pow_add, ← Nat.mul_assoc, ← hmag]
    calc _ < 2 ^ (fbits f + 2 * bias f) * 2 ^ j := Nat.mul_lt_mul_of_pos_right hlt (Nat.two_pow_pos _)
      _ ≤ _ := by rw [← Nat.pow_add]; exact Nat.pow_le_pow_right (by decide) htop)
  have hCm2 : mag (fbits .f32) C = mag (fbits f) (unsignedOf f c) * 2 ^ j := by rw [hCm, hmag, Nat.mul_assoc, ← Nat.pow_add]
  obtain ⟨m, e, hr, hv⟩ := readF_finite hf hc
  have hmU : (m : ℝ) * 2 ^ e * unitsOne f = mag (fbits f) (unsignedOf f c) := by
    rw [← abs_dyadic (signOf f c), ← abs_of_pos (unitsOne_pos f), ← abs_mul, hv, ← Int.cast_abs, abs_units, Int.cast_natCast]
  have hround := roundF_of_code (f := .f32) (level := env.level) (m := m) (e := e) env.rnd (signOf f c) (by
    have h1 := unitsOne_mul .f32
    rw [hCm2, Nat.cast_mul, ← hmU]
    rw [hj] at h1
    push_cast at h1 ⊢
    calc _ = (m : ℝ) * 2 ^ e * 1 := (mul_one _).symm
      _ = _ := by rw [← h1]; ring) hC (.inl hg)
  obtain ⟨hfin, hs, hu⟩ := units_signCode_add (s := signOf f c) hC
  refine ⟨_, ?_, hfin, hs, ?_⟩
  · rw [cvtFF, hr]
    dsimp only
    rw [hround, finishF_of_finite hfin]
  · rw [hu, units_eq_signed_mag f c, hCm2, hj]
    push_cast
    cases signOf f c <;> simp <;> ring

theorem laneUnpk_half (x : LaneIn) (o : Form.DAI) (f : FFmt) (y : LaneOut) (least : Nat)
    (h : (f = .f16 ∧ y = laneUnpkF16 o x ∧ least = 1) ∨ (f = .bf16 ∧ y = laneUnpkBf16 o x ∧ least = 2)) (hl : least ≤ x.level)
    (hc : IsFinite f (halfOf x 0 o.imm)) : ∃ k, y = gives .f32 (k, 0) ∧ IsFinite .f32 k ∧ signOf .f32 k = signOf f (halfOf x 0 o.imm) ∧
      units .f32 k * unitsOne f = units f (halfOf x 0 o.imm) * unitsOne .f32 := by
  obtain ⟨hf, hg, hwide, hU, rfl⟩ : flushes f x.level = false ∧ flushes .f32 x.level = false ∧ fbits f < fbits .f32 ∧
      (∃ j, unitsOne .f32 = unitsOne f * 2 ^ j ∧ fbits f + 2 * bias f + j ≤ fbits .f32 + 2 * bias .f32) ∧
      y = gives .f32 (cvtFF f .f32 (shortEnv x) (halfOf x 0 o.imm)) := by
    rcases h with ⟨rfl, rfl, rfl⟩ | ⟨rfl, rfl, rfl⟩
    · exact ⟨by simp [flushes]; omega, flushes_f32 hl, by decide, ⟨125, by decide, by decide⟩, rfl⟩
    · exact ⟨by simp [flushes]; omega, flushes_f32 (by omega), by decide, ⟨16, by decide, by decide⟩, rfl⟩
  obtain ⟨k, hk, hrest⟩ := cvtFF_widening (env := shortEnv x) hf hg hc hwide hU
  exact ⟨k, by rw [hk], hrest⟩

/-! ## PACK and SCALE -/

theorem lanePack_half (x : LaneIn) (f : FFmt) (t : Tag) (y : LaneOut) (least : Nat)
    (h : (f = .f16 ∧ t = .f16x2 ∧ y = lanePackF16 x ∧ least = 1) ∨ (f = .bf16 ∧ t = .bf16x2 ∧ y = lanePackBf16 x ∧ least = 2))
    (hl : least ≤ x.level) (h0 : IsFinite .f32 (x.n 0)) (h1 : IsFinite .f32 (x.n 1)) :
    ∃ r q, Rounded f .rne (units .f32 (x.n 0) * unitsOne f) (unitsOne .f32) (signOf .f32 (x.n 0)) r ∧
      Rounded f .rne (units .f32 (x.n 1) * unitsOne f) (unitsOne .f32) (signOf .f32 (x.n 1)) q ∧ y = givesLanes t r q := by
  obtain ⟨hcodes, hf, hg, hy⟩ : 1 + ebits f + fbits f = 16 ∧ flushes f x.level = false ∧ flushes .f32 x.level = false ∧
      y = wordExc (lanes2 fun i => cvtFF .f32 f ⟨if f = .bf16 ∧ x.level = 0 then .rz else .rne, false, x.level⟩ (x.n i)) t := by
    rcases h with ⟨rfl, rfl, rfl, rfl⟩ | ⟨rfl, rfl, rfl, rfl⟩
    · exact ⟨rfl, by simp [flushes]; omega, flushes_f32 hl, rfl⟩
    · exact ⟨rfl, by simp [flushes]; omega, flushes_f32 (by omega), rfl⟩
  have hlevel : x.level ≠ 0 := by
    rintro h0
    rw [h0] at hg
    cases hg
  rw [if_neg fun h' => hlevel h'.2] at hy
  obtain ⟨r, hr, hre⟩ := rounded_cvtFF (env := ⟨.rne, false, x.level⟩) hg hf h0
  obtain ⟨q, hq, hqe⟩ := rounded_cvtFF (env := ⟨.rne, false, x.level⟩) hg hf h1
  exact ⟨r, q, hr, hq, hy.trans (wordExc_lanes2 t hre hqe (hcodes ▸ Rounded.lt hr))⟩

theorem laneScale_spec (x : LaneIn) : (x.n 1 % 2 ^ 8 = 0xFF → laneScale x = gives .f32 (0x7FC00000, 0x40)) ∧
    (x.n 1 % 2 ^ 8 ≠ 0xFF → 0 < x.level → IsFinite .f32 (x.n 0) →
      ∃ r, Rounded .f32 .rne (units .f32 (x.n 0) * 2 ^ (x.n 1 % 2 ^ 8)) (2 ^ 127) (signOf .f32 (x.n 0)) r ∧ laneScale x = gives .f32 r) := by
  have hlane : laneScale x = gives .f32 (scaleF32 x.level (x.n 0) (x.n 1 % 2 ^ 8)) := rfl
  rw [hlane]
  refine ⟨fun h => by rw [scaleF32, if_pos h]; rfl, fun h hl hc => ?_⟩
  obtain ⟨m, e, hr, hv⟩ := readF_finite (flushes_f32 hl) hc
  refine ⟨_, rounded_exact (s := signOf .f32 (x.n 0)) (m := m) (e := e + (x.n 1 % 2 ^ 8 : Nat) - 127) .rne (Nat.two_pow_pos _) (flushes_f32 hl) ?_
    fun _ => rfl, by rw [scaleF32, if_neg h, hr]; rfl⟩
  generalize x.n 1 % 2 ^ 8 = E
  have h2 : (2 : ℝ) ≠ 0 := two_ne_zero
  have hscale : dyadic (signOf .f32 (x.n 0)) m (e + (E : Nat) - 127) = dyadic (signOf .f32 (x.n 0)) m e * 2 ^ E / 2 ^ 127 := by
    rw [dyadic, dyadic, zpow_sub₀ h2, zpow_add₀ h2, zpow_natCast]
    cases signOf .f32 (x.n 0) <;> simp [signed] <;> ring
  rw [hscale]
  push_cast
  rw [← hv]
  ring

end Sys2Proof.Machine

/-! Proofs about CVT of an IEEE value into IEEE and integer formats (R110, R171, R172). -/
namespace Sys2Proof.Machine
open Sys2Proof.Safety

/-- The IEEE sources of CVT. -/
def IeeeSource (x : LaneIn) (sf : Nat) (f : FFmt) (c : Nat) : Prop :=
  (sf, f, c) ∈ [(8, FFmt.f32, x.n 0), (9, .f64, pairCode x 0), (10, .f16, halfOf x 0 0), (11, .bf16, halfOf x 0 0)]

/-- CVT of an IEEE value where the level-0 rule does not act. -/
theorem cvtLane_ieee {o : Form.Cvt} {x : LaneIn} {f : FFmt} {c : Nat} (hl : 2 ≤ x.level) (h : IeeeSource x o.sf f c) :
    laneCvt o x = if o.df < 8 then intOut o.df (cvtFI f (intRange (intOf o.df).1 (intOf o.df).2) (envOf o.rnd o.sat x.level) c)
      else if o.df < 12 then codeOut o.df (cvtFF f (floatOf o.df) (envOf o.rnd o.sat x.level) c)
      else codeOut o.df (cvtFT f (taperedBits o.df) (envOf o.rnd o.sat x.level) 0 c) := by
  have hhalf : halfOf x 0 0 = x.n 0 % 2 ^ 16 := by rw [halfOf, Nat.mul_zero, Nat.pow_zero, Nat.div_one]
  have hne : ¬(o.df = 11 ∧ o.sf = 8 ∧ x.level = 0) := by omega
  rw [IeeeSource, hhalf] at h
  simp only [List.mem_cons, Prod.mk.injEq, List.not_mem_nil, or_false] at h
  rw [laneCvt, cvtLane, q64_eq]
  rcases h with ⟨hs, rfl, rfl⟩ | ⟨hs, rfl, rfl⟩ | ⟨hs, rfl, rfl⟩ | ⟨hs, rfl, rfl⟩
  all_goals
    simp only [if_neg hne]
    simp only [hs]
    rfl

section
variable {x : LaneIn} {o : Form.Cvt} {f : FFmt} {c : Nat} (hl : 2 ≤ x.level) (hsrc : IeeeSource x o.sf f c)
include hl hsrc

theorem laneCvt_ieee_float {m : Rnd} (hm : modeOf o.rnd m) (hc : IsFinite f c) {g : FFmt} {t : Tag}
    (h : (o.df, g, t) ∈ [(8, FFmt.f32, Tag.f32), (10, .f16, .f16x2), (11, .bf16, .bf16x2)]) :
    ∃ r, Rounded g m (units f c * unitsOne g) (unitsOne f) (signOf f c) r ∧ laneCvt o x = gives t (saturated g o.sat r.1, r.2) := by
  obtain ⟨r, hr, hre⟩ := rounded_cvtFF (env := envOf o.rnd o.sat x.level) (flushes_of_two_le f hl) (flushes_of_two_le g hl) hc
  rw [finishF_eq (sat := o.sat) rfl] at hre
  rw [← rndOf_of_mode hm, cvtLane_ieee hl hsrc]
  refine ⟨r, hr, ?_⟩
  rw [← hre]
  simp only [List.mem_cons, Prod.mk.injEq, List.not_mem_nil, or_false] at h
  rcases h with ⟨hd, rfl, rfl⟩ | ⟨hd, rfl, rfl⟩ | ⟨hd, rfl, rfl⟩ <;> rw [hd] <;> rfl

theorem laneCvt_ieee_f64 {m : Rnd} (hm : modeOf o.rnd m) (hc : IsFinite f c) (h : o.df = 9) :
    ∃ r, Rounded .f64 m (units f c * unitsOne .f64) (unitsOne f) (signOf f c) r ∧ laneCvt o x = givesPair (saturated .f64 o.sat r.1, r.2) := by
  obtain ⟨r, hr, hre⟩ := rounded_cvtFF (g := .f64) (env := envOf o.rnd o.sat x.level) (flushes_of_two_le f hl) rfl hc
  rw [finishF_eq (sat := o.sat) rfl] at hre
  rw [← rndOf_of_mode hm, cvtLane_ieee hl hsrc, h]
  refine ⟨r, hr, ?_⟩
  rw [← hre, ← twoF_eq]
  rfl

theorem laneCvt_ieee_int {m : Rnd} (hm : modeOf o.rnd m) (hc : IsFinite f c) {lo hi k : Int} {t : Tag}
    (h : (o.df, lo, hi, t) ∈ [(0, -2 ^ 31, 2 ^ 31 - 1, Tag.i32), (1, 0, 2 ^ 32 - 1, .n32), (4, -2 ^ 15, 2 ^ 15 - 1, .i32),
      (5, 0, 2 ^ 16 - 1, .n32), (6, -2 ^ 7, 2 ^ 7 - 1, .i32), (7, 0, 2 ^ 8 - 1, .n32)]) (hk : RoundsInt m (units f c) (unitsOne f) k) :
    (lo ≤ k → k ≤ hi → laneCvt o x = { regs := [⟨BitVec.ofInt 32 k, t⟩], exc := if k * unitsOne f = units f c then 0 else 0x10 }) ∧
      (k < lo → laneCvt o x = { regs := [⟨BitVec.ofInt 32 lo, t⟩], exc := 0x11 }) ∧
      (hi < k → laneCvt o x = { regs := [⟨BitVec.ofInt 32 hi, t⟩], exc := 0x11 }) := by
  obtain ⟨n, hmem⟩ : ∃ n, (o.df, lo, hi, n, t) ∈ [(0, -2 ^ 31, 2 ^ 31 - 1, 32, Tag.i32), (1, 0, 2 ^ 32 - 1, 32, .n32),
      (4, -2 ^ 15, 2 ^ 15 - 1, 16, .i32), (5, 0, 2 ^ 16 - 1, 16, .n32), (6, -2 ^ 7, 2 ^ 7 - 1, 8, .i32), (7, 0, 2 ^ 8 - 1, 8, .n32)] := by
    simp only [List.mem_cons, Prod.mk.injEq, List.not_mem_nil, or_false] at h ⊢
    rcases h with h | h | h | h | h | h
    · exact ⟨32, by simp [h]⟩
    · exact ⟨32, by simp [h]⟩
    · exact ⟨16, by simp [h]⟩
    · exact ⟨16, by simp [h]⟩
    · exact ⟨8, by simp [h]⟩
    · exact ⟨8, by simp [h]⟩
  have hle : lo ≤ hi := by
    simp only [List.mem_cons, Prod.mk.injEq, List.not_mem_nil, or_false] at h
    omega
  obtain ⟨hlt, -, hsize, hrange, hout⟩ := intFormat_of_mem hmem
  obtain ⟨v, e, hr, hv⟩ := readF_finite (flushes_of_two_le f hl) hc
  have hU := unitsOne_pos f
  obtain ⟨hin, hlow, hhigh⟩ := toIntRange_spec (s := signOf f c) (m := v) (e := e) (by exact_mod_cast hU)
    (by rw [eq_div_iff hU.ne', hv]) hk hle
  have heq : laneCvt o x = oneExc (BitVec.ofInt 32 (toIntRange (lo, hi) m (signOf f c) v e).1) t (toIntRange (lo, hi) m (signOf f c) v e).2 := by
    rw [cvtLane_ieee hl hsrc, if_pos hlt, hout, hsize, hrange, cvtFI, show (envOf o.rnd o.sat x.level).level = x.level from rfl, hr,
      ← rndOf_of_mode hm]
    rfl
  exact ⟨fun h1 h2 => by rw [heq, hin h1 h2]; rfl, fun h1 => by rw [heq, hlow h1]; rfl, fun h1 => by rw [heq, hhigh h1]; rfl⟩

/-- CVT of a NaN and of an infinity. -/
theorem laneCvt_ieee_special :
    (IsNan f c → ((o.df = 0 → laneCvt o x = gives .i32 (0, 1)) ∧ (o.df = 12 → laneCvt o x = gives .tf8x4 (0x80, 1)) ∧
      (o.df = 13 → laneCvt o x = gives .tf6x5 (0x20, 1)))) ∧
    (c % 2 ^ (ebits f + fbits f) = infOf f false → (o.df = 0 → laneCvt o x = gives .i32 (if signOf f c then 2 ^ 31 else 2 ^ 31 - 1, 0x11)) ∧
      (o.df = 12 → laneCvt o x = gives .tf8x4 (if signOf f c then 0xFF else 0x7F, 0x10)) ∧
      (o.df = 13 → laneCvt o x = gives .tf6x5 (if signOf f c then 0x3F else 0x1F, 0x10))) := by
  have hfl := flushes_of_two_le f hl
  have hlevel : (envOf o.rnd o.sat x.level).level = x.level := rfl
  have hne : x.level ≠ 0 := by omega
  rw [cvtLane_ieee hl hsrc, cvtFI, cvtFT, hlevel]
  refine ⟨fun h => ?_, fun h => ?_⟩
  · obtain ⟨fr, hr⟩ := readF_nan hfl h
    rw [hr]
    refine ⟨fun hd => ?_, fun hd => ?_, fun hd => ?_⟩ <;> rw [hd] <;> rfl
  · rw [readF_inf hfl h]
    refine ⟨fun hd => ?_, fun hd => ?_, fun hd => ?_⟩ <;> rw [hd]
    · cases signOf f c <;> rfl
    · cases signOf f c <;> simp [infTapered, hne] <;> rfl
    · cases signOf f c <;> simp [infTapered, hne] <;> rfl

end

end Sys2Proof.Machine

/-! Proofs about tapered formats (R98, R100): the place of a magnitude among the tapered codes of every length. -/
namespace Sys2Proof.Machine
open Sys2Proof.Safety

/-! ## The place of a magnitude -/

/-- The place of the power of two `2^ex`, a fraction of all codes: its regime and exponent bits with zeros after them. -/
noncomputable def powerPlace (ex : Int) : ℝ :=
  if 0 ≤ ex then 1 - 2 ^ (-(ex / 2) - 1) + (ex % 2 : Int) * 2 ^ (-(ex / 2) - 3) else (2 + (ex % 2 : Int)) * 2 ^ (ex / 2 - 2)

/-- The width of the places of a binade. -/
noncomputable def binadeWidth (ex : Int) : ℝ := if 0 ≤ ex then 2 ^ (-(ex / 2) - 3) else 2 ^ (ex / 2 - 2)

theorem binadeWidth_pos (ex : Int) : 0 < binadeWidth ex := by
  rw [binadeWidth]
  split <;> positivity

/-- Binades follow one another without a gap. -/
theorem powerPlace_succ (ex : Int) : powerPlace (ex + 1) = powerPlace ex + binadeWidth ex := by
  have h2 : (2 : ℝ) ≠ 0 := two_ne_zero
  rw [powerPlace, powerPlace, binadeWidth]
  obtain ⟨q, rfl | rfl⟩ := Int.even_or_odd' ex
  · rw [show (2 * q + 1) / 2 = q by omega, show (2 * q + 1) % 2 = 1 by omega, show 2 * q / 2 = q by omega, show 2 * q % 2 = 0 by omega]
    by_cases h : 0 ≤ 2 * q
    · rw [if_pos (show 0 ≤ 2 * q + 1 by omega), if_pos h, if_pos h]
      push_cast
      ring
    · rw [if_neg (show ¬0 ≤ 2 * q + 1 by omega), if_neg h, if_neg h]
      push_cast
      ring
  · rw [show (2 * q + 1 + 1) / 2 = q + 1 by omega, show (2 * q + 1 + 1) % 2 = 0 by omega, show (2 * q + 1) / 2 = q by omega,
      show (2 * q + 1) % 2 = 1 by omega]
    by_cases h : 0 ≤ 2 * q + 1
    · rw [if_pos (show 0 ≤ 2 * q + 1 + 1 by omega), if_pos h, if_pos h, show -q - 1 = (-q - 3) + 2 by ring, show -(q + 1) - 1 = (-q - 3) + 1 by ring,
        zpow_add₀ h2, zpow_add₀ h2]
      push_cast
      norm_num
      ring
    · by_cases h0 : q = -1
      · rw [h0]
        norm_num
      · rw [if_neg (show ¬0 ≤ 2 * q + 1 + 1 by omega), if_neg h, if_neg h, show q + 1 - 2 = (q - 2) + 1 by ring, zpow_add₀ h2]
        push_cast
        ring

theorem powerPlace_strictMono : StrictMono powerPlace :=
  strictMono_int_of_lt_succ fun ex => by
    rw [powerPlace_succ]
    exact lt_add_of_pos_right _ (binadeWidth_pos ex)

/-- The place of a magnitude, a fraction of all codes: the bits that R98 writes for it, however many. -/
noncomputable def magPlace (v : ℝ) : ℝ := powerPlace (Int.log 2 v) + (v / 2 ^ Int.log 2 v - 1) * binadeWidth (Int.log 2 v)

theorem log_eq_of_binade {v : ℝ} {ex : Int} (hlo : 2 ^ ex ≤ v) (hhi : v < 2 ^ (ex + 1)) : Int.log 2 v = ex := by
  have hv : 0 < v := (by positivity : (0 : ℝ) < 2 ^ ex).trans_le hlo
  have h1 := (Int.zpow_le_iff_le_log (b := 2) one_lt_two hv).mp (by exact_mod_cast hlo)
  have h2 := (Int.lt_zpow_iff_log_lt (b := 2) one_lt_two hv).mp (by exact_mod_cast hhi)
  omega

theorem powerPlace_pos (ex : Int) : 0 < powerPlace ex := by
  have hmod : (0 : ℝ) ≤ (ex % 2 : Int) := by exact_mod_cast Int.emod_nonneg _ two_ne_zero
  rw [powerPlace]
  split
  · have h1 : (2 : ℝ) ^ (-(ex / 2) - 1) < 1 := zpow_lt_one_of_neg₀ one_lt_two (by omega)
    have h2 : (0 : ℝ) ≤ (ex % 2 : Int) * 2 ^ (-(ex / 2) - 3) := by positivity
    linarith
  · positivity

theorem magPlace_pos {v : ℝ} (hv : 0 < v) : 0 < magPlace v := by
  have hlo : (2 : ℝ) ^ Int.log 2 v ≤ v := by exact_mod_cast Int.zpow_log_le_self (b := 2) one_lt_two hv
  have h : 0 ≤ v / 2 ^ Int.log 2 v - 1 := by
    rw [sub_nonneg, le_div_iff₀ (by positivity), one_mul]
    exact hlo
  exact add_pos_of_pos_of_nonneg (powerPlace_pos _) (mul_nonneg h (binadeWidth_pos _).le)

theorem magPlace_lt {v w : ℝ} (hv : 0 < v) (h : v < w) : magPlace v < magPlace w := by
  have hw := hv.trans h
  have hle : Int.log 2 v ≤ Int.log 2 w := Int.log_mono_right hv h.le
  have hvlo : (2 : ℝ) ^ Int.log 2 v ≤ v := by exact_mod_cast Int.zpow_log_le_self (b := 2) one_lt_two hv
  have hwlo : (2 : ℝ) ^ Int.log 2 w ≤ w := by exact_mod_cast Int.zpow_log_le_self (b := 2) one_lt_two hw
  have hvhi : v < (2 : ℝ) ^ (Int.log 2 v + 1) := by exact_mod_cast Int.lt_zpow_succ_log_self (b := 2) one_lt_two v
  have hW := binadeWidth_pos (Int.log 2 v)
  have hW2 := binadeWidth_pos (Int.log 2 w)
  rw [magPlace, magPlace]
  rcases hle.lt_or_eq with hlt | heq
  · have h1 : v / 2 ^ Int.log 2 v - 1 < 1 := by
      rw [sub_lt_iff_lt_add, div_lt_iff₀ (by positivity)]
      rw [zpow_add₀ two_ne_zero, zpow_one] at hvhi
      linarith
    have h2 : 0 ≤ w / 2 ^ Int.log 2 w - 1 := by
      rw [sub_nonneg, le_div_iff₀ (by positivity), one_mul]
      exact hwlo
    have h3 := powerPlace_strictMono.monotone (show Int.log 2 v + 1 ≤ Int.log 2 w from hlt)
    rw [powerPlace_succ] at h3
    nlinarith
  · rw [heq]
    have h1 : v / 2 ^ Int.log 2 w < w / 2 ^ Int.log 2 w := by gcongr
    nlinarith

theorem magPlace_lt_iff {v w : ℝ} (hv : 0 < v) (hw : 0 < w) : magPlace v < magPlace w ↔ v < w := by
  refine ⟨fun h => ?_, magPlace_lt hv⟩
  by_contra hle
  rcases (not_lt.mp hle).lt_or_eq with h1 | h1
  · exact h.not_gt (magPlace_lt hw h1)
  · rw [h1] at h
    exact lt_irrefl _ h

theorem magPlace_le_iff {v w : ℝ} (hv : 0 < v) (hw : 0 < w) : magPlace v ≤ magPlace w ↔ v ≤ w := by
  rw [← not_lt, ← not_lt, magPlace_lt_iff hw hv]

end Sys2Proof.Machine

/-! Proofs about rounding on the tapered code (R100, R119, R120). -/
namespace Sys2Proof.Machine
open Sys2Proof.Safety

/-! ## The bits of a magnitude -/

/-- The bits that R98 writes for `m × 2^e`, regime, exponent and fraction, as a number with its length. -/
def taperedString (m : Nat) (e : Int) : Nat × Nat :=
  let n := Nat.log2 m
  let ex := (n : Int) + e
  let reg := ex / 2
  let regBits := if 0 ≤ reg then (2 ^ (reg.toNat + 1) - 1) * 2 else 1
  let regLen := if 0 ≤ reg then reg.toNat + 2 else (-reg).toNat + 1
  ((regBits * 2 + (ex % 2).toNat) * 2 ^ n + (m - 2 ^ n), regLen + 1 + n)

theorem magPlace_eq_string {m : Nat} (hm : m ≠ 0) (e : Int) : magPlace (m * 2 ^ e) = (taperedString m e).1 / 2 ^ (taperedString m e).2 := by
  have h2 : (2 : ℝ) ≠ 0 := two_ne_zero
  have hst : Stands m e false ((m : ℝ) * 2 ^ e) := rfl
  obtain ⟨hlo, hhi⟩ := hst.binade hm
  rw [magPlace, log_eq_of_binade hlo hhi, taperedString]
  dsimp only
  have hfrac : ((m - 2 ^ Nat.log2 m : Nat) : ℝ) = m - 2 ^ Nat.log2 m := by
    rw [Nat.cast_sub (Nat.log2_self_le hm)]
    push_cast
    rfl
  have hv : (m : ℝ) * 2 ^ e / 2 ^ ((Nat.log2 m : Int) + e) = m / 2 ^ Nat.log2 m := by
    rw [zpow_add₀ h2, zpow_natCast]
    field_simp
  rw [hv]
  generalize Nat.log2 m = n at *
  generalize (n : Int) + e = ex
  have heb : (((ex % 2).toNat : Nat) : ℝ) = ((ex % 2 : Int) : ℝ) := by
    rw [← Int.cast_natCast, Int.toNat_of_nonneg (Int.emod_nonneg _ two_ne_zero)]
  rw [powerPlace, binadeWidth]
  by_cases h : 0 ≤ ex
  · obtain ⟨R, hR⟩ := Int.eq_ofNat_of_zero_le (show 0 ≤ ex / 2 by omega)
    have hone : 1 ≤ 2 ^ (R + 1) := Nat.one_le_two_pow
    rw [if_pos h, if_pos h, hR, if_pos (Int.natCast_nonneg R), if_pos (Int.natCast_nonneg R), Int.toNat_natCast]
    push_cast [Nat.cast_sub hone, hfrac, heb]
    rw [zpow_sub₀ h2, zpow_sub₀ h2, zpow_neg, zpow_natCast]
    field_simp
    ring
  · obtain ⟨R, hR⟩ := Int.eq_ofNat_of_zero_le (show 0 ≤ -(ex / 2) by omega)
    have hneg : ex / 2 = -(R : Int) := by omega
    have hR0 : ¬0 ≤ -(R : Int) := by omega
    rw [if_neg h, if_neg h, hneg, if_neg hR0, if_neg hR0, neg_neg, Int.toNat_natCast]
    push_cast [hfrac, heb]
    rw [zpow_sub₀ h2, zpow_neg, zpow_natCast]
    field_simp
    ring

/-- The value of every tapered code stands in the place of its bits. -/
theorem taperedString_units : ∀ w ∈ [5, 6, 7, 8], ∀ c < 2 ^ w, c ≠ 0 → taperedUnits w c ≠ 0 ∧
    (taperedString (taperedUnits w c) (-64)).1 * 2 ^ w = c * 2 ^ (taperedString (taperedUnits w c) (-64)).2 := by
  decide +kernel

end Sys2Proof.Machine

/-! Proofs about conversions into tapered formats (R100, R119, R120). -/
namespace Sys2Proof.Machine
open Sys2Proof.Safety

/-! ## What the statement asks for, by the place among the codes -/

/-- The magnitude field and the exceptions of a value that stands at `A` among the codes of `w` bits. -/
def TapersAt (w level : Nat) (r : Rnd) (neg : Bool) (A : ℝ) (k : Nat) (e : Exc) : Prop :=
  (((2 ^ w - 1 : Nat) : ℝ) ≤ A → k = 2 ^ w - 1 ∧ (A = (2 ^ w - 1 : Nat) → e = 0) ∧ (A ≠ (2 ^ w - 1 : Nat) → e = 0x10)) ∧
  (∀ c : Nat, 1 ≤ c → c + 1 < 2 ^ w → (c : ℝ) ≤ A → A < c + 1 →
    (A = c → k = c ∧ e = 0) ∧
    (A ≠ c → e = 0x10 ∧ (TakesUpper r neg (c % 2 == 1) c (c + 1) A → k = c + 1) ∧ (¬TakesUpper r neg (c % 2 == 1) c (c + 1) A → k = c))) ∧
  (A < 1 → e = 0x18 ∧ (level = 0 → k = 1) ∧ (level = 1 → k = 0) ∧
    (2 ≤ level → (TakesUpper r neg false 0 1 A → k = 1) ∧ (¬TakesUpper r neg false 0 1 A → k = 0)))

/-- Whether a code is rounded up: the midpoint's code is one bit longer (R100). -/
def TapersUp (w : Nat) (r : Rnd) (neg : Bool) (n d c : Nat) : Prop :=
  match r with
  | .rne => taperedUnits (w + 1) (2 * c + 1) * d < n ∨ (taperedUnits (w + 1) (2 * c + 1) * d = n ∧ c % 2 = 1)
  | .rna => taperedUnits (w + 1) (2 * c + 1) * d ≤ n
  | .rz => False
  | .rp => neg = false
  | .rm => neg = true

theorem tapers_eq (w level : Nat) (r : Rnd) (neg : Bool) (n d k : Nat) (e : Exc) : Tapers w level r neg n d k e ↔
    (taperedUnits w (2 ^ w - 1) * d ≤ n → k = 2 ^ w - 1 ∧ e = if taperedUnits w (2 ^ w - 1) * d = n then 0 else 0x10) ∧
    (∀ c, 1 ≤ c → c + 1 < 2 ^ w → taperedUnits w c * d ≤ n → n < taperedUnits w (c + 1) * d →
      (taperedUnits w c * d = n → k = c ∧ e = 0) ∧
      (taperedUnits w c * d ≠ n → e = 0x10 ∧ (TapersUp w r neg n d c → k = c + 1) ∧ (¬TapersUp w r neg n d c → k = c))) ∧
    (n < taperedUnits w 1 * d → e = 0x18 ∧ (level = 0 → k = 1) ∧ (level = 1 → k = 0) ∧
      (2 ≤ level → (TapersUp w r neg n d 0 → k = 1) ∧ (¬TapersUp w r neg n d 0 → k = 0))) := Iff.rfl

theorem eq_ite_iff_of {α : Type} {p q : Prop} [Decidable p] (h : p ↔ q) (x a b : α) : x = (if p then a else b) ↔ (q → x = a) ∧ (¬q → x = b) := by
  rw [← h]
  by_cases hp : p <;> simp [hp]

section
variable {n d : Nat} {v : ℝ} (hd : 0 < d) (hv : 0 < v) (hnd : (n : ℝ) / d = v * 2 ^ 64)
include hd hv hnd

/-- The codes of one length stand in the order of their values. -/
theorem taperedUnits_compare {w c : Nat} (hw : w ∈ [5, 6, 7, 8]) (hc : c < 2 ^ w) (h0 : c ≠ 0) :
    (taperedUnits w c * d ≤ n ↔ (c : ℝ) ≤ magPlace v * 2 ^ w) ∧ (n ≤ taperedUnits w c * d ↔ magPlace v * 2 ^ w ≤ c) := by
  obtain ⟨hT, hstring⟩ := taperedString_units w hw c hc h0
  have hD : (0 : ℝ) < d := by exact_mod_cast hd
  have hTpos : (0 : ℝ) < taperedUnits w c := by exact_mod_cast Nat.pos_of_ne_zero hT
  have hTv : (0 : ℝ) < taperedUnits w c * 2 ^ (-64 : Int) := by positivity
  have hW : (0 : ℝ) < 2 ^ w := by positivity
  have hplace : magPlace (taperedUnits w c * 2 ^ (-64 : Int)) = c / 2 ^ w := by
    rw [magPlace_eq_string hT, div_eq_div_iff (by positivity) hW.ne']
    exact_mod_cast hstring
  have hn : (n : ℝ) = v * 2 ^ 64 * d := by rw [← hnd, div_mul_cancel₀ _ hD.ne']
  have h64 : (2 : ℝ) ^ (-64 : Int) * 2 ^ 64 = 1 := by norm_num
  have hmul : ∀ x y : ℝ, x * 2 ^ 64 * d ≤ y * 2 ^ 64 * d ↔ x ≤ y := fun x y => by
    rw [mul_le_mul_iff_left₀ hD, mul_le_mul_iff_left₀ (by positivity)]
  have hcast : ((taperedUnits w c * d : Nat) : ℝ) = taperedUnits w c * 2 ^ (-64 : Int) * 2 ^ 64 * d := by
    rw [mul_assoc (_ : ℝ) _ (2 ^ 64), h64, mul_one, Nat.cast_mul]
  constructor
  · rw [← div_le_iff₀ hW, ← hplace, magPlace_le_iff hTv hv, ← hmul, ← hcast, ← hn]
    exact Nat.cast_le.symm
  · rw [← le_div_iff₀ hW, ← hplace, magPlace_le_iff hv hTv, ← hmul, ← hcast, ← hn]
    exact Nat.cast_le.symm

theorem tapers_iff {w level : Nat} (hw : w ∈ [5, 7]) (r : Rnd) (neg : Bool) (k : Nat) (e : Exc) :
    Tapers w level r neg n d k e ↔ TapersAt w level r neg (magPlace v * 2 ^ w) k e := by
  have hw4 : w ∈ [5, 6, 7, 8] := by simp at hw ⊢; omega
  have hw14 : w + 1 ∈ [5, 6, 7, 8] := by simp at hw ⊢; omega
  have hP : 2 ≤ 2 ^ w := by simp at hw; rcases hw with rfl | rfl <;> decide
  have hpow : (2 : ℝ) ^ (w + 1) = 2 * 2 ^ w := pow_succ' 2 w
  have hle := fun {c : Nat} (hc : c < 2 ^ w) (h0 : c ≠ 0) => (taperedUnits_compare hd hv hnd hw4 hc h0).1
  have hge := fun {c : Nat} (hc : c < 2 ^ w) (h0 : c ≠ 0) => (taperedUnits_compare hd hv hnd hw4 hc h0).2
  have heq := fun {c : Nat} (hc : c < 2 ^ w) (h0 : c ≠ 0) => show taperedUnits w c * d = n ↔ magPlace v * 2 ^ w = c by
    rw [le_antisymm_iff, hle hc h0, hge hc h0, le_antisymm_iff, and_comm]
  have hlt := fun {c : Nat} (hc : c < 2 ^ w) (h0 : c ≠ 0) => show n < taperedUnits w c * d ↔ magPlace v * 2 ^ w < c by
    rw [← not_le, hle hc h0, not_le]
  have hmid := fun {c : Nat} (hc : c < 2 ^ w) => taperedUnits_compare (c := 2 * c + 1) hd hv hnd hw14 (by rw [Nat.pow_succ]; omega) (by omega)
  have hup : ∀ c : Nat, c < 2 ^ w → (c : ℝ) < magPlace v * 2 ^ w → (TapersUp w r neg n d c ↔ TakesUpper r neg (c % 2 == 1) c (c + 1) (magPlace v * 2 ^ w)) :=
    fun c hc hlt => by
      obtain ⟨h1, h2⟩ := hmid hc
      have hle2 : ((2 * c + 1 : Nat) : ℝ) ≤ magPlace v * 2 ^ (w + 1) ↔ (c : ℝ) + (c + 1) ≤ 2 * (magPlace v * 2 ^ w) := by
        rw [hpow]
        push_cast
        constructor <;> intro h <;> linarith
      have hge2 : magPlace v * 2 ^ (w + 1) ≤ ((2 * c + 1 : Nat) : ℝ) ↔ 2 * (magPlace v * 2 ^ w) ≤ (c : ℝ) + (c + 1) := by
        rw [hpow]
        push_cast
        constructor <;> intro h <;> linarith
      rw [hle2] at h1
      rw [hge2] at h2
      cases r with
      | rne =>
        refine or_congr ?_ (and_congr ?_ (by rw [beq_iff_eq]))
        · rw [← not_le, h2, not_le]
        · rw [le_antisymm_iff, h1, h2, le_antisymm_iff]
      | rna => exact h1
      | rz => exact Iff.rfl
      | rp => exact (and_iff_left hlt).symm
      | rm => exact (and_iff_left hlt).symm
  have hA : 0 < magPlace v * 2 ^ w := by
    have := magPlace_pos hv
    positivity
  rw [tapers_eq, TapersAt]
  refine and_congr (imp_congr (hle (by omega) (by omega)) (and_congr Iff.rfl (eq_ite_iff_of (heq (by omega) (by omega)) _ _ _)))
    (and_congr (forall_congr' fun c => forall_congr' fun h1 => forall_congr' fun h2 => imp_congr_ctx (hle (by omega) (by omega)) fun hcA =>
      imp_congr ?_ (and_congr (imp_congr (heq (by omega) (by omega)) Iff.rfl) (imp_congr_ctx (not_congr (heq (by omega) (by omega))) fun hne => ?_)))
      (imp_congr ?_ ?_))
  · rw [hlt h2 (by omega)]
    push_cast
    rfl
  · rw [hup c (by omega) (lt_of_le_of_ne hcA (Ne.symm hne))]
  · rw [hlt (by omega) one_ne_zero, Nat.cast_one]
  · have h0 := hup 0 (by omega) (by rwa [Nat.cast_zero])
    rw [Nat.cast_zero, zero_add] at h0
    rw [h0]
    rfl

end

/-- The statement fixes the magnitude field and the exceptions. -/
theorem TapersAt.unique {w level : Nat} {r : Rnd} {neg : Bool} {A : ℝ} {k l : Nat} {e g : Exc} (hA : 0 ≤ A) (hk : TapersAt w level r neg A k e)
    (hl : TapersAt w level r neg A l g) : k = l ∧ e = g := by
  by_cases h1 : A < 1
  · obtain ⟨rfl, hk0, hk1, hk2⟩ := hk.2.2 h1
    obtain ⟨rfl, hl0, hl1, hl2⟩ := hl.2.2 h1
    refine ⟨?_, rfl⟩
    rcases show level = 0 ∨ level = 1 ∨ 2 ≤ level by omega with h | h | h
    · rw [hk0 h, hl0 h]
    · rw [hk1 h, hl1 h]
    · by_cases hu : TakesUpper r neg false 0 1 A
      · rw [(hk2 h).1 hu, (hl2 h).1 hu]
      · rw [(hk2 h).2 hu, (hl2 h).2 hu]
  · by_cases htop : ((2 ^ w - 1 : Nat) : ℝ) ≤ A
    · obtain ⟨rfl, he0, he1⟩ := hk.1 htop
      obtain ⟨rfl, hg0, hg1⟩ := hl.1 htop
      refine ⟨rfl, ?_⟩
      by_cases hA : A = (2 ^ w - 1 : Nat)
      · rw [he0 hA, hg0 hA]
      · rw [he1 hA, hg1 hA]
    · have hc0 : 1 ≤ ⌊A⌋₊ := Nat.one_le_floor_iff _ |>.mpr (not_lt.mp h1)
      have hlo := Nat.floor_le hA
      have hhi := Nat.lt_floor_add_one A
      have hc1 : ⌊A⌋₊ < 2 ^ w - 1 := by exact_mod_cast hlo.trans_lt (not_le.mp htop)
      obtain ⟨hke, hkn⟩ := hk.2.1 _ hc0 (by omega) hlo hhi
      obtain ⟨hle, hln⟩ := hl.2.1 _ hc0 (by omega) hlo hhi
      by_cases hA : A = ⌊A⌋₊
      · exact ⟨(hke hA).1.trans (hle hA).1.symm, (hke hA).2.trans (hle hA).2.symm⟩
      · obtain ⟨rfl, hku, hkd⟩ := hkn hA
        obtain ⟨rfl, hlu, hld⟩ := hln hA
        refine ⟨?_, rfl⟩
        by_cases hu : TakesUpper r neg (⌊A⌋₊ % 2 == 1) ⌊A⌋₊ (⌊A⌋₊ + 1) A
        · rw [hku hu, hlu hu]
        · rw [hkd hu, hld hu]

/-! ## What `roundT` gives -/

/-- A value among the codes, rounded. -/
theorem tapersAt_of_cut {w level : Nat} {r : Rnd} {neg : Bool} {A : ℝ} {c : Cut} (h : CutOf c A) (h1 : 1 ≤ A) (htop : A ≤ (2 ^ w - 1 : Nat)) :
    TapersAt w level r neg A (min (rounded r neg c) (2 ^ w - 1)) (excIf (!c.exact) excInx) := by
  have hle := h.le
  have hlt := h.lt
  have hexact := h.exact
  have hcases := rounded_eq_or h r neg
  have hkept : c.kept ≤ 2 ^ w - 1 := by exact_mod_cast hle.trans htop
  have hwhole : A = c.kept → rounded r neg c = c.kept := fun he => (hcases.resolve_left fun hu => not_takesUpper_of_eq he.symm hlt hu.1).2
  refine ⟨fun hA => ?_, fun d h2 h3 hlo hhi => ?_, fun hA => absurd h1 hA.not_ge⟩
  · have hAe : A = (2 ^ w - 1 : Nat) := le_antisymm htop hA
    have hk : c.kept = 2 ^ w - 1 := le_antisymm hkept (Nat.lt_succ_iff.mp (by
      rw [hAe] at hlt
      exact_mod_cast hlt))
    have hAk : A = c.kept := by rw [hk, hAe]
    refine ⟨by rw [hwhole hAk, hk, min_self], fun _ => by rw [hexact.mpr hAk]; rfl, fun hne => absurd hAe hne⟩
  · obtain rfl : d = c.kept := by
      have h4 : d < c.kept + 1 := by exact_mod_cast hlo.trans_lt hlt
      have h5 : c.kept < d + 1 := by exact_mod_cast hle.trans_lt hhi
      omega
    refine ⟨fun he => ⟨by rw [hwhole he]; exact min_eq_left hkept, by rw [hexact.mpr he]; rfl⟩, fun hne => ⟨?_, fun hu => ?_, fun hu => ?_⟩⟩
    · rw [Bool.eq_false_iff.mpr (mt hexact.mp hne)]
      rfl
    · rw [(hcases.resolve_right fun h => h.1 hu).2]
      exact min_eq_left (by omega)
    · rw [(hcases.resolve_left fun h => hu h.1).2]
      exact min_eq_left hkept

/-- A value below the least code, rounded. -/
theorem tapersAt_below {w level : Nat} {r : Rnd} {neg : Bool} {A : ℝ} {c : Cut} (h : CutOf c A) (h1 : A < 1) (hw : 0 < w) :
    TapersAt w level r neg A (if level = 0 then 1 else if level = 1 then 0 else rounded r neg c) (excUnf ||| excInx) := by
  have hkept : c.kept = 0 := by
    have : c.kept < 1 := by exact_mod_cast h.le.trans_lt h1
    omega
  have hcases := rounded_eq_or h r neg
  rw [hkept, Nat.cast_zero, zero_add, show (0 % 2 == 1) = false from rfl] at hcases
  have hP : 1 ≤ 2 ^ w - 1 := by
    have : 2 ^ 1 ≤ 2 ^ w := Nat.pow_le_pow_right (by decide) hw
    omega
  have hPr : (1 : ℝ) ≤ (2 ^ w - 1 : Nat) := by exact_mod_cast hP
  refine ⟨fun hA => by linarith, fun d h2 _ hlo _ => ?_, fun _ => ⟨rfl, fun h => if_pos h, fun h => ?_, fun h => ?_⟩⟩
  · have : (1 : ℝ) ≤ d := by exact_mod_cast h2
    linarith
  · rw [if_neg (by omega), if_pos h]
  · rw [if_neg (by omega), if_neg (by omega)]
    exact ⟨fun hu => (hcases.resolve_right fun h => h.1 hu).2, fun hu => (hcases.resolve_left fun h => hu h.1).2⟩

theorem magPlace_two_pow (ex : Int) : magPlace (2 ^ ex) = powerPlace ex := by
  have hlog : Int.log 2 ((2 : ℝ) ^ ex) = ex := log_eq_of_binade le_rfl (zpow_lt_zpow_right₀ one_lt_two (by omega))
  rw [magPlace, hlog, div_self (by positivity), sub_self, zero_mul, add_zero]

theorem magPlace_least {w : Nat} (hw : 2 ≤ w) : magPlace (2 ^ (-(2 * (w - 1 : Nat) : Int))) * 2 ^ w = 1 := by
  obtain ⟨q, rfl⟩ : ∃ q, w = q + 1 := ⟨w - 1, by omega⟩
  rw [Nat.add_sub_cancel, magPlace_two_pow, powerPlace, if_neg (by omega), show -(2 * (q : Int)) / 2 = -q by omega,
    show -(2 * (q : Int)) % 2 = 0 by omega, zpow_sub₀ two_ne_zero, zpow_neg, zpow_natCast]
  field_simp
  ring

theorem magPlace_greatest {w : Nat} (hw : 1 ≤ w) : magPlace (2 ^ (2 * (w - 1 : Nat) : Int)) * 2 ^ w = (2 ^ w - 1 : Nat) := by
  obtain ⟨q, rfl⟩ : ∃ q, w = q + 1 := ⟨w - 1, by omega⟩
  rw [Nat.add_sub_cancel, magPlace_two_pow, powerPlace, if_pos (by omega), show (2 * (q : Int)) / 2 = q by omega,
    show (2 * (q : Int)) % 2 = 0 by omega, zpow_sub₀ two_ne_zero, zpow_neg, zpow_natCast, Nat.cast_sub Nat.one_le_two_pow]
  push_cast
  field_simp
  ring

/-- The code of a magnitude field with a sign: zero has none. -/
def signedField (w : Nat) (neg : Bool) (k : Nat) : Nat := if k = 0 then 0 else (if neg then 2 ^ w else 0) + k

section
variable {w level : Nat} {r : Rnd} {neg : Bool} {m : Nat} {e : Int} (hw : 2 ≤ w) (hm : m ≠ 0)

omit hw in
theorem stands_scaled : Stands m e false ((m : ℝ) * 2 ^ e) := rfl

include hm in
theorem scaled_pos : (0 : ℝ) < m * 2 ^ e := mul_pos (by exact_mod_cast Nat.pos_of_ne_zero hm) (by positivity)

include hw hm

theorem magPlace_lt_one (h : (Nat.log2 m : Int) + e < -(2 * (w - 1 : Nat) : Int)) : magPlace (m * 2 ^ e) * 2 ^ w < 1 := by
  rw [← magPlace_least hw, mul_lt_mul_iff_left₀ (by positivity)]
  exact magPlace_lt (scaled_pos hm) ((stands_scaled.binade hm).2.trans_le (zpow_le_zpow_right₀ one_le_two (by omega)))

theorem one_le_magPlace (h : ¬(Nat.log2 m : Int) + e < -(2 * (w - 1 : Nat) : Int)) : 1 ≤ magPlace (m * 2 ^ e) * 2 ^ w := by
  rw [← magPlace_least hw, mul_le_mul_iff_left₀ (by positivity), magPlace_le_iff (by positivity) (scaled_pos hm)]
  exact (zpow_le_zpow_right₀ one_le_two (by omega)).trans (stands_scaled.binade hm).1

theorem greatest_lt_magPlace (h : (2 * (w - 1 : Nat) : Int) < (Nat.log2 m : Int) + e ∨
    ((Nat.log2 m : Int) + e = (2 * (w - 1 : Nat) : Int) ∧ m - 2 ^ Nat.log2 m ≠ 0)) :
    ((2 ^ w - 1 : Nat) : ℝ) < magPlace (m * 2 ^ e) * 2 ^ w := by
  rw [← magPlace_greatest (show 1 ≤ w by omega), mul_lt_mul_iff_left₀ (by positivity)]
  refine magPlace_lt (by positivity) ?_
  rcases h with h | ⟨h, hfrac⟩
  · exact (zpow_lt_zpow_right₀ one_lt_two h).trans_le (stands_scaled.binade hm).1
  · rw [← h, zpow_add₀ two_ne_zero, zpow_natCast]
    have hlt : ((2 ^ Nat.log2 m : Nat) : ℝ) < m := by exact_mod_cast (show 2 ^ Nat.log2 m < m by omega)
    push_cast at hlt
    gcongr

theorem magPlace_le_greatest (h : ¬((2 * (w - 1 : Nat) : Int) < (Nat.log2 m : Int) + e ∨
    ((Nat.log2 m : Int) + e = (2 * (w - 1 : Nat) : Int) ∧ m - 2 ^ Nat.log2 m ≠ 0))) :
    magPlace (m * 2 ^ e) * 2 ^ w ≤ (2 ^ w - 1 : Nat) := by
  rw [← magPlace_greatest (show 1 ≤ w by omega), mul_le_mul_iff_left₀ (by positivity), magPlace_le_iff (scaled_pos hm) (by positivity)]
  rcases (show (Nat.log2 m : Int) + e ≤ 2 * (w - 1 : Nat) by omega).lt_or_eq with hlt | heq
  · exact (stands_scaled.binade hm).2.le.trans (zpow_le_zpow_right₀ one_le_two hlt)
  · have hpow : m = 2 ^ Nat.log2 m := le_antisymm (by omega) (Nat.log2_self_le hm)
    have hcast : (m : ℝ) = 2 ^ Nat.log2 m := by exact_mod_cast hpow
    rw [← heq, zpow_add₀ two_ne_zero, zpow_natCast, ← hcast]

/-- Below the least code the string of the number has more zeros than the field has places. -/
theorem roundT_below (h : (Nat.log2 m : Int) + e < -(2 * (w - 1 : Nat) : Int)) :
    ∃ k x, TapersAt w level r neg (magPlace (m * 2 ^ e) * 2 ^ w) k x ∧ roundT w level r neg m e = (signedField w neg k, x) := by
  obtain ⟨ex, hex⟩ : ∃ ex, ex = (Nat.log2 m : Int) + e := ⟨_, rfl⟩
  obtain ⟨z, hz⟩ : ∃ z, z = (-(ex / 2)).toNat := ⟨_, rfl⟩
  obtain ⟨T, hT⟩ : ∃ T, T = (1 * 2 + (ex % 2).toNat) * 2 ^ Nat.log2 m + (m - 2 ^ Nat.log2 m) := ⟨_, rfl⟩
  have hstr : taperedString m e = (T, z + 1 + 1 + Nat.log2 m) := by
    rw [taperedString, hT, hz, ← hex, if_neg (by omega), if_neg (by omega)]
  have hval : magPlace (m * 2 ^ e) * 2 ^ w = (T : ℝ) / 2 ^ (Nat.log2 m + 2 + (z - w)) := by
    rw [magPlace_eq_string hm e, hstr, div_mul_eq_mul_div, div_eq_div_iff (by positivity) (by positivity), mul_assoc, ← pow_add]
    congr 2
    omega
  have hcut : CutOf (cutBits T (Nat.log2 m + 2 + (z - w)) false) (magPlace (m * 2 ^ e) * 2 ^ w) := by
    rw [hval]
    exact cutOf_cutBits (by show _ = _; rw [zpow_zero, mul_one]) (by omega)
  refine ⟨_, _, tapersAt_below hcut (magPlace_lt_one hw hm h) (by omega), ?_⟩
  rw [roundT, hT, hz]
  dsimp only
  rw [← hex, if_pos (hex ▸ h)]
  rfl

/-- Beyond the greatest code. -/
theorem roundT_beyond (hlow : ¬(Nat.log2 m : Int) + e < -(2 * (w - 1 : Nat) : Int)) (h : (2 * (w - 1 : Nat) : Int) < (Nat.log2 m : Int) + e ∨
    ((Nat.log2 m : Int) + e = (2 * (w - 1 : Nat) : Int) ∧ m - 2 ^ Nat.log2 m ≠ 0)) :
    ∃ k x, TapersAt w level r neg (magPlace (m * 2 ^ e) * 2 ^ w) k x ∧ roundT w level r neg m e = (signedField w neg k, x) := by
  have hbig := greatest_lt_magPlace hw hm h
  refine ⟨2 ^ w - 1, 0x10, ⟨fun _ => ⟨rfl, fun he => absurd he hbig.ne', fun _ => rfl⟩, fun c _ hc _ hhi => ?_,
    fun h => absurd (one_le_magPlace hw hm hlow) h.not_ge⟩, ?_⟩
  · have hlt : ((2 ^ w - 1 : Nat) : ℝ) < (c + 1 : Nat) := by
      push_cast
      exact hbig.trans hhi
    have : 2 ^ w - 1 < c + 1 := by exact_mod_cast hlt
    omega
  · rw [roundT]
    dsimp only
    rw [if_neg hlow, if_pos h]
    rfl

/-- Between the least code and the greatest one the string of the number is cut after the places of the field. -/
theorem roundT_between (hlow : ¬(Nat.log2 m : Int) + e < -(2 * (w - 1 : Nat) : Int)) (hhigh : ¬((2 * (w - 1 : Nat) : Int) < (Nat.log2 m : Int) + e ∨
    ((Nat.log2 m : Int) + e = (2 * (w - 1 : Nat) : Int) ∧ m - 2 ^ Nat.log2 m ≠ 0))) :
    ∃ k x, TapersAt w level r neg (magPlace (m * 2 ^ e) * 2 ^ w) k x ∧ roundT w level r neg m e = (signedField w neg k, x) := by
  have hle := one_le_magPlace hw hm hlow
  have hge := magPlace_le_greatest hw hm hhigh
  have hstring := magPlace_eq_string hm e
  have hround : roundT w level r neg m e = if (taperedString m e).2 ≤ w then
        (signedField w neg ((taperedString m e).1 * 2 ^ (w - (taperedString m e).2)), excNone)
      else (signedField w neg (min (rounded r neg (cutBits (taperedString m e).1 ((taperedString m e).2 - w) false)) (2 ^ w - 1)),
        excIf (!(cutBits (taperedString m e).1 ((taperedString m e).2 - w) false).exact) excInx) := by
    rw [roundT, taperedString]
    dsimp only
    rw [if_neg hlow, if_neg hhigh]
    rfl
  rw [hround]
  generalize (taperedString m e).1 = S at *
  generalize (taperedString m e).2 = len at *
  by_cases hlen : len ≤ w
  · have hval : magPlace (m * 2 ^ e) * 2 ^ w = (S * 2 ^ (w - len) : Nat) := by
      rw [hstring, div_mul_eq_mul_div, div_eq_iff (by positivity)]
      push_cast
      rw [mul_assoc, ← pow_add, Nat.sub_add_cancel hlen]
    have hcut : CutOf ⟨S * 2 ^ (w - len), .lt, true⟩ (magPlace (m * 2 ^ e) * 2 ^ w) := by
      rw [hval]
      exact cutOf_whole (sticky := false) rfl
    have hmax : S * 2 ^ (w - len) ≤ 2 ^ w - 1 := by exact_mod_cast hval.symm.le.trans hge
    refine ⟨_, _, tapersAt_of_cut (level := level) (r := r) (neg := neg) hcut hle hge, ?_⟩
    rw [if_pos hlen, show rounded r neg ⟨S * 2 ^ (w - len), .lt, true⟩ = S * 2 ^ (w - len) from rfl, min_eq_left hmax]
    rfl
  · have hval : magPlace (m * 2 ^ e) * 2 ^ w = (S : ℝ) / 2 ^ (len - w) := by
      rw [hstring, div_mul_eq_mul_div, div_eq_div_iff (by positivity) (by positivity), mul_assoc, ← pow_add]
      congr 2
      omega
    have hcut : CutOf (cutBits S (len - w) false) (magPlace (m * 2 ^ e) * 2 ^ w) := by
      rw [hval]
      exact cutOf_cutBits (by show _ = _; rw [zpow_zero, mul_one]) (by omega)
    exact ⟨_, _, tapersAt_of_cut hcut hle hge, if_neg hlen⟩

/-- `roundT` picks what `TapersAt` says of the place of its number. -/
theorem roundT_spec : ∃ k x, TapersAt w level r neg (magPlace (m * 2 ^ e) * 2 ^ w) k x ∧
    roundT w level r neg m e = (signedField w neg k, x) := by
  by_cases hlow : (Nat.log2 m : Int) + e < -(2 * (w - 1 : Nat) : Int)
  · exact roundT_below hw hm hlow
  · by_cases hhigh : (2 * (w - 1 : Nat) : Int) < (Nat.log2 m : Int) + e ∨ ((Nat.log2 m : Int) + e = (2 * (w - 1 : Nat) : Int) ∧ m - 2 ^ Nat.log2 m ≠ 0)
    · exact roundT_beyond hw hm hlow hhigh
    · exact roundT_between hw hm hlow hhigh

end

end Sys2Proof.Machine

/-! Proofs about tapered results and sources of lanes (R100, R171, R174, R175). -/
namespace Sys2Proof.Machine
open Sys2Proof.Safety

/-! ## Into tapered formats -/

/-- A non-zero number converted into a tapered format. -/
theorem toTapered_spec {w : Nat} {env : FEnv} {neg : Bool} {m n d : Nat} {e : Int} (hw : w ∈ [5, 7]) (hm : m ≠ 0) (hd : 0 < d)
    (hnd : (n : ℝ) / d = m * 2 ^ e * 2 ^ 64) :
    ∃ k x, Tapers w env.level env.rnd neg n d k x ∧ toTapered w env neg m e = (signedField w neg k, x) ∧
      ∀ l y, Tapers w env.level env.rnd neg n d l y → l = k ∧ y = x := by
  have hv : (0 : ℝ) < m * 2 ^ e := mul_pos (by exact_mod_cast Nat.pos_of_ne_zero hm) (by positivity)
  have hA : 0 ≤ magPlace (m * 2 ^ e) * 2 ^ w := mul_nonneg (magPlace_pos hv).le (by positivity)
  have hw2 : 2 ≤ w := by simp at hw; omega
  obtain ⟨k, x, hat, heq⟩ := roundT_spec (level := env.level) (r := env.rnd) (neg := neg) (e := e) hw2 hm
  refine ⟨k, x, (tapers_iff hd hv hnd hw _ _ _ _).mpr hat, by rw [toTapered, if_neg hm, heq], fun l y hl => ?_⟩
  exact ((tapers_iff hd hv hnd hw _ _ _ _).mp hl).unique hA hat

theorem cvtFT_zero {f : FFmt} {w : Nat} {env : FEnv} {scale : Int} {c : Nat} (hfl : flushes f env.level = false) (hc : IsFinite f c)
    (h0 : units f c = 0) : cvtFT f w env scale c = (0, 0) := by
  obtain ⟨m, e, hr, hm, -⟩ := readF_num hfl hc
  rw [cvtFT, hr]
  exact if_pos (hm.mpr h0)

/-- A finite IEEE value other than zero, divided by `2^scale` and converted into a tapered format. -/
theorem cvtFT_spec {f : FFmt} {w : Nat} {env : FEnv} {scale : Int} {c n d : Nat} (hw : w ∈ [5, 7]) (hfl : flushes f env.level = false)
    (hc : IsFinite f c) (h0 : units f c ≠ 0) (hd : 0 < d) (hnd : (n : ℝ) / d = (units f c).natAbs / unitsOne f * 2 ^ (64 - scale)) :
    ∃ k x, Tapers w env.level env.rnd (signOf f c) n d k x ∧ cvtFT f w env scale c = (signedField w (signOf f c) k, x) ∧
      ∀ l y, Tapers w env.level env.rnd (signOf f c) n d l y → l = k ∧ y = x := by
  obtain ⟨m, e, hr, hv⟩ := readF_finite hfl hc
  have hU := unitsOne_pos f
  have hm : m ≠ 0 := fun h => h0 (by
    rw [dyadic_eq_zero.mpr h, zero_mul] at hv
    exact_mod_cast hv.symm)
  have hmag : (m : ℝ) * 2 ^ e = (units f c).natAbs / unitsOne f := by
    rw [eq_div_iff hU.ne', ← abs_dyadic (signOf f c), Nat.cast_natAbs, Int.cast_abs, ← hv, abs_mul, abs_of_pos hU]
  obtain ⟨k, x, hk, heq, huniq⟩ := toTapered_spec (env := env) (neg := signOf f c) (e := e - scale) hw hm hd (by
    rw [hnd, ← hmag, zpow_sub₀ two_ne_zero, zpow_sub₀ two_ne_zero]
    ring)
  exact ⟨k, x, hk, by rw [cvtFT, hr]; exact heq, huniq⟩

/-- CVT of an IEEE value into a tapered format. -/
theorem laneCvt_ieee_tapered {x : LaneIn} {o : Form.Cvt} {f : FFmt} {c : Nat} {m : Rnd} (hl : 2 ≤ x.level) (hsrc : IeeeSource x o.sf f c)
    (hm : modeOf o.rnd m) (hc : IsFinite f c) {w : Nat} {t : Tag} (h : (o.df, w, t) ∈ [(12, 7, Tag.tf8x4), (13, 5, .tf6x5)]) :
    (units f c = 0 → laneCvt o x = gives t (0, 0)) ∧
      (units f c ≠ 0 → ∃ k e, Tapers w x.level m (signOf f c) ((units f c).natAbs * 2 ^ 64) (unitsOne f) k e ∧
        laneCvt o x = gives t (if k = 0 then 0 else (if signOf f c then 2 ^ w else 0) + k, e)) := by
  have hfl := flushes_of_two_le f hl
  have hU := unitsOne_pos f
  obtain ⟨hw, hlane⟩ : w ∈ [5, 7] ∧ laneCvt o x = gives t (cvtFT f w (envOf o.rnd o.sat x.level) 0 c) := by
    rw [cvtLane_ieee hl hsrc]
    simp only [List.mem_cons, Prod.mk.injEq, List.not_mem_nil, or_false] at h
    rcases h with ⟨hd, rfl, rfl⟩ | ⟨hd, rfl, rfl⟩ <;> rw [hd] <;> exact ⟨by decide, rfl⟩
  rw [hlane]
  refine ⟨fun h0 => congrArg (gives t) (cvtFT_zero (env := envOf o.rnd o.sat x.level) hfl hc h0), fun h0 => ?_⟩
  obtain ⟨k, e, hk, heq, -⟩ := cvtFT_spec (env := envOf o.rnd o.sat x.level) (scale := 0) (n := (units f c).natAbs * 2 ^ 64) (d := unitsOne f) hw hfl hc
    h0 (by exact_mod_cast hU) (by push_cast; norm_num; ring)
  rw [← rndOf_of_mode hm]
  exact ⟨k, e, hk, congrArg (gives t) heq⟩

/-! ## PACK -/

theorem readF_nan_any {level w : Nat} (h : IsNan .f32 w) : ∃ s fr, readF .f32 level w = .nan s fr := by
  rcases Nat.eq_zero_or_pos level with rfl | hl
  · obtain ⟨fr, hr⟩ := unpackF_nan h
    refine ⟨signOf .f32 w, fr, ?_⟩
    rw [readF, flushed_f32, if_neg fun hlt => not_isNan_of_lt hlt h, hr]
  · obtain ⟨fr, hr⟩ := readF_nan (flushes_f32 hl) h
    exact ⟨_, fr, hr⟩

theorem cvtFT_unsigned_zero {w : Nat} {env : FEnv} {scale : Int} {c : Nat} (hc : c < 2 ^ 32) (h0 : c % 2 ^ 31 = 0) : cvtFT .f32 w env scale c = (0, 0) := by
  have hcode := signCode_signOf_add (f := .f32) hc
  rw [show unsignedOf .f32 c = 0 from h0, Nat.add_zero] at hcode
  have hflush : flushed .f32 env.level (signCode .f32 (signOf .f32 c)) = signCode .f32 (signOf .f32 c) := by
    cases signOf .f32 c <;> simp [flushed, signCode, bits, ebits, fbits]
  rw [cvtFT, readF, ← hcode, hflush]
  cases signOf .f32 c <;> rfl

theorem lanePack_tapered (x : LaneIn) (w : Nat) (t : Tag) (y : LaneOut) (old : Nat) (s : Bool) (k E : Nat) (e : Exc)
    (h : (w = 7 ∧ t = .tf8x4 ∧ y = lanePackTf8 x ∧ old = x.n 2 / 2 ^ 8) ∨ (w = 5 ∧ t = .tf6x5 ∧ y = lanePackTf6 x ∧ old = x.n 2 % 2 ^ 30 / 2 ^ 6))
    (hE : E = x.n 1 % 2 ^ 8) (hs : s = signOf .f32 (x.n 0)) :
    (E = 0xFF → y = gives t (old + 2 ^ w * 2 ^ 24, 0x40)) ∧ (E ≠ 0xFF → IsNan .f32 (x.n 0) → y = gives t (old + 2 ^ w * 2 ^ 24, 1)) ∧
    (E ≠ 0xFF → x.n 0 % 2 ^ 31 = 0 → y = gives t (old, 0)) ∧
    (E ≠ 0xFF → 0 < x.level → IsFinite .f32 (x.n 0) → units .f32 (x.n 0) ≠ 0 →
      Tapers w x.level .rne s ((units .f32 (x.n 0)).natAbs * 2 ^ 191) (unitsOne .f32 * 2 ^ E) k e →
      y = gives t (old + (if k = 0 then 0 else (if s then 2 ^ w else 0) + k) * 2 ^ 24, e)) := by
  obtain ⟨hw, hy⟩ : w ∈ [5, 7] ∧ ∀ r, packTapered w x.level (x.n 0) E = r → y = gives t (old + r.1 * 2 ^ 24, r.2) := by
    subst hE
    rcases h with ⟨rfl, rfl, rfl, rfl⟩ | ⟨rfl, rfl, rfl, rfl⟩
    · exact ⟨by decide, fun r hr => by rw [← hr]; rfl⟩
    · exact ⟨by decide, fun r hr => by rw [← hr]; rfl⟩
  subst hs
  refine ⟨fun h => hy (2 ^ w, 0x40) (if_pos h), fun h hn => hy (2 ^ w, 1) ?_, fun h h0 => ?_, fun h hl hc h0 hk => ?_⟩
  · obtain ⟨s, fr, hr⟩ := readF_nan_any (level := x.level) hn
    rw [packTapered, if_neg h]
    simp only [cvtFT, hr, narCode, excInv]
  · rw [hy (0, 0) (by rw [packTapered, if_neg h, cvtFT_unsigned_zero (n_lt x 0) h0]), Nat.zero_mul, Nat.add_zero]
  · have hU := unitsOne_pos .f32
    obtain ⟨l, g, -, heq, huniq⟩ := cvtFT_spec (env := ⟨.rne, false, x.level⟩) (scale := (E : Int) - 127) (n := (units .f32 (x.n 0)).natAbs * 2 ^ 191)
      (d := unitsOne .f32 * 2 ^ E) hw (flushes_f32 hl) hc h0 (Nat.mul_pos (by exact_mod_cast hU) (Nat.two_pow_pos _)) (by
        rw [show (64 - ((E : Int) - 127)) = 191 - E by ring, zpow_sub₀ two_ne_zero, zpow_natCast]
        push_cast
        norm_num
        field_simp)
    obtain ⟨rfl, rfl⟩ := huniq k e hk
    rw [hy (signedField w (signOf .f32 (x.n 0)) k, e) (by rw [packTapered, if_neg h, heq]), signedField]

/-! ## UNPK -/

/-- Whether a tapered code means the number of sign `s` and of `u` units of 2^-64, with no more bits than f32 has. -/
def TVal.isNum (s : Bool) (u : Nat) : TVal → Bool
  | .nar => false
  | .num t m e => t == s && decide (m < 2 ^ 24) && decide (-64 ≤ e) && decide (e ≤ 64) && m * 2 ^ (e + 64).toNat == u

theorem unpackT_nar : ∀ w ∈ [5, 7], unpackT w (2 ^ w) = .nar := by decide

/-- Every other tapered code is a number of f32. -/
theorem unpackT_isNum : ∀ w ∈ [5, 7], ∀ c < 2 ^ (w + 1), c ≠ 2 ^ w →
    (unpackT w c).isNum (decide (2 ^ w < c)) (taperedUnits w (c % 2 ^ w)) = true := by
  decide +kernel

theorem cvtTF_spec {w c : Nat} (env : FEnv) (hw : w ∈ [5, 7]) (hc : c < 2 ^ (w + 1)) (hne : c ≠ 2 ^ w) :
    ∃ k, cvtTF w .f32 env c = (k, 0) ∧ IsFinite .f32 k ∧ signOf .f32 k = decide (2 ^ w < c) ∧
      (units .f32 k).natAbs * 2 ^ 64 = taperedUnits w (c % 2 ^ w) * unitsOne .f32 := by
  have h := unpackT_isNum w hw c hc hne
  rw [cvtTF]
  cases hu : unpackT w c with
  | nar => rw [hu] at h; cases h
  | num s m e =>
    rw [hu, TVal.isNum] at h
    simp only [Bool.and_eq_true, beq_iff_eq, decide_eq_true_eq] at h
    obtain ⟨⟨⟨⟨hs, hm⟩, hlo⟩, hhi⟩, hunits⟩ := h
    obtain ⟨j, hj⟩ : ∃ j, j = (e + 149).toNat := ⟨_, rfl⟩
    obtain ⟨C, hC, hmag⟩ := exists_code_scaled (f := .f32) (k := m) (j := j) hm (by
      calc m * 2 ^ j < 2 ^ 24 * 2 ^ j := Nat.mul_lt_mul_of_pos_right hm (Nat.two_pow_pos _)
        _ ≤ 2 ^ (fbits .f32 + 2 * bias .f32) := by
          rw [← Nat.pow_add]
          exact Nat.pow_le_pow_right (by decide) (by have : fbits .f32 + 2 * bias .f32 = 277 := by decide
                                                     omega))
    have hnormal : C = 0 ∨ 2 ^ fbits .f32 ≤ C := by
      by_cases hm0 : m = 0
      · left
        rw [hm0, Nat.zero_mul] at hmag
        exact (mag_strictMono _).injective (hmag.trans (mag_of_le (Nat.zero_le _)).symm)
      · right
        rw [← mag_le_mag (p := fbits .f32), mag_of_le le_rfl, hmag]
        exact (Nat.pow_le_pow_right (by decide) (by have : fbits .f32 = 23 := rfl
                                                    omega)).trans (Nat.le_mul_of_pos_left _ (Nat.pos_of_ne_zero hm0))
    have hround := roundF_of_code (level := env.level) (m := m) (e := e) env.rnd s (by
      rw [hmag, Nat.cast_mul, Nat.cast_pow, Nat.cast_ofNat, mul_assoc, ← zpow_natCast, ← zpow_add₀ two_ne_zero]
      congr 2
      have : emin .f32 - fbits .f32 = -149 := by decide
      omega) hC (.inr hnormal)
    obtain ⟨hfin, hsign, hval⟩ := units_signCode_add (s := s) hC
    refine ⟨_, ?_, hfin, by rw [hsign, hs], ?_⟩
    · dsimp only
      rw [hround, finishF_of_finite hfin]
    · have habs : (units .f32 (signCode .f32 s + C)).natAbs = mag (fbits .f32) C := by
        rw [hval]
        cases s <;> simp
      rw [habs, hmag, ← hunits, show unitsOne .f32 = 2 ^ 149 by decide, Nat.mul_assoc, Nat.mul_assoc, ← Nat.pow_add, ← Nat.pow_add]
      congr 2
      omega

theorem laneUnpk_tapered (x : LaneIn) (o : Form.DAI) (w c : Nat) (y : LaneOut)
    (h : (w = 7 ∧ y = laneUnpkTf8 o x ∧ c = x.n 0 / 2 ^ (8 * o.imm) % 2 ^ 8) ∨ (w = 5 ∧ y = laneUnpkTf6 o x ∧ c = x.n 0 / 2 ^ (6 * o.imm) % 2 ^ 6)) :
    (c = 2 ^ w → y = gives .f32 (0x7FC00000, 0x40)) ∧
    (c ≠ 2 ^ w → ∃ k, y = gives .f32 (k, 0) ∧ IsFinite .f32 k ∧ signOf .f32 k = decide (2 ^ w < c) ∧
      (units .f32 k).natAbs * 2 ^ 64 = taperedUnits w (c % 2 ^ w) * unitsOne .f32) := by
  obtain ⟨hw, hc, rfl⟩ : w ∈ [5, 7] ∧ c < 2 ^ (w + 1) ∧ y = gives .f32 (cvtTF w .f32 (shortEnv x) c) := by
    rcases h with ⟨rfl, rfl, rfl⟩ | ⟨rfl, rfl, rfl⟩
    · exact ⟨by decide, Nat.mod_lt _ (by decide), rfl⟩
    · exact ⟨by decide, Nat.mod_lt _ (by decide), rfl⟩
  refine ⟨fun h => ?_, fun hne => ?_⟩
  · rw [h, cvtTF, unpackT_nar w hw]
    rfl
  · obtain ⟨k, hk, hrest⟩ := cvtTF_spec (shortEnv x) hw hc hne
    exact ⟨k, by rw [hk], hrest⟩

end Sys2Proof.Machine

/-! Proofs about compare, select, pair and floating-point results, clause by clause (R153 to R176). -/
namespace Sys2Proof.Machine
open Sys2Proof.Safety

theorem laneMovl_spec (x : LaneIn) (o : Form.Movl) (h : o.ty < 13) :
    ∃ t, tagCode t = o.ty ∧ laneMovl o x = { regs := [⟨BitVec.ofNat 32 o.imm, t⟩] } := by
  obtain ⟨t, ht, hof⟩ := tagOf_spec h
  exact ⟨t, ht, by rw [laneMovl, hof]; rfl⟩

theorem laneRetag_spec (x : LaneIn) (o : Form.Retag) (h : o.ty < 13) : ∃ t, tagCode t = o.ty ∧ laneRetag o x = { regs := [⟨x.w 0, t⟩] } := by
  obtain ⟨t, ht, hof⟩ := tagOf_spec h
  exact ⟨t, ht, by rw [laneRetag, hof]; rfl⟩

/-- The packed instructions of either format are those of a `PackedFormat`. -/
theorem packedFormat_of {f : FFmt} {t : Tag} {add mul : Form.Fp2 → LaneIn → LaneOut} {fma dot : Form.Fp3 → LaneIn → LaneOut} {least : Nat}
    (h : (f = .f16 ∧ t = .f16x2 ∧ add = laneFaddF16x2 ∧ mul = laneFmulF16x2 ∧ fma = laneFfmaF16x2 ∧ dot = laneFdotF16x2 ∧ least = 1) ∨
      (f = .bf16 ∧ t = .bf16x2 ∧ add = laneFaddBf16x2 ∧ mul = laneFmulBf16x2 ∧ fma = laneFfmaBf16x2 ∧ dot = laneFdotBf16x2 ∧ least = 2)) :
    PackedFormat f t add mul fma dot least := by
  rcases h with ⟨rfl, rfl, rfl, rfl, rfl, rfl, rfl⟩ | ⟨rfl, rfl, rfl, rfl, rfl, rfl, rfl⟩
  · exact packedFormat_f16
  · exact packedFormat_bf16

/-- Settles O30: each clause is the lemma that says what its lane functions give. The arithmetic ones rest on `Rounded`: a rounding of the
model picks the code whose place its exact result has, and places order the codes as their values do. -/
theorem compareSelectAndPairResults : Obligations.CompareSelectAndPairResults := by
  unfold Obligations.CompareSelectAndPairResults
  refine ⟨?compares, ?pairs, laneFminmaxF32_nan, laneFminmax_spec, laneFcmp_spec, laneF32Short_spec, ?f32Two, ?f32Three, ?f32One,
    laneF32Unary_short, ?f64Two, ?f64Three, ?f64Root, ?packed, ?special, laneFfmaF32_inf_zero, laneLevelZero_spec, ?exact,
    laneTransc_special, laneCvt_int, ?ieee, ?ieeeSpecial, lanePack_half, lanePack_tapered, laneScale_spec, laneUnpk_tapered, laneUnpk_half⟩
  case compares =>
    exact ⟨laneIcmpI32_iff, laneIcmpN32_iff, laneIcmpiI32_iff, fun o x hcc _ => laneIcmpiN32_iff o x hcc, laneIcmp64_iff,
      fun o x _ => lanePlog_eq o x, fun o x => (laneSel_eq o x).1, fun o x => (laneSel_eq o x).2⟩
  case pairs =>
    refine fun x => ⟨laneIaddB64_spec x, laneIsubB64_spec x, laneImulwN32_spec x, laneImulwI32_spec x, laneShlB64_spec x, laneShrB64_spec x,
      fun a i ha hi => ⟨laneSarB64_spec x a i ha hi, fun o => ?_⟩, rfl, rfl, fun o _ => laneMovl_spec x o, laneRetag_spec x⟩
    rw [ha]
    exact laneLea_spec x o
  case f32Two => exact fun x o m a b hl h0 h1 hm ha hb _ _ => laneF32Long_spec x o m a b hl h0 h1 hm ha hb
  case f32Three => exact fun x o m hl h hm _ _ _ => laneFfmaF32Long_spec x o m hl h hm
  case f32One => exact fun x o m a hl hm _ ha => laneF32Unary_spec x o m a hl hm ha
  case f64Two => exact fun x o m a b h0 h1 hm ha hb _ _ => laneF64Binary_spec x o m a b h0 h1 hm ha hb
  case f64Three => exact fun x o m h hm _ _ _ => laneFfmaF64_spec x o m h hm
  case f64Root => exact fun x o m a h hm _ ha h0 => laneFsqrtF64_spec x o m a h hm ha h0
  case packed =>
    intro f t add mul fma dot least hpacked
    have hf := packedFormat_of hpacked
    exact ⟨fun x o m a b hl hm _ _ h ha hb => packed_binary_spec hf x o m a b hl hm h ha hb,
      fun x o m a b hl hm _ _ _ h ha hb => packed_ternary_spec hf x o m a b hl hm h ha hb⟩
  case special =>
    exact fun x o a b hl _ _ ha hb => ⟨laneF32Nan_spec x o hl, laneF32Inf_spec x o a b hl ha hb, laneFdivF32_by_inf x o a b hl ha hb⟩
  case exact =>
    exact fun x n hl => ⟨fun hn hw => (laneFexp2_spec x n hl hn hw).1, fun hn hw => (laneFexp2_spec x n hl hn hw).2, laneFlog2_spec x n hl⟩
  case ieee =>
    exact fun x o m f c hl hm hsrc hc => ⟨fun _ _ => laneCvt_ieee_float hl hsrc hm hc, laneCvt_ieee_f64 hl hsrc hm hc,
      fun _ _ _ _ => laneCvt_ieee_int hl hsrc hm hc, fun _ _ => laneCvt_ieee_tapered hl hsrc hm hc⟩
  case ieeeSpecial => exact fun x o f c hl hsrc => laneCvt_ieee_special hl hsrc

end Sys2Proof.Machine

/-! Proofs about special registers read and written (R147, R148, R205, R214). -/
namespace Sys2Proof.Machine
open Sys2Proof.Safety

/-! ## Copy tags as bits (R204, R205) -/

/-- A power of two above every bit of a number adds one bit to it. -/
theorem testBit_add_two_pow {n j : Nat} (h : n < 2 ^ j) (k : Nat) : (n + 2 ^ j).testBit k = (n.testBit k || decide (j = k)) := by
  have hor : n + 2 ^ j = 2 ^ j ||| n := by
    rw [Nat.add_comm]
    simpa using Nat.two_pow_add_eq_or_of_lt h 1
  rw [hor, Nat.testBit_or, Nat.testBit_two_pow, Bool.or_comm]

/-- The bits picked from a sorted table, put above those of a number below all of them. -/
theorem testBit_foldl_picked {α : Type} (p : α → Bool) {t : Tab α} (hs : tabSorted t = true) {n : Nat} (hn : ∀ e ∈ t, n < 2 ^ e.1)
    (k : Nat) : (t.foldl (fun n e => if p e.2 then n + 2 ^ e.1 else n) n).testBit k = (n.testBit k || (tabGet t k).any p) := by
  induction t generalizing n with
  | nil => simp
  | cons e t ih =>
    obtain ⟨j, v⟩ := e
    have hj : n < 2 ^ j := hn (j, v) List.mem_cons_self
    have hbelow : ∀ e ∈ t, (if p v then n + 2 ^ j else n) < 2 ^ e.1 := fun e he => by
      have hpow : 2 ^ (j + 1) ≤ 2 ^ e.1 := Nat.pow_le_pow_right (by decide) (tabSorted_lt hs e he)
      split <;> omega
    have hbit : (if p v then n + 2 ^ j else n).testBit k = (n.testBit k || (p v && decide (j = k))) := by
      cases p v <;> simp [testBit_add_two_pow hj]
    rw [List.foldl_cons, ih (tabSorted_tail hs) hbelow, hbit]
    by_cases hjk : j = k
    · subst hjk
      simp [tabGet, tabGet_below hs j le_rfl]
    · simp [tabGet, hjk]

/-- The bit of a tag is set where the group holds the tag and the condition picks it. -/
theorem Group.testBit_tagBits {G : Group} (hs : tabSorted G.tags = true) (p : HeldTag → Bool) (k : Nat) :
    (G.tagBits p).testBit k = (tabGet G.tags k).any p := by
  rw [Group.tagBits, testBit_foldl_picked p hs fun e _ => Nat.two_pow_pos e.1, Nat.zero_testBit, Bool.false_or]

/-- A write clears the bits written as 1 but those set in the same core cycle. -/
theorem Group.testBit_clears {G : Group} (hs : tabSorted G.tags = true) (done : Bool) (v : Addr) {k : Nat} (hk : k < 64) {x : HeldTag}
    (hx : tabGet G.tags k = some x) :
    (G.clears done v).testBit k = (v.getLsbD k && !(if done then x.recent else x.recentFail)) := by
  rw [Group.clears, BitVec.testBit_toNat, BitVec.getLsbD_and, BitVec.getLsbD_not, BitVec.getLsbD_ofNat, decide_eq_true hk,
    Group.testBit_tagBits hs, hx]
  simp

/-- Of a sorted table whose entries are changed or dropped, each number reads what its own entry has become. -/
theorem tabGet_filterMap {α : Type} {g : Nat × α → Option (Nat × α)} (hg : ∀ e x, g e = some x → x.1 = e.1) {t : Tab α}
    (hs : tabSorted t = true) (k : Nat) : tabGet (t.filterMap g) k = (tabGet t k).bind fun v => (g (k, v)).map (·.2) := by
  induction t with
  | nil => rfl
  | cons e t ih =>
    obtain ⟨j, v⟩ := e
    rw [List.filterMap_cons]
    cases hx : g (j, v) with
    | none =>
      rw [ih (tabSorted_tail hs)]
      by_cases hjk : j = k
      · subst hjk
        simp [tabGet, tabGet_below hs j le_rfl, hx]
      · simp [tabGet, hjk]
    | some x =>
      obtain ⟨i, w⟩ := x
      obtain rfl : i = j := hg _ _ hx
      by_cases hik : i = k
      · subst hik
        simp [tabGet, hx]
      · simp [tabGet, hik, ih (tabSorted_tail hs)]

/-- A tag whose done bit is cleared stays while a copy of it is under way, and is free otherwise. -/
theorem tabGet_clearTags_done {t : Tab HeldTag} (hs : tabSorted t = true) {v k : Nat} {x : HeldTag} (hx : tabGet t k = some x)
    (hv : v.testBit k = true) :
    tabGet (clearTags true v t) k = if x.count = 0 then none else some { x with done := false } := by
  rw [clearTags, tabGet_filterMap ?keys hs, hx]
  case keys =>
    intro e y hy
    rw [Option.ite_none_left_eq_some] at hy
    cases hy.2
    rfl
  by_cases hc : x.count = 0 <;> simp [hv, hc]

/-! ## GETS (R147, R214) -/

section
variable {s : State} {c : Issue} {G : Group} {W : Wave} {o : Form.DI}

/-- The wave after GETS: its fibres have moved on, and those whose guard is true have their special register. -/
def Wave.afterGets (s : State) (c : Issue) (G : Group) (W : Wave) (o : Form.DI) : Wave :=
  (W.advance c).writeRegs (acting (.gets o) c W) (regRun o.d (specialRegs o.imm))
    fun f => specialWords o.imm (s.special G c.wave W f o.imm)

theorem exec_gets (g : Goes (.gets o) s c G W) :
    exec (.gets o) s = .next (if o.imm = 0x00C ∧ acting (.gets o) c W ≠ [] ∧ G.tagBits (·.done) ≠ 0
      then (s.setWave c (Wave.afterGets s c G W o)).acquire G.coreNo else s.setWave c (Wave.afterGets s c G W o)) := by
  show execGets o s = _
  rw [execGets, issueWith_go g]
  rfl

theorem writesRegs_gets (g : Goes (.gets o) s c G W) :
    WritesRegs (.gets o) c W (Wave.afterGets s c G W o) (regRun o.d (specialRegs o.imm))
      fun f => specialWords o.imm (s.special G c.wave W f o.imm) :=
  writesRegs_of g (fun r hr => by simpa [opndsOf, Opnds.regs] using hr) (regRun_nodup _ _)
    ⟨fun _ _ => rfl, fun _ => rfl, fun _ _ => rfl, rfl⟩

/-- Moving on and writing registers changes no predicate and no flag. -/
theorem keepsPreds_writeRegs (h : Issuing s c G W) (gt : List Nat) (rs : List Reg) (val : Nat → List Tagged) :
    keepsPreds W ((W.advance c).writeRegs gt rs val) := by
  intro f
  have hbare := Wave.bare_writeRegs (W.advance c) gt rs val f
  rw [Fibre.curPreds_of_bare hbare, Fibre.curFlags_of_bare hbare, Wave.fib_advance W c h.nodup h.live]
  split <;> simp

end

/-! ## SETS (R147) -/

theorem Fibre.st_setFlags (F : Fibre) (v : Word) : (F.setFlags v).st = F.st := by unfold Fibre.setFlags; split <;> rfl
theorem Fibre.st_setTrapen (F : Fibre) (v : Word) : (F.setTrapen v).st = F.st := by unfold Fibre.setTrapen; split <;> rfl
theorem Fibre.st_setLnk (F : Fibre) (v : Addr) : (F.setLnk v).st = F.st := by unfold Fibre.setLnk; split <;> rfl

/-- Of the fibres that write the wave's %mxflags the last one decides (R26). -/
theorem Wave.foldl_setSpecial_mxflags {fs : List Nat} {f : Nat} (hf : fs.getLast? = some f) (lo hi : Nat → Word) (W : Wave) :
    fs.foldl (fun X f => X.setSpecial f 0x060 (lo f) (hi f)) W = { W with mxflags := lo f &&& 0xDD } := by
  obtain ⟨l, rfl⟩ := List.getLast?_eq_some_iff.mp hf
  have hrest := foldl_keeps (fun X : Wave => { X with mxflags := lo f &&& 0xDD })
    (f := fun X f => X.setSpecial f 0x060 (lo f) (hi f)) (l := l) (fun _ _ _ => rfl) W
  rw [List.foldl_append]
  exact hrest

section
variable {s : State} {c : Issue} {G : Group} {W : Wave} {o : Form.DI}

/-- What a guard-true fibre of SETS writes: its register, the upper half 0 for a register of 32 bits. -/
def setsValue (W : Wave) (o : Form.DI) (f : Nat) : Word × Word :=
  ((W.read f o.d).val, if specialIs64 o.imm then (W.read f (regPlus o.d 1)).val else 0)

/-- The wave after SETS. -/
def Wave.afterSets (c : Issue) (W : Wave) (o : Form.DI) : Wave :=
  (acting (.sets o) c W).foldl (fun X f => X.setSpecial f o.imm (setsValue W o f).1 (setsValue W o f).2) (W.advance c)

theorem exec_sets (g : Goes (.sets o) s c G W) (ht : o.imm ≠ 0x00C) (hf : o.imm ≠ 0x040) :
    exec (.sets o) s = .next (s.setWave c (Wave.afterSets c W o)) := by
  show execSets o s = _
  rw [execSets, issueWith_go g]
  simp only [ht, hf, or_self, if_false]
  rfl

/-- A register of the fibre written: SETS changes its guard-true fibres and nothing else. -/
theorem movesFibres_sets (g : Goes (.sets o) s c G W) (ht : o.imm ≠ 0x00C) (hf : o.imm ≠ 0x040) (h : Nat → Fibre → Fibre)
    (hl : ∀ f F, (h f F).st = F.st)
    (hset : ∀ X f, Wave.setSpecial X f o.imm (setsValue W o f).1 (setsValue W o f).2 = X.modFib f (h f)) :
    MovesFibres (.sets o) s c W h := by
  refine movesFibres_of g h (fun f hf => ?_) ?_
  · simpa [hl] using Wave.isLive_of_mem (g.live f (acting_sub hf))
  · rw [exec_sets g ht hf, Wave.afterSets]
    simp only [hset]

/-- A group after its done tags, or its fail tags, are written: each guard-true fibre clears its own bits in turn (R205). -/
def Group.afterSets (c : Issue) (W : Wave) (o : Form.DI) (done : Bool) (G : Group) : Group :=
  { G with tags := (acting (.sets o) c W).foldl (fun l f => clearTags done (G.clears done (W.readPair f o.d)) l) G.tags }

/-- A tag register written: of the wave only its bundle moves on. -/
theorem exec_sets_tags (g : Goes (.sets o) s c G W) (h : o.imm = 0x00C ∨ o.imm = 0x040) :
    exec (.sets o) s = .next ((s.setWave c (W.advance c)).modGroup c.grp (Group.afterSets c W o (o.imm == 0x00C))) := by
  have h64 : specialIs64 o.imm = true := by rcases h with h | h <;> rw [h] <;> rfl
  have hset : ∀ (X : Wave) f lo hi, X.setSpecial f o.imm lo hi = X := fun X f lo hi => by rcases h with h | h <;> rw [h] <;> rfl
  have hwave : (acting (.sets o) c W).foldl (fun X f => X.setSpecial f o.imm (W.read f o.d).val (W.read f (regPlus o.d 1)).val)
      (W.advance c) = W.advance c := foldl_keeps id (fun X f _ => hset X f _ _) _
  show execSets o s = _
  rw [execSets, issueWith_go g]
  simp only [h64, h, if_true, hwave]
  rfl

theorem group_sets_tags (g : Issuing s c G W) (done : Bool) :
    ((s.setWave c (W.advance c)).modGroup c.grp (Group.afterSets c W o done)).group c.grp =
      some (Group.afterSets c W o done (G.modWave c.wave fun _ => W.advance c)) := by
  rw [State.group_modGroup_self, State.group_setWave, g.group, Option.map_some, Option.map_some]

end

/-- Settles O26: a register of the fibre is one change of each guard-true fibre; the tags are cleared one fibre after the other. -/
theorem specialRegistersReadAndWritten : Obligations.SpecialRegistersReadAndWritten := by
  refine ⟨fun s c G W o g => ⟨⟨_, exec_gets g, writesRegs_gets g, keepsPreds_writeRegs g.toIssuing _ _ _⟩, fun f => ?values⟩,
    fun s c G W o g => ⟨fun h => ?flags, fun h => ?trapen, fun h => ?lnk, fun h f hf => ?mxflags, fun h => ?ctags, fun h => ?cfail,
      fun v k x hk hs hx => ⟨G.testBit_clears hs true v hk hx, G.testBit_clears hs false v hk hx⟩,
      fun v k x t hs hx hv _ => tabGet_clearTags_done hs hx hv⟩⟩
  case values => exact ⟨rfl, rfl, rfl, rfl, rfl, rfl, fun hF => by simp only [State.special, hF]⟩
  case flags =>
    refine movesFibres_sets g (by simp [h]) (by simp [h]) _ (fun f F => F.st_setFlags _) fun X f => ?_
    rw [h]; rfl
  case trapen =>
    refine movesFibres_sets g (by simp [h]) (by simp [h]) _ (fun f F => F.st_setTrapen _) fun X f => ?_
    rw [h]; rfl
  case lnk =>
    refine movesFibres_sets g (by simp [h]) (by simp [h]) _ (fun f F => F.st_setLnk _) fun X f => ?_
    rw [setsValue, h]; rfl
  case mxflags =>
    rw [exec_sets g (by simp [h]) (by simp [h]), Wave.afterSets, h, Wave.foldl_setSpecial_mxflags hf]
    rfl
  case ctags =>
    refine ⟨_, _, exec_sets_tags g (.inl h), group_sets_tags g.toIssuing _, rfl, rfl, ?_⟩
    rw [h]; rfl
  case cfail =>
    refine ⟨_, _, exec_sets_tags g (.inr h), group_sets_tags g.toIssuing _, rfl, ?_⟩
    rw [h]; rfl

end Sys2Proof.Machine

/-! Proofs about PLOG (R157). -/
namespace Sys2Proof.Machine
open Sys2Proof.Safety

/-- PLOG raises no exception, so it never traps (R113). -/
theorem trapping_lanePlog (F : Fibre) (o : Form.Plog) (x : LaneIn) : trapping F (lanePlog o x).exc = 0 := BitVec.zero_and

/-- The bit of a truth table that two predicates pick, for the functions that R157 names. -/
theorem testBit_truthTable (a b : Bool) : Nat.testBit 8 (2 * a.toNat + b.toNat) = (a && b) ∧
    Nat.testBit 14 (2 * a.toNat + b.toNat) = (a || b) ∧ Nat.testBit 6 (2 * a.toNat + b.toNat) = (a != b) ∧
    Nat.testBit 2 (2 * a.toNat + 1) = !a := by
  cases a <;> cases b <;> decide

/-- Settles O14: PLOG is arithmetic without registers and exceptions, whose condition is the bit of its truth table. -/
theorem plogAppliesItsTruthTable : Obligations.PlogAppliesItsTruthTable := by
  refine ⟨fun s c G W o g _ => ?_, testBit_truthTable, by decide⟩
  have hl : laneOf (.plog o) = some (lanePlog o) := rfl
  have hexc := fun f (_ : f ∈ acting (.plog o) c W) => trapping_lanePlog (W.fib f) o (s.laneIn G W (opndsOf (.plog o)) f)
  obtain ⟨V, hexec, hregs⟩ := arithmeticCompletes _ _ s c G W hl g hexc
  obtain ⟨hact, hrest⟩ := performed_preds_flags hl g hexc hexec (State.wave_setWave V (wave_of_issuing g.toIssuing))
  refine ⟨V, hexec, hregs, fun f hf p hp => ?_, fun f hf => ?_, fun f hf => (hrest f hf).symm⟩
  · have hpd : (opndsOf (.plog o)).pdst = some p ↔ p = o.pd := by rw [eq_comm (a := p)]; exact Option.some_inj
    rw [(hact f hf).2 p hp, if_congr hpd rfl rfl, lanePlog_eq]
    rfl
  · rw [(hact f hf).1, show (lanePlog o _).exc = 0#32 from rfl, BitVec.or_zero]

end Sys2Proof.Machine

/-! Proofs about control instructions (R126, R127, R143, R144, R146). -/
namespace Sys2Proof.Machine
open Sys2Proof.Safety

/-! ## Instructions that change the fibres of their bundle only -/

/-- A fibre that has moved on stands as after an instruction that changes nothing more. -/
theorem fib_advance_eq_fibAfter {s : State} {c : Issue} {G : Group} {W : Wave} (h : Issuing s c G W) (i : Instr) (f : Nat) :
    (W.advance c).fib f = fibAfter i c W (fun _ F => F) f := by
  rw [Wave.fib_advance W c h.nodup h.live, fibAfter]
  by_cases hf : f ∈ acting i c W
  · rw [if_pos hf, if_pos (acting_sub hf)]
  · rw [if_neg hf]

/-- A wave whose fibres stand as after moving on, with the guard-true ones changed once. -/
theorem fib_foldl_acting {i : Instr} {s : State} {c : Issue} {G : Group} {W X : Wave} (h : Issuing s c G W)
    (hX : X.fibres = (W.advance c).fibres) (k : Nat → Fibre → Fibre) (f : Nat) :
    ((acting i c W).foldl (fun X f => X.modFib f (k f)) X).fib f = fibAfter i c W k f := by
  have hadv : X.fib f = fibAfter i c W (fun _ F => F) f := by
    rw [Wave.fib, hX]
    exact fib_advance_eq_fibAfter h i f
  rw [Wave.fib_foldl_step (fun X f g => X.fib_modFib_eq f g (k f)) (acting_nodup h.nodup), hadv]
  unfold fibAfter
  split <;> rfl

/-- An instruction that has no effect beside that its fibres move on. -/
theorem movesFibres_of_advance {i : Instr} {s : State} {c : Issue} {G : Group} {W : Wave} (g : Goes i s c G W)
    (he : exec i s = .next (s.setWave c (W.advance c))) : MovesFibres i s c W fun _ F => F :=
  ⟨_, he, W.advance_rest c, fib_advance_eq_fibAfter g.toIssuing i⟩

/-- A guard-true fibre is live, and stays so as it moves on. -/
theorem st_setPc_of_acting {i : Instr} {s : State} {c : Issue} {G : Group} {W : Wave} (h : Issuing s c G W) {f : Nat}
    (hf : f ∈ acting i c W) (pc : Addr) : ((W.fib f).setPc pc).st = .live := by
  rw [Fibre.setPc_st]
  exact Wave.isLive_of_mem (h.live f (acting_sub hf))

/-- The guard-true fibres begin a wait as their bundle moves on. -/
def State.beginWait (s : State) (wait : Issue → Group → Wave → Nat → Wait) (c : Issue) (G : Group) (W : Wave) (gt : List Nat) :
    Host.Outcome State Fault Refusal :=
  .next (s.setWave c (gt.foldl (fun X f => X.modFib f fun F => { F with wait := wait c G W f }) (W.advance c)))

theorem movesFibres_of_beginWait {i : Instr} {s : State} {c : Issue} {G : Group} {W : Wave} (g : Goes i s c G W)
    {wait : Issue → Group → Wave → Nat → Wait} (he : exec i s = s.beginWait wait c G W (acting i c W)) :
    MovesFibres i s c W fun f F => { F with wait := wait c G W f } :=
  movesFibres_of g _ (fun _ hf => st_setPc_of_acting g.toIssuing hf _) he

/-- An instruction whose guard-true fibres begin a wait, and that does nothing else. -/
theorem movesFibres_of_wait {i : Instr} {s : State} {c : Issue} {G : Group} {W : Wave} (g : Goes i s c G W)
    {wait : Issue → Group → Wave → Nat → Wait} (he : exec i s = issueWith i s (s.beginWait wait)) :
    MovesFibres i s c W fun f F => { F with wait := wait c G W f } :=
  movesFibres_of_beginWait g (he.trans (issueWith_go g _))

theorem exec_nop {s : State} {c : Issue} {G : Group} {W : Wave} {o : Form.N} (g : Goes (.nop o) s c G W) :
    exec (.nop o) s = .next (s.setWave c (W.advance c)) := by
  show execNop o s = _
  rw [execNop, issueWith_go g]
  rfl

/-! ## Branches (R126, R127) -/

/-- A transfer of control whose targets, where they are checked, may be branched to. -/
theorem execJump_of_ok {i : Instr} {s : State} {c : Issue} {G : Group} {W : Wave} (g : Goes i s c G W) (link check : Bool)
    (target : Issue → Wave → Nat → Addr) (h : check = true → ∀ f ∈ acting i c W, targetOk (target c W f) = true) :
    execJump i s link check target = .next (s.setWave c ((acting i c W).foldl
      (fun X f => X.modFib f fun F => (if link then F.setLnk (c.pc + 4) else F).setPc (target c W f)) (W.advance c))) := by
  have hbad : (acting i c W).filter (fun f => check && !targetOk (target c W f)) = [] := by
    refine List.filter_eq_nil_iff.mpr fun f hf => ?_
    cases hc : check with
    | false => exact Bool.false_ne_true
    | true => rw [h hc f hf]; exact Bool.false_ne_true
  rw [execJump, issueWith_go g]
  simp only [hbad, ne_eq, not_true, if_false]
  rfl

theorem movesFibres_of_jump {i : Instr} {s : State} {c : Issue} {G : Group} {W : Wave} (g : Goes i s c G W) {link check : Bool}
    {target : Issue → Wave → Nat → Addr} (he : exec i s = execJump i s link check target)
    (h : check = true → ∀ f ∈ acting i c W, targetOk (target c W f) = true) :
    MovesFibres i s c W fun f F => (if link then F.setLnk (c.pc + 4) else F).setPc (target c W f) := by
  refine movesFibres_of g _ (fun f hf => ?_) (he.trans (execJump_of_ok g link check target h))
  rw [Fibre.setPc_st]
  cases link with
  | false => exact st_setPc_of_acting g.toIssuing hf _
  | true => exact (Fibre.st_setLnk _ _).trans (st_setPc_of_acting g.toIssuing hf _)

/-! ## STEP (R144) -/

section
variable {s : State} {c : Issue} {G : Group} {W : Wave} {o : Form.N}

/-- STEP in a group that is not elastic, or of no launch, has no effect. -/
theorem exec_stepMark_of_plain (g : Goes (.stepMark o) s c G W) (h : G.hdr.flags.testBit 2 = false ∨ G.launch = 0) :
    exec (.stepMark o) s = .next (s.setWave c (W.advance c)) := by
  have hplain : (!G.hdr.flags.testBit 2 || G.launch == 0 || (acting (.stepMark o) c W).isEmpty) = true := by
    rcases h with h | h <;> simp [h]
  show execStepMark o s = _
  rw [execStepMark, issueWith_go g]
  exact if_pos hplain

/-- STEP in a group of an elastic launch: the wave arrives, and its guard-true fibres wait. -/
theorem exec_stepMark_of_elastic (g : Goes (.stepMark o) s c G W) (he : G.hdr.flags.testBit 2 = true) (hl : G.launch ≠ 0)
    (hgt : acting (.stepMark o) c W ≠ []) :
    exec (.stepMark o) s = .next (s.setWave c ((acting (.stepMark o) c W).foldl
      (fun X f => X.modFib f fun F => { F with wait := .step }) { (W.advance c) with stepArrived := true })) := by
  have helastic : ¬(!G.hdr.flags.testBit 2 || G.launch == 0 || (acting (.stepMark o) c W).isEmpty) = true := by simp [he, hl, hgt]
  show execStepMark o s = _
  rw [execStepMark, issueWith_go g]
  exact if_neg helastic

theorem stepMark_arrives (g : Goes (.stepMark o) s c G W) (he : G.hdr.flags.testBit 2 = true) (hl : G.launch ≠ 0)
    (hgt : acting (.stepMark o) c W ≠ []) :
    ∃ V, exec (.stepMark o) s = .next (s.setWave c V) ∧ V = { W with fibres := V.fibres, stepArrived := true } ∧
      ∀ f, V.fib f = fibAfter (.stepMark o) c W (fun _ F => { F with wait := .step }) f := by
  refine ⟨_, exec_stepMark_of_elastic g he hl hgt, ?_,
    fib_foldl_acting (X := { W.advance c with stepArrived := true }) g.toIssuing rfl _⟩
  rw [Wave.foldl_modFib_rest _ { W.advance c with stepArrived := true } fun _ F => { F with wait := .step }, W.advance_rest]

end

/-- Settles O16: a branch, a wait or nothing in each guard-true fibre; STEP in an elastic launch is noted in its wave too. -/
theorem controlInstructionsComplete : Obligations.ControlInstructionsComplete := by
  intro s c G W
  refine ⟨fun o g => movesFibres_of_advance g (exec_nop g),
    fun o g => movesFibres_of_jump (link := false) (check := false) g rfl nofun,
    fun o g => movesFibres_of_jump (link := true) (check := false) g rfl nofun,
    fun o g h => movesFibres_of_jump (link := false) (check := true) g rfl fun _ => h,
    fun o g h => movesFibres_of_jump (link := true) (check := true) g rfl fun _ => h,
    fun o g h => movesFibres_of_jump (link := false) (check := true) g rfl fun _ => h,
    fun o g => movesFibres_of_wait g rfl, fun o g => movesFibres_of_wait g rfl,
    fun o g h => movesFibres_of_advance g (exec_stepMark_of_plain g h), fun o g => stepMark_arrives g⟩

end Sys2Proof.Machine

/-! Proofs about mask instructions (R131, R132). -/
namespace Sys2Proof.Machine
open Sys2Proof.Safety

/-! ## Mask registers -/

/-- M0 stays as the fibres of a bundle move on. -/
@[simp] theorem Wave.live_advance (W : Wave) (c : Issue) : (W.advance c).live = W.live := by
  refine foldl_keeps Wave.live (f := fun X g => X.modFib g fun F => F.setPc c.nextPc) (fun X g _ => List.filter_congr fun f _ => ?_) W
  rw [Fibre.isLive, Wave.fib_modFib_eq, Fibre.isLive]
  split
  · next hf => rw [Fibre.setPc_st, hf]
  · rfl

@[simp] theorem Wave.mask_advance (W : Wave) (c : Issue) (m : Nat) : (W.advance c).mask m = W.mask m := by
  rw [Wave.mask, Wave.live_advance, Wave.advance_masks, Wave.mask]

theorem Wave.mask_setMask_self (W : Wave) {m : Nat} (h : m ≠ 0) (v : Word) : (W.setMask m v).mask m = v &&& W.mask 0 := by
  rw [Wave.mask, if_neg h]
  exact tabVal_tabPut_self _ _ _ _

theorem Wave.mask_setMask_ne (W : Wave) {m k : Nat} (h : k ≠ m) (v : Word) : (W.setMask m v).mask k = W.mask k := by
  rw [Wave.mask, Wave.mask]
  split
  · rfl
  · exact tabVal_tabPut_ne _ _ _ _ _ h

/-- The checks of R76 let no instruction write M0 (R71). -/
theorem maskWritten_ne_zero {i : Instr} {s : State} {c : Issue} {G : Group} {W : Wave} (g : Goes i s c G W) :
    maskWritten i ≠ some 0 := by
  intro h
  have hlegal := legal_of_goes g
  simp [illegalOperand, h] at hlegal

/-! ## Mask instructions -/

/-- The instruction writes one mask register, and of the rest its fibres move on only. -/
def WritesMask (i : Instr) (s : State) (c : Issue) (W : Wave) (m : Nat) (v : Word) : Prop :=
  ∃ V, exec i s = .next (s.setWave c V) ∧ V = { W.advance c with masks := V.masks } ∧ V.mask m = v &&& W.mask 0 ∧
    ∀ k, k ≠ m → V.mask k = W.mask k

section
variable {s : State} {c : Issue} {G : Group} {W : Wave}

theorem writesMask_of {i : Instr} {m : Nat} {v : Word} (g : Goes i s c G W) (hm : maskWritten i = some m)
    (he : exec i s = .next (s.setWave c ((W.advance c).setMask m v))) : WritesMask i s c W m v := by
  have hm0 : m ≠ 0 := fun h => maskWritten_ne_zero g (h ▸ hm)
  exact ⟨_, he, rfl, by rw [Wave.mask_setMask_self _ hm0, Wave.mask_advance],
    fun k hk => by rw [Wave.mask_setMask_ne _ hk, Wave.mask_advance]⟩

theorem writesMask_mjoin {o : Form.M1} (g : Goes (.mjoin o) s c G W) :
    WritesMask (.mjoin o) s c W o.md (W.mask o.md ||| maskOf (acting (.mjoin o) c W)) := by
  refine writesMask_of g rfl ?_
  show execMjoin o s = _
  rw [execMjoin, issueWith_go g]
  rfl

theorem writesMask_mleave {o : Form.M1} (g : Goes (.mleave o) s c G W) :
    WritesMask (.mleave o) s c W o.md (W.mask o.md &&& ~~~(maskOf (acting (.mleave o) c W))) := by
  refine writesMask_of g rfl ?_
  show execMleave o s = _
  rw [execMleave, issueWith_go g]
  rfl

theorem writesMask_mlog {o : Form.Mlog} (g : Goes (.mlog o) s c G W) (hgt : acting (.mlog o) c W ≠ []) :
    WritesMask (.mlog o) s c W o.md (maskOp o.op (W.mask o.ma) (W.mask o.mb)) := by
  refine writesMask_of g rfl ?_
  show execMlog o s = _
  rw [execMlog, issueWith_go g]
  simp only [if_neg hgt]
  rfl

theorem writesMask_mwr {o : Form.Mwr} (g : Goes (.mwr o) s c G W) {f : Nat} (hf : (acting (.mwr o) c W).getLast? = some f) :
    WritesMask (.mwr o) s c W o.md (W.read f o.a).val := by
  refine writesMask_of g rfl ?_
  show execMwr o s = _
  rw [execMwr, issueWith_go g]
  simp only [highest, hf]
  rfl

/-- An instruction whose guard-true fibres write its destination registers as they move on. -/
theorem writesRegs_of_dstRegs {i : Instr} {rs : List Reg} (g : Goes i s c G W) (hrs : (opndsOf i).dstRegs = rs) (hn : rs.Nodup)
    (val : Nat → List Tagged) : WritesRegs i c W ((W.advance c).writeRegs (acting i c W) rs val) rs val ∧
      keepsPreds W ((W.advance c).writeRegs (acting i c W) rs val) :=
  ⟨writesRegs_of g (fun _ hr => mem_regs_of_mem_dstRegs (hrs ▸ hr)) hn ⟨fun _ _ => rfl, fun _ => rfl, fun _ _ => rfl, rfl⟩,
    keepsPreds_writeRegs g.toIssuing _ _ _⟩

theorem flatMap_regRun_one (d : Reg) : [(⟨d, 1⟩ : DstOp)].flatMap (fun x => regRun x.reg x.n) = [d] := by cases d <;> rfl

theorem exec_mrd {o : Form.Mrd} (g : Goes (.mrd o) s c G W) : exec (.mrd o) s =
    .next (s.setWave c ((W.advance c).writeRegs (acting (.mrd o) c W) [o.d] fun _ => [⟨W.mask o.ma, .b32⟩])) := by
  show execMrd o s = _
  rw [execMrd, issueWith_go g]
  rfl

end

/-- Settles O21: each writes one mask, never M0, or a register. -/
theorem maskInstructionsComplete : Obligations.MaskInstructionsComplete := by
  refine fun s c G W => ⟨fun o => writesMask_mjoin, fun o => writesMask_mleave, fun o g hgt => ?_, fun o g f => writesMask_mwr g,
    fun o g => ⟨_, exec_mrd g, writesRegs_of_dstRegs g (flatMap_regRun_one o.d) (List.nodup_singleton _) _⟩⟩
  obtain ⟨V, he, hV, hmd, hrest⟩ := writesMask_mlog g hgt
  exact ⟨V, he, hV, hrest, fun h => by rw [hmd, h]; rfl, fun h => by rw [hmd, h]; rfl, fun h => by rw [hmd, h]; rfl,
    fun h => by rw [hmd, h]; rfl, fun h => by rw [hmd, h]; rfl⟩

end Sys2Proof.Machine

/-! Proofs about barrier instructions (R139, R140, R141). -/
namespace Sys2Proof.Machine
open Sys2Proof.Safety

/-! ## Configuring a wide barrier (R140, R436) -/

/-- The groups and the memory. -/
def State.work (s : State) : Tab Group × List Host.Cell := (s.groups, s.mem)

theorem State.work_putRec (s : State) (p dev : Nat) (r : Rec) : (s.putRec p dev r).work = s.work := by
  obtain ⟨ports, wire, xfers, h⟩ := s.sentFrom_putRec p dev r
  rw [h]
  rfl

/-- A transfer of a pod barrier is the links' alone. -/
theorem State.work_startPod (s : State) (dev block : Nat) (r : Rec) : (s.startPod dev block r).work = s.work := by
  unfold State.startPod
  split
  · next t ht =>
    unfold State.startXfer at ht
    split at ht
    · cases ht
    · cases ht
      exact s.work_putRec _ _ _
  · rfl

theorem State.work_podTest (s : State) (i : Nat) : (s.podTest i).work = s.work := by
  unfold State.podTest
  dsimp only
  split
  · rfl
  · exact foldl_keeps State.work (fun t dev _ => t.work_startPod dev i _) _

theorem State.work_podRegister (s : State) (i exp : Nat) : (s.podRegister i exp).work = s.work := by
  unfold State.podRegister
  split
  · exact State.work_podTest _ i
  · exact s.work_startPod _ _ _

theorem State.work_configWide (s : State) (k id scope exp : Nat) : (s.configWide k id scope exp).work = s.work := by
  unfold State.configWide
  dsimp only
  split
  · exact State.work_podRegister _ id exp
  · rfl

theorem State.wave_of_work {s t : State} (h : t.work = s.work) (g w : Nat) : t.wave g w = s.wave g w :=
  congrArg (fun x : Tab Group × List Host.Cell => (tabGet x.1 g).bind fun G => tabGet G.waves w) h

/-- A completion test leaves a wide barrier's configuration. -/
theorem WideBarrier.test_config (b : WideBarrier) : b.test.armed = b.armed ∧ b.test.exp = b.exp := by
  unfold WideBarrier.test
  split <;> exact ⟨rfl, rfl⟩

theorem State.wbar_configWide {s : State} {scope : Nat} (h : scope ≠ 4) (k id exp : Nat) :
    ((s.configWide k id scope exp).wbar k).armed = true ∧ ((s.configWide k id scope exp).wbar k).exp = exp := by
  simp only [State.configWide, if_neg h, State.wbar_modWbar_self, WideBarrier.test_config, and_self]

/-- A wide barrier that an instruction may use has its number in the launch. -/
theorem State.wideKey_of_barrierOk {s : State} {G : Group} {scope id : Nat} {conf : Bool} (h : s.barrierOk G scope id conf = true)
    (hs : scope ≠ 0) : ∃ k, s.wideKey G scope id = some k := by
  simp only [State.barrierOk, if_neg hs, Bool.and_eq_true] at h
  cases hk : s.wideKey G scope id with
  | none => rw [hk] at h; cases h.2
  | some k => exact ⟨k, rfl⟩

/-! ## What every barrier instruction does (R139) -/

section
variable {i : Instr} {s : State} {c : Issue} {G : Group} {W : Wave} {scope id : Nat} {conf : Bool}
  {run : Issue → Group → Wave → List Nat → Host.Outcome State Fault Refusal}

theorem execBar_of_ok (g : Goes i s c G W) (hok : s.barrierOk G scope id conf = true) (hgt : acting i c W ≠ []) :
    execBar i s scope id conf run = run c G W (acting i c W) := by
  rw [execBar, issueWith_go g]
  simp only [if_neg hgt, hok, Bool.not_true, Bool.false_eq_true, if_false]

theorem execBar_of_not_ok (g : Goes i s c G W) (hok : s.barrierOk G scope id conf = false) (hgt : acting i c W ≠ []) :
    execBar i s scope id conf run =
      .next (s.takeFault c { cause := 0x07, fmask := maskOf (acting i c W) } false (maskOf (acting i c W)) .none) := by
  rw [execBar, issueWith_go g]
  simp only [if_neg hgt, hok, Bool.not_false, if_true]
  rfl

end

/-! ## BARA, BARS, BARW (R141) -/

section
variable {s : State} {c : Issue} {G : Group} {W : Wave}

theorem Wave.writeRegs_nil (W : Wave) (gt : List Nat) (val : Nat → List Tagged) : W.writeRegs gt [] val = W :=
  foldl_keeps id (fun _ _ _ => rfl) W

theorem exec_bara {o : Form.Bara} (g : Goes (.bara o) s c G W) (hok : s.barrierOk G o.scope o.id false = true)
    (hgt : acting (.bara o) c W ≠ []) :
    exec (.bara o) s = .next ((s.setWave c ((W.advance c).writeRegs (acting (.bara o) c W) (if o.token = 1 then [o.a] else [])
      fun _ => [⟨BitVec.ofNat 32 (s.arrivalPhase G o.scope o.id), .n32⟩])).arrive c.grp G c.wave o.scope o.id
        (acting (.bara o) c W).length) := by
  show execBara o s = _
  rw [execBara, execBar_of_ok g hok hgt]
  split
  · rfl
  · rw [Wave.writeRegs_nil]

theorem exec_bars {o : Form.Bar} (g : Goes (.bars o) s c G W) (hok : s.barrierOk G o.scope o.id false = true)
    (hgt : acting (.bars o) c W ≠ []) :
    exec (.bars o) s = .next ((s.setWave c ((acting (.bars o) c W).foldl (fun X f => X.modFib f fun F =>
      { F with wait := .barrier o.scope o.id (s.arrivalPhase G o.scope o.id) }) (W.advance c))).arrive c.grp G c.wave o.scope o.id
        (acting (.bars o) c W).length) := by
  show execBars o s = _
  rw [execBars, execBar_of_ok g hok hgt]

theorem movesFibres_barw {o : Form.BarA} (g : Goes (.barw o) s c G W) (hok : s.barrierOk G o.scope o.id false = true)
    (hgt : acting (.barw o) c W ≠ []) :
    MovesFibres (.barw o) s c W fun f F => { F with wait := .barrier o.scope o.id ((W.read f o.a).val.toNat % 2) } := by
  have hbit : ∀ n, bits n 0 1 = n % 2 := fun n => by simp [bits]
  refine movesFibres_of_beginWait g (wait := fun _ _ W f => .barrier o.scope o.id ((W.read f o.a).val.toNat % 2)) ?_
  show execBarw o s = _
  rw [execBarw, execBar_of_ok g hok hgt]
  simp only [hbit]
  rfl

/-- A twin is told the phase of its primary's arrival at a wide barrier; any other arrival has the phase that its group sees. -/
theorem State.arrivalPhase_spec (s : State) (G : Group) (scope id : Nat) :
    (scope = 0 ∨ G.isTwin = false → s.arrivalPhase G scope id = s.phaseOf G scope id) ∧
    ∀ k, scope ≠ 0 → G.isTwin = true → s.wideKey G scope id = some k → s.arrivalPhase G scope id = (s.wbar k).told := by
  refine ⟨fun h => if_neg ?_, fun k hs ht hk => ?_⟩
  · rintro ⟨hs, ht⟩
    rcases h with h | h
    · exact hs h
    · rw [h] at ht; cases ht
  · rw [State.arrivalPhase, if_pos ⟨hs, ht⟩, hk]

/-! ## BARC (R140) -/

variable {o : Form.BarA} {f : Nat} (g : Goes (.barc o) s c G W) (hok : s.barrierOk G o.scope o.id true = true)
  (hf : (acting (.barc o) c W).getLast? = some f) (hc : barcOk o.scope (W.read f o.a).val (W.read f (regPlus o.a 1)).val = true)
include g hok hf hc

theorem exec_barc_core (h0 : o.scope = 0) : exec (.barc o) s = .next ((s.setWave c (W.advance c)).configCore c.grp o.id
    (bits (W.read f o.a).val.toNat 0 16) ((W.read f o.a).val.toNat.testBit 16) (bits (W.read f (regPlus o.a 1)).val.toNat 0 16)) := by
  have hgt : acting (.barc o) c W ≠ [] := fun h => by rw [h] at hf; cases hf
  show execBarc o s = _
  rw [execBarc, execBar_of_ok g hok hgt]
  simp only [highest, hf, Option.getD_some, hc, Bool.not_true, Bool.false_eq_true, if_false, if_pos h0]

theorem exec_barc_wide (h0 : o.scope ≠ 0) {k : Nat} (hk : s.wideKey G o.scope o.id = some k) : exec (.barc o) s =
    .next ((s.setWave c (W.advance c)).configWide k (k % 16) o.scope (bits (W.read f o.a).val.toNat 0 16)) := by
  have hgt : acting (.barc o) c W ≠ [] := fun h => by rw [h] at hf; cases hf
  show execBarc o s = _
  rw [execBarc, execBar_of_ok g hok hgt]
  simp only [highest, hf, Option.getD_some, hc, Bool.not_true, Bool.false_eq_true, if_false, if_neg h0, hk]

end

/-- BARC of a core barrier: its fields are those of the pair, and it is armed. -/
theorem State.configCore_spec {s : State} {g w id exp members : Nat} {live : Bool} {G : Group} {V : Wave} (hg : s.group g = some G)
    (hw : s.wave g w = some V) : (s.configCore g id exp live members).wave g w = some V ∧
      ∃ H, (s.configCore g id exp live members).group g = some H ∧
        H.bar id = { G.bar id with exp := exp, live := live, members := members, armed := true, due := true } := by
  have hH : (s.configCore g id exp live members).group g = some (G.modBar id fun b =>
      { b with exp := exp, live := live, members := members, armed := true, due := true }) := by
    rw [State.configCore, State.group_modGroup_self, hg, Option.map_some]
  refine ⟨?_, _, hH, Group.bar_modBar_self _ _ _⟩
  rw [State.wave, hg] at hw
  rw [State.wave, hH]
  exact hw

theorem barc_configures {s : State} {c : Issue} {G : Group} {W : Wave} {o : Form.BarA} {f : Nat} (g : Goes (.barc o) s c G W)
    (hok : s.barrierOk G o.scope o.id true = true) (hf : (acting (.barc o) c W).getLast? = some f)
    (hc : barcOk o.scope (W.read f o.a).val (W.read f (regPlus o.a 1)).val = true) :
    ∃ t, exec (.barc o) s = .next t ∧ t.wave c.grp c.wave = some (W.advance c) ∧ t.mem = s.mem ∧
      (o.scope = 0 → ∃ H, t.group c.grp = some H ∧ (H.bar o.id).armed = true ∧
        (H.bar o.id).members = (W.read f (regPlus o.a 1)).val.toNat % 2 ^ 16 ∧
        (H.bar o.id).live = (W.read f o.a).val.getLsbD 16 ∧
        ((W.read f o.a).val.getLsbD 16 = false → (H.bar o.id).exp = (W.read f o.a).val.toNat % 2 ^ 16)) ∧
      (1 ≤ o.scope → o.scope ≤ 3 → ∃ k, s.wideKey G o.scope o.id = some k ∧ (t.wbar k).armed = true ∧
        (t.wbar k).exp = (W.read f o.a).val.toNat % 2 ^ 16) := by
  have hbits : ∀ n, bits n 0 16 = n % 2 ^ 16 := fun n => by rw [bits, Nat.pow_zero, Nat.div_one]
  have hwave := State.wave_setWave (W.advance c) (wave_of_issuing g.toIssuing)
  by_cases h0 : o.scope = 0
  · have hgroup : (s.setWave c (W.advance c)).group c.grp = some (G.modWave c.wave fun _ => W.advance c) := by
      rw [State.group_setWave, g.group, Option.map_some]
    obtain ⟨hV, H, hH, hbar⟩ := State.configCore_spec (id := o.id) (exp := bits (W.read f o.a).val.toNat 0 16)
      (live := (W.read f o.a).val.toNat.testBit 16) (members := bits (W.read f (regPlus o.a 1)).val.toNat 0 16) hgroup hwave
    refine ⟨_, exec_barc_core g hok hf hc h0, hV, rfl, fun _ => ⟨H, hH, ?_⟩, fun h1 => absurd h0 (by omega)⟩
    rw [hbar, ← hbits, ← hbits]
    exact ⟨rfl, rfl, rfl, fun _ => rfl⟩
  · obtain ⟨k, hk⟩ := State.wideKey_of_barrierOk hok h0
    have hwork := (s.setWave c (W.advance c)).work_configWide k (k % 16) o.scope (bits (W.read f o.a).val.toNat 0 16)
    refine ⟨_, exec_barc_wide g hok hf hc h0 hk, (State.wave_of_work hwork _ _).trans hwave, (congrArg Prod.snd hwork :),
      fun h => absurd h h0, fun _ h3 => ⟨k, hk, ?_⟩⟩
    rw [← hbits]
    exact State.wbar_configWide (by omega) _ _ _

/-- Settles O24: an allowed barrier instruction acts as written, and any other one takes the fault. -/
theorem barrierInstructionsComplete : Obligations.BarrierInstructionsComplete := by
  intro s c G W
  refine ⟨fun o g hok hgt => ?bara, fun o g hok hgt => ?bars, fun scope id => s.arrivalPhase_spec G scope id, fun o => movesFibres_barw,
    fun o f g hok hf hc => barc_configures g hok hf hc, fun i scope id conf hi g hgt hok => ?fault⟩
  case bara =>
    have hdst : (opndsOf (.bara o)).dstRegs = if o.token = 1 then [o.a] else [] := by
      rw [Opnds.dstRegs, show (opndsOf (.bara o)).dsts = if o.token = 1 then [⟨o.a, 1⟩] else [] from rfl]
      split
      · exact flatMap_regRun_one _
      · rfl
    exact ⟨_, exec_bara g hok hgt, writesRegs_of_dstRegs g hdst (by split <;> simp) _⟩
  case bars =>
    exact ⟨_, exec_bars g hok hgt, foldl_advance_rest _ W c _,
      fib_acting g _ fun f hf => st_setPc_of_acting g.toIssuing hf _⟩
  case fault =>
    obtain ⟨run, he⟩ : ∃ run, exec i s = execBar i s scope id conf run := by
      rcases hi with ⟨o, rfl, rfl, rfl, rfl⟩ | ⟨o, rfl, rfl, rfl, rfl⟩ | ⟨o, rfl, rfl, rfl, rfl⟩ | ⟨o, rfl, rfl, rfl, rfl⟩
      · exact ⟨_, show execBara o s = _ from rfl⟩
      · exact ⟨_, show execBarw o s = _ from rfl⟩
      · exact ⟨_, show execBars o s = _ from rfl⟩
      · exact ⟨_, show execBarc o s = _ from rfl⟩
    rw [he, execBar_of_not_ok g hok hgt]

end Sys2Proof.Machine

/-! Proofs about the results of integer arithmetic, shifts, counts, fields and immediate forms (R149 to R152, R154). -/
namespace Sys2Proof.Machine

/-! ## Arithmetic modulo 2^32 (R149) -/

section
variable (x : LaneIn)

theorem laneIadd_spec : ∃ w t, laneIadd x = { regs := [⟨w, t⟩] } ∧ w.toNat = (x.n 0 + x.n 1) % 2 ^ 32 :=
  ⟨_, _, rfl, BitVec.toNat_add _ _⟩

theorem laneIsub_spec : ∃ w t, laneIsub x = { regs := [⟨w, t⟩] } ∧ (w.toNat : Int) = ((x.n 0 : Int) - x.n 1) % 2 ^ 32 := by
  refine ⟨_, _, rfl, ?_⟩
  have h1 := n_lt x 1
  rw [BitVec.toNat_sub, ← LaneIn.n, ← LaneIn.n]
  omega

theorem laneImul_spec : ∃ w t, laneImul x = { regs := [⟨w, t⟩] } ∧ w.toNat = x.n 0 * x.n 1 % 2 ^ 32 :=
  ⟨_, _, rfl, BitVec.toNat_mul _ _⟩

theorem laneImad_spec : ∃ w t, laneImad x = { regs := [⟨w, t⟩] } ∧ w.toNat = (x.n 0 * x.n 1 + x.n 2) % 2 ^ 32 := by
  refine ⟨_, _, rfl, ?_⟩
  rw [BitVec.toNat_add, BitVec.toNat_mul, Nat.mod_add_mod]
  rfl

theorem laneIneg_spec : ∃ w t, laneIneg x = { regs := [⟨w, t⟩] } ∧ (w.toNat : Int) = (-(x.n 0 : Int)) % 2 ^ 32 := by
  refine ⟨_, _, rfl, ?_⟩
  have h0 := n_lt x 0
  rw [BitVec.toNat_sub, ← LaneIn.n, show (0 : Word).toNat = 0 from rfl]
  omega

theorem laneImulhI32_spec : ∃ w t, laneImulhI32 x = { regs := [⟨w, t⟩] } ∧
    (w.toNat : Int) = (x.w 0).toInt * (x.w 1).toInt / 2 ^ 32 % 2 ^ 32 := by
  refine ⟨_, _, rfl, ?_⟩
  rw [sx32_eq, sx32_eq, BitVec.toNat_ofNat, narrow]
  generalize (x.w 0).toInt * (x.w 1).toInt = v
  omega

theorem laneImulhN32_spec : ∃ w t, laneImulhN32 x = { regs := [⟨w, t⟩] } ∧ w.toNat = x.n 0 * x.n 1 / 2 ^ 32 := by
  refine ⟨_, _, rfl, ?_⟩
  rw [BitVec.toNat_ofNat]
  exact Nat.mod_eq_of_lt (Nat.div_lt_of_lt_mul ((Nat.mul_lt_mul'' (n_lt x 0) (n_lt x 1)).trans_eq (by norm_num)))

theorem laneIabs_spec : ∃ w t, laneIabs x = { regs := [⟨w, t⟩] } ∧ w.toNat = (x.w 0).toInt.natAbs := by
  refine ⟨_, _, rfl, ?_⟩
  have hlo := (x.w 0).le_toInt
  have hhi := (x.w 0).toInt_lt
  rw [sx32_eq, wordOf_eq, BitVec.toNat_ofInt]
  omega

/-! ## The lesser and the greater (R149) -/

theorem laneIminI32_spec : ∃ w t, laneIminI32 x = { regs := [⟨w, t⟩] } ∧ w.toInt = min (x.w 0).toInt (x.w 1).toInt := by
  refine ⟨_, _, rfl, ?_⟩
  rw [sx32_eq, sx32_eq, min_def, apply_ite BitVec.toInt]

theorem laneImaxI32_spec : ∃ w t, laneImaxI32 x = { regs := [⟨w, t⟩] } ∧ w.toInt = max (x.w 0).toInt (x.w 1).toInt := by
  refine ⟨_, _, rfl, ?_⟩
  rw [sx32_eq, sx32_eq, max_def, apply_ite BitVec.toInt]

theorem laneIminN32_spec : ∃ w t, laneIminN32 x = { regs := [⟨w, t⟩] } ∧ w.toNat = min (x.n 0) (x.n 1) := by
  refine ⟨_, _, rfl, ?_⟩
  rw [min_def, apply_ite BitVec.toNat]
  rfl

theorem laneImaxN32_spec : ∃ w t, laneImaxN32 x = { regs := [⟨w, t⟩] } ∧ w.toNat = max (x.n 0) (x.n 1) := by
  refine ⟨_, _, rfl, ?_⟩
  rw [max_def, apply_ite BitVec.toNat]
  rfl

/-! ## Division (R150) -/

theorem w_ne_zero_of_n {x : LaneIn} {i : Nat} (h : x.n i ≠ 0) : x.w i ≠ 0 := fun e => h (by rw [LaneIn.n, e]; rfl)

theorem laneIdivN32_spec (h : x.n 1 ≠ 0) : ∃ w t, laneIdivN32 x = { regs := [⟨w, t⟩] } ∧ w.toNat = x.n 0 / x.n 1 := by
  refine ⟨_, _, if_neg (w_ne_zero_of_n h), ?_⟩
  rw [BitVec.toNat_ofNat]
  exact Nat.mod_eq_of_lt ((Nat.div_le_self _ _).trans_lt (n_lt x 0))

theorem laneIremN32_spec (h : x.n 1 ≠ 0) : ∃ w t, laneIremN32 x = { regs := [⟨w, t⟩] } ∧ w.toNat = x.n 0 % x.n 1 := by
  refine ⟨_, _, if_neg (w_ne_zero_of_n h), ?_⟩
  rw [BitVec.toNat_ofNat]
  exact Nat.mod_eq_of_lt ((Nat.mod_le _ _).trans_lt (n_lt x 0))

theorem laneIdivI32_spec (h : x.n 1 ≠ 0) : ∃ w t, laneIdivI32 x = { regs := [⟨w, t⟩] } ∧
    w.toInt = ((x.w 0).toInt.tdiv (x.w 1).toInt).bmod (2 ^ 32) := by
  refine ⟨_, _, if_neg (w_ne_zero_of_n h), ?_⟩
  rw [sx32_eq, sx32_eq, wordOf_eq, BitVec.toInt_ofInt]

/-- A remainder is smaller than its divisor, so it is a word. -/
theorem laneIremI32_spec (h : x.n 1 ≠ 0) : ∃ w t, laneIremI32 x = { regs := [⟨w, t⟩] } ∧
    w.toInt = (x.w 0).toInt.tmod (x.w 1).toInt := by
  refine ⟨_, _, if_neg (w_ne_zero_of_n h), ?_⟩
  have hne : (x.w 1).toInt ≠ 0 := fun e => w_ne_zero_of_n h (BitVec.toInt_inj.mp (e.trans BitVec.toInt_zero.symm))
  have hlo := (x.w 1).le_toInt
  have hhi := (x.w 1).toInt_lt
  have hlt : ((x.w 0).toInt.tmod (x.w 1).toInt).natAbs < (x.w 1).toInt.natAbs := by
    rw [Int.natAbs_tmod]
    exact Nat.mod_lt _ (Int.natAbs_pos.mpr hne)
  rw [sx32_eq, sx32_eq, wordOf_eq]
  exact BitVec.toInt_ofInt_eq_self (by decide) (by omega) (by omega)

/-- A division by zero gives all ones, its remainder the dividend, and IDZ. -/
theorem laneDivisions_by_zero (h : x.n 1 = 0) : ∃ t t' u u', laneIdivI32 x = { regs := [⟨0xFFFFFFFF, t⟩], exc := 0x20 } ∧
    laneIdivN32 x = { regs := [⟨0xFFFFFFFF, t'⟩], exc := 0x20 } ∧ laneIremI32 x = { regs := [⟨x.w 0, u⟩], exc := 0x20 } ∧
    laneIremN32 x = { regs := [⟨x.w 0, u'⟩], exc := 0x20 } := by
  have hw : x.w 1 = 0 := BitVec.eq_of_toNat_eq h
  exact ⟨_, _, _, _, if_pos hw, if_pos hw, if_pos hw, if_pos hw⟩

end

/-! ## Shifts (R151) -/

theorem toNat_shl32 (a : Word) (n : Nat) : (shl32 a n).toNat = a.toNat * 2 ^ n % 2 ^ 32 := by
  unfold shl32
  split
  · rw [BitVec.toNat_shiftLeft, Nat.shiftLeft_eq]
  · next h => exact (Nat.mod_eq_zero_of_dvd (Dvd.dvd.mul_left (Nat.pow_dvd_pow 2 (not_lt.mp h)) _)).symm

theorem toNat_shr32 (a : Word) (n : Nat) : (shr32 a n).toNat = a.toNat / 2 ^ n := by
  unfold shr32
  split
  · rw [BitVec.toNat_ushiftRight, Nat.shiftRight_eq_div_pow]
  · next h => exact (Nat.div_eq_of_lt (a.isLt.trans_le (Nat.pow_le_pow_right (by decide) (not_lt.mp h)))).symm

/-- A number of `k` bits and a sign, shifted by more than `k`, is its sign. -/
theorem ediv_two_pow_min_of_fits {i : Int} {k : Nat} (h1 : -2 ^ k ≤ i) (h2 : i < 2 ^ k) (n : Nat) : i / 2 ^ min n k = i / 2 ^ n := by
  rcases le_total n k with h | h
  · rw [min_eq_left h]
  · have hp : (2 : Int) ^ k ≤ 2 ^ n := pow_le_pow_right₀ (by decide) h
    rw [min_eq_right h]
    rcases lt_or_ge i 0 with h0 | h0
    · rw [Int.ediv_eq_neg_one_of_neg_of_le h0 (by omega), Int.ediv_eq_neg_one_of_neg_of_le h0 (by omega)]
    · rw [Int.ediv_eq_zero_of_lt h0 h2, Int.ediv_eq_zero_of_lt h0 (by omega)]

theorem toInt_sar32 (a : Word) (n : Nat) : (sar32 a n).toInt = a.toInt / 2 ^ n := by
  rw [sar32, BitVec.toInt_sshiftRight, Int.shiftRight_eq_div_pow]
  push_cast
  exact ediv_two_pow_min_of_fits a.le_toInt a.toInt_lt n

theorem laneRotl_spec (x : LaneIn) : ∃ w, laneRotl x = { regs := [⟨w, .b32⟩] } ∧
    ∀ k < 32, w.getLsbD ((k + x.n 1) % 32) = (x.w 0).getLsbD k := by
  refine ⟨_, rfl, fun k hk => ?_⟩
  have hr : x.n 1 % 32 % 32 = x.n 1 % 32 := Nat.mod_mod _ _
  rw [← LaneIn.n, BitVec.getLsbD_rotateLeft, hr]
  by_cases hlt : k + x.n 1 % 32 < 32
  · have hi : (k + x.n 1) % 32 = k + x.n 1 % 32 := by omega
    rw [hi, decide_eq_false (by omega), decide_eq_true hlt, Nat.add_sub_cancel]
    rfl
  · have hi : (k + x.n 1) % 32 < x.n 1 % 32 := by omega
    rw [decide_eq_true hi, show 32 - x.n 1 % 32 + (k + x.n 1) % 32 = k by omega]
    rfl

/-! ## Counts and bit reversal (R151) -/

theorem lanePopc_spec (x : LaneIn) : ∃ w, lanePopc x = { regs := [⟨w, .n32⟩] } ∧
    w.toNat = ((List.range 32).filter fun k => (x.w 0).getLsbD k).length := by
  refine ⟨_, rfl, ?_⟩
  have hle : popCount 32 (x.w 0).toNat ≤ 32 := (List.length_filter_le _ _).trans_eq List.length_range
  rw [BitVec.toNat_ofNat, Nat.mod_eq_of_lt (by omega)]
  rfl

/-- The leading zero bits of a word are those above its highest 1 bit. -/
theorem laneClz_spec (x : LaneIn) : ∃ w, laneClz x = { regs := [⟨w, .n32⟩] } ∧ w.toNat ≤ 32 ∧ x.n 0 < 2 ^ (32 - w.toNat) ∧
    (w.toNat < 32 → 2 ^ (31 - w.toNat) ≤ x.n 0) := by
  refine ⟨_, rfl, ?_⟩
  by_cases h0 : x.w 0 = 0
  · rw [if_pos h0, show x.n 0 = 0 from congrArg BitVec.toNat h0]
    decide
  · have hn : x.n 0 ≠ 0 := fun h => h0 (BitVec.eq_of_toNat_eq h)
    have hlog : (x.n 0).log2 < 32 := (Nat.log2_lt hn).mpr (n_lt x 0)
    have hw : (BitVec.ofNat 32 (31 - (x.n 0).log2)).toNat = 31 - (x.n 0).log2 := by
      rw [BitVec.toNat_ofNat]
      omega
    rw [if_neg h0, ← LaneIn.n, hw, show 32 - (31 - (x.n 0).log2) = (x.n 0).log2 + 1 by omega,
      show 31 - (31 - (x.n 0).log2) = (x.n 0).log2 by omega]
    exact ⟨by omega, Nat.lt_log2_self, fun _ => Nat.log2_self_le hn⟩

/-- Bits put one after the other are the bits put. -/
theorem getLsbD_foldl_putBit_of (b : Nat → Bool) (l : List Nat) (w : Word) {k : Nat} (hk : k < 32) :
    (l.foldl (fun w i => putBit w i (b i)) w).getLsbD k = if k ∈ l then b k else w.getLsbD k := by
  induction l generalizing w with
  | nil => rfl
  | cons i l ih =>
    rw [List.foldl_cons, ih, getLsbD_putBit w i k (b i) hk]
    by_cases hki : k = i
    · subst hki; simp
    · simp [hki]

theorem laneBrev_spec (x : LaneIn) : ∃ w, laneBrev x = { regs := [⟨w, .b32⟩] } ∧
    ∀ k < 32, w.getLsbD k = (x.w 0).getLsbD (31 - k) := by
  refine ⟨_, rfl, fun k hk => ?_⟩
  rw [getLsbD_foldl_putBit_of (fun i => bitOf (x.w 0) (31 - i)) _ _ hk, if_pos (List.mem_range.mpr hk)]
  rfl

/-! ## Bitwise operations (R151) -/

theorem laneNotOp_spec (x : LaneIn) : ∃ w, laneNotOp x = { regs := [⟨w, .b32⟩] } ∧ ∀ k < 32, w.getLsbD k = !(x.w 0).getLsbD k :=
  ⟨_, rfl, fun k hk => by rw [BitVec.getLsbD_not, decide_eq_true hk, Bool.true_and]⟩

theorem laneAndn_spec (x : LaneIn) : ∃ w, laneAndn x = { regs := [⟨w, .b32⟩] } ∧
    ∀ k < 32, w.getLsbD k = ((x.w 0).getLsbD k && !(x.w 1).getLsbD k) :=
  ⟨_, rfl, fun k hk => by rw [BitVec.getLsbD_and, BitVec.getLsbD_not, decide_eq_true hk, Bool.true_and]⟩

theorem laneXorOp_spec (x : LaneIn) : ∃ w, laneXorOp x = { regs := [⟨w, .b32⟩] } ∧
    ∀ k < 32, w.getLsbD k = ((x.w 0).getLsbD k != (x.w 1).getLsbD k) := ⟨_, rfl, fun _ _ => BitVec.getLsbD_xor⟩

/-! ## Fields (R152) -/

/-- The field that a descriptor names. -/
theorem fieldOf_eq {d : Word} {p w : Nat} (hp : p = d.toNat % 32) (hw : w = min (d.toNat / 2 ^ 8 % 2 ^ 6) (32 - p)) :
    fieldOf d = (p, w) := by
  have h5 : bits d.toNat 0 5 = p := by simp [bits, hp]
  rw [fieldOf, h5, hw, bits]

theorem toInt_wordOf_of_fits {v : Int} (hlo : -2 ^ 31 ≤ v) (hhi : v < 2 ^ 31) : (wordOf v).toInt = v := by
  rw [wordOf_eq]
  exact BitVec.toInt_ofInt_eq_self (by decide) hlo hhi

/-- A number of 1 to 32 bits that is read as signed fits a word. -/
theorem toInt_wordOf_sx {v w : Nat} (hw : 0 < w) (hw32 : w ≤ 32) (hv : v < 2 ^ w) :
    (wordOf (sx v w)).toInt = if 2 ^ (w - 1) ≤ v then (v : Int) - 2 ^ w else v := by
  obtain ⟨k, rfl⟩ := Nat.exists_eq_succ_of_ne_zero hw.ne'
  have hk : 2 ^ k ≤ 2 ^ 31 := Nat.pow_le_pow_right (by decide) (by omega)
  have hpow : (2 : Int) ^ (k + 1) = (2 ^ (k + 1) : Nat) := by push_cast; rfl
  have hsx := sx_of_lt hv
  have hdouble : 2 ^ (k + 1) = 2 ^ k * 2 := pow_succ 2 k
  simp only [Nat.succ_eq_add_one, Nat.add_sub_cancel, hpow] at hv hsx ⊢
  by_cases h : 2 ^ k ≤ v
  · rw [if_neg (not_lt.mpr h)] at hsx
    rw [if_pos h, hsx]
    exact toInt_wordOf_of_fits (by omega) (by omega)
  · rw [if_pos (not_le.mp h)] at hsx
    rw [if_neg h, hsx]
    exact toInt_wordOf_of_fits (by omega) (by omega)

theorem laneBfx_spec (x : LaneIn) (p w v : Nat) (hp : p = x.n 1 % 32) (hw : w = min (x.n 1 / 2 ^ 8 % 2 ^ 6) (32 - p))
    (hv : v = x.n 0 / 2 ^ p % 2 ^ w) :
    laneBfxN32 x = { regs := [⟨BitVec.ofNat 32 v, .n32⟩] } ∧
    ∃ u : Word, laneBfxI32 x = { regs := [⟨u, .i32⟩] } ∧ u.toInt = if w ≠ 0 ∧ 2 ^ (w - 1) ≤ v then (v : Int) - 2 ^ w else v := by
  have hf := fieldOf_eq hp hw
  have hbits : bits (x.w 0).toNat p w = v := hv.symm
  by_cases h0 : w = 0
  · have hv0 : v = 0 := by rw [hv, h0, Nat.pow_zero, Nat.mod_one]
    refine ⟨?_, 0, ?_, ?_⟩
    · simp only [laneBfxN32, bfx, hf, h0, hv0, if_true]; rfl
    · simp only [laneBfxI32, bfx, hf, h0, if_true]; rfl
    · simp [h0, hv0]
  · have hlt : v < 2 ^ w := hv ▸ Nat.mod_lt _ (Nat.two_pow_pos w)
    refine ⟨?_, wordOf (sx v w), ?_, ?_⟩
    · simp only [laneBfxN32, bfx, hf, h0, if_false, hbits, Bool.false_eq_true]; rfl
    · simp only [laneBfxI32, bfx, hf, h0, if_false, hbits, if_true]; rfl
    · rw [toInt_wordOf_sx (by omega) (by omega) hlt]
      simp [h0]

/-- The bits of a field of a word. -/
theorem getLsbD_fieldMask (p w : Nat) {k : Nat} (hk : k < 32) :
    (BitVec.ofNat 32 ((2 ^ w - 1) * 2 ^ p)).getLsbD k = decide (p ≤ k ∧ k < p + w) := by
  rw [BitVec.getLsbD_ofNat, Nat.testBit_mul_two_pow, Nat.testBit_two_pow_sub_one, decide_eq_true hk, Bool.true_and,
    ← Bool.decide_and]
  exact decide_eq_decide.mpr (by omega)

theorem laneBfi_spec (x : LaneIn) (p w : Nat) (hp : p = x.n 2 % 32) (hw : w = min (x.n 2 / 2 ^ 8 % 2 ^ 6) (32 - p)) :
    ∃ u : Word, laneBfi x = { regs := [⟨u, .b32⟩] } ∧
      ∀ k < 32, u.getLsbD k = if p ≤ k ∧ k < p + w then (x.w 1).getLsbD (k - p) else (x.w 0).getLsbD k := by
  refine ⟨_, rfl, fun k hk => ?_⟩
  simp only [bfi, fieldOf_eq hp hw, BitVec.getLsbD_or, BitVec.getLsbD_and, BitVec.getLsbD_not, BitVec.getLsbD_shiftLeft,
    getLsbD_fieldMask p w hk, decide_eq_true hk, Bool.true_and]
  by_cases h : p ≤ k ∧ k < p + w
  · simp [h, Nat.not_lt.mpr h.1]
  · simp [h]

/-! ## Immediate forms (R154) -/

section
variable (x : LaneIn) (o : Form.DI)

theorem getLsbD_imm {k : Nat} (hk : k < 32) (imm : Nat) : (BitVec.ofNat 32 imm).getLsbD k = imm.testBit k := by
  rw [BitVec.getLsbD_ofNat, decide_eq_true hk, Bool.true_and]

theorem laneAndi_spec : ∃ w : Word, laneAndi o x = { regs := [⟨w, .b32⟩] } ∧
    ∀ k < 32, w.getLsbD k = ((x.w 0).getLsbD k && o.imm.testBit k) :=
  ⟨_, rfl, fun k hk => by rw [BitVec.getLsbD_and, getLsbD_imm hk]⟩

theorem laneOri_spec : ∃ w : Word, laneOri o x = { regs := [⟨w, .b32⟩] } ∧
    ∀ k < 32, w.getLsbD k = ((x.w 0).getLsbD k || o.imm.testBit k) :=
  ⟨_, rfl, fun k hk => by rw [BitVec.getLsbD_or, getLsbD_imm hk]⟩

theorem laneXori_spec : ∃ w : Word, laneXori o x = { regs := [⟨w, .b32⟩] } ∧
    ∀ k < 32, w.getLsbD k = ((x.w 0).getLsbD k != o.imm.testBit k) :=
  ⟨_, rfl, fun k hk => by rw [BitVec.getLsbD_xor, getLsbD_imm hk]⟩

variable {o} {m : Int} (himm : o.imm < 2 ^ 14) (hm : m = if o.imm < 2 ^ 13 then (o.imm : Int) else (o.imm : Int) - 2 ^ 14)
include himm hm

theorem sx_imm14 : sx o.imm 14 = m := (sx_of_lt himm).trans hm.symm

theorem laneIaddi_spec : ∃ (w : Word) (t : Tag), laneIaddi o x = { regs := [⟨w, t⟩] } ∧
    (w.toNat : Int) = ((x.n 0 : Int) + m) % 2 ^ 32 := by
  refine ⟨_, _, rfl, ?_⟩
  rw [sx_imm14 himm hm, BitVec.toNat_add, wordOf_eq, BitVec.toNat_ofInt, ← LaneIn.n]
  omega

theorem laneMovi_spec : ∃ w : Word, laneMovi o x = { regs := [⟨w, .i32⟩] } ∧ w.toInt = m := by
  refine ⟨_, rfl, ?_⟩
  rw [sx_imm14 himm hm]
  refine toInt_wordOf_of_fits ?_ ?_ <;> rw [hm] <;> split <;> omega

end

theorem laneIaddl_spec (x : LaneIn) (o : Form.Iaddl) : ∃ (w : Word) (t : Tag), laneIaddl o x = { regs := [⟨w, t⟩] } ∧
    w.toNat = (x.n 0 + o.imm) % 2 ^ 32 := by
  refine ⟨_, _, rfl, ?_⟩
  rw [BitVec.toNat_add, BitVec.toNat_ofNat, Nat.add_mod_mod]
  rfl

/-- Settles O29: each clause is the lemma that says what its lane function gives. -/
theorem integerResults : Obligations.IntegerResults := by
  refine ⟨fun x => ⟨laneIadd_spec x, laneIsub_spec x, laneImul_spec x, laneImulhI32_spec x, laneImulhN32_spec x,
      laneIdivN32_spec x, laneIremN32_spec x, laneIdivI32_spec x, laneIremI32_spec x, laneDivisions_by_zero x,
      laneIminI32_spec x, laneImaxI32_spec x, laneIminN32_spec x, laneImaxN32_spec x, laneIabs_spec x, laneIneg_spec x, laneImad_spec x⟩,
    fun x => ⟨⟨_, rfl, toNat_shl32 _ _⟩, ⟨_, rfl, toNat_shr32 _ _⟩, ⟨_, rfl, toInt_sar32 _ _⟩, laneRotl_spec x, lanePopc_spec x,
      laneClz_spec x, laneBrev_spec x, laneNotOp_spec x, laneAndn_spec x, ⟨_, rfl, fun _ _ => BitVec.getLsbD_and⟩,
      ⟨_, rfl, fun _ _ => BitVec.getLsbD_or⟩, laneXorOp_spec x⟩, laneBfx_spec, laneBfi_spec,
    fun x o m himm hm => ⟨laneIaddi_spec x himm hm, laneAndi_spec x o, laneOri_spec x o, laneXori_spec x o, laneMovi_spec x himm hm⟩,
    fun x o _ => ⟨⟨_, rfl, toNat_shl32 _ _⟩, ⟨_, rfl, toNat_shr32 _ _⟩, ⟨_, rfl, toInt_sar32 _ _⟩⟩, laneIaddl_spec⟩

end Sys2Proof.Machine

/-! Proofs about the instructions that hold a fibre (R133, R134, R145, R212, R250, R285). -/
namespace Sys2Proof.Machine
open Sys2Proof.Safety

/-! ## What MXWAIT and FENCE wait for (R250, R285) -/

theorem Group.mem_tileOps {G : Group} {w n : Nat} : (w, n) ∈ G.tileOps ↔
    ∃ V k e, (w, V) ∈ G.waves ∧ (k, e) ∈ V.sb ∧ 40 ≤ k ∧ k < 48 ∧ e.age < V.ageMark ∧ e.age = n := by
  simp only [Group.tileOps, List.mem_flatMap, List.mem_map, List.mem_filter, Bool.and_eq_true, decide_eq_true_eq, Prod.mk.injEq]
  constructor
  · rintro ⟨⟨_, V⟩, hV, ⟨k, e⟩, ⟨hk, ⟨h40, h48⟩, hage⟩, rfl, rfl⟩
    exact ⟨V, k, e, hV, hk, h40, h48, hage, rfl⟩
  · rintro ⟨V, k, e, hV, hk, h40, h48, hage, rfl⟩
    exact ⟨(w, V), hV, (k, e), ⟨hk, ⟨h40, h48⟩, hage⟩, rfl, rfl⟩

theorem Wave.mem_fenced {W : Wave} {kind f n : Nat} : n ∈ W.fenced kind f ↔
    ∃ k e, (k, e) ∈ W.sb ∧ accessSlot k = true ∧ isPgreq e.instr = false ∧ (kind = 0 → readsMemory e.instr = true) ∧
      (∃ a ∈ e.accs, a.fib = f ∧ a.waits = true) ∧ e.age = n := by
  have hkind : ∀ i, (kind != 0 || readsMemory i) = true ↔ (kind = 0 → readsMemory i = true) := fun i => by
    by_cases h : kind = 0 <;> simp [h]
  simp only [Wave.fenced, List.mem_map, List.mem_filter, Bool.and_eq_true, Bool.not_eq_true', List.any_eq_true, beq_iff_eq, hkind]
  constructor
  · rintro ⟨⟨k, e⟩, ⟨hk, ⟨⟨hslot, hpg⟩, hread⟩, hacc⟩, rfl⟩
    exact ⟨k, e, hk, hslot, hpg, hread, hacc, rfl⟩
  · rintro ⟨k, e, hk, hslot, hpg, hread, hacc, rfl⟩
    exact ⟨(k, e), ⟨hk, ⟨⟨hslot, hpg⟩, hread⟩, hacc⟩, rfl⟩

/-! ## TWANY (R212) -/

section
variable {s : State} {c : Issue} {G : Group} {W : Wave} {o : Form.DA}

theorem Wave.toNat_readPair_beq (W : Wave) (f : Nat) (r : Reg) : ((W.readPair f r).toNat == 0) = (W.readPair f r == 0) := by
  rw [Bool.beq_eq_decide_eq, Bool.beq_eq_decide_eq]
  exact decide_eq_decide.mpr ⟨fun h => BitVec.eq_of_toNat_eq h, fun h => congrArg BitVec.toNat h⟩

theorem movesFibres_twany (g : Goes (.twany o) s c G W) (h : ∀ f ∈ acting (.twany o) c W, W.readPair f o.a ≠ 0) :
    MovesFibres (.twany o) s c W fun f F => { F with wait := .twany (W.readPair f o.a).toNat [(W.fib f).dreg o.d] } := by
  have hbad : (acting (.twany o) c W).filter (fun f => W.readPair f o.a == 0) = [] :=
    List.filter_eq_nil_iff.mpr fun f hf => by simpa using h f hf
  refine movesFibres_of_beginWait g (wait := fun _ _ W f => .twany (W.readPair f o.a).toNat [(W.fib f).dreg o.d]) ?_
  show execTwany o s = _
  rw [execTwany, issueWith_go g]
  simp only [Wave.toNat_readPair_beq, hbad, ne_eq, not_true, if_false]
  rfl

theorem exec_twany_empty (g : Goes (.twany o) s c G W) (h : ∃ f ∈ acting (.twany o) c W, W.readPair f o.a = 0) :
    exec (.twany o) s = .next (s.takeFault c
      { cause := 0x07, fmask := maskOf ((acting (.twany o) c W).filter fun f => W.readPair f o.a == 0) } false
      (maskOf (acting (.twany o) c W)) .none) := by
  have hbad : (acting (.twany o) c W).filter (fun f => W.readPair f o.a == 0) ≠ [] := by
    obtain ⟨f, hf, h0⟩ := h
    exact List.ne_nil_of_mem (List.mem_filter.mpr ⟨hf, by simpa using h0⟩)
  show execTwany o s = _
  rw [execTwany, issueWith_go g]
  simp only [Wave.toNat_readPair_beq, hbad, ne_eq, not_false_iff, if_true]
  rfl

end

/-! ## ISYNC (R145) -/

/-- Where the checks of R76 have passed, an entry of the instruction's class is free. -/
theorem freeEntry_of_goes {i : Instr} {s : State} {c : Issue} {G : Group} {W : Wave} (g : Goes i s c G W) {k : OpClass}
    (hk : (opndsOf i).entry = some k) : ∃ slot, W.freeEntry k = some slot := by
  by_contra hno
  have hnone : W.freeEntry k = none := by
    cases h : W.freeEntry k with
    | none => rfl
    | some slot => exact absurd ⟨slot, h⟩ hno
  have hg := g.gate
  simp only [Machine.gate, hk, hnone, Option.any_some, Option.isNone_none, if_true] at hg
  repeat' split at hg
  all_goals cases hg

section
variable {s : State} {c : Issue} {G : Group} {W : Wave} {o : Form.AB}

theorem exec_isync_of_nil (g : Goes (.isync o) s c G W) (h : acting (.isync o) c W = []) :
    exec (.isync o) s = .next (s.setWave c (W.advance c)) := by
  show execIsync o s = _
  rw [execIsync, issueWith_go g, h]
  rfl

/-- The range that each guard-true fibre of ISYNC names. -/
def isyncAccs (o : Form.AB) (c : Issue) (W : Wave) : List Acc :=
  (acting (.isync o) c W).map fun f =>
    { fib := f, va := W.readPair f o.a, data := [(W.read f o.b).val], st := .unsent, dst := [], pd := none, skip := 0,
      drop := false, tmo := 0, inFacet := false }

theorem exec_isync (g : Goes (.isync o) s c G W) (hgt : acting (.isync o) c W ≠ []) {slot : Nat} (hs : W.freeEntry .store = some slot) :
    exec (.isync o) s = .next (s.setWave c ((acting (.isync o) c W).foldl (fun X f => X.modFib f fun F => { F with wait := .isync slot })
      ((W.advance c).addEntry slot (.isync o) c.pc (isyncAccs o c W)))) := by
  show execIsync o s = _
  rw [execIsync, issueWith_go g, hs, isyncAccs]
  cases h : acting (.isync o) c W with
  | nil => exact absurd h hgt
  | cons f fs => rfl

theorem isync_takes_entry (g : Goes (.isync o) s c G W) (hgt : acting (.isync o) c W ≠ []) :
    ∃ slot e V, W.freeEntry .store = some slot ∧ exec (.isync o) s = .next (s.setWave c V) ∧ tabGet V.sb slot = some e ∧
    e.instr = .isync o ∧ e.pc = c.pc ∧ e.age = W.nextAge ∧
    e.accs.map (·.fib) = acting (.isync o) c W ∧
    (∀ a ∈ e.accs, a.va = W.readPair a.fib o.a ∧ a.data = [(W.read a.fib o.b).val] ∧ a.st = .unsent) ∧
    (∀ k, k ≠ slot → tabGet V.sb k = tabGet W.sb k) ∧ V.ks = W.ks ∧ V.masks = W.masks ∧
    ∀ f, V.fib f = fibAfter (.isync o) c W (fun _ F => { F with wait := .isync slot }) f := by
  obtain ⟨slot, hs⟩ := freeEntry_of_goes g (k := .store) rfl
  have hrest := Wave.foldl_modFib_rest (acting (.isync o) c W) ((W.advance c).addEntry slot (.isync o) c.pc (isyncAccs o c W))
    fun _ F => { F with wait := .isync slot }
  have hsb := congrArg Wave.sb hrest
  have hks := congrArg Wave.ks hrest
  have hmasks := congrArg Wave.masks hrest
  refine ⟨slot, _, _, hs, exec_isync g hgt hs, (congrArg (tabGet · slot) hsb).trans (tabGet_tabSet_self _ _ _), rfl, rfl,
    W.advance_nextAge c, ?_, fun a ha => ?_, fun k hk => ?_, hks.trans (W.advance_ks c), hmasks.trans (W.advance_masks c),
    fib_foldl_acting (X := (W.advance c).addEntry slot (.isync o) c.pc (isyncAccs o c W)) g.toIssuing rfl _⟩
  · show (isyncAccs o c W).map (·.fib) = _
    rw [isyncAccs, List.map_map]
    exact List.map_id _
  · obtain ⟨f, -, rfl⟩ := List.mem_map.mp ha
    exact ⟨rfl, rfl, rfl⟩
  · rw [hsb]
    exact (tabGet_tabSet_ne _ _ _ _ hk).trans (by rw [W.advance_sb])

end

/-! ## Collectives (R134) -/

/-- What a fibre of a collective's bundle waits for: the sources and the destinations with which the release will go on. -/
def collWait (i : Instr) (c : Issue) (W : Wave) (k : Collective) (mask : Nat) (pa : Option Nat) (f : Nat) : Wait :=
  .coll k mask c.pc ((acting i c W).contains f) ((opndsOf i).srcRegs.map (W.read f))
    (match pa with | some p => (W.fib f).pred p | none => false) ((opndsOf i).dstRegs.map (W.fib f).dreg)

theorem execColl_arrives {i : Instr} {s : State} {c : Issue} {G : Group} {W : Wave} (g : Goes i s c G W) (k : Collective) (mask : Nat)
    (pa : Option Nat) : ∃ V, execColl i s k mask pa = .next (s.setWave c V) ∧ V = { W with fibres := V.fibres } ∧
      ∀ f, V.fib f = if f ∈ c.fibres then { (W.fib f).setPc c.nextPc with wait := collWait i c W k mask pa f } else W.fib f := by
  have hexec : execColl i s k mask pa = .next (s.setWave c (c.fibres.foldl
      (fun X f => X.modFib f fun F => { F with wait := collWait i c W k mask pa f }) (W.advance c))) := by
    rw [execColl, issueWith_go g]
    rfl
  refine ⟨_, hexec, foldl_advance_rest _ W c _, fun f => ?_⟩
  rw [Wave.fib_foldl_step (h := fun f F => { F with wait := collWait i c W k mask pa f }) (fun X f h => X.fib_modFib_eq f h _) g.nodup,
    Wave.fib_advance W c g.nodup g.live]
  by_cases hf : f ∈ c.fibres <;> simp only [hf, if_true, if_false]

theorem collectives_arrive {i : Instr} {s : State} {c : Issue} {G : Group} {W : Wave} {k : Collective} {mask : Nat} {pa : Option Nat}
    (hi : (∃ o, i = .shfl o ∧ k = .shfl o.pd ∧ mask = o.ma ∧ pa = none) ∨
      (∃ o, i = .vote o ∧ k = .vote o.op o.pd ∧ mask = o.ma ∧ pa = some o.pa) ∨
      (∃ o, i = .ballot o ∧ k = .ballot ∧ mask = o.ma ∧ pa = some o.pa) ∨
      (∃ o, i = .schist o ∧ k = .schist ∧ mask = 0 ∧ pa = none)) (g : Goes i s c G W) :
    ∃ V, exec i s = .next (s.setWave c V) ∧ V = { W with fibres := V.fibres } ∧
      ∀ f, V.fib f = if f ∈ c.fibres then { (W.fib f).setPc c.nextPc with wait := collWait i c W k mask pa f } else W.fib f := by
  have he : exec i s = execColl i s k mask pa := by
    rcases hi with ⟨o, rfl, rfl, rfl, rfl⟩ | ⟨o, rfl, rfl, rfl, rfl⟩ | ⟨o, rfl, rfl, rfl, rfl⟩ | ⟨o, rfl, rfl, rfl, rfl⟩ <;>
      rfl
  rw [he]
  exact execColl_arrives g k mask pa

end Sys2Proof.Machine

/-! Proofs about waits that end as the waits of a wave are released (R133, R141, R143, R145, R212, R250, R285). -/
namespace Sys2Proof.Machine
open Sys2Proof.Safety

/-! ## The release of a wave's waits -/

/-- A wave after the tests of its mask waits and collectives, which are made while it runs. -/
def State.masksTested (s : State) (G : Group) (W : Wave) : Wave := if testsMasks G W then s.maskWaitsTested G W else W

/-- The wave after a release of its waits, whether it runs or not. -/
theorem State.wave_releaseWave_masksTested {s : State} {g w f : Nat} {G : Group} {W V : Wave} (hg : s.group g = some G)
    (hw : tabGet G.waves w = some W) (hcore : G.core?.isSome = true) (hf : f ∈ W.live) (hwait : (W.fib f).wait ≠ .none)
    (hV : (s.releaseWave g w).wave g w = some V) :
    V.fibres = (s.waitsLeft G (s.masksTested G W)).fibres ∧ V.ks = (s.waitsLeft G (s.masksTested G W)).ks := by
  have hwave : s.wave g w = some W := by rw [State.wave, hg, Option.bind_some, hw]
  have hnot : (G.core?.isNone || W.live.all fun f => (W.fib f).wait == .none) = false := by
    rw [List.all_eq_false.mpr ⟨f, hf, by simpa using hwait⟩, Bool.or_false]
    obtain ⟨c, hc⟩ := Option.isSome_iff_exists.mp hcore
    rw [hc]
    rfl
  have hset : ∀ (Y : Wave) (fs : List Nat), (s.modWave g w fun _ => Y.noteReleased fs).wave g w = some (Y.noteReleased fs) := by
    intro Y fs
    rw [State.wave_modWave_self, hwave, Option.map_some]
  simp only [State.releaseWave, hg, hwave, hnot, Bool.false_eq_true, if_false] at hV
  split at hV
  · next c _ _ =>
    obtain ⟨Y, hY, hfib, hk⟩ := State.wave_acquire c (hset _ _)
    cases hY.symm.trans hV
    exact ⟨hfib, hk⟩
  · cases (hset _ _).symm.trans hV
    exact ⟨rfl, rfl⟩

/-! ## Waits that one fibre leaves by itself -/

/-- A wait of a fibre alone: neither on a mask nor at a collective. -/
def Wait.alone : Wait → Bool
  | .none | .mwaitm _ _ | .coll .. => false
  | _ => true

section
variable (s : State) (G : Group)

theorem Wave.shell_releaseColl (X : Wave) (level mask : Nat) (at_ : Addr) (facet : Bool) :
    (X.releaseColl level mask at_ facet).shell = X.shell := by
  rw [Wave.releaseColl_eq]
  exact foldl_keeps Wave.shell (fun Y a _ => Y.shell_giveColl _ a) X

/-- A test of mask waits leaves all but fibres and K registers. -/
theorem State.shell_testMask (X : Wave) (f : Nat) : (s.testMask G X f).shell = X.shell := by
  rcases s.testMask_cases G X f with h | ⟨l, h, -⟩ | ⟨c, m, a, g, srcs, src, dst, -, -, h⟩ <;> rw [h]
  · exact foldl_keeps Wave.shell (f := Wave.unwait) (fun _ _ _ => rfl) X
  · exact X.shell_releaseColl _ _ _ _

/-- It leaves a fibre that waits alone. -/
theorem State.fib_testMask_of_alone {X : Wave} {h : Nat} (ha : (X.fib h).wait.alone = true) (f : Nat) :
    (s.testMask G X f).fib h = X.fib h := by
  rcases s.testMask_cases G X f with he | ⟨l, he, hl⟩ | ⟨c, m, a, g, srcs, src, dst, -, -, he⟩ <;> rw [he]
  · refine Wave.fib_foldl_unwait_of_not_mem (fun hm => ?_) X
    obtain ⟨m, a, hw⟩ := hl h hm
    rw [hw] at ha
    cases ha
  · refine X.fib_releaseColl_ne _ _ _ _ fun b hb e => ?_
    rw [e, (Wave.mem_arrivals.mp hb).2.1] at ha
    cases ha

theorem State.eased_masksTested (W : Wave) : W.Eased (s.masksTested G W) := by
  unfold State.masksTested
  split
  · exact Wave.Eased.foldl (fun X f _ => s.eased_testMask G X f) W
  · exact .refl W

theorem State.shell_masksTested (W : Wave) : (s.masksTested G W).shell = W.shell := by
  unfold State.masksTested
  split
  · exact foldl_keeps Wave.shell (fun X f _ => s.shell_testMask G X f) W
  · rfl

theorem State.fib_masksTested_of_alone {W : Wave} {h : Nat} (ha : (W.fib h).wait.alone = true) :
    (s.masksTested G W).fib h = W.fib h := by
  unfold State.masksTested
  split
  · exact foldl_invariant (p := fun X : Wave => X.fib h = W.fib h)
      (fun X f _ hX => (s.fib_testMask_of_alone G (hX ▸ ha) f).trans hX) rfl
  · rfl

/-- Whether a fibre's wait is over depends on the fibre and on the entries of its wave. -/
theorem State.waitOver_congr {X W : Wave} {f : Nat} (hf : X.fib f = W.fib f) (hsb : X.sb = W.sb) :
    s.waitOver G X f = s.waitOver G W f := by
  have hout : ∀ k, X.outstanding k = W.outstanding k := fun k => by rw [Wave.outstanding, hsb, Wave.outstanding]
  have hpend : ∀ k, X.pendingIn k f = W.pendingIn k f := fun k => by rw [Wave.pendingIn, Wave.acc, hsb, Wave.pendingIn, Wave.acc]
  simp only [State.waitOver, hf, hsb, hout, hpend]

/-! ## Fibres that leave their waits -/

theorem State.endedWaits_nodup (X : Wave) : (s.endedWaits G X).Nodup := (List.nodup_range.filter _).filter _

/-- A fibre whose wait is not over stays as it is. -/
theorem State.fib_waitsLeft_of_waiting {X : Wave} {f : Nat} (h : (s.waitOver G X f).1 = false) :
    (s.waitsLeft G X).fib f = X.fib f := by
  refine foldl_keeps (fun Y : Wave => Y.fib f) (fun Y k hk => Y.fib_leaveWait_ne G fun e => ?_) X
  have hover := (List.mem_filter.mp hk).2
  rw [← e, h] at hover
  cases hover

/-- A fibre whose wait is over leaves it in its turn: before that it stands as it did, and afterwards nothing changes it. -/
theorem State.waitsLeft_split {X : Wave} {f : Nat} (hf : f ∈ X.live) (h : (s.waitOver G X f).1 = true) :
    ∃ (Y : Wave) (l : List Nat), X.Eased Y ∧ Y.fib f = X.fib f ∧ (∀ k ∈ l, k ∈ X.live ∧ k ≠ f) ∧
      s.waitsLeft G X = l.foldl (fun Y k => Y.leaveWait G k) (Y.leaveWait G f) := by
  have hmem : f ∈ s.endedWaits G X := List.mem_filter.mpr ⟨hf, h⟩
  obtain ⟨l1, l2, hl⟩ := List.append_of_mem hmem
  have hn := s.endedWaits_nodup G X
  rw [hl, List.nodup_append] at hn
  obtain ⟨-, hn2, hdis⟩ := hn
  refine ⟨l1.foldl (fun Y k => Y.leaveWait G k) X, l2, .foldl (fun Y k _ => Y.eased_leaveWait G k) X, ?_, fun k hk => ⟨?_, ?_⟩, ?_⟩
  · exact foldl_keeps (fun Y : Wave => Y.fib f) (fun Y k hk => Y.fib_leaveWait_ne G fun e => hdis k hk f List.mem_cons_self e.symm) X
  · exact List.mem_of_mem_filter (hl ▸ List.mem_append_right _ (List.mem_cons_of_mem _ hk) : k ∈ s.endedWaits G X)
  · exact fun e => (List.nodup_cons.mp hn2).1 (e ▸ hk)
  · rw [State.waitsLeft, hl, List.foldl_append, List.foldl_cons]

theorem Wave.wait_leaveWait (X : Wave) (f : Nat) : ((X.leaveWait G f).fib f).wait = .none := by
  rw [Wave.leaveWait, Wave.fib_modFib]

theorem Wave.fib_foldl_leaveWait {l : List Nat} {f : Nat} (h : ∀ k ∈ l, k ≠ f) (X : Wave) :
    (l.foldl (fun Y k => Y.leaveWait G k) X).fib f = X.fib f :=
  foldl_keeps (fun Y : Wave => Y.fib f) (fun Y k hk => Y.fib_leaveWait_ne G (h k hk).symm) X

/-- A fibre that waits is let go where its own wait is over, and not otherwise. -/
theorem State.wait_waitsLeft {X : Wave} {f : Nat} (hf : f ∈ X.live) (hw : (X.fib f).wait ≠ .none) :
    ((s.waitsLeft G X).fib f).wait = .none ↔ (s.waitOver G X f).1 = true := by
  cases h : (s.waitOver G X f).1 with
  | false =>
    rw [s.fib_waitsLeft_of_waiting G h]
    exact iff_of_false hw Bool.false_ne_true
  | true =>
    obtain ⟨Y, l, -, -, hl, he⟩ := s.waitsLeft_split G hf h
    rw [he, Wave.fib_foldl_leaveWait G fun k hk => (hl k hk).2, Y.wait_leaveWait]
    exact iff_of_true rfl rfl

end

/-! ## TWANY's tag (R212) -/

section
variable {s : State} {G : Group} {X Y : Wave} {f m n : Nat} {d : DReg}

theorem Wave.get_unwait (X : Wave) (f : Nat) (d : DReg) : (X.unwait f).get f d = X.get f d :=
  Wave.get_eq_of_file (by rfl) (by rw [Wave.unwait, Wave.fib_modFib]; rfl) d

/-- The fibre that leaves TWANY has the number of the lowest tag in its destination. -/
theorem Wave.get_leaveWait_twany (hw : (Y.fib f).wait = .twany m [d]) (hd : Y.has f d) (hn : n < 64)
    (hbit : (G.ctags &&& m).testBit n = true) (hlow : ∀ j < n, (G.ctags &&& m).testBit j = false) :
    (Y.leaveWait G f).get f d = ⟨BitVec.ofNat 32 n, .n32⟩ := by
  have hlb : lowBit 64 (G.ctags &&& m) = some n := find?_range_first hn hbit hlow
  have he : Y.leaveWait G f = (Y.putAll f [d] [⟨BitVec.ofNat 32 n, .n32⟩]).unwait f := by
    simp only [Wave.leaveWait, hw, hlb, Option.getD_some]
    rfl
  rw [he, Wave.get_unwait]
  exact Y.get_put _ hd

theorem Wave.ctags_and_ne_zero (hbit : (G.ctags &&& m).testBit n = true) : G.ctags &&& m ≠ 0 := fun h => by
  rw [h, Nat.zero_testBit] at hbit
  cases hbit

/-- Fibres that leave their waits keep a register that none of them writes. -/
theorem Wave.get_foldl_leaveWait {l : List Nat} (hX : X.Eased Y) (hl : ∀ k ∈ l, k ≠ f ∧
      (d.isK = true → ∀ mask dst, (X.fib k).wait = .twany mask dst → d ∉ dst)) :
    (l.foldl (fun Y k => Y.leaveWait G k) Y).get f d = Y.get f d := by
  cases hd : d.isK with
  | false => exact Wave.get_of_fib (Wave.fib_foldl_leaveWait G (fun k hk => (hl k hk).1) Y) hd
  | true =>
    cases d with
    | k i =>
      refine (foldl_invariant (p := fun U : Wave => X.Eased U ∧ U.get f (.k i) = Y.get f (.k i)) (fun U k hk hU => ?_) ⟨hX, rfl⟩).2
      obtain ⟨heased, hget⟩ := hU
      refine ⟨heased.trans (U.eased_leaveWait G k), (Wave.get_k_leaveWait (fun mask dst hw => ?_) f).trans hget⟩
      refine (hl k hk).2 rfl mask dst ?_
      rw [← hw, heased.wait_eq (by rw [hw]; exact Wait.noConfusion)]
    | _ => cases hd

theorem State.get_waitsLeft_twany (hf : f ∈ X.live) (hw : (X.fib f).wait = .twany m [d]) (hd : X.has f d) (hn : n < 64)
    (hbit : (G.ctags &&& m).testBit n = true) (hlow : ∀ j < n, (G.ctags &&& m).testBit j = false)
    (hk : d.isK = true → ∀ h ∈ X.live, h ≠ f → ∀ mask dst, (X.fib h).wait = .twany mask dst → d ∉ dst) :
    (s.waitsLeft G X).get f d = ⟨BitVec.ofNat 32 n, .n32⟩ := by
  have hover : (s.waitOver G X f).1 = true := by
    simp only [State.waitOver, hw, bne_iff_ne]
    exact Wave.ctags_and_ne_zero hbit
  obtain ⟨Y, l, hY, hYf, hl, he⟩ := s.waitsLeft_split G hf hover
  have hdY : Y.has f d := Wave.has_of_still (by rw [hYf]) hd
  rw [he, Wave.get_foldl_leaveWait (hY.trans (Y.eased_leaveWait G f))
    fun k hkl => ⟨(hl k hkl).2, fun hdk => hk hdk k (hl k hkl).1 (hl k hkl).2⟩]
  exact Wave.get_leaveWait_twany (hYf ▸ hw) hdY hn hbit hlow

end

/-! ## Waits on a mask (R133) -/

section
variable {s : State} {G : Group} {W X : Wave} {m f : Nat} {a : Addr}

/-- Every live member of a mask waits for it at an address. -/
def Wave.AllWait (W : Wave) (m : Nat) (a : Addr) : Prop := ∀ h ∈ W.members m, (W.fib h).wait = .mwaitm m a

theorem Wave.mem_maskWaiters {h : Nat} : h ∈ W.maskWaiters m a ↔ h ∈ W.live ∧ (W.fib h).wait = .mwaitm m a := by
  rw [Wave.maskWaiters, List.mem_filter, beq_iff_eq]

theorem Wave.live_of_mem_members {h : Nat} (hm : h ∈ W.members m) : h ∈ W.live := by
  obtain ⟨hb, hlive⟩ := List.mem_filter.mp hm
  exact List.mem_filter.mpr ⟨List.mem_of_mem_filter hb, hlive⟩

theorem Wave.covered_maskWaiters : W.covered m (W.maskWaiters m a) = true ↔ W.AllWait m a := by
  rw [Wave.covered_iff]
  exact forall₂_congr fun h hm => by rw [Wave.mem_maskWaiters, and_iff_right (Wave.live_of_mem_members hm)]

/-- Nobody who waits on the mask at the address has been let go. -/
structure Wave.Held (W : Wave) (m : Nat) (a : Addr) (X : Wave) : Prop where
  eased : W.Eased X
  same : ∀ h, (W.fib h).wait = .mwaitm m a → X.fib h = W.fib h

theorem Wave.Held.wait_iff (h : W.Held m a X) (k : Nat) : (X.fib k).wait = .mwaitm m a ↔ (W.fib k).wait = .mwaitm m a := by
  refine ⟨fun hX => ?_, fun hW => by rw [h.same k hW, hW]⟩
  rw [← hX, h.eased.wait_eq (by rw [hX]; exact Wait.noConfusion)]

theorem Wave.Held.allWait_iff (h : W.Held m a X) : X.AllWait m a ↔ W.AllWait m a := by
  rw [Wave.AllWait, h.eased.members]
  exact forall₂_congr fun k _ => h.wait_iff k

theorem Wave.wait_foldl_unwait {l : List Nat} (hf : f ∈ l) (X : Wave) : ((l.foldl Wave.unwait X).fib f).wait = .none := by
  refine foldl_establishes (q := fun f X => (Wave.fib X f).wait = .none) (fun X k => ?_) (fun X k j hj => ?_) hf X
  · rw [Wave.unwait, Wave.fib_modFib]
  · exact ((X.eased_unwait k).wait j).elim (fun h => h.trans hj) id

/-- A test leaves the waiters on a mask as they are, or lets all of them go as every live member waits. -/
theorem State.testMask_waiters (s : State) (G : Group) (X : Wave) (k m : Nat) (a : Addr) :
    (∀ j, (X.fib j).wait = .mwaitm m a → (s.testMask G X k).fib j = X.fib j) ∨
    (X.AllWait m a ∧ ∀ j ∈ X.maskWaiters m a, ((s.testMask G X k).fib j).wait = .none) := by
  unfold State.testMask
  split
  · next m' a' _ =>
    dsimp only
    split
    · next hcov =>
      by_cases hma : m' = m ∧ a' = a
      · obtain ⟨rfl, rfl⟩ := hma
        exact .inr ⟨Wave.covered_maskWaiters.mp hcov, fun j hj => Wave.wait_foldl_unwait hj X⟩
      · refine .inl fun j hj => Wave.fib_foldl_unwait_of_not_mem (fun hm => ?_) X
        have hw := (Wave.mem_maskWaiters.mp hm).2
        rw [hj] at hw
        injection hw with hm' ha'
        exact hma ⟨hm'.symm, ha'.symm⟩
    · exact .inl fun _ _ => rfl
  · dsimp only
    split
    · refine .inl fun j hj => X.fib_releaseColl_ne _ _ _ _ fun b hb e => ?_
      rw [e, (Wave.mem_arrivals.mp hb).2.1] at hj
      cases hj
    · exact .inl fun _ _ => rfl
  · exact .inl fun _ _ => rfl

/-- The waiters stay held by a test, or all of them are let go. -/
theorem Wave.Held.testMask (h : W.Held m a X) (k : Nat) : W.Held m a (s.testMask G X k) ∨
    (W.AllWait m a ∧ ∀ j ∈ W.live, (W.fib j).wait = .mwaitm m a → ((s.testMask G X k).fib j).wait = .none) := by
  rcases s.testMask_waiters G X k m a with hsame | ⟨hall, hgo⟩
  · exact .inl ⟨h.eased.trans (s.eased_testMask G X k),
      fun j hj => (hsame j ((h.wait_iff j).mpr hj)).trans (h.same j hj)⟩
  · exact .inr ⟨h.allWait_iff.mp hall,
      fun j hj hw => hgo j (Wave.mem_maskWaiters.mpr ⟨h.eased.live.symm ▸ hj, (h.wait_iff j).mpr hw⟩)⟩

/-- The test of a waiter lets it go where every live member waits. -/
theorem Wave.Held.testMask_self (h : W.Held m a X) (hf : f ∈ W.live) (hw : (W.fib f).wait = .mwaitm m a) (hall : W.AllWait m a) :
    ((s.testMask G X f).fib f).wait = .none := by
  have hwX := (h.wait_iff f).mpr hw
  have hcov := Wave.covered_maskWaiters.mpr (h.allWait_iff.mpr hall)
  have he : s.testMask G X f = (X.maskWaiters m a).foldl Wave.unwait X := by
    simp only [State.testMask, hwX, hcov, if_true]
    rfl
  rw [he]
  exact Wave.wait_foldl_unwait (Wave.mem_maskWaiters.mpr ⟨h.eased.live.symm ▸ hf, hwX⟩) X

/-- The waiters on a mask, as the waits of their wave are tested: all of them are let go, or none. -/
theorem State.wait_masksTested (htest : testsMasks G W = true) (hf : f ∈ W.live) (hw : (W.fib f).wait = .mwaitm m a) :
    (W.AllWait m a → ((s.masksTested G W).fib f).wait = .none) ∧
    (¬W.AllWait m a → (s.masksTested G W).fib f = W.fib f) := by
  rw [State.masksTested, if_pos htest, State.maskWaitsTested]
  refine ⟨fun hall => ?_, fun hnot => ?_⟩
  · obtain ⟨l1, l2, hl⟩ := List.append_of_mem hf
    have hkeep : ∀ (X : Wave) (k : Nat), (X.fib f).wait = .none → ((s.testMask G X k).fib f).wait = .none := fun X k hX => by
      rw [State.fib_testMask_of_none hX, hX]
    have hfirst : W.Held m a (l1.foldl (s.testMask G) W) ∨ ((l1.foldl (s.testMask G) W).fib f).wait = .none := by
      refine foldl_invariant (p := fun X => W.Held m a X ∨ (X.fib f).wait = .none) (fun X k _ hX => ?_)
        (.inl ⟨.refl W, fun _ _ => rfl⟩)
      rcases hX with hX | hX
      · exact (hX.testMask k).imp_right fun hh => hh.2 f hf hw
      · exact .inr (hkeep X k hX)
    rw [hl, List.foldl_append, List.foldl_cons]
    refine foldl_invariant (p := fun X : Wave => (X.fib f).wait = .none) (fun X k _ hX => hkeep X k hX) ?_
    rcases hfirst with h | h
    · exact h.testMask_self hf hw hall
    · exact hkeep _ f h
  · have hheld : W.Held m a (W.live.foldl (s.testMask G) W) :=
      foldl_invariant (fun X k _ hX => (hX.testMask k).resolve_right fun hh => hnot hh.1) ⟨.refl W, fun _ _ => rfl⟩
    exact hheld.same f hw

/-! ## The waits of a wave, one by one -/

variable {g w : Nat} {V : Wave} (hg : s.group g = some G) (hw : tabGet G.waves w = some W) (hcore : G.core?.isSome = true)
  (hf : f ∈ W.live) (hV : (s.releaseWave g w).wave g w = some V)
include hg hw hcore hf hV

/-- A wait on a mask ends where every live member of the mask waits. -/
theorem mask_wait_ends (htest : testsMasks G W = true) (hwait : (W.fib f).wait = .mwaitm m a) :
    (V.fib f).wait = .none ↔ W.AllWait m a := by
  obtain ⟨hfib, -⟩ := State.wave_releaseWave_masksTested hg hw hcore hf (by rw [hwait]; exact Wait.noConfusion) hV
  obtain ⟨hgo, hstay⟩ := State.wait_masksTested (s := s) htest hf hwait
  rw [Wave.fib, hfib, ← Wave.fib]
  by_cases hall : W.AllWait m a
  · have hnone := hgo hall
    rw [s.fib_waitsLeft_of_waiting G (by simp only [State.waitOver, hnone]), hnone]
    exact iff_of_true rfl hall
  · have hsame := hstay hall
    rw [s.fib_waitsLeft_of_waiting G (by simp only [State.waitOver, hsame, hwait]), hsame, hwait]
    exact iff_of_false Wait.noConfusion hall

/-- A wait of a fibre alone ends where it is over. -/
theorem alone_wait_ends (ha : (W.fib f).wait.alone = true) : (V.fib f).wait = .none ↔ (s.waitOver G W f).1 = true := by
  have hne : (W.fib f).wait ≠ .none := fun e => by rw [e] at ha; cases ha
  obtain ⟨hfib, -⟩ := State.wave_releaseWave_masksTested hg hw hcore hf hne hV
  have hsame := s.fib_masksTested_of_alone G ha
  have hlive : f ∈ (s.masksTested G W).live := (s.eased_masksTested G W).live.symm ▸ hf
  rw [Wave.fib, hfib, ← Wave.fib, s.wait_waitsLeft G hlive (by rw [hsame]; exact hne),
    s.waitOver_congr G hsame (congrArg Wave.sb (s.shell_masksTested G W) :)]

/-- A fibre let go from TWANY has the lowest tag of its mask that has completed (R26, R212). -/
theorem twany_gives_lowest {n : Nat} {d : DReg} (hwait : (W.fib f).wait = .twany m [d]) (hd : W.has f d) (hn : n < 64)
    (hbit : (G.ctags &&& m).testBit n = true) (hlow : ∀ j < n, (G.ctags &&& m).testBit j = false)
    (hk : d.isK = true → ∀ h ∈ W.live, h ≠ f → ∀ mask dst, (W.fib h).wait = .twany mask dst → d ∉ dst) :
    V.get f d = ⟨BitVec.ofNat 32 n, .n32⟩ := by
  obtain ⟨hfib, hks⟩ := State.wave_releaseWave_masksTested hg hw hcore hf (by rw [hwait]; exact Wait.noConfusion) hV
  have heased := s.eased_masksTested G W
  have hsame := s.fib_masksTested_of_alone G (W := W) (h := f) (by rw [hwait]; rfl)
  rw [Wave.get_eq_of_file (V := V) (W := s.waitsLeft G (s.masksTested G W)) hks (by rw [Wave.fib, hfib, ← Wave.fib])]
  refine State.get_waitsLeft_twany (heased.live.symm ▸ hf) (hsame.symm ▸ hwait) (Wave.has_of_still (by rw [hsame]) hd) hn hbit hlow
    fun hdk h hh hne mask dst hwh => hk hdk h (heased.live ▸ hh) hne mask dst ?_
  rw [← hwh, heased.wait_eq (by rw [hwh]; exact Wait.noConfusion)]

end

/-! ## When the wait of a fibre alone is over -/

section
variable {s : State} {G : Group} {W : Wave} {f : Nat}

theorem State.waitOver_tile {ops : List (Nat × Nat)} (h : (W.fib f).wait = .tile ops) : (s.waitOver G W f).1 = true ↔
    ∀ o ∈ ops, ∀ X, tabGet G.waves o.1 = some X → ∀ e ∈ X.sb, 40 ≤ e.1 → e.1 < 48 → e.2.age ≠ o.2 := by
  simp only [State.waitOver, h, List.all_eq_true]
  refine forall₂_congr fun o _ => ?_
  cases tabGet G.waves o.1 with
  | none => simp
  | some X => simp only [Option.some.injEq, forall_eq', List.all_eq_true, Bool.not_eq_true', Bool.and_eq_false_imp, Bool.and_eq_true,
      decide_eq_true_eq, beq_eq_false_iff_ne, and_imp]

theorem State.waitOver_fence {kind : Nat} {ages : List Nat} (h : (W.fib f).wait = .fence kind ages) : (s.waitOver G W f).1 = true ↔
    ∀ e ∈ W.sb, e.2.age ∈ ages → ∀ a ∈ e.2.accs, a.fib = f → a.waits = false := by
  simp only [State.waitOver, h, List.all_eq_true]
  refine forall₂_congr fun e _ => ?_
  by_cases hage : e.2.age ∈ ages <;> simp [hage]

end

/-- Settles O22: each instruction begins its wait, and the release of a wave's waits ends it where what it waits for has come. -/
theorem waitingInstructionsWait : Obligations.WaitingInstructionsWait := by
  refine ⟨fun s c G W => ⟨fun o g => movesFibres_of_wait g rfl, fun o g => movesFibres_of_wait g rfl, fun o => movesFibres_twany,
      fun o => exec_twany_empty, fun o g => movesFibres_of_wait g rfl, fun w n => Group.mem_tileOps,
      fun o g => movesFibres_of_wait g rfl, fun kind f n => Wave.mem_fenced, fun o => exec_isync_of_nil, fun o => isync_takes_entry,
      fun i k mask pa => collectives_arrive⟩, fun s g w f G W V hg hw hcore hf hV => ?_⟩
  have hends := fun ha => alone_wait_ends hg hw hcore hf hV ha
  have hgives := fun m n d => twany_gives_lowest (m := m) (n := n) (d := d) hg hw hcore hf hV
  refine ⟨fun m a htest hwait => mask_wait_ends hg hw hcore hf hV htest hwait, ?twall, ?twany, ?lowestV, ?lowestK, ?tile, ?fence,
    ?isync, ?mwait, ?barrier, ?waitc⟩
  case lowestV => exact fun m i n hwait hi hn hbit hlow => hgives m n _ hwait hi hn hbit hlow nofun
  case lowestK => exact fun m i n hwait hn hbit hlow hk => hgives m n _ hwait trivial hn hbit hlow fun _ => hk
  case tile => exact fun ops hwait => (hends (by rw [hwait]; rfl)).trans (State.waitOver_tile hwait)
  case fence => exact fun kind ages hwait => (hends (by rw [hwait]; rfl)).trans (State.waitOver_fence hwait)
  -- the condition of each other wait stands in `waitOver` as it does here
  case twall | twany | isync | mwait | barrier | waitc =>
    intros
    next hwait =>
      rw [hends (by rw [hwait]; rfl)]
      simp [State.waitOver, hwait, and_assoc]

end Sys2Proof.Machine
